-- ==== Sys2Proof/Word.lean ====
section
/-!
DEFINITION. The word types of the device and the type of sparse tables. A register is 32 bits (R9), a time is 64
bits of 62.5 ps units (R8), memory is addressed in octets.
-/
namespace Sys2Proof

/-- An octet. -/
abbrev Byte := BitVec 8

/-- A register (R9). -/
abbrev Word := BitVec 32

/-- A 64-bit value: a time (R8), a pair (R10), a binary64 number. -/
abbrev W64 := BitVec 64

/-- A sparse table: keys strictly rising, no entry equal to the value that an unlisted key reads as. -/
abbrev Tab (α : Type) := List (Nat × α)

end Sys2Proof
end

