-- ==== Sys2Proof/Machine/Types.lean ====
section
/-!
DEFINITION. The types of the operands: who sends a command, its descriptor, frames, readbacks, and what twin units tell
each other (plans, moves and solutions among it).
-/
namespace Sys2Proof

/-- Who sends a command or makes an access (R10, R54): the PF, VF n (1–16), work core c, or the device itself. -/
inductive Init where
  | pf
  | vf (n : Nat)
  | wc (c : Nat)
  | dev
  deriving DecidableEq, Repr

/-- Where a command's completion goes: the completion ring of command ring `r` of the issuing function (R617),
slot `k` of the issuing work core (R663), nowhere (a command that the device issues to itself), or, for a journaled command
of a twin pair, the PF completion ring that `TWIN_CTRL.CPL_RING` names (R720). -/
inductive CmdPort where
  | ring (r : Nat)
  | slot (k : Nat)
  | none
  | twin
  deriving DecidableEq, Repr

/-- A command descriptor (R616) with its issuer. `par` is octets 16–63, octet 16 lowest. `seq` is the model's own
number of a fetched command (0: not fetched through a ring), `accepted` marks a command whose checks of R49 have
passed and which waits for data from host memory (R51: legality is evaluated once). -/
structure Cmd where
  who : Init
  port : CmdPort
  op : Nat
  flags : Nat
  group : Nat
  tag : Word
  exec : W64
  par : BitVec 384
  seq : Nat
  accepted : Bool
  deriving DecidableEq, Repr

/-- What host memory returned for a command's reads (R622): not read yet, the octets, or a failed read. -/
inductive Dma where
  | pending
  | data (bytes : List Byte)
  | fail
  deriving DecidableEq, Repr

/-- Why a read of host memory failed (R622). -/
inductive ReadError where
  | unsupported | abort | poisoned | timeout
  deriving DecidableEq, Repr

/-- A frame as it stands on a lane (R117–R121): octets 1–7 of the start block, the header, the payload, the CRC-32C
of the terminate block, and whether the lane's blocks were those of R122 (lock, block types, sync headers).
DEDUCED: notes/assumptions/40.md. -/
structure RawFrame where
  start : List Byte
  header : List Byte
  payload : List Byte
  crc : Word
  coded : Bool
  deriving DecidableEq, Repr


/-- What an adaptation interval measured (R510): its samples; for each phase the mean of |t|, the mean sensed current,
the DRIVE samples, and whether a sign change or a zero target fell into it; the ms since the last microstep. -/
structure Interval where
  samples : Nat
  mtA : Nat
  mtB : Nat
  msA : Nat
  msB : Nat
  driveA : Nat
  driveB : Nat
  skipA : Bool
  skipB : Bool
  idleMs : Nat
  deriving DecidableEq, Repr


end Sys2Proof

namespace Sys2Proof.Machine

/-- A joint of a kinematic model (R229); real values are binary64 patterns. -/
structure PlJoint where
  typ : Nat
  axis : Nat
  w : List Nat
  v : List Nat
  pmin : Nat
  pmax : Nat
  vmax : Nat
  amax : Nat
  jmax : Nat
  cpu : Nat
  zero : Nat
  trq : Nat
  deriving DecidableEq, Repr

/-- A loaded kinematic model (R228). -/
structure PlModel where
  kind : Nat
  base : List Nat
  home : List Nat
  tool : List Nat
  delta : List Nat
  joints : List PlJoint
  deriving DecidableEq, Repr

/-- A queued move (R239): its command, kind (0 JOINT, 1 PATH, 2 TRACK), queued with BLEND, its record as copied and since modified, and
whether it was present at the last freeze (R234). -/
structure PlMove where
  cmd : Cmd
  kind : Nat
  blend : Bool
  data : List Byte
  frozen : Bool
  deriving DecidableEq, Repr

/-- The plan in use of a group. `rest`: the group stands at its set-point. `sigma`: a JOINT move along one line (R241–R243), from q0 by dq, with
the start (σ, σ̇, σ̈) of its profile, the profile as (jerk, duration) segments, whether it reaches the target, and its limits V, A, J.
`joints`: one profile per joint (R244) with its start, its target, the profile and its limits. `track`: a TRACK move with its source values, newest first.
`path`: knots (R251): position, velocity and torque at knot 0, knots, torques, step in seconds. -/
inductive PlPlan where
  | rest
  | sigma (q0 dq : List Nat) (start : Nat × Nat × Nat) (prof : List (Nat × Nat)) (reach : Bool) (lim : List Nat)
  | joints (l : List ((Nat × Nat × Nat) × Nat × List (Nat × Nat) × List Nat)) (reach : Bool)
  | track (hist : List Int)
  | path (q0 v0 : List Nat) (knots taus : List (List Nat)) (h : Nat)
  deriving DecidableEq, Repr

/-- A change that waits for its tick (R234): the command, the record it has read, and whether it was present at the last freeze. -/
structure PlChange where
  cmd : Cmd
  data : List Byte
  frozen : Bool
  deriving DecidableEq, Repr

/-- One group of the planner beside its registers: the model; the limits (V, A, J) in use; the queue and whether its head is the active move;
the plan in use, its time τ in seconds, and the set-point state (position, velocity, acceleration) last formed; the torques of a PATH plan; the servo has
reported the axes enabled; u of R258, whether it rises (1) or falls (2), T_STOP in use in ms, and whether the ramp starts or
reverses at the next boundary; the start of the active move; the commands that wait; the changes that wait; the override
(binary64) frozen, the measured positions and velocities of the last freeze, whether a BLEND move is due; r_k held
since a ramp began (R259); the PATH solution for plan n + 1, ticks in a row without a solution; the gravity torques for the next
tick and in use; the instant of a zone hold (R262), the zones waited for; first plan of a move still to come; a zone trip and a stop request to act on. -/
structure PlGrp where
  model : Option PlModel := none
  lims : List (Nat × Nat × Nat) := []
  queue : List PlMove := []
  active : Bool := false
  plan : PlPlan := .rest
  tau : Nat := 0
  q : List Nat := []
  v : List Nat := []
  a : List Nat := []
  trq : Option (List Nat) := none
  ready : Bool := false
  u : Nat := 0
  dir : Nat := 0
  tstop : Nat := 0
  fresh : Bool := false
  began : W64 := 0
  enable : Option Cmd := none
  stops : List Cmd := []
  holds : List Cmd := []
  changes : List PlChange := []
  ov : Nat := 0x3FF0000000000000
  measQ : List Nat := []
  measV : List Nat := []
  blendDue : Bool := false
  rHold : Option (List Nat) := none
  next : Option PlPlan := none
  missed : Nat := 0
  gravNext : Option (List Nat) := none
  grav : Option (List Nat) := none
  holdAt : Option W64 := none
  zoneWait : List Nat := []
  trips : List Nat := []
  deriving DecidableEq, Repr

/-- A workspace zone beside its registers (R263, R264): the waiting requests (tick, group, command of ZONE_ACQUIRE) and the
consecutive freezes at which its owner did not enter it. -/
structure PlZone where
  reqs : List (Nat × Nat × Option Cmd) := []
  clear : Nat := 0
  deriving DecidableEq, Repr

/-- A link of a dynamic model (R295); real values are binary64 patterns. -/
structure OptLink where
  mass : Nat
  com : List Nat
  iner : List Nat
  arm : Nat
  visc : Nat
  coul : Nat
  fore : Nat
  deriving DecidableEq, Repr

/-- A loaded dynamic model (R294) with the payload in use (R298). -/
structure OptDyn where
  grav : List Nat
  pmass : Nat
  pcom : List Nat
  piner : List Nat
  eff : Nat
  links : List OptLink
  deriving DecidableEq, Repr

/-- A solution returned (R313): the tick boundary at which it takes effect, its tick, status, iterations, template; knot 0 with its
velocity, the knots, the torques, the step in seconds. -/
structure OptSol where
  time : W64
  tick : Nat
  status : Nat
  iter : Nat
  tmpl : Nat
  q0 : List Nat
  v0 : List Nat
  knots : List (List Nat)
  taus : List (List Nat)
  h : Nat
  deriving DecidableEq, Repr

/-- An entry of the twin journal (R714, R717): a write that the active accepted, a register's content at a join, a command that
it accepted with the content it reads, the content of a kinematic model, a dynamic table or a program bank. -/
inductive JEntry where
  | write (who : Init) (off : Nat) (v : Word)
  | reg (off : Nat) (v : Word)
  | cmd (c : Cmd) (data : List Byte)
  | model (g : Nat) (m : Option PlModel)
  | dyn (g : Nat) (d : Option OptDyn)
  | prog (bank : Nat) (bytes : List Byte)
  deriving DecidableEq, Repr

/-- A tick part (R714): its tick; the groups' plans, queues and waits; the solutions; the zones' waits; the hold counts of R414; the status registers of
the optimiser, the planner, the separation monitor and the memberships. -/
structure TickPart where
  tick : Nat
  grps : List (Nat × PlGrp)
  sols : List (Nat × Option OptSol)
  zones : List (Nat × PlZone)
  holds : List (Nat × Nat)
  regs : List (Nat × Word)
  deriving DecidableEq, Repr

/-- A probe of the standby's star that was answered (R710): port, departure of the probe's terminate block, arrival of the answer, the answer. -/
structure ProbeRep where
  port : Nat
  t1 : W64
  t2 : W64
  f : RawFrame
  deriving DecidableEq, Repr

/-- What the standby's star reports of a port (R710): `PORT_STATUS` and `PORT_VIOL`. -/
structure PortRep where
  port : Nat
  status : Word
  viol : Word
  deriving DecidableEq, Repr

/-- A CONTROL message (R702, R707): a join request (R725) or the active's acceptance with the state of its cell time and of
time-base entries 0 and 1 (R708), its place in the orbit, its bank, and the ports that it opens on the rejoiner's star (R725), a refusal with the number of the check, a handover, a handover withheld. -/
inductive TwinMsg where
  | joinRequest (part step station : Nat) (side home : Bool)
  | joinAccept (station : Nat) (ofs rate : Int) (e0 e1 : W64 × W64) (orbit cycle bank ports : Nat)
  | joinRefuse (check : Nat)
  | handover (auto : Bool)
  | handoverOff (reason : Nat)
  deriving DecidableEq, Repr

end Sys2Proof.Machine

namespace Sys2Proof


/-- What the safety die reads back at an instant (R449, R454): X and Y levels (bits 0–15 STO groups, 16–23 brake channels), coil
currents in mA of channels 0–7. -/
structure Readback where
  x : Nat
  y : Nat
  ma : List Nat
  deriving DecidableEq, Repr

end Sys2Proof
end

