-- ==== Sys2Proof/Syntax.lean ====
section
/-!
DEFINITION. The commands of the block: one constructor per row of the opcode table, with the row's operands. Rows that
are commands carry the descriptor; rows that are events of the device's surroundings (a frame, an edge, a timer of a
part whose clock is not the time base) carry what arrives.
-/
namespace Sys2Proof
open Machine

/-- The commands and events of the opcode table. -/
inductive Instr where
  /-- REGISTER_WRITE (R15): A register write to a register with no row of its own; fields in range take the value, out-of-range writes are ignored and recorded. -/
  | registerWrite (who : Init) (off : Nat) (size : Nat) (v : Word)
  /-- UNMAPPED_READ (R14): A read of a BAR0 offset that holds no register returns 0 and records a foul. -/
  | unmappedRead (who : Init) (off : Nat)
  /-- PAIR_LO_READ (R10): A read of a _LO register returns the low half and latches the _HI half for that initiator. -/
  | pairLoRead (who : Init) (off : Nat)
  /-- PAIR_HI_READ (R10): A read of a _HI register returns the latched half and releases the latch, or the present half when no latch is held. -/
  | pairHiRead (who : Init) (off : Nat)
  /-- PAIR_LO_WRITE (R10): A write to a _LO register is held for that initiator until its _HI write. -/
  | pairLoWrite (who : Init) (off : Nat) (v : Word)
  /-- PAIR_HI_WRITE (R10): A write to a _HI register applies both halves together, or is ignored and recorded when no _LO write is held. -/
  | pairHiWrite (who : Init) (off : Nat) (v : Word)
  /-- RC_REGISTER_READ (R12): A read of a read-clear field returns its value and clears it. -/
  | rcRegisterRead (who : Init) (off : Nat)
  /-- LOCK_BIT_SET (R17): Setting a block's lock bit makes its RWL fields read-only until the reset that clears the lock. -/
  | lockBitSet (who : Init) (off : Nat) (v : Word)
  /-- FOUL_QUEUE_MOVE (R57): The host engine moves a buffered record into the device queue once the queue has room. -/
  | foulQueueMove (block : Nat)
  /-- SUPERVISION_TICK (R58): At each 1.024 ms supervision tick boundary the device posts queued records and applies tick-bound changes. -/
  | supervisionTick
  /-- DEFECT_CLEAR (R61): A W1C write to DEV_DEFECT clears bits; clearing the last returns DEGRADED to OPERATE. -/
  | defectClear (who : Init) (v : Word)
  /-- SET_DEVICE_MODE (R65): Command requesting a device mode change at the next supervision tick. -/
  | setDeviceMode (c : Cmd)
  /-- FOUL_FLUSH (R65): Command that posts every queued record or leaves it behind a full ring. -/
  | foulFlush (c : Cmd)
  /-- POWER_ON_RESET_PD0 (R752): PD0 supply rising starts the power-up sequence, clearing the raw counter and time-base offsets. -/
  | powerOnResetPd0
  /-- TIME_SLEW (R74): Command setting a view's remaining slew correction. -/
  | timeSlew (c : Cmd)
  /-- TIME_SET_RATE (R68): Command changing a view's rate with the offset rebased so the view does not jump. -/
  | timeSetRate (c : Cmd)
  /-- TIME_STEP (R76): Command adding a signed step to a view's offset in one TCLK cycle. -/
  | timeStep (c : Cmd)
  /-- SLEW_COMPLETE (R74): A slew remainder reaches 0 and event 0x0222 is posted. -/
  | slewComplete (view : Nat)
  /-- TIME_SNAP (R72): A write of 1 to TB_CTRL.SNAP captures raw, cell and plant time of one cycle. -/
  | timeSnap (who : Init) (v : Word)
  /-- DISC_SAMPLE_COMMIT (R77): A write of DISC_SAMPLE_HI commits a plant-time sample and readies the discipline item. -/
  | discSampleCommit (who : Init) (v : Word)
  /-- PLANT_HOLDOVER_ENTER (R81): No accepted plant correction for TIMEOUT seconds sets holdover and posts event 0x0220. -/
  | plantHoldoverEnter
  /-- TIMED_COMMAND_EXECUTE (R85): A TIMED command executes when cell time reaches its execution time. -/
  | timedCommandExecute
  /-- ACT_ARM (R97): Command arming a scheduled action entry, with late handling. -/
  | actArm (c : Cmd)
  /-- ACT_DISARM (R97): Command disarming a scheduled action entry. -/
  | actDisarm (c : Cmd)
  /-- ACTION_FIRE (R89): An armed entry fires when its view reaches its time and acts on its target. -/
  | actionFire (entry : Nat)
  /-- LINK_STAGE (R160): Command loading and checking a schedule bank. -/
  | linkStage (c : Cmd)
  /-- LINK_START (R168): Command starting cold start with a named bank and admission copy. -/
  | linkStart (c : Cmd)
  /-- LINK_STOP (R168): Command stopping serves and ending every membership. -/
  | linkStop (c : Cmd)
  /-- LINK_COMMIT (R211): Command committing the staged schedule bank or admission list. -/
  | linkCommit (c : Cmd)
  /-- LINK_PORT_OPEN (R208): Command opening CLOSED ports into LISTEN. -/
  | linkPortOpen (c : Cmd)
  /-- LINK_PORT_CLOSE (R208): Command closing ports. -/
  | linkPortClose (c : Cmd)
  /-- LINK_NODE_CTRL (R196): Command to expel, unbar or re-measure a node. -/
  | linkNodeCtrl (c : Cmd)
  /-- LINK_MGMT (R190): Command queuing a MGMT read or write to a member node. -/
  | linkMgmt (c : Cmd)
  /-- LISTEN_COUNT_EXPIRE (R168): The listen count reaches 0 and the link enters CLAIMING. -/
  | listenCountExpire
  /-- CLAIM_COUNT_EXPIRE (R168): The claim count reaches 0 without a better claim and the link enters RUNNING. -/
  | claimCountExpire
  /-- START_BLOCK_RECEIVE (R200): A start block arriving on an open port is judged against the schedule and forwarded or cut. -/
  | startBlockReceive (ch : Nat) (port : Nat) (pos : Nat) (start : List Byte)
  /-- FRAME_OVERRUN (R201): A forwarded frame not ended at its footprint end is stopped and counted a violation. -/
  | frameOverrun (ch : Nat) (port : Nat)
  /-- ARB_GRANT (R143): At s_i + G + 1 the star grants one arbitration frame by PRIO and port. -/
  | arbGrant (ch : Nat) (e : Nat) (round : Nat)
  /-- SERVE_RECEIVE (R175): A received SERVE is forwarded, or cut as foreign, and aborts LINK_START when listening. -/
  | serveReceive (ch : Nat) (port : Nat) (pos : Int) (f : RawFrame)
  /-- LET_RECEIVE (R177): The first checked LET of a let phase is forwarded; later ones are cut. -/
  | letReceive (ch : Nat) (port : Nat) (pos : Nat) (f : RawFrame)
  /-- LET_PHASE_OPEN (R177): No serve by block 2 counts it missing and opens the let phase. -/
  | letPhaseOpen (ch : Nat)
  /-- LET_PHASE_CLOSE (R177): At block 32 the let phase closes, with or without a LET. -/
  | letPhaseClose (ch : Nat)
  /-- LET_SEND (R176): A backup device sends a LET when no serve has arrived. -/
  | letSend
  /-- MASTER_LOSS_EXPIRE (R168): MASTER_LOSS cycles without serve or let stop a FOLLOWING link. -/
  | masterLossExpire
  /-- CLAIM_RECEIVE (R171): A received CLAIM is forwarded and compared; a better one stops own claiming. -/
  | claimReceive (ch : Nat) (port : Nat) (f : RawFrame)
  /-- DATA_RECEIVE (R198): A completed DATA copy is chosen between channels and delivered. -/
  | dataReceive (ch : Nat) (port : Nat) (f : RawFrame)
  /-- ARB_RECEIVE (R143): A granted ARB frame is delivered to the device. -/
  | arbReceive (ch : Nat) (port : Nat) (f : RawFrame)
  /-- STREAM_FRAME_RECEIVE (R198): A completed STREAM copy is chosen and passed to its class's consumer. -/
  | streamFrameReceive (ch : Nat) (port : Nat) (f : RawFrame)
  /-- MGMT_RECEIVE (R133): A completed MGMT frame from a node is taken. -/
  | mgmtReceive (ch : Nat) (port : Nat) (f : RawFrame)
  /-- LINK_MGMT_TIMEOUT (R225): A LINK_MGMT without reply for 4 orbits completes TIMEOUT. -/
  | linkMgmtTimeout (tag : Nat)
  /-- JOIN_REQ_RECEIVE (R193): A JOIN_REQ copy is judged and answered with a JOIN_GRANT result. -/
  | joinReqReceive (ch : Nat) (port : Nat) (f : RawFrame)
  /-- SYNC_ANSWER_RECEIVE (R186): A SYNC_ANSWER inside the probe interval yields a delay measurement. -/
  | syncAnswerReceive (ch : Nat) (port : Nat) (t2 : W64) (f : RawFrame)
  /-- PROBE_UNANSWERED (R189): A probe interval ends without answer; 8 in a row move to the next node. -/
  | probeUnanswered (ch : Nat) (port : Nat)
  /-- REPROBE_EXPIRE (R191): REPROBE supervision ticks elapse and each member is measured again. -/
  | reprobeExpire
  /-- ENTRY_MISSING (R199): No valid copy by footprint end or cut-off counts the entry missing on that channel. -/
  | entryMissing (ch : Nat) (e : Nat)
  /-- DEVICE_DATA_SEND (R142): A device-sent DATA frame starts at its entry's START on each destination port. -/
  | deviceDataSend (e : Nat)
  /-- DEVICE_MGMT_SEND (R190): At a device MGMT entry the device chooses and sends one waiting frame per port. -/
  | deviceMgmtSend (e : Nat)
  /-- PROBATION_END (R195): The last probation cycle ends and the node becomes MEMBER, NONE or BARRED. -/
  | probationEnd (ch : Nat) (n : Nat)
  /-- MEMBER_SILENT (R196): A member with no valid copy for SILENT orbits leaves MEMBER. -/
  | memberSilent (ch : Nat) (n : Nat)
  /-- CONTAIN_DECAY (R206): DECAY clean orbits decrement CONTAIN_COUNT. -/
  | containDecay (ch : Nat) (port : Nat)
  /-- LANE_LOST (R207): A lane loses block lock or sets hi_ber and its slots count missing. -/
  | laneLost (ch : Nat) (port : Nat) (lock : Bool) (hiBer : Bool)
  /-- LANE_LOSS_EXPIRE (R207): A lane lost for LOCK_LOSS cycles puts the port in LISTEN. -/
  | laneLossExpire (ch : Nat) (port : Nat)
  /-- ACK_WAIT_EXPIRE (R211): Slot lists not acknowledged within ACK_WAIT orbits withhold the commit. -/
  | ackWaitExpire
  /-- GRP_LOAD_MODEL (R230): Command loading a group's kinematic model table. -/
  | grpLoadModel (c : Cmd) (dma : Dma)
  /-- GRP_ENABLE (R235): Command enabling a DISABLED group. -/
  | grpEnable (c : Cmd)
  /-- GRP_DISABLE (R235): Command disabling a group. -/
  | grpDisable (c : Cmd)
  /-- MOVE_JOINT (R240): Command queuing a JOINT move. -/
  | moveJoint (c : Cmd) (dma : Dma)
  /-- MOVE_PATH (R250): Command queuing a PATH move. -/
  | movePath (c : Cmd) (dma : Dma)
  /-- MOVE_TRACK (R253): Command queuing a TRACK move. -/
  | moveTrack (c : Cmd) (dma : Dma)
  /-- MOVE_MODIFY (R247): Command changing scales or target of a queued move. -/
  | moveModify (c : Cmd) (dma : Dma)
  /-- GRP_SET_LIMITS (R246): Command changing joint limits from the next tick. -/
  | grpSetLimits (c : Cmd)
  /-- GRP_STOP (R236): Command stopping a group by category. -/
  | grpStop (c : Cmd)
  /-- GRP_HOLD (R235): Command holding a moving group. -/
  | grpHold (c : Cmd)
  /-- GRP_RESUME (R237): Command clearing the HOLD cause. -/
  | grpResume (c : Cmd)
  /-- GRP_CLEAR_FAULT (R235): Command clearing a FAULTED group. -/
  | grpClearFault (c : Cmd)
  /-- ZONE_ACQUIRE (R263): Command requesting a workspace-zone token. -/
  | zoneAcquire (c : Cmd)
  /-- ZONE_RELEASE (R264): Command releasing a workspace-zone token. -/
  | zoneRelease (c : Cmd)
  /-- ZONE_SET (R266): Command enabling or disabling a workspace zone. -/
  | zoneSet (c : Cmd)
  /-- FEEDBACK_CUTOFF (R28): The feedback cut-off is reached; servo computation of the cycle starts. -/
  | feedbackCutoff (failed : List Nat)
  /-- OPTIMISER_DEADLINE (R321): At the deadline every cluster stops and solutions and statuses are taken. -/
  | optimiserDeadline (stands : List (Nat × Nat)) (sepCycles : Nat) (sepDone : Bool)
  /-- RAMP_END (R235): A stop ramp reaches lambda 0 and the group enters its STOP_END. -/
  | rampEnd (g : Nat)
  /-- OPT_STAGE (R305): Command loading and checking a solver program. -/
  | optStage (c : Cmd) (dma : Dma)
  /-- OPT_COMMIT (R307): Command committing the staged solver program. -/
  | optCommit (c : Cmd)
  /-- OPT_LOAD_DYN (R297): Command loading a group's dynamic table. -/
  | optLoadDyn (c : Cmd) (dma : Dma)
  /-- OPT_SET_PAYLOAD (R298): Command replacing a group's payload. -/
  | optSetPayload (c : Cmd)
  /-- OPT_COPY_SOLUTION (R335): Command copying a group's last solution to memory. -/
  | optCopySolution (c : Cmd)
  /-- GRAVITY_JOB_DONE (R300): A gravity job completes with the group's gravity torque. -/
  | gravityJobDone (g : Nat)
  /-- SOLVE_ITERATION_DONE (R312): An interior-point iteration completes and is tested for termination. -/
  | solveIterationDone (g : Nat) (corr : Nat)
  /-- DEADLINE_PCT_WRITE (R320): A write of DEADLINE_PCT changes the deadline or is refused while a cluster is lent. -/
  | deadlinePctWrite (who : Init) (v : Word)
  /-- CLUSTER_FAULT (R325): An uncorrectable memory error or schedule overrun faults a cluster. -/
  | clusterFault (clu : Nat) (cause : Nat)
  /-- SRV_COMMIT (R356): Command committing a swap set's staged coefficient bank. -/
  | srvCommit (c : Cmd)
  /-- SRV_COPY (R388): Command copying the bank in use into the staged bank for a swap set. -/
  | srvCopy (c : Cmd)
  /-- SRV_AX_CFG_WRITE (R376): A write to axis configuration, refused while the group is not OFF or when it breaks the budget. -/
  | srvAxCfgWrite (who : Init) (a : Nat) (v : Word)
  /-- SERVO_COMPUTE_DONE (R353): Servo computation of the cycle completes; results await T_(k+1). -/
  | servoComputeDone
  /-- SERVO_OVERRUN_CHECK (R354): An axis not complete 400 ns before T_(k+1) has its result discarded. -/
  | servoOverrunCheck (late : List Nat)
  /-- ENABLE_TIMEOUT (R361): EN_TIMEOUT elapses in ENABLING and the group faults. -/
  | enableTimeout (g : Nat)
  /-- BRAKE_TIME_EXPIRE (R361): BRAKE_TIME elapses in RELEASING or BRAKING. -/
  | brakeTimeExpire (g : Nat)
  /-- SEP_ENABLE (R420): Command starting the separation monitor. -/
  | sepEnable (c : Cmd)
  /-- SEP_DISABLE (R415): Command stopping the separation monitor. -/
  | sepDisable (c : Cmd)
  /-- SEP_CAP_ENABLE (R402): Command setting a group's enabled capsules. -/
  | sepCapEnable (c : Cmd)
  /-- SEP_COPY_FIELD (R429): Command copying a box of the distance field. -/
  | sepCopyField (c : Cmd)
  /-- SEP_MEMORY_FAULT (R415): An uncorrectable ECC error in monitor memory faults the monitor. -/
  | sepMemoryFault (mem : Nat)
  /-- SF_AUTH (R464): Command opening a configuration session with a password. -/
  | sfAuth (c : Cmd)
  /-- SF_LOGOUT (R466): Command ending the session. -/
  | sfLogout (c : Cmd)
  /-- SF_SET_PASSWORD (R465): Command setting the configuration password. -/
  | sfSetPassword (c : Cmd)
  /-- SF_ZONE_BEGIN (R445): Command putting a zone in CONFIGURING. -/
  | sfZoneBegin (c : Cmd)
  /-- SF_ZONE_WRITE (R467): Command writing a staged zone record. -/
  | sfZoneWrite (c : Cmd)
  /-- SF_PAIR_WRITE (R467): Command writing a staged pair record. -/
  | sfPairWrite (c : Cmd)
  /-- SF_BRK_WRITE (R467): Command writing a staged brake record. -/
  | sfBrkWrite (c : Cmd)
  /-- SF_TP_WRITE (R467): Command writing a staged test-pulse source record. -/
  | sfTpWrite (c : Cmd)
  /-- SF_ZONE_COMMIT (R468): Command checking and committing a zone's staged records. -/
  | sfZoneCommit (c : Cmd)
  /-- SF_ZONE_ABORT (R445): Command discarding a zone's staged records. -/
  | sfZoneAbort (c : Cmd)
  /-- SF_ZONE_RESET (R447): Command arming TRIPPED zones. -/
  | sfZoneReset (c : Cmd)
  /-- SF_ZONE_UNLOCK (R473): Command clearing a zone lockout after tests. -/
  | sfZoneUnlock (c : Cmd)
  /-- SF_LOG_READ (R470): Command reading a change-log entry. -/
  | sfLogRead (c : Cmd)
  /-- SF_READ_CFG (R477): Command reading a configuration record. -/
  | sfReadCfg (c : Cmd)
  /-- SF_INPUT_EDGE (R435): A filtered edge on a safety input channel updates pair, couple and zone demand. -/
  | sfInputEdge (pair : Nat) (ch : Nat) (high : Bool)
  /-- DISCREPANCY_TIMEOUT (R437): A pair half on or off for DISC_T enters FAULT. -/
  | discrepancyTimeout (pair : Nat)
  /-- TWO_HAND_TIMEOUT (R441): A couple ARMING beyond 500 ms enters BLOCKED. -/
  | twoHandTimeout (couple : Nat)
  /-- TEST_PULSE_START (R438): A test-pulse source switches low once per PERIOD. -/
  | testPulseStart (src : Nat)
  /-- TEST_PULSE_CHECK (R439): 10 µs before pulse end a channel must read low or fail. -/
  | testPulseCheck (pair : Nat) (ch : Nat) (high : Bool)
  /-- TEST_PULSE_END (R439): The pulse ends and filtered levels are released 100 µs later. -/
  | testPulseEnd (src : Nat)
  /-- STOP_DELAY_EXPIRE (R446): A category 1 stop delay ends and the outputs open. -/
  | stopDelayExpire (zone : Nat)
  /-- CLOSING_TEST_STEP (R450): A closing-test step ends after OT_DWELL and readback is judged. -/
  | closingTestStep (out : Nat) (x : Bool) (y : Bool)
  /-- ON_TEST_START (R451): Every ON_TEST_S seconds a closed switch is opened for OT_PULSE. -/
  | onTestStart (group : Nat)
  /-- ON_TEST_END (R451): The ON-test pulse ends and its readback is judged. -/
  | onTestEnd (group : Nat) (x : Bool) (y : Bool)
  /-- READBACK_FAULT (R452): A readback mismatch lasting 50 µs locks the zone out. -/
  | readbackFault (out : Nat) (x : Bool) (y : Bool)
  /-- BRAKE_CURRENT_FAULT (R454): Coil current outside its window after T_RISE or T_FALL locks the zone out. -/
  | brakeCurrentFault (brake : Nat) (ma : Nat)
  /-- REQUEST_LINE_CHANGE (R457): A request line is seen asserted or released by the safety die. -/
  | requestLineChange (line : Nat) (asserted : Bool)
  /-- DIE_FAULT (R433): A clock, channel, supply, temperature or self-test fault opens every switch. -/
  | dieFault (cause : Nat)
  /-- SF_POWER_UP (R434): The safety die tests, loads its configuration and starts status frames. -/
  | sfPowerUp (selfTestOk : Bool)
  /-- SF_STATUS_FRAME (R459): A status frame from the safety die updates the window registers. -/
  | sfStatusFrame (crcOk : Bool) (rb : Readback)
  /-- SF_PATH_LOSS (R460): No valid status frame for 30 µs reports zones tripped. -/
  | sfPathLoss
  /-- SF_CONFIG_ANSWER (R477): An answer on the configuration port completes a safety command. -/
  | sfConfigAnswer (nvmFailed : Bool)
  /-- SF_CONFIG_TIMEOUT (R477): No configuration answer within 500 ms completes TIMEOUT. -/
  | sfConfigTimeout
  /-- SF_SESSION_TIMEOUT (R466): 600 s without a session command ends the session. -/
  | sfSessionTimeout
  /-- SF_AUTH_BLOCK_END (R464): The 60 s authentication block ends. -/
  | sfAuthBlockEnd
  /-- LA_SET_COUNT (R494): Command setting a channel's count. -/
  | laSetCount (c : Cmd)
  /-- LA_CMP_ENABLE (R500): Command enabling or disabling a compare list. -/
  | laCmpEnable (c : Cmd)
  /-- LA_RUN_WRITE (R512): A write of LA_CH_CFG.RUN starts or stops a channel. -/
  | laRunWrite (who : Init) (ch : Nat) (v : Word)
  /-- LA_CMP_CTRL_WRITE (R497): A write of a compare entry's CTRL arms it afresh with held POS and INC. -/
  | laCmpCtrlWrite (who : Init) (ch : Nat) (e : Nat) (v : Word)
  /-- LA_ERR_CLEAR (R511): Writing 1 to CHOP_FAULT restarts the chopper. -/
  | laErrClear (who : Init) (ch : Nat) (v : Word)
  /-- QUAD_TRANSITION (R485): A filtered quadrature change counts or raises an illegal transition. -/
  | quadTransition (ch : Nat) (ab : Nat)
  /-- STEP_DIR_EDGE (R486): A STEP rising edge counts by DIR. -/
  | stepDirEdge (ch : Nat) (dir : Bool)
  /-- UP_DOWN_EDGE (R486): An UP or DOWN rising edge counts. -/
  | upDownEdge (ch : Nat) (up : Bool) (down : Bool)
  /-- HALL_CODE_CHANGE (R488): A hall code change counts or flags an impossible code. -/
  | hallCodeChange (ch : Nat) (code : Nat)
  /-- COMPARE_PULSE_END (R499): A compare output's pulse timer ends and its level returns to 0. -/
  | comparePulseEnd (out : Nat)
  /-- LA_RX_FAULT (R483): A differential input below fail-safe for 1 µs sets RX_FAULT. -/
  | laRxFault (ch : Nat) (input : Nat)
  /-- LA_INDEX (R491): A Z rising edge runs the line-count check. -/
  | laIndex (ch : Nat)
  /-- LATCH_CAPTURE (R495): A latch trigger stores count and time in the latch queue. -/
  | latchCapture (ch : Nat) (pin : Nat) (rising : Bool) (age : Nat) (time : W64)
  /-- LATCH_TIME_HI_READ (R496): A read of LA_CH_LATCH_TIME_HI removes the head latch entry. -/
  | latchTimeHiRead (who : Init) (ch : Nat)
  /-- STEP_EMIT (R504): A phase accumulator carry emits one step, held back by pulse spacing. -/
  | stepEmit (ch : Nat)
  /-- CHOP_COMPARATOR (R509): A phase current crossing its threshold switches drive and decay. -/
  | chopComparator (ch : Nat) (ph : Nat) (i : Nat)
  /-- CHOP_FAST_END (R509): FAST_T samples of mixed decay end and the phase goes SLOW. -/
  | chopFastEnd (ch : Nat) (ph : Nat)
  /-- ADAPT_INTERVAL (R510): An adaptation interval ends and offsets and run current adapt. -/
  | adaptInterval (ch : Nat) (iv : Interval)
  /-- CHOP_OVERCURRENT (R511): Two sense readings at IOCP turn both phases OFF. -/
  | chopOvercurrent (ch : Nat) (ph : Nat) (i : Nat)
  /-- ANALOGUE_PATH_GAP (R514): No valid sample word for 1 µs invalidates samples and sets the defect. -/
  | analoguePathGap (gap : Nat)
  /-- ANALOGUE_GATE_TIMEOUT (R514): No command word for 2 µs sets every gate output to 0. -/
  | analogueGateTimeout
  /-- ACQ_SET_START (R523): Command starting a conversion set. -/
  | acqSetStart (c : Cmd)
  /-- ACQ_SET_STOP (R522): Command stopping a conversion set. -/
  | acqSetStop (c : Cmd)
  /-- ACQ_ARM (R539): Command arming a capture unit. -/
  | acqArm (c : Cmd)
  /-- ACQ_STOP (R536): Command stopping a capture unit. -/
  | acqStop (c : Cmd)
  /-- ACQ_FORCE (R534): Command forcing a trigger. -/
  | acqForce (c : Cmd)
  /-- ACQ_COPY (R541): Command copying a completed record. -/
  | acqCopy (c : Cmd)
  /-- ACQ_TB_CAL (R549): Command calibrating trigger-bus delays. -/
  | acqTbCal (c : Cmd)
  /-- CONVERSION_SAMPLE (R522): A conversion set samples all its channels at a grid instant. -/
  | conversionSample (set : Nat) (xs : List (Nat × Int × Bool))
  /-- CONVERSION_READY (R524): A conversion becomes usable 400 ns after its sample. -/
  | conversionReady (set : Nat)
  /-- ACQ_PATH_GAP (R525): No conversion word for 1 µs marks conversions missing. -/
  | acqPathGap (ns : Nat)
  /-- ACQ_TIME_TRIGGER (R533): Cell time reaches a unit's TTIME. -/
  | acqTimeTrigger (u : Nat)
  /-- ACQ_PRE_FILLED (R536): PRE frames held move a unit from FILLING to READY. -/
  | acqPreFilled (u : Nat)
  /-- ACQ_POST_COMPLETE (R536): POST frames held close the record. -/
  | acqPostComplete (u : Nat)
  /-- ACQ_REARM_END (R540): Re-arm ends and the next segment starts filling. -/
  | acqRearmEnd (u : Nat)
  /-- STREAM_CHUNK_POST (R624): A closed chunk is written to a posted stream buffer. -/
  | streamChunkPost (ring : Nat) (addr : W64) (len : Nat)
  /-- DEC_RESTORE (R544): Fill at or below LOW for RESTORE ms lowers decimation. -/
  | decRestore (u : Nat)
  /-- ACQ_LOST_HI_READ (R537): A read of ACQ_U_LOST_HI removes the lost-trigger FIFO head. -/
  | acqLostHiRead (who : Init) (u : Nat)
  /-- TRIGGER_BUS_PULSE (R548): A received bus pulse is timestamped and accepted or rejected. -/
  | triggerBusPulse (line : Nat) (width : Nat) (t : W64) (window : Bool)
  /-- TB_CAL_PROBE (R549): In its calibration slot the device drives a probe pulse. -/
  | tbCalProbe (line : Nat) (t : W64)
  /-- SYNC_PULSE_DRIVE (R547): The sync owner drives a pulse each SYNC_PERIOD. -/
  | syncPulseDrive
  /-- SYNC_PULSE_RECEIVE (R551): A received sync pulse gives the owner's instant and the sync error. -/
  | syncPulseReceive (width : Nat) (t : W64)
  /-- SYNC_SET_START (R551): A SYNC set starts conversions at S_n plus SYNC_LEAD. -/
  | syncSetStart (set : Nat)
  /-- SC_LOAD (R582): Command loading an image into a core's staged bank. -/
  | scLoad (c : Cmd) (dma : Dma)
  /-- SC_COMMIT (R583): Command committing a core's staged program bank. -/
  | scCommit (c : Cmd)
  /-- SC_START (R580): Command starting a core at an entry address. -/
  | scStart (c : Cmd)
  /-- SC_HALT (R580): Command halting a core. -/
  | scHalt (c : Cmd)
  /-- SC_KICK (R575): Command making KICK pending on named cores. -/
  | scKick (c : Cmd)
  /-- SC_IN_CFG_WRITE (R588): A write to an input FIFO configuration empties the FIFO. -/
  | scInCfgWrite (who : Init) (core : Nat) (f : Nat) (v : Word)
  /-- SC_TIMER_IRQ (R575): Every SC_TIMER cycles the TIMER line becomes pending. -/
  | scTimerIrq (core : Nat)
  /-- SC_INTERRUPT_ENTRY (R576): An enabled pending line is taken and the core enters its handler. -/
  | scInterruptEntry (core : Nat)
  /-- SC_SWAP_TIMEOUT (R584): No swap boundary within SWAP_TMO withholds the commit. -/
  | scSwapTimeout (core : Nat)
  /-- NOP (R565): Instruction doing nothing. -/
  | isaNop (core : Nat) (ecc : Nat)
  /-- MOV (R565): Instruction copying a data register. -/
  | isaMov (core : Nat) (ecc : Nat)
  /-- MOVI (R565): Instruction loading an immediate into a data register. -/
  | isaMovi (core : Nat) (ecc : Nat)
  /-- MOVS_LOAD (R565): Instruction reading a special register into a data register. -/
  | isaMovsLoad (core : Nat) (ecc : Nat)
  /-- MOVS_STORE (R565): Instruction writing a data register to a special register. -/
  | isaMovsStore (core : Nat) (ecc : Nat)
  /-- MOVSI (R565): Instruction writing an immediate to a special register. -/
  | isaMovsi (core : Nat) (ecc : Nat)
  /-- ADD (R565): Instruction adding with wrap. -/
  | isaAdd (core : Nat) (ecc : Nat)
  /-- SUB (R565): Instruction subtracting with wrap. -/
  | isaSub (core : Nat) (ecc : Nat)
  /-- ADDS (R565): Instruction adding with saturation. -/
  | isaAdds (core : Nat) (ecc : Nat)
  /-- SUBS (R565): Instruction subtracting with saturation. -/
  | isaSubs (core : Nat) (ecc : Nat)
  /-- AND (R565): Instruction bitwise AND. -/
  | isaAnd (core : Nat) (ecc : Nat)
  /-- OR (R565): Instruction bitwise OR. -/
  | isaOr (core : Nat) (ecc : Nat)
  /-- XOR (R565): Instruction bitwise XOR. -/
  | isaXor (core : Nat) (ecc : Nat)
  /-- SHL (R565): Instruction shifting left. -/
  | isaShl (core : Nat) (ecc : Nat)
  /-- ASR (R565): Instruction shifting right arithmetically. -/
  | isaAsr (core : Nat) (ecc : Nat)
  /-- LSR (R565): Instruction shifting right logically. -/
  | isaLsr (core : Nat) (ecc : Nat)
  /-- CMP (R565): Instruction setting flags from a subtraction. -/
  | isaCmp (core : Nat) (ecc : Nat)
  /-- ABS (R565): Instruction taking a saturating absolute value. -/
  | isaAbs (core : Nat) (ecc : Nat)
  /-- NEG (R565): Instruction negating with saturation. -/
  | isaNeg (core : Nat) (ecc : Nat)
  /-- LD (R569): Instruction loading a word through an address register. -/
  | isaLd (core : Nat) (ecc : Nat)
  /-- ST (R569): Instruction storing a word through an address register. -/
  | isaSt (core : Nat) (ecc : Nat)
  /-- LD_P (R558): Instruction loading a register pair. -/
  | isaLdP (core : Nat) (ecc : Nat)
  /-- ST_P (R558): Instruction storing a register pair. -/
  | isaStP (core : Nat) (ecc : Nat)
  /-- MPY (R567): Instruction multiplying into an accumulator. -/
  | isaMpy (core : Nat) (ecc : Nat)
  /-- MAC (R567): Instruction multiply-accumulate. -/
  | isaMac (core : Nat) (ecc : Nat)
  /-- MSU (R567): Instruction multiply-subtract. -/
  | isaMsu (core : Nat) (ecc : Nat)
  /-- MACM (R565): Instruction multiply-accumulate with a memory operand. -/
  | isaMacm (core : Nat) (ecc : Nat)
  /-- FTAP (R568): Instruction performing one filter tap and delay-line shift. -/
  | isaFtap (core : Nat) (ecc : Nat)
  /-- CLR (R565): Instruction clearing an accumulator. -/
  | isaClr (core : Nat) (ecc : Nat)
  /-- SAT (R567): Instruction shifting, rounding and saturating an accumulator to 16 bits. -/
  | isaSat (core : Nat) (ecc : Nat)
  /-- LDACC (R565): Instruction loading an accumulator from a pair. -/
  | isaLdacc (core : Nat) (ecc : Nat)
  /-- JMP (R565): Instruction jumping with one delay slot. -/
  | isaJmp (core : Nat) (ecc : Nat)
  /-- JCC (R565): Instruction jumping on a condition. -/
  | isaJcc (core : Nat) (ecc : Nat)
  /-- CALL (R565): Instruction pushing a return address and jumping. -/
  | isaCall (core : Nat) (ecc : Nat)
  /-- RET (R565): Instruction popping a return address and jumping. -/
  | isaRet (core : Nat) (ecc : Nat)
  /-- RETI (R577): Instruction returning from an interrupt handler. -/
  | isaReti (core : Nat) (ecc : Nat)
  /-- LOOP0 (R571): Instruction starting a level-0 hardware loop with an immediate count. -/
  | isaLoop0 (core : Nat) (ecc : Nat)
  /-- LOOP1 (R571): Instruction starting a level-1 hardware loop with an immediate count. -/
  | isaLoop1 (core : Nat) (ecc : Nat)
  /-- LOOP0R (R571): Instruction starting a level-0 loop with a register count. -/
  | isaLoop0r (core : Nat) (ecc : Nat)
  /-- LOOP1R (R571): Instruction starting a level-1 loop with a register count. -/
  | isaLoop1r (core : Nat) (ecc : Nat)
  /-- WAIT (R578): Instruction putting the core in WAITING until a line is pending. -/
  | isaWait (core : Nat) (ecc : Nat)
  /-- HALT (R580): Instruction putting the core in HALTED. -/
  | isaHalt (core : Nat) (ecc : Nat)
  /-- HE_NOP (R642): Command doing nothing. -/
  | heNop (c : Cmd)
  /-- HE_COPY (R642): Command copying data between host memory and shared SRAM. -/
  | heCopy (c : Cmd) (dma : Dma)
  /-- DOORBELL_WRITE (R611): A doorbell write updates a ring's software index or is refused. -/
  | doorbellWrite (who : Init) (off : Nat) (size : Nat) (v : Word)
  /-- RING_CTRL_WRITE (R614): A write to RING_CTRL enables or disables a ring. -/
  | ringCtrlWrite (who : Init) (ty : Nat) (r : Nat) (v : Word)
  /-- DESCRIPTOR_FETCH (R615): The host engine fetches descriptors from a command ring with completion room. -/
  | descriptorFetch (fn : Nat) (r : Nat)
  /-- FENCE_RELEASE (R619): A FENCE command is passed on once every earlier command of its ring has completed. -/
  | fenceRelease (fn : Nat) (r : Nat)
  /-- MSIX_MODERATION_TIMEOUT (R613): RING_MOD.TIME passes and the ring signals its MSI-X vector. -/
  | msixModerationTimeout (fn : Nat) (ty : Nat) (r : Nat)
  /-- VF_FLR (R625): A Function Level Reset of a VF disables its rings and may stop its group. -/
  | vfFlr (n : Nat)
  /-- VF_ENABLE_CHANGE (R599): SR-IOV VF Enable or NumVFs changes which VFs exist. -/
  | vfEnableChange (n : Nat)
  /-- PCIE_RESET (R626): A conventional reset or PF FLR resets PD1 and discards pending commands. -/
  | pcieReset (flr : Bool)
  /-- PCIE_LINK_CHANGE (R627): The link goes down or up, or the PF changes power state. -/
  | pcieLinkChange (width : Nat) (speed : Nat) (d3hot : Bool)
  /-- HE_WD_KICK (R628): A write to HE_WD_KICK restarts the host watchdog. -/
  | heWdKick (who : Init) (v : Word)
  /-- HOST_WATCHDOG_EXPIRE (R628): PERIOD ms without a kick stops every enabled group. -/
  | hostWatchdogExpire
  /-- BAR4_READ (R601): A host read through BAR4 of on-chip memory. -/
  | bar4Read (off : Nat) (len : Nat) (errs : List (Nat × Bool))
  /-- BAR4_WRITE (R602): A host write through BAR4, partial writes as read-modify-write. -/
  | bar4Write (off : Nat) (data : List Byte)
  /-- BOOT_LOAD (R629): A write of BOOT_CTRL.LOAD checks and loads a downloaded image. -/
  | bootLoad (who : Init) (v : Word)
  /-- COMMIT_SVN (R634): A write of BOOT_CTRL.COMMIT_SVN raises the fused SVN minimum. -/
  | commitSvn (who : Init) (v : Word)
  /-- FLASH_READ_DONE (R629): A flash slot's image is read into the staging area. -/
  | flashReadDone (image : List Byte)
  /-- BOOT_SELF_TEST_DONE (R694): The boot self-test of every region ends. -/
  | bootSelfTestDone (sigs : List (Nat × W64 × W64))
  /-- WI_CREATE (R649): Command creating a work item. -/
  | wiCreate (c : Cmd)
  /-- WI_DELETE (R651): Command freeing a work item. -/
  | wiDelete (c : Cmd)
  /-- WI_READY (R651): Command readying a work item. -/
  | wiReady (c : Cmd)
  /-- WO_SIGNAL (R661): Command signalling a wait object. -/
  | woSignal (c : Cmd)
  /-- WC_DRAIN (R665): Command draining a work core to OFFLINE. -/
  | wcDrain (c : Cmd)
  /-- WC_RESUME (R665): Command returning a core to ONLINE or INIT. -/
  | wcResume (c : Cmd)
  /-- WC_RELOAD (R666): Command reloading a core's instruction RAM. -/
  | wcReload (c : Cmd)
  /-- WI_DISPATCH (R653): A free core takes the first eligible item, or a target is chosen for pre-emption. -/
  | wiDispatch
  /-- SCH_DONE_STORE (R651): A store to SCH_DONE ends the item's run. -/
  | schDoneStore (core : Nat)
  /-- SCH_YIELD_STORE (R651): A store to SCH_YIELD suspends the item. -/
  | schYieldStore (core : Nat)
  /-- SCH_READY_STORE (R652): A store to SCH_READY readies an item. -/
  | schReadyStore (core : Nat) (v : Nat)
  /-- SCH_WAIT_STORE (R660): A store to SCH_WAIT takes a count or waits on an object. -/
  | schWaitStore (core : Nat) (v : Nat)
  /-- SCH_SIGNAL_STORE (R661): A store to SCH_SIGNAL signals a wait object once. -/
  | schSignalStore (core : Nat) (v : Nat)
  /-- SCH_ONLINE_STORE (R665): A store to SCH_ONLINE ends INIT. -/
  | schOnlineStore (core : Nat)
  /-- SCH_FAULT_STORE (R665): A store to SCH_FAULT declares a core fault. -/
  | schFaultStore (core : Nat)
  /-- SLOT_GO (R663): A store to a command slot's GO issues or frees the slot's command. -/
  | slotGo (core : Nat) (slot : Nat) (go : Nat)
  /-- WAIT_DEADLINE (R662): A wait's deadline tick moves the waiter to SUSPENDED with result 1. -/
  | waitDeadline (i : Nat)
  /-- INIT_TIMEOUT (R665): INIT lasts 100 ms and the core faults or the reload is withheld. -/
  | initTimeout (core : Nat)
  /-- DRAIN_COMPLETE (R665): A draining core holds no item or busy slot and leaves DRAINING. -/
  | drainComplete (core : Nat)
  /-- DRAIN_TIMEOUT (R665): A drain not complete in its time-out returns the core ONLINE. -/
  | drainTimeout (core : Nat)
  /-- WC_CORE_FAULT (R665): An uncorrectable local-memory error faults a work core. -/
  | wcCoreFault (core : Nat) (cause : Nat)
  /-- RUN_WARN_EXPIRE (R669): A run longer than RUN_WARN records foul 0x0C16. -/
  | runWarnExpire (core : Nat)
  /-- RISCV_INSTRUCTION (R644): A work core executes one RV64GC instruction. -/
  | riscvInstruction (core : Nat) (errs : List (Nat × Bool))
  /-- MEM_GROUP_SET (R678): Command changing a bank group's power state. -/
  | memGroupSet (c : Cmd)
  /-- MST_RUN (R688): Command running self-test on a region. -/
  | mstRun (c : Cmd)
  /-- MST_CANCEL (R691): Command cancelling a region's self-test run. -/
  | mstCancel (c : Cmd)
  /-- LC_ADVANCE (R684): Command advancing the life cycle. -/
  | lcAdvance (c : Cmd)
  /-- LC_RESET_DELAY (R684): 10 ms after a life-cycle transition a device reset follows. -/
  | lcResetDelay
  /-- MEM_ERR_ADDR_READ (R675): A read of MEM_ERR_ADDR_LO re-arms error capture. -/
  | memErrAddrRead (who : Init)
  /-- SCRUB_READ (R677): The scrubber reads one word per bank every SCRUB_INT cycles. -/
  | scrubRead (errs : List (Nat × Bool))
  /-- GROUP_WAKE_DONE (R678): A waking group reaches ON after 2 µs. -/
  | groupWakeDone (g : Nat)
  /-- GROUP_CLEAR_DONE (R678): A clearing group reaches ON. -/
  | groupClearDone (g : Nat)
  /-- RETENTION_LOST (R678): The retention monitor reports a group below retention voltage. -/
  | retentionLost (g : Nat)
  /-- TAMPER_INPUT (R682): TAMPER_N low, a supply glitch or HCLK error triggers a wipe. -/
  | tamperInput (cause : Nat)
  /-- WIPE_COMPLETE (R682): The wipe completes and event 0x0D33 is posted. -/
  | wipeComplete
  /-- MST_SLICE_LEND (R689): At a lend boundary a region is saved, reset and scanned. -/
  | mstSliceLend (r : Nat)
  /-- MST_SLICE_END (R689): A slice ends and the region is restored and returned. -/
  | mstSliceEnd (r : Nat) (sig : W64)
  /-- MST_RETRY_EXPIRE (R691): RETRY ms after an abort the region may be retried. -/
  | mstRetryExpire (r : Nat)
  /-- MST_GAP_EXPIRE (R695): GAP ms after a slice the next lend of the region may occur. -/
  | mstGapExpire (r : Nat)
  /-- OUT_OF_USE_TEST_DONE (R693): The test of a faulted cluster or pipeline ends. -/
  | outOfUseTestDone (r : Nat) (sig : W64)
  /-- TWIN_JOIN (R725): Command rejoining a unit as standby. -/
  | twinJoin (c : Cmd)
  /-- TWIN_HANDOVER (R727): Command handing the active role to the standby. -/
  | twinHandover (c : Cmd)
  /-- BEAT_RECEIVE (R705): A valid BEAT from the partner is received in its window. -/
  | beatReceive (arrival : W64) (f : RawFrame) (back : Int)
  /-- HB_PULSE_RECEIVE (R704): A valid heartbeat pulse is received. -/
  | hbPulseReceive (arrival : W64) (ns : Nat)
  /-- BEAT_WINDOW_CLOSE (R705): A beat window closes and missed beats are counted per path. -/
  | beatWindowClose
  /-- TX_FRAME_RECEIVE (R710): A TX frame gives the standby's star a device frame to send. -/
  | txFrameReceive (f : RawFrame)
  /-- FB_FRAME_SEND (R711): The standby starts an FB frame of queued feedback records on a free lane. -/
  | fbFrameSend (lane : Nat)
  /-- FB_FRAME_RECEIVE (R712): The active takes forwarded feedback records as the partner channel's copies. -/
  | fbFrameReceive (lane : Nat) (f : RawFrame)
  /-- RX_FRAME_RECEIVE (R711): The active takes a forwarded node frame. -/
  | rxFrameReceive (lane : Nat) (ok : Bool) (f : RawFrame)
  /-- PORT_FRAME_RECEIVE (R710): The active takes the standby star's port states and counts. -/
  | portFrameReceive (ok : Bool) (ports : List PortRep) (misses : List Nat) (probes : List ProbeRep)
  /-- CYC_FRAME_RECEIVE (R715): The standby takes cycle-part frames. -/
  | cycFrameReceive (lane : Nat) (f : RawFrame)
  /-- TICK_FRAME_RECEIVE (R714): The standby takes tick-part frames. -/
  | tickFrameReceive (lane : Nat) (ok : Bool) (part : TickPart)
  /-- JRNL_FRAME_RECEIVE (R717): The standby applies journal entries in order. -/
  | jrnlFrameReceive (lane : Nat) (ok : Bool) (es : List JEntry)
  /-- ACK_FRAME_RECEIVE (R714): The active takes acknowledgement of applied journal entries. -/
  | ackFrameReceive (ok : Bool) (n : Nat)
  /-- CONTROL_FRAME_RECEIVE (R707): A join, handover or refusal message changes twin role. -/
  | controlFrameReceive (ok : Bool) (m : TwinMsg)
  /-- REVERT_HOLDOFF_EXPIRE (R727): The revert hold-off elapses and the home unit starts a handover. -/
  | revertHoldoffExpire
  /-- ZONE_MISMATCH_EXPIRE (R730): Zone states differ between units for 100 ms. -/
  | zoneMismatchExpire (zone : Nat)
  /-- SNAPSHOT_LOSS (R729): No cycle part for FAIL_N cycles asserts every request line on the standby. -/
  | snapshotLoss
  /-- CK_DOMAIN_SET (R751): Command setting a power domain ON, STOPPED or OFF. -/
  | ckDomainSet (c : Cmd)
  /-- CK_DEVICE_RESET (R758): Command requesting a device reset. -/
  | ckDeviceReset (c : Cmd)
  /-- DEVICE_RESET_DELAY (R758): 10 ms after CK_DEVICE_RESET a device reset follows. -/
  | deviceResetDelay
  /-- RESET_N_ASSERT (R744): RESET_N low for 1 µs starts a device reset. -/
  | resetNAssert
  /-- PWR_FAIL_ASSERT (R755): PWR_FAIL_N low for 1 µs starts a device reset with cause 10. -/
  | pwrFailAssert
  /-- SUPPLY_TRIP (R764): A rail falls through its trip point and starts its reaction. -/
  | supplyTrip (rail : Nat)
  /-- REF_CLK_LOSS (R738): REF_CLK absent for 2 µs puts PLL_T in holdover. -/
  | refClkLoss
  /-- REF_CLK_RETURN (R738): REF_CLK returns and PLL_T relocks without a phase step. -/
  | refClkReturn
  /-- CLOCK_MONITOR_WINDOW (R739): A 10 µs clock window ends and each clock's error is judged. -/
  | clockMonitorWindow (lock : Nat) (errs : List Int)
  /-- DOMAIN_AUTO_STOP (R751): Idle conditions for 1 ms stop a domain with AUTO_STOP. -/
  | domainAutoStop (d : Nat)
  /-- DOMAIN_POWER_UP_DONE (R751): PD4 powered from OFF is up and its reset released. -/
  | domainPowerUpDone
  /-- THERMAL_SAMPLE (R756): Every 100 µs junction sensors are read against warning and critical thresholds. -/
  | thermalSample (temps : List Int)
  /-- ANALOGUE_DIE_RESET (R744): The analogue die resets on its own supply or temperature. -/
  | analogueDieReset
  /-- ANALOGUE_CALIBRATION_DONE (R753): The analogue die completes calibration and sends its first sample word. -/
  | analogueCalibrationDone
  /-- BLOCK_LOCK_GAINED (R207): A star port's lane regains block lock, or its hi_ber clears, so the lane is no longer lost and its slots are no longer counted missing. -/
  | blockLockGained (ch : Nat) (port : Nat)
  /-- TWIN_LANE_LOCK_CHANGE (R719): A twin lane T0 or T1 loses or regains block lock, updating T0_UP and T1_UP and clearing SYNCED with cause 4 on loss of T1. -/
  | twinLaneLockChange (lane : Nat) (lock : Bool) (delay : Nat)
  /-- RESET_RELEASE (R745): After at least 10 µs with every PLL locked, the resets of PD1–PD6 are released together, BOOT_SEL is sampled and boot self-test and flash reading start. -/
  | resetRelease (bootSel : Bool)
  /-- READ_COMPLETION (R622): A PCI Express completion, or a completion timeout, arrives for a read request that the device issued for a descriptor fetch, a command's parameters or record, or HE_COPY. -/
  | readCompletion (id : Nat) (data : List Byte) (err : Option ReadError)
  /-- DOMAIN_REGISTER_READ (R747): A register read of a block whose domain is in reset or OFF returns 0 with foul 0x0F13, or, when the domain is STOPPED, wakes it. -/
  | domainRegisterRead (who : Init) (off : Nat)
  deriving DecidableEq, Repr

end Sys2Proof
end

