-- ==== Sys2Proof/Decode.lean ====
section
/-!
DEFINITION. Reading a command from a word of the opcode table. The device is a block: its table gives no row any bits,
and what the device decodes (descriptors, signal-core words, RV64 words, frames) it decodes inside the commands.
-/
namespace Sys2Proof

/-- The command that a table word spells: no row of this table has bits, so no word spells one. -/
def decodeTableWord (_nbits _w : Nat) : Option Instr := none

end Sys2Proof
end

