-- ==== Sys2Proof/Config.lean ====
section
/-!
DEFINITION. What an implementation fixes and the values the spec leaves open. Every `opaque` constant has no body:
nothing can evaluate it, and a claim about a step that reads one holds whatever its value is.
-/
namespace Sys2Proof.Config

/-- A free value for each count (notes/assumptions/5.md): entropy, and every value the spec leaves open that is
not a function of operands. -/
opaque freeValue : Nat → W64

/-- The signature that on-die ROM holds for a kind of region and a run of 2^n patterns (R690). -/
opaque mstExpected : Nat → Nat → W64

/-- The sine of a binary64 angle in radians, as binary64: the spec does not say how it is rounded.
DESIGN CHOICE: notes/assumptions/60.md. -/
opaque sin64 : Nat → Nat
/-- The cosine of a binary64 angle. -/
opaque cos64 : Nat → Nat
/-- The arc cosine, in [0, π]. -/
opaque acos64 : Nat → Nat
/-- The cube root. -/
opaque cbrt64 : Nat → Nat

/-- The velocity limit that a joint of a JOINT move gets so that its profile lasts T (R244), for [position, velocity, acceleration, target, V,
A, J, T]: the rule bounds the duration and leaves the limit open. -/
opaque slowPick : List Nat → Nat
/-- The velocity of a plan at its last knot, from the last two knots and the step: R251 gives none. -/
opaque endVel : Nat → Nat → Nat → Nat

/-- Whether a core writes the faulting address (or, for an illegal instruction, its bits) to `mtval` at an exception of a cause; it
writes 0 otherwise. RISC-V leaves this to the implementation. -/
opaque mtvalWritten : Nat → Bool
/-- What a read-only machine CSR that names the implementation reads as (`mvendorid`, `marchid`, `mimpid`, `mconfigptr`). -/
opaque csrConst : Nat → W64
/-- The choice among legal values that a WARL field makes when software writes one that is not: for the CSR, the value held and the
value written. -/
opaque warlPick : Nat → W64 → W64 → Nat

end Sys2Proof.Config
end

