-- ==== Sys2Proof/Machine/RegTable.lean ====
section
/-!
DEFINITION. The register map: every register of the spec's offset tables as an offset of the PF view of
BAR0 (R19, R596), every field with its bits, access code, reset value, Priv and documented range (R11, R15, R16,
R18). The tables follow the field tables of the chapters; the rule that holds a table is cited at each register.
Group-page registers lie at 0x0200_0000 + g × 0x1_0000 (R597). A VF's ring registers, which no PF offset reaches
(R599), are kept at the model's own key 0x0400_0000 + v × 0x1_0000 + 0x8000 for VF v.
-/
namespace Sys2Proof.Machine

/-- Access codes of R11 (RSV bits have no row). -/
inductive Acc | rw | ro | w1c | w1s | wo | rc | rwl
  deriving DecidableEq, Repr

/-- A field's place in its register: lowest bit and width. -/
structure Fld where
  lo : Nat
  w : Nat
  deriving DecidableEq, Repr

/-- One row of a field table: place, access code (R11), whether a VF reaches it (Priv G, R16), reset value (R18),
and the documented values as inclusive intervals (R15; empty: every value that fits). -/
structure FieldRow where
  fld : Fld
  acc : Acc
  g : Bool
  reset : Nat
  ok : List (Nat × Nat)
  deriving DecidableEq, Repr

/-- One row of an offset table: base offset, strides and counts of up to two indices, the half of a 64-bit pair
(0 none, 1 `_LO`, 2 `_HI`; R10) and its fields. -/
structure RegRow where
  base : Nat
  s1 : Nat
  n1 : Nat
  s2 : Nat
  n2 : Nat
  pair : Nat
  fields : List FieldRow
  deriving DecidableEq, Repr

namespace Reg
/-- `DEV_ID` (R605). -/
def DEV_ID : Nat := 0
/-- `DEV_STEP` (R605). -/
def DEV_STEP : Nat := 4
/-- `DEV_SERIAL` (`_LO`; `_HI` is the next word) (R605). -/
def DEV_SERIAL : Nat := 8
/-- `DEV_MODE` (R60). -/
def DEV_MODE : Nat := 0x8000
/-- `DEV_DEFECT` (R61). -/
def DEV_DEFECT : Nat := 0x8004
/-- `FOUL_CTRL` (R62). -/
def FOUL_CTRL : Nat := 0x8010
/-- `FOUL_STATUS` (R63). -/
def FOUL_STATUS : Nat := 0x8014
/-- `FOUL_DROPPED` (R64). -/
def FOUL_DROPPED : Nat := 0x8018
/-- `HE_CTRL` (R636). -/
def HE_CTRL : Nat := 0x100000
/-- `HE_STATUS` (R637). -/
def HE_STATUS : Nat := 0x100004
/-- `HE_WD` (R638). -/
def HE_WD : Nat := 0x100008
/-- `HE_WD_KICK` (R638). -/
def HE_WD_KICK : Nat := 0x10000C
/-- `BOOT_CTRL` (R639). -/
def BOOT_CTRL : Nat := 0x100100
/-- `BOOT_STATUS` (R639). -/
def BOOT_STATUS : Nat := 0x100104
/-- `BOOT_IMG_OFS` (R639). -/
def BOOT_IMG_OFS : Nat := 0x100108
/-- `TB_CTRL` (R99). -/
def TB_CTRL : Nat := 0x200000
/-- `TB_STATUS` (R100). -/
def TB_STATUS : Nat := 0x200004
/-- `RAW` (`_LO`; `_HI` is the next word) (R98). -/
def RAW : Nat := 0x200010
/-- `CELL_TIME` (`_LO`; `_HI` is the next word) (R98). -/
def CELL_TIME : Nat := 0x200018
/-- `PLANT_TIME` (`_LO`; `_HI` is the next word) (R98). -/
def PLANT_TIME : Nat := 0x200020
/-- `SNAP_RAW` (`_LO`; `_HI` is the next word) (R98). -/
def SNAP_RAW : Nat := 0x200030
/-- `SNAP_CELL` (`_LO`; `_HI` is the next word) (R98). -/
def SNAP_CELL : Nat := 0x200038
/-- `SNAP_PLANT` (`_LO`; `_HI` is the next word) (R98). -/
def SNAP_PLANT : Nat := 0x200040
/-- `CELL_OFS` (`_LO`; `_HI` is the next word) (R98). -/
def CELL_OFS : Nat := 0x200050
/-- `CELL_SLEW_REM` (`_LO`; `_HI` is the next word) (R98). -/
def CELL_SLEW_REM : Nat := 0x200060
/-- `PLANT_OFS` (`_LO`; `_HI` is the next word) (R98). -/
def PLANT_OFS : Nat := 0x200070
/-- `PLANT_SLEW_REM` (`_LO`; `_HI` is the next word) (R98). -/
def PLANT_SLEW_REM : Nat := 0x200080
/-- `PLANT_EPOCH` (`_LO`; `_HI` is the next word) (R98). -/
def PLANT_EPOCH : Nat := 0x200088
/-- `DISC_SAMPLE` (`_LO`; `_HI` is the next word) (R98). -/
def DISC_SAMPLE : Nat := 0x2000A0
/-- `CELL_RATE` (R98). -/
def CELL_RATE : Nat := 0x200058
/-- `PLANT_RATE` (R98). -/
def PLANT_RATE : Nat := 0x200078
/-- `DISC_CTRL` (R101). -/
def DISC_CTRL : Nat := 0x200090
/-- `DISC_STATUS` (R102). -/
def DISC_STATUS : Nat := 0x200094
/-- `DISC_LAT` (R98). -/
def DISC_LAT : Nat := 0x200098
/-- `DISC_LAST_ERR` (R98). -/
def DISC_LAST_ERR : Nat := 0x20009C
/-- `ACT_TIME` (`_LO`; `_HI` is the next word) (R98). -/
def ACT_TIME (n : Nat) : Nat := 0x201000 + n * 0x20
/-- `ACT_PERIOD` (`_LO`; `_HI` is the next word) (R98). -/
def ACT_PERIOD (n : Nat) : Nat := 0x201008 + n * 0x20
/-- `ACT_CTRL` (R103). -/
def ACT_CTRL (n : Nat) : Nat := 0x201010 + n * 0x20
/-- `ACT_STATUS` (R104). -/
def ACT_STATUS (n : Nat) : Nat := 0x201014 + n * 0x20
/-- `ACT_LAST` (`_LO`; `_HI` is the next word) (R98). -/
def ACT_LAST (n : Nat) : Nat := 0x201018 + n * 0x20
/-- `LINK_CTRL` (R215). -/
def LINK_CTRL : Nat := 0x300000
/-- `LINK_STATION` (R216). -/
def LINK_STATION : Nat := 0x300004
/-- `LINK_CONTAIN` (R217). -/
def LINK_CONTAIN : Nat := 0x300008
/-- `LINK_JOIN` (R218). -/
def LINK_JOIN : Nat := 0x30000C
/-- `LINK_STATUS` (R219). -/
def LINK_STATUS : Nat := 0x300010
/-- `LINK_MEMBERS` (R220). -/
def LINK_MEMBERS : Nat := 0x300014
/-- `LINK_ORBIT` (R220). -/
def LINK_ORBIT : Nat := 0x300018
/-- `LINK_TIMERS` (R220). -/
def LINK_TIMERS : Nat := 0x30001C
/-- `LINK_SUCC` (R220). -/
def LINK_SUCC : Nat := 0x300020
/-- `PORT_STATUS` (R221). -/
def PORT_STATUS (c p : Nat) : Nat := 0x301000 + c * 0x400 + p * 0x20
/-- `PORT_ERR` (R222). -/
def PORT_ERR (c p : Nat) : Nat := 0x301004 + c * 0x400 + p * 0x20
/-- `PORT_VIOL` (R220). -/
def PORT_VIOL (c p : Nat) : Nat := 0x301008 + c * 0x400 + p * 0x20
/-- `NODE_STATUS` (R223). -/
def NODE_STATUS (n : Nat) : Nat := 0x302000 + n * 0x10
/-- `NODE_DELAY` (R220). -/
def NODE_DELAY (n : Nat) : Nat := 0x302004 + n * 0x10
/-- `NODE_OFS` (R220). -/
def NODE_OFS (n : Nat) : Nat := 0x302008 + n * 0x10
/-- `LINK_MISS` (R220). -/
def LINK_MISS (s : Nat) : Nat := 0x304000 + s * 4
/-- `ADM_CTRL` (R224). -/
def ADM_CTRL (k n : Nat) : Nat := 0x310000 + k * 0x1000 + n * 0x10
/-- `ADM_SERIAL` (`_LO`; `_HI` is the next word) (R220). -/
def ADM_SERIAL (k n : Nat) : Nat := 0x310008 + k * 0x1000 + n * 0x10
/-- `SB_ID` (R147). -/
def SB_ID (k : Nat) : Nat := 0x340000 + k * 0x40000
/-- `SB_CYCLE` (R148). -/
def SB_CYCLE (k : Nat) : Nat := 0x340004 + k * 0x40000
/-- `SB_COUNT` (R149). -/
def SB_COUNT (k : Nat) : Nat := 0x340008 + k * 0x40000
/-- `SB_APPLY` (R150). -/
def SB_APPLY (k : Nat) : Nat := 0x34000C + k * 0x40000
/-- `SB_CUTOFF` (R151). -/
def SB_CUTOFF (k : Nat) : Nat := 0x340010 + k * 0x40000
/-- `SB_STATUS` (R152). -/
def SB_STATUS (k : Nat) : Nat := 0x340014 + k * 0x40000
/-- `SB_WIN_S` (R153). -/
def SB_WIN_S (k w : Nat) : Nat := 0x340040 + k * 0x40000 + w * 8
/-- `SB_WIN_E` (R153). -/
def SB_WIN_E (k w : Nat) : Nat := 0x340044 + k * 0x40000 + w * 8
/-- `SB_ENT0` (R154). -/
def SB_ENT0 (k e : Nat) : Nat := 0x340100 + k * 0x40000 + e * 0x10
/-- `SB_ENT1` (R155). -/
def SB_ENT1 (k e : Nat) : Nat := 0x340104 + k * 0x40000 + e * 0x10
/-- `SB_ENT2` (R156). -/
def SB_ENT2 (k e : Nat) : Nat := 0x340108 + k * 0x40000 + e * 0x10
/-- `SB_ENT3` (R157). -/
def SB_ENT3 (k e : Nat) : Nat := 0x34010C + k * 0x40000 + e * 0x10
/-- `SB_NODE0` (R158). -/
def SB_NODE0 (k n : Nat) : Nat := 0x348100 + k * 0x40000 + n * 8
/-- `SB_NODE1` (R159). -/
def SB_NODE1 (k n : Nat) : Nat := 0x348104 + k * 0x40000 + n * 8
/-- `PLAN_CTRL` (R270). -/
def PLAN_CTRL : Nat := 0x400000
/-- `PLAN_SERVICE` (R271). -/
def PLAN_SERVICE : Nat := 0x400004
/-- `PLAN_STATUS` (R272). -/
def PLAN_STATUS : Nat := 0x400008
/-- `ZONE_CTRL` (R273). -/
def ZONE_CTRL (z : Nat) : Nat := 0x401000 + z * 4
/-- `ZONE_NX` (R274). -/
def ZONE_NX (z i : Nat) : Nat := 0x404000 + z * 0x100 + i * 0x10
/-- `ZONE_NY` (R274). -/
def ZONE_NY (z i : Nat) : Nat := 0x404004 + z * 0x100 + i * 0x10
/-- `ZONE_NZ` (R274). -/
def ZONE_NZ (z i : Nat) : Nat := 0x404008 + z * 0x100 + i * 0x10
/-- `ZONE_D` (R274). -/
def ZONE_D (z i : Nat) : Nat := 0x40400C + z * 0x100 + i * 0x10
/-- `GRP_STATE` (R275). -/
def GRP_STATE (g : Nat) : Nat := 0x2000000 + g * 0x10000
/-- `GRP_CTRL` (R276). -/
def GRP_CTRL (g : Nat) : Nat := 0x2000004 + g * 0x10000
/-- `GRP_OVERRIDE` (R277). -/
def GRP_OVERRIDE (g : Nat) : Nat := 0x2000008 + g * 0x10000
/-- `GRP_SPEED_FACTOR` (R277). -/
def GRP_SPEED_FACTOR (g : Nat) : Nat := 0x200000C + g * 0x10000
/-- `GRP_LAG` (R277). -/
def GRP_LAG (g : Nat) : Nat := 0x2000010 + g * 0x10000
/-- `GRP_QUEUE` (R277). -/
def GRP_QUEUE (g : Nat) : Nat := 0x2000014 + g * 0x10000
/-- `GRP_ACTIVE_TAG` (R274). -/
def GRP_ACTIVE_TAG (g : Nat) : Nat := 0x2000018 + g * 0x10000
/-- `GRP_FAULT` (R278). -/
def GRP_FAULT (g : Nat) : Nat := 0x200001C + g * 0x10000
/-- `GRP_TOKENS` (`_LO`; `_HI` is the next word) (R274). -/
def GRP_TOKENS (g : Nat) : Nat := 0x2000020 + g * 0x10000
/-- `GRP_WAIT` (`_LO`; `_HI` is the next word) (R274). -/
def GRP_WAIT (g : Nat) : Nat := 0x2000028 + g * 0x10000
/-- `GRP_MODEL` (R277). -/
def GRP_MODEL (g : Nat) : Nat := 0x2000030 + g * 0x10000
/-- `JNT_VMAX` (R274). -/
def JNT_VMAX (g j : Nat) : Nat := 0x2000100 + g * 0x10000 + j * 0x10
/-- `JNT_AMAX` (R274). -/
def JNT_AMAX (g j : Nat) : Nat := 0x2000104 + g * 0x10000 + j * 0x10
/-- `JNT_JMAX` (R274). -/
def JNT_JMAX (g j : Nat) : Nat := 0x2000108 + g * 0x10000 + j * 0x10
/-- `JNT_AXIS` (R277). -/
def JNT_AXIS (g j : Nat) : Nat := 0x200010C + g * 0x10000 + j * 0x10
/-- `OPT_CTRL` (R326). -/
def OPT_CTRL : Nat := 0x500000
/-- `OPT_STATUS` (R327). -/
def OPT_STATUS : Nat := 0x500004
/-- `OPT_PROG_ID` (R328). -/
def OPT_PROG_ID (b : Nat) : Nat := 0x500008 + b * 4
/-- `OPT_CHECK` (R329). -/
def OPT_CHECK : Nat := 0x500010
/-- `OPT_TICK` (R328). -/
def OPT_TICK : Nat := 0x500014
/-- `OPT_CLU_STATUS` (R330). -/
def OPT_CLU_STATUS (c : Nat) : Nat := 0x500100 + c * 0x10
/-- `OPT_CLU_BUSY` (R328). -/
def OPT_CLU_BUSY (c : Nat) : Nat := 0x500104 + c * 0x10
/-- `OPT_CLU_FLAGS` (R331). -/
def OPT_CLU_FLAGS (c : Nat) : Nat := 0x500108 + c * 0x10
/-- `OPT_GRP_STATUS` (R332). -/
def OPT_GRP_STATUS (g : Nat) : Nat := 0x2001000 + g * 0x10000
/-- `OPT_GRP_NFCOL` (R333). -/
def OPT_GRP_NFCOL (g : Nat) : Nat := 0x2001004 + g * 0x10000
/-- `OPT_GRP_RP` (R328). -/
def OPT_GRP_RP (g : Nat) : Nat := 0x2001008 + g * 0x10000
/-- `OPT_GRP_RD` (R328). -/
def OPT_GRP_RD (g : Nat) : Nat := 0x200100C + g * 0x10000
/-- `OPT_GRP_MU` (R328). -/
def OPT_GRP_MU (g : Nat) : Nat := 0x2001010 + g * 0x10000
/-- `OPT_GRP_CYC` (R328). -/
def OPT_GRP_CYC (g : Nat) : Nat := 0x2001014 + g * 0x10000
/-- `OPT_GRP_DYN` (R334). -/
def OPT_GRP_DYN (g : Nat) : Nat := 0x2001018 + g * 0x10000
/-- `SRV_CTRL` (R377). -/
def SRV_CTRL : Nat := 0x600000
/-- `SRV_STATUS` (R378). -/
def SRV_STATUS : Nat := 0x600004
/-- `SRV_SWAP_BANK` (R379). -/
def SRV_SWAP_BANK : Nat := 0x600008
/-- `SRV_SWAP_PEND` (R379). -/
def SRV_SWAP_PEND : Nat := 0x60000C
/-- `SRV_COMPUTE` (R379). -/
def SRV_COMPUTE : Nat := 0x600010
/-- `SRV_REQ` (R379). -/
def SRV_REQ : Nat := 0x600014
/-- `SRV_CHECK` (R379). -/
def SRV_CHECK : Nat := 0x600018
/-- `SRV_GRP_SAFE` (R380). -/
def SRV_GRP_SAFE (g : Nat) : Nat := 0x600100 + g * 0x10
/-- `SRV_AX_CFG` (R381). -/
def SRV_AX_CFG (a : Nat) : Nat := 0x604000 + a * 0x40
/-- `SRV_AX_DET` (R382). -/
def SRV_AX_DET (a : Nat) : Nat := 0x604004 + a * 0x40
/-- `SRV_AX_FRZ_V` (R379). -/
def SRV_AX_FRZ_V (a : Nat) : Nat := 0x604008 + a * 0x40
/-- `SRV_AX_FRZ_T` (R379). -/
def SRV_AX_FRZ_T (a : Nat) : Nat := 0x60400C + a * 0x40
/-- `SRV_AX_FE_TIME` (R379). -/
def SRV_AX_FE_TIME (a : Nat) : Nat := 0x604010 + a * 0x40
/-- `SRV_AX_STATE` (R383). -/
def SRV_AX_STATE (a : Nat) : Nat := 0x604014 + a * 0x40
/-- `SRV_AX_SAT` (R384). -/
def SRV_AX_SAT (a : Nat) : Nat := 0x604018 + a * 0x40
/-- `SRV_AX_MISS` (R379). -/
def SRV_AX_MISS (a : Nat) : Nat := 0x60401C + a * 0x40
/-- `SRV_AX_POS` (`_LO`; `_HI` is the next word) (R379). -/
def SRV_AX_POS (a : Nat) : Nat := 0x604020 + a * 0x40
/-- `SRV_AX_VEL` (`_LO`; `_HI` is the next word) (R379). -/
def SRV_AX_VEL (a : Nat) : Nat := 0x604028 + a * 0x40
/-- `SRV_AX_FERR` (R379). -/
def SRV_AX_FERR (a : Nat) : Nat := 0x604030 + a * 0x40
/-- `SRV_AX_TRQ` (R379). -/
def SRV_AX_TRQ (a : Nat) : Nat := 0x604034 + a * 0x40
/-- `SRV_AX_INT` (R379). -/
def SRV_AX_INT (a : Nat) : Nat := 0x604038 + a * 0x40
/-- `SRV_SP_POS` (`_LO`; `_HI` is the next word) (R379). -/
def SRV_SP_POS (a : Nat) : Nat := 0x608000 + a * 0x20
/-- `SRV_SP_VEL` (`_LO`; `_HI` is the next word) (R379). -/
def SRV_SP_VEL (a : Nat) : Nat := 0x608008 + a * 0x20
/-- `SRV_SP_ACC` (`_LO`; `_HI` is the next word) (R379). -/
def SRV_SP_ACC (a : Nat) : Nat := 0x608010 + a * 0x20
/-- `SRV_SP_TRQ` (R379). -/
def SRV_SP_TRQ (a : Nat) : Nat := 0x608018 + a * 0x20
/-- `SRV_CF_KP` (R385). -/
def SRV_CF_KP (k a : Nat) : Nat := 0x610000 + k * 0x8000 + a * 0x80
/-- `SRV_CF_KVFF` (R385). -/
def SRV_CF_KVFF (k a : Nat) : Nat := 0x610004 + k * 0x8000 + a * 0x80
/-- `SRV_CF_KV` (R385). -/
def SRV_CF_KV (k a : Nat) : Nat := 0x610008 + k * 0x8000 + a * 0x80
/-- `SRV_CF_KI` (R385). -/
def SRV_CF_KI (k a : Nat) : Nat := 0x61000C + k * 0x8000 + a * 0x80
/-- `SRV_CF_KAFF` (R385). -/
def SRV_CF_KAFF (k a : Nat) : Nat := 0x610010 + k * 0x8000 + a * 0x80
/-- `SRV_CF_KTFF` (R385). -/
def SRV_CF_KTFF (k a : Nat) : Nat := 0x610014 + k * 0x8000 + a * 0x80
/-- `SRV_CF_SHIFT` (R386). -/
def SRV_CF_SHIFT (k a : Nat) : Nat := 0x610018 + k * 0x8000 + a * 0x80
/-- `SRV_CF_ILIM` (R385). -/
def SRV_CF_ILIM (k a : Nat) : Nat := 0x61001C + k * 0x8000 + a * 0x80
/-- `SRV_CF_TLIM_POS` (R385). -/
def SRV_CF_TLIM_POS (k a : Nat) : Nat := 0x610020 + k * 0x8000 + a * 0x80
/-- `SRV_CF_TLIM_NEG` (R385). -/
def SRV_CF_TLIM_NEG (k a : Nat) : Nat := 0x610024 + k * 0x8000 + a * 0x80
/-- `SRV_CF_VLIM` (R385). -/
def SRV_CF_VLIM (k a : Nat) : Nat := 0x610028 + k * 0x8000 + a * 0x80
/-- `SRV_CF_FE_LIMIT` (R385). -/
def SRV_CF_FE_LIMIT (k a : Nat) : Nat := 0x61002C + k * 0x8000 + a * 0x80
/-- `SRV_CF_BQ0_B0` (R385). -/
def SRV_CF_BQ0_B0 (k a : Nat) : Nat := 0x610030 + k * 0x8000 + a * 0x80
/-- `SRV_CF_BQ0_B1` (R385). -/
def SRV_CF_BQ0_B1 (k a : Nat) : Nat := 0x610034 + k * 0x8000 + a * 0x80
/-- `SRV_CF_BQ0_B2` (R385). -/
def SRV_CF_BQ0_B2 (k a : Nat) : Nat := 0x610038 + k * 0x8000 + a * 0x80
/-- `SRV_CF_BQ0_A1` (R385). -/
def SRV_CF_BQ0_A1 (k a : Nat) : Nat := 0x61003C + k * 0x8000 + a * 0x80
/-- `SRV_CF_BQ0_A2` (R385). -/
def SRV_CF_BQ0_A2 (k a : Nat) : Nat := 0x610040 + k * 0x8000 + a * 0x80
/-- `SRV_CF_BQ1_B0` (R385). -/
def SRV_CF_BQ1_B0 (k a : Nat) : Nat := 0x610044 + k * 0x8000 + a * 0x80
/-- `SRV_CF_BQ1_B1` (R385). -/
def SRV_CF_BQ1_B1 (k a : Nat) : Nat := 0x610048 + k * 0x8000 + a * 0x80
/-- `SRV_CF_BQ1_B2` (R385). -/
def SRV_CF_BQ1_B2 (k a : Nat) : Nat := 0x61004C + k * 0x8000 + a * 0x80
/-- `SRV_CF_BQ1_A1` (R385). -/
def SRV_CF_BQ1_A1 (k a : Nat) : Nat := 0x610050 + k * 0x8000 + a * 0x80
/-- `SRV_CF_BQ1_A2` (R385). -/
def SRV_CF_BQ1_A2 (k a : Nat) : Nat := 0x610054 + k * 0x8000 + a * 0x80
/-- `SRV_GRP_STATUS` (R387). -/
def SRV_GRP_STATUS (g : Nat) : Nat := 0x2002000 + g * 0x10000
/-- `SEP_STATUS` (R419). -/
def SEP_STATUS : Nat := 0x700000
/-- `SEP_TICK` (R421). -/
def SEP_TICK : Nat := 0x700004
/-- `SEP_CYC_LAST` (R421). -/
def SEP_CYC_LAST : Nat := 0x700008
/-- `SEP_CYC_WORST` (R421). -/
def SEP_CYC_WORST : Nat := 0x70000C
/-- `SEP_GRID_ORG_X` (R421). -/
def SEP_GRID_ORG_X : Nat := 0x700010
/-- `SEP_GRID_ORG_Y` (R421). -/
def SEP_GRID_ORG_Y : Nat := 0x700014
/-- `SEP_GRID_ORG_Z` (R421). -/
def SEP_GRID_ORG_Z : Nat := 0x700018
/-- `SEP_GRID_CFG` (R422). -/
def SEP_GRID_CFG : Nat := 0x70001C
/-- `SEP_HUMAN` (R421). -/
def SEP_HUMAN : Nat := 0x700020
/-- `SEP_TR` (R421). -/
def SEP_TR : Nat := 0x700024
/-- `SEP_ALLOW_C` (R421). -/
def SEP_ALLOW_C : Nat := 0x700028
/-- `SEP_ALLOW_Z` (R421). -/
def SEP_ALLOW_Z : Nat := 0x70002C
/-- `SEP_RELEASE` (R421). -/
def SEP_RELEASE : Nat := 0x700030
/-- `SEP_RISE` (R421). -/
def SEP_RISE : Nat := 0x700034
/-- `SEP_SENSOR` (R421). -/
def SEP_SENSOR : Nat := 0x700038
/-- `SEP_SELF` (R421). -/
def SEP_SELF : Nat := 0x70003C
/-- `SEP_RR` (R421). -/
def SEP_RR : Nat := 0x700040
/-- `SEP_PRED` (R421). -/
def SEP_PRED : Nat := 0x700044
/-- `SEP_RR_EXCL` (R421). -/
def SEP_RR_EXCL (g : Nat) : Nat := 0x700080 + g * 4
/-- `SEP_IGN_MIN` (R423). -/
def SEP_IGN_MIN (b : Nat) : Nat := 0x700100 + b * 8
/-- `SEP_IGN_MAX` (R423). -/
def SEP_IGN_MAX (b : Nat) : Nat := 0x700104 + b * 8
/-- `SEP_GRP_CTRL` (R424). -/
def SEP_GRP_CTRL (g : Nat) : Nat := 0x700200 + g * 8
/-- `SEP_GRP_VREF` (R421). -/
def SEP_GRP_VREF (g : Nat) : Nat := 0x700204 + g * 8
/-- `SEP_SENS_CFG` (R421). -/
def SEP_SENS_CFG (s : Nat) : Nat := 0x700300 + s * 0x10
/-- `SEP_SENS_STATUS` (R425). -/
def SEP_SENS_STATUS (s : Nat) : Nat := 0x700304 + s * 0x10
/-- `SEP_SENS_ERR` (R421). -/
def SEP_SENS_ERR (s : Nat) : Nat := 0x700308 + s * 0x10
/-- `SEP_SENS_AGE` (R421). -/
def SEP_SENS_AGE (s : Nat) : Nat := 0x70030C + s * 0x10
/-- `SEP_CAP_CTRL` (R426). -/
def SEP_CAP_CTRL (c : Nat) : Nat := 0x701000 + c * 0x20
/-- `SEP_CAP_P0X` (R421). -/
def SEP_CAP_P0X (c : Nat) : Nat := 0x701004 + c * 0x20
/-- `SEP_CAP_P0Y` (R421). -/
def SEP_CAP_P0Y (c : Nat) : Nat := 0x701008 + c * 0x20
/-- `SEP_CAP_P0Z` (R421). -/
def SEP_CAP_P0Z (c : Nat) : Nat := 0x70100C + c * 0x20
/-- `SEP_CAP_P1X` (R421). -/
def SEP_CAP_P1X (c : Nat) : Nat := 0x701010 + c * 0x20
/-- `SEP_CAP_P1Y` (R421). -/
def SEP_CAP_P1Y (c : Nat) : Nat := 0x701014 + c * 0x20
/-- `SEP_CAP_P1Z` (R421). -/
def SEP_CAP_P1Z (c : Nat) : Nat := 0x701018 + c * 0x20
/-- `SEP_GRP_STATUS` (R427). -/
def SEP_GRP_STATUS (g : Nat) : Nat := 0x2003000 + g * 0x10000
/-- `SEP_GRP_DMIN` (R428). -/
def SEP_GRP_DMIN (g : Nat) : Nat := 0x2003004 + g * 0x10000
/-- `SEP_GRP_FNEXT` (R421). -/
def SEP_GRP_FNEXT (g : Nat) : Nat := 0x2003008 + g * 0x10000
/-- `SEP_GRP_RR` (R428). -/
def SEP_GRP_RR (g : Nat) : Nat := 0x200300C + g * 0x10000
/-- `SEP_GRP_CAPEN` (R421). -/
def SEP_GRP_CAPEN (g : Nat) : Nat := 0x2003010 + g * 0x10000
/-- `SEP_CAP_D` (R428). -/
def SEP_CAP_D (g i : Nat) : Nat := 0x2003100 + g * 0x10000 + i * 8
/-- `SEP_CAP_V` (R421). -/
def SEP_CAP_V (g i : Nat) : Nat := 0x2003104 + g * 0x10000 + i * 8
/-- `SF_STATUS` (R474). -/
def SF_STATUS : Nat := 0x800000
/-- `SF_PATH` (R476). -/
def SF_PATH : Nat := 0x800004
/-- `SF_REQ` (R476). -/
def SF_REQ : Nat := 0x800008
/-- `SF_REQ_SEEN` (R476). -/
def SF_REQ_SEEN : Nat := 0x80000C
/-- `SF_STO_OUT` (R476). -/
def SF_STO_OUT : Nat := 0x800010
/-- `SF_STO_RB` (R476). -/
def SF_STO_RB : Nat := 0x800014
/-- `SF_BRK` (R476). -/
def SF_BRK : Nat := 0x800018
/-- `SF_COUPLE` (R476). -/
def SF_COUPLE : Nat := 0x80001C
/-- `SF_PAIR_STATE` (R476). -/
def SF_PAIR_STATE (r : Nat) : Nat := 0x800020 + r * 4
/-- `SF_PAIR_FAULT` (R476). -/
def SF_PAIR_FAULT : Nat := 0x800030
/-- `SF_LOG_SEQ` (R476). -/
def SF_LOG_SEQ : Nat := 0x800034
/-- `SF_ZONE` (R475). -/
def SF_ZONE (z : Nat) : Nat := 0x800040 + z * 4
/-- `SF_ZONE_CRC` (R476). -/
def SF_ZONE_CRC (z : Nat) : Nat := 0x800080 + z * 4
/-- `SF_BRK_I` (R476). -/
def SF_BRK_I (c : Nat) : Nat := 0x8000C0 + c * 4
/-- `LA_STATUS` (R518). -/
def LA_STATUS : Nat := 0x900004
/-- `LA_OUT_STATE` (R518). -/
def LA_OUT_STATE : Nat := 0x900008
/-- `LA_OUT_CFG` (R518). -/
def LA_OUT_CFG (o : Nat) : Nat := 0x900100 + o * 4
/-- `LA_CH_CFG` (R515). -/
def LA_CH_CFG (c : Nat) : Nat := 0x910000 + c * 0x1000
/-- `LA_CH_WRAP` (R518). -/
def LA_CH_WRAP (c : Nat) : Nat := 0x910004 + c * 0x1000
/-- `LA_CH_LINES` (R518). -/
def LA_CH_LINES (c : Nat) : Nat := 0x910008 + c * 0x1000
/-- `LA_CH_COUNT` (R518). -/
def LA_CH_COUNT (c : Nat) : Nat := 0x91000C + c * 0x1000
/-- `LA_CH_STATUS` (R518). -/
def LA_CH_STATUS (c : Nat) : Nat := 0x910010 + c * 0x1000
/-- `LA_CH_ERR` (R517). -/
def LA_CH_ERR (c : Nat) : Nat := 0x910014 + c * 0x1000
/-- `LA_CH_ERRCNT` (R518). -/
def LA_CH_ERRCNT (c : Nat) : Nat := 0x910018 + c * 0x1000
/-- `LA_CH_IDX` (R518). -/
def LA_CH_IDX (c : Nat) : Nat := 0x91001C + c * 0x1000
/-- `LA_CH_LATCH_CFG` (R518). -/
def LA_CH_LATCH_CFG (c : Nat) : Nat := 0x910020 + c * 0x1000
/-- `LA_CH_LATCH_STAT` (R518). -/
def LA_CH_LATCH_STAT (c : Nat) : Nat := 0x910024 + c * 0x1000
/-- `LA_CH_LATCH_POS` (R518). -/
def LA_CH_LATCH_POS (c : Nat) : Nat := 0x910028 + c * 0x1000
/-- `LA_CH_LATCH_TIME` (`_LO`; `_HI` is the next word) (R518). -/
def LA_CH_LATCH_TIME (c : Nat) : Nat := 0x910030 + c * 0x1000
/-- `LA_CH_OUT` (R518). -/
def LA_CH_OUT (c : Nat) : Nat := 0x910040 + c * 0x1000
/-- `LA_CH_KSTEP` (R518). -/
def LA_CH_KSTEP (c : Nat) : Nat := 0x910044 + c * 0x1000
/-- `LA_CH_VWORD` (`_LO`; `_HI` is the next word) (R518). -/
def LA_CH_VWORD (c : Nat) : Nat := 0x910048 + c * 0x1000
/-- `LA_CH_CMP_CTRL` (R518). -/
def LA_CH_CMP_CTRL (c : Nat) : Nat := 0x910050 + c * 0x1000
/-- `LA_CH_CMP_ARMED` (`_LO`; `_HI` is the next word) (R518). -/
def LA_CH_CMP_ARMED (c : Nat) : Nat := 0x910058 + c * 0x1000
/-- `LA_CH_CMP_BEHIND` (`_LO`; `_HI` is the next word) (R518). -/
def LA_CH_CMP_BEHIND (c : Nat) : Nat := 0x910060 + c * 0x1000
/-- `LA_CMP_POS` (R518). -/
def LA_CMP_POS (c e : Nat) : Nat := 0x910100 + c * 0x1000 + e * 0x10
/-- `LA_CMP_INC` (R518). -/
def LA_CMP_INC (c e : Nat) : Nat := 0x910104 + c * 0x1000 + e * 0x10
/-- `LA_CMP_CTRL` (R516). -/
def LA_CMP_CTRL (c e : Nat) : Nat := 0x910108 + c * 0x1000 + e * 0x10
/-- `LA_ST_CUR` (R518). -/
def LA_ST_CUR (c : Nat) : Nat := 0x910800 + c * 0x1000
/-- `LA_ST_HOLD` (R518). -/
def LA_ST_HOLD (c : Nat) : Nat := 0x910804 + c * 0x1000
/-- `LA_ST_LOAD` (R518). -/
def LA_ST_LOAD (c : Nat) : Nat := 0x910808 + c * 0x1000
/-- `LA_ST_CHOP` (R518). -/
def LA_ST_CHOP (c : Nat) : Nat := 0x91080C + c * 0x1000
/-- `LA_ST_ADAPT` (R518). -/
def LA_ST_ADAPT (c : Nat) : Nat := 0x910810 + c * 0x1000
/-- `LA_ST_SENSE` (R518). -/
def LA_ST_SENSE (c : Nat) : Nat := 0x910814 + c * 0x1000
/-- `LA_ST_CPE` (R518). -/
def LA_ST_CPE (c : Nat) : Nat := 0x910818 + c * 0x1000
/-- `LA_ST_CZERO` (R518). -/
def LA_ST_CZERO (c : Nat) : Nat := 0x91081C + c * 0x1000
/-- `LA_ST_STATUS` (R518). -/
def LA_ST_STATUS (c : Nat) : Nat := 0x910820 + c * 0x1000
/-- `LA_ST_MEAS` (R518). -/
def LA_ST_MEAS (c : Nat) : Nat := 0x910824 + c * 0x1000
/-- `LA_ST_OFS` (R518). -/
def LA_ST_OFS (c : Nat) : Nat := 0x910828 + c * 0x1000
/-- `LA_ST_RHO` (R518). -/
def LA_ST_RHO (c : Nat) : Nat := 0x91082C + c * 0x1000
/-- `ACQ_STATUS` (R553). -/
def ACQ_STATUS : Nat := 0xA00000
/-- `ACQ_TB_CFG` (R553). -/
def ACQ_TB_CFG : Nat := 0xA00010
/-- `ACQ_TB_STATUS` (R553). -/
def ACQ_TB_STATUS : Nat := 0xA00014
/-- `ACQ_TB_OWN` (R553). -/
def ACQ_TB_OWN : Nat := 0xA00018
/-- `ACQ_TB_DELAY` (R553). -/
def ACQ_TB_DELAY (l : Nat) : Nat := 0xA00020 + l * 4
/-- `ACQ_TB_SYNC_ERR` (`_LO`; `_HI` is the next word) (R553). -/
def ACQ_TB_SYNC_ERR : Nat := 0xA00040
/-- `ACQ_AIN_CFG` (R553). -/
def ACQ_AIN_CFG (ch : Nat) : Nat := 0xA00100 + ch * 4
/-- `ACQ_AIN_STATUS` (R553). -/
def ACQ_AIN_STATUS (ch : Nat) : Nat := 0xA00200 + ch * 4
/-- `ACQ_SET_CFG` (R553). -/
def ACQ_SET_CFG (s : Nat) : Nat := 0xA00400 + s * 0x10
/-- `ACQ_SET_PER` (R553). -/
def ACQ_SET_PER (s : Nat) : Nat := 0xA00404 + s * 0x10
/-- `ACQ_SET_STATUS` (R553). -/
def ACQ_SET_STATUS (s : Nat) : Nat := 0xA00408 + s * 0x10
/-- `ACQ_STR_CFG` (R553). -/
def ACQ_STR_CFG (c : Nat) : Nat := 0xA00600 + c * 4
/-- `ACQ_STR_STAT` (R553). -/
def ACQ_STR_STAT (c : Nat) : Nat := 0xA00700 + c * 4
/-- `ACQ_PRB_CFG` (R553). -/
def ACQ_PRB_CFG (p : Nat) : Nat := 0xA00800 + p * 4
/-- `ACQ_U_CFG` (R553). -/
def ACQ_U_CFG (u : Nat) : Nat := 0xA01000 + u * 0x100
/-- `ACQ_U_MEM` (R553). -/
def ACQ_U_MEM (u : Nat) : Nat := 0xA01014 + u * 0x100
/-- `ACQ_U_PRE` (R553). -/
def ACQ_U_PRE (u : Nat) : Nat := 0xA01018 + u * 0x100
/-- `ACQ_U_POST` (R553). -/
def ACQ_U_POST (u : Nat) : Nat := 0xA0101C + u * 0x100
/-- `ACQ_U_TRIG` (R553). -/
def ACQ_U_TRIG (u : Nat) : Nat := 0xA01020 + u * 0x100
/-- `ACQ_U_TH_A` (`_LO`; `_HI` is the next word) (R553). -/
def ACQ_U_TH_A (u : Nat) : Nat := 0xA01024 + u * 0x100
/-- `ACQ_U_TH_B` (`_LO`; `_HI` is the next word) (R553). -/
def ACQ_U_TH_B (u : Nat) : Nat := 0xA0102C + u * 0x100
/-- `ACQ_U_HYST` (R553). -/
def ACQ_U_HYST (u : Nat) : Nat := 0xA01034 + u * 0x100
/-- `ACQ_U_TTIME` (`_LO`; `_HI` is the next word) (R553). -/
def ACQ_U_TTIME (u : Nat) : Nat := 0xA01038 + u * 0x100
/-- `ACQ_U_EVENT` (R553). -/
def ACQ_U_EVENT (u : Nat) : Nat := 0xA01040 + u * 0x100
/-- `ACQ_U_MASK` (R553). -/
def ACQ_U_MASK (u : Nat) : Nat := 0xA01044 + u * 0x100
/-- `ACQ_U_STREAM` (R553). -/
def ACQ_U_STREAM (u : Nat) : Nat := 0xA01048 + u * 0x100
/-- `ACQ_U_STATE` (R553). -/
def ACQ_U_STATE (u : Nat) : Nat := 0xA0104C + u * 0x100
/-- `ACQ_U_STAT` (R553). -/
def ACQ_U_STAT (u : Nat) : Nat := 0xA01050 + u * 0x100
/-- `ACQ_U_LOST` (`_LO`; `_HI` is the next word) (R553). -/
def ACQ_U_LOST (u : Nat) : Nat := 0xA01058 + u * 0x100
/-- `ACQ_U_RECS` (R553). -/
def ACQ_U_RECS (u : Nat) : Nat := 0xA01060 + u * 0x100
/-- `ACQ_U_DROPPED` (R553). -/
def ACQ_U_DROPPED (u : Nat) : Nat := 0xA01064 + u * 0x100
/-- `ACQ_U_SRC` (R553). -/
def ACQ_U_SRC (u i : Nat) : Nat := 0xA01004 + u * 0x100 + i * 4
/-- `ACQ_MASK_UP` (R553). -/
def ACQ_MASK_UP (m j : Nat) : Nat := 0xA80000 + m * 0x8000 + j * 4
/-- `ACQ_MASK_LO` (R553). -/
def ACQ_MASK_LO (m j : Nat) : Nat := 0xA84000 + m * 0x8000 + j * 4
/-- `SC_STATUS` (R589). -/
def SC_STATUS : Nat := 0xB00000
/-- `SC_ECC` (R589). -/
def SC_ECC : Nat := 0xB00004
/-- `SC_CFG` (R585). -/
def SC_CFG (c : Nat) : Nat := 0xB01000 + c * 0x100
/-- `SC_STATE` (R586). -/
def SC_STATE (c : Nat) : Nat := 0xB01004 + c * 0x100
/-- `SC_SR` (R590). -/
def SC_SR (c : Nat) : Nat := 0xB01008 + c * 0x100
/-- `SC_EXC` (R586). -/
def SC_EXC (c : Nat) : Nat := 0xB0100C + c * 0x100
/-- `SC_IRQ` (R587). -/
def SC_IRQ (c : Nat) : Nat := 0xB01010 + c * 0x100
/-- `SC_TIMER` (R587). -/
def SC_TIMER (c : Nat) : Nat := 0xB01014 + c * 0x100
/-- `SC_BUSY` (R587). -/
def SC_BUSY (c : Nat) : Nat := 0xB01018 + c * 0x100
/-- `SC_IN_CFG` (R588). -/
def SC_IN_CFG (c f : Nat) : Nat := 0xB01020 + c * 0x100 + f * 4
/-- `SC_IN_STAT` (R588). -/
def SC_IN_STAT (c f : Nat) : Nat := 0xB01030 + c * 0x100 + f * 4
/-- `SC_RES` (R589). -/
def SC_RES (c i : Nat) : Nat := 0xB01080 + c * 0x100 + i * 4
/-- `SC_PROG` (R582). -/
def SC_PROG (c n : Nat) : Nat := 0xB20000 + c * 0x8000 + n * 4
/-- `SC_DATA` (R582). -/
def SC_DATA (c w : Nat) : Nat := 0xB80000 + c * 0x10000 + w * 4
/-- `SCH_CTRL` (R669). -/
def SCH_CTRL : Nat := 0xC00000
/-- `SCH_STATUS` (R669). -/
def SCH_STATUS : Nat := 0xC00004
/-- `SCH_LAT` (R669). -/
def SCH_LAT : Nat := 0xC00008
/-- `SCH_BIND` (R669). -/
def SCH_BIND (b : Nat) : Nat := 0xC00100 + b * 4
/-- `WC_STATE` (R669). -/
def WC_STATE (c : Nat) : Nat := 0xC00200 + c * 0x20
/-- `WC_CFG` (R669). -/
def WC_CFG (c : Nat) : Nat := 0xC00204 + c * 0x20
/-- `WC_BUSY` (R669). -/
def WC_BUSY (c : Nat) : Nat := 0xC00208 + c * 0x20
/-- `WC_ECC` (R669). -/
def WC_ECC (c : Nat) : Nat := 0xC0020C + c * 0x20
/-- `WC_FAULT` (R669). -/
def WC_FAULT (c : Nat) : Nat := 0xC00210 + c * 0x20
/-- `WI_STATUS` (R669). -/
def WI_STATUS (i : Nat) : Nat := 0xC10000 + i * 8
/-- `WI_COUNT` (R669). -/
def WI_COUNT (i : Nat) : Nat := 0xC10004 + i * 8
/-- `WO_STATUS` (R669). -/
def WO_STATUS (w : Nat) : Nat := 0xC20000 + w * 4
/-- `MEM_CTRL` (R696). -/
def MEM_CTRL : Nat := 0xD00000
/-- `MEM_STATUS` (R696). -/
def MEM_STATUS : Nat := 0xD00004
/-- `MEM_ECC` (R696). -/
def MEM_ECC : Nat := 0xD00008
/-- `MEM_CONFLICT` (R696). -/
def MEM_CONFLICT : Nat := 0xD0000C
/-- `MEM_ERR_ADDR` (`_LO`; `_HI` is the next word) (R696). -/
def MEM_ERR_ADDR : Nat := 0xD00010
/-- `MEM_ERR_INFO` (R696). -/
def MEM_ERR_INFO : Nat := 0xD00018
/-- `MEM_RETIRED` (R696). -/
def MEM_RETIRED (i : Nat) : Nat := 0xD00020 + i * 4
/-- `MEM_GROUP` (R696). -/
def MEM_GROUP (g : Nat) : Nat := 0xD00040 + g * 4
/-- `MEM_SEC` (R696). -/
def MEM_SEC : Nat := 0xD00080
/-- `MST_CTRL` (R696). -/
def MST_CTRL : Nat := 0xD00100
/-- `MST_STATUS` (R696). -/
def MST_STATUS : Nat := 0xD00104
/-- `MST_POLICY` (R696). -/
def MST_POLICY : Nat := 0xD00108
/-- `MST_SCHED` (R696). -/
def MST_SCHED (k : Nat) : Nat := 0xD00110 + k * 4
/-- `MST_REGION` (R696). -/
def MST_REGION (r : Nat) : Nat := 0xD00200 + r * 0x10
/-- `MST_DONE` (R696). -/
def MST_DONE (r : Nat) : Nat := 0xD00204 + r * 0x10
/-- `MST_SIG` (`_LO`; `_HI` is the next word) (R696). -/
def MST_SIG (r : Nat) : Nat := 0xD00208 + r * 0x10
/-- `TWIN_CTRL` (R733). -/
def TWIN_CTRL : Nat := 0xE00000
/-- `TWIN_TIMING` (R733). -/
def TWIN_TIMING : Nat := 0xE00004
/-- `TWIN_STATUS` (R734). -/
def TWIN_STATUS : Nat := 0xE00008
/-- `TWIN_MISS` (R734). -/
def TWIN_MISS : Nat := 0xE0000C
/-- `TWIN_DELAY` (R734). -/
def TWIN_DELAY : Nat := 0xE00010
/-- `TWIN_TERR` (R734). -/
def TWIN_TERR : Nat := 0xE00014
/-- `TWIN_BUDGET` (R734). -/
def TWIN_BUDGET : Nat := 0xE00018
/-- `TWIN_FWD` (R734). -/
def TWIN_FWD : Nat := 0xE0001C
/-- `TWIN_SNAP` (`_LO`; `_HI` is the next word) (R734). -/
def TWIN_SNAP : Nat := 0xE00020
/-- `TWIN_SWITCH` (R734). -/
def TWIN_SWITCH : Nat := 0xE00028
/-- `TWIN_JOURNAL` (R734). -/
def TWIN_JOURNAL : Nat := 0xE0002C
/-- `CK_STATUS` (R757). -/
def CK_STATUS : Nat := 0xF00000
/-- `CK_XMODE` (R757). -/
def CK_XMODE : Nat := 0xF00004
/-- `CK_XSTAT` (R757). -/
def CK_XSTAT : Nat := 0xF00008
/-- `CK_MON` (R757). -/
def CK_MON (d : Nat) : Nat := 0xF00010 + d * 4
/-- `PWR_DOMAIN` (R757). -/
def PWR_DOMAIN (d : Nat) : Nat := 0xF00040 + d * 4
/-- `RST_CAUSE` (R757). -/
def RST_CAUSE : Nat := 0xF00070
/-- `RST_CTRL` (R757). -/
def RST_CTRL : Nat := 0xF00074
/-- `THERM` (R757). -/
def THERM (s : Nat) : Nat := 0xF00080 + s * 4
/-- `THERM_CFG` (R757). -/
def THERM_CFG : Nat := 0xF000A4
end Reg

namespace F
def DEV_ID_PART : Fld := ⟨16, 16⟩
def DEV_STEP_MAJOR : Fld := ⟨4, 4⟩
def DEV_STEP_MINOR : Fld := ⟨0, 4⟩
def DEV_MODE_LENT : Fld := ⟨16, 4⟩
def DEV_MODE_LIFE_CYCLE : Fld := ⟨10, 2⟩
def DEV_MODE_TWIN_ROLE : Fld := ⟨8, 2⟩
def DEV_MODE_MODE : Fld := ⟨0, 3⟩
def DEV_DEFECT_LINK_CHANNEL : Fld := ⟨7, 1⟩
def DEV_DEFECT_CLOCK : Fld := ⟨6, 1⟩
def DEV_DEFECT_THERMAL : Fld := ⟨5, 1⟩
def DEV_DEFECT_SAFETY_PATH : Fld := ⟨4, 1⟩
def DEV_DEFECT_ANALOGUE_PATH : Fld := ⟨3, 1⟩
def DEV_DEFECT_TWIN_PATH : Fld := ⟨2, 1⟩
def DEV_DEFECT_SELFTEST_FAIL : Fld := ⟨1, 1⟩
def DEV_DEFECT_SRAM_UNCORR : Fld := ⟨0, 1⟩
def FOUL_CTRL_RING : Fld := ⟨8, 3⟩
def FOUL_CTRL_VF_COPY : Fld := ⟨1, 1⟩
def FOUL_CTRL_ENABLE : Fld := ⟨0, 1⟩
def FOUL_STATUS_VF_SKIPPED : Fld := ⟨16, 16⟩
def FOUL_STATUS_PENDING : Fld := ⟨0, 11⟩
def HE_CTRL_VF_RESET_STOP : Fld := ⟨0, 1⟩
def HE_STATUS_READS : Fld := ⟨24, 8⟩
def HE_STATUS_WIDTH : Fld := ⟨20, 4⟩
def HE_STATUS_SPEED : Fld := ⟨16, 4⟩
def HE_STATUS_VF_ENABLED : Fld := ⟨0, 16⟩
def HE_WD_CAT : Fld := ⟨16, 2⟩
def HE_WD_PERIOD : Fld := ⟨0, 16⟩
def BOOT_CTRL_LOAD : Fld := ⟨31, 1⟩
def BOOT_CTRL_COMMIT_SVN : Fld := ⟨30, 1⟩
def BOOT_STATUS_SVN : Fld := ⟨16, 16⟩
def BOOT_STATUS_FAILED_CHECK : Fld := ⟨8, 4⟩
def BOOT_STATUS_UNANCHORED : Fld := ⟨7, 1⟩
def BOOT_STATUS_SOURCE : Fld := ⟨5, 2⟩
def BOOT_STATUS_STATE : Fld := ⟨0, 2⟩
def TB_CTRL_SNAP : Fld := ⟨24, 1⟩
def TB_CTRL_PLANT_SLEW : Fld := ⟨12, 10⟩
def TB_CTRL_CELL_SLEW : Fld := ⟨0, 10⟩
def TB_STATUS_ARMED : Fld := ⟨4, 9⟩
def TB_STATUS_PLANT_HOLDOVER : Fld := ⟨3, 1⟩
def TB_STATUS_PLANT_SLEWING : Fld := ⟨2, 1⟩
def TB_STATUS_CELL_SLEWING : Fld := ⟨1, 1⟩
def TB_STATUS_CELL_OWNER : Fld := ⟨0, 1⟩
def DISC_CTRL_ENABLE : Fld := ⟨31, 1⟩
def DISC_CTRL_ALLOW_JUMP : Fld := ⟨30, 1⟩
def DISC_CTRL_TIMEOUT : Fld := ⟨20, 4⟩
def DISC_CTRL_KF : Fld := ⟨12, 8⟩
def DISC_CTRL_PRIO : Fld := ⟨8, 3⟩
def DISC_CTRL_STEP_LIMIT : Fld := ⟨0, 8⟩
def DISC_STATUS_ACCEPTED : Fld := ⟨16, 16⟩
def DISC_STATUS_REJECTED : Fld := ⟨8, 8⟩
def DISC_STATUS_BUSY : Fld := ⟨0, 1⟩
def ACT_CTRL_INDEX : Fld := ⟨24, 8⟩
def ACT_CTRL_KIND : Fld := ⟨20, 4⟩
def ACT_CTRL_PERIODIC : Fld := ⟨17, 1⟩
def ACT_CTRL_VIEW : Fld := ⟨16, 1⟩
def ACT_CTRL_LATE_POLICY : Fld := ⟨15, 1⟩
def ACT_STATUS_FIRED : Fld := ⟨16, 16⟩
def ACT_STATUS_MISSED : Fld := ⟨8, 8⟩
def ACT_STATUS_ARMED : Fld := ⟨0, 1⟩
def LINK_CTRL_LOCK : Fld := ⟨31, 1⟩
def LINK_CTRL_DEFAULT_GUARD : Fld := ⟨24, 3⟩
def LINK_CTRL_LOCK_LOSS : Fld := ⟨16, 8⟩
def LINK_CTRL_MASTER_LOSS : Fld := ⟨8, 8⟩
def LINK_STATION_STATION_ID : Fld := ⟨16, 8⟩
def LINK_STATION_RANK : Fld := ⟨8, 2⟩
def LINK_STATION_COLD_START : Fld := ⟨0, 1⟩
def LINK_CONTAIN_DECAY : Fld := ⟨24, 8⟩
def LINK_CONTAIN_CLOSE_LIMIT : Fld := ⟨8, 8⟩
def LINK_CONTAIN_CONTAIN_LIMIT : Fld := ⟨0, 8⟩
def LINK_JOIN_SILENT : Fld := ⟨24, 8⟩
def LINK_JOIN_DELAY_MAX : Fld := ⟨16, 8⟩
def LINK_JOIN_EDGE_MAX : Fld := ⟨12, 4⟩
def LINK_JOIN_ACK_WAIT : Fld := ⟨8, 4⟩
def LINK_JOIN_PROBATION : Fld := ⟨0, 8⟩
def LINK_STATUS_MASTER : Fld := ⟨24, 8⟩
def LINK_STATUS_ADM_BANK : Fld := ⟨19, 1⟩
def LINK_STATUS_STAGED_VALID : Fld := ⟨18, 1⟩
def LINK_STATUS_SWAP_PENDING : Fld := ⟨17, 1⟩
def LINK_STATUS_BANK : Fld := ⟨16, 1⟩
def LINK_STATUS_STATE : Fld := ⟨0, 3⟩
def LINK_MEMBERS_MEMBERS_B : Fld := ⟨16, 16⟩
def LINK_MEMBERS_MEMBERS_A : Fld := ⟨0, 16⟩
def LINK_TIMERS_JOIN_RETRY : Fld := ⟨16, 8⟩
def LINK_TIMERS_REPROBE : Fld := ⟨0, 16⟩
def PORT_STATUS_CONTAIN_COUNT : Fld := ⟨24, 8⟩
def PORT_STATUS_VIOL_ORBIT : Fld := ⟨16, 8⟩
def PORT_STATUS_NODES : Fld := ⟨8, 8⟩
def PORT_STATUS_LOCK : Fld := ⟨7, 1⟩
def PORT_STATUS_HI_BER : Fld := ⟨6, 1⟩
def PORT_STATUS_STATE : Fld := ⟨0, 3⟩
def PORT_ERR_INVALID_BLOCKS : Fld := ⟨16, 16⟩
def PORT_ERR_NOTICE_LOST : Fld := ⟨8, 8⟩
def PORT_ERR_LOCK_LOSSES : Fld := ⟨0, 8⟩
def NODE_STATUS_FAILED : Fld := ⟨24, 8⟩
def NODE_STATUS_PROB_LEFT : Fld := ⟨16, 8⟩
def NODE_STATUS_MEMB_B : Fld := ⟨11, 3⟩
def NODE_STATUS_MEMB_A : Fld := ⟨8, 3⟩
def NODE_STATUS_PORT : Fld := ⟨0, 5⟩
def NODE_DELAY_DELAY_B : Fld := ⟨16, 16⟩
def NODE_DELAY_DELAY_A : Fld := ⟨0, 16⟩
def NODE_OFS_OFS_B : Fld := ⟨8, 8⟩
def NODE_OFS_OFS_A : Fld := ⟨0, 8⟩
def LINK_MISS_MISS_B : Fld := ⟨16, 16⟩
def LINK_MISS_MISS_A : Fld := ⟨0, 16⟩
def ADM_CTRL_LISTED : Fld := ⟨31, 1⟩
def ADM_CTRL_CHECK_SERIAL : Fld := ⟨30, 1⟩
def SB_CYCLE_ORBIT_LOG : Fld := ⟨16, 3⟩
def SB_CYCLE_PERIOD_US : Fld := ⟨0, 10⟩
def SB_COUNT_N_WINDOWS : Fld := ⟨16, 5⟩
def SB_COUNT_N_ENTRIES : Fld := ⟨0, 12⟩
def SB_APPLY_CMD_APPLY : Fld := ⟨0, 17⟩
def SB_CUTOFF_FB_CUTOFF : Fld := ⟨0, 17⟩
def SB_STATUS_VALID : Fld := ⟨31, 1⟩
def SB_STATUS_FAILED_CHECK : Fld := ⟨16, 8⟩
def SB_STATUS_MAX_ACTIVE : Fld := ⟨0, 10⟩
def SB_WIN_S_USE : Fld := ⟨20, 3⟩
def SB_WIN_S_TYPE : Fld := ⟨17, 3⟩
def SB_WIN_S_START : Fld := ⟨0, 17⟩
def SB_WIN_E_END : Fld := ⟨0, 17⟩
def SB_ENT0_VALID : Fld := ⟨31, 1⟩
def SB_ENT0_TYPE : Fld := ⟨28, 3⟩
def SB_ENT0_KIND : Fld := ⟨24, 4⟩
def SB_ENT0_REP : Fld := ⟨21, 3⟩
def SB_ENT0_BASE : Fld := ⟨15, 6⟩
def SB_ENT0_SLOT : Fld := ⟨0, 9⟩
def SB_ENT1_LEN : Fld := ⟨17, 15⟩
def SB_ENT1_START : Fld := ⟨0, 17⟩
def SB_ENT2_OWNER : Fld := ⟨24, 8⟩
def SB_ENT2_GUARD : Fld := ⟨21, 3⟩
def SB_ENT2_SRC : Fld := ⟨0, 21⟩
def SB_ENT3_CH : Fld := ⟨30, 2⟩
def SB_ENT3_DEST : Fld := ⟨0, 21⟩
def SB_NODE0_SCHEDULED : Fld := ⟨31, 1⟩
def SB_NODE0_CMD_RECORD : Fld := ⟨21, 5⟩
def SB_NODE0_CMD_SLOT : Fld := ⟨12, 9⟩
def SB_NODE0_PORT : Fld := ⟨0, 5⟩
def SB_NODE1_POSITION : Fld := ⟨16, 5⟩
def SB_NODE1_FB_SLOT : Fld := ⟨0, 9⟩
def PLAN_CTRL_TICK_LEN : Fld := ⟨16, 11⟩
def PLAN_CTRL_TICK_LEN_USED : Fld := ⟨0, 11⟩
def PLAN_SERVICE_TCP_LIMIT : Fld := ⟨16, 16⟩
def PLAN_SERVICE_SCALE : Fld := ⟨0, 7⟩
def PLAN_STATUS_MOVING : Fld := ⟨16, 16⟩
def PLAN_STATUS_ENABLED : Fld := ⟨0, 16⟩
def ZONE_CTRL_ENABLE : Fld := ⟨31, 1⟩
def ZONE_CTRL_OWNED : Fld := ⟨30, 1⟩
def ZONE_CTRL_ACQUIRED : Fld := ⟨29, 1⟩
def ZONE_CTRL_OWNER : Fld := ⟨24, 4⟩
def ZONE_CTRL_N_PLANES : Fld := ⟨16, 5⟩
def ZONE_CTRL_RELEASE_TICKS : Fld := ⟨8, 8⟩
def ZONE_CTRL_MARGIN : Fld := ⟨0, 8⟩
def GRP_STATE_STOP_END : Fld := ⟨12, 3⟩
def GRP_STATE_HOLD_CAUSE : Fld := ⟨8, 3⟩
def GRP_STATE_KIND : Fld := ⟨4, 2⟩
def GRP_STATE_STOP_REQ : Fld := ⟨3, 1⟩
def GRP_STATE_STATE : Fld := ⟨0, 3⟩
def GRP_CTRL_TSTOP : Fld := ⟨16, 12⟩
def GRP_CTRL_AUTO_RESUME : Fld := ⟨1, 1⟩
def GRP_OVERRIDE_OVERRIDE : Fld := ⟨0, 17⟩
def GRP_SPEED_FACTOR_FACTOR : Fld := ⟨0, 17⟩
def GRP_LAG_JOINT : Fld := ⟨28, 4⟩
def GRP_LAG_LAG : Fld := ⟨0, 28⟩
def GRP_QUEUE_FREE : Fld := ⟨8, 5⟩
def GRP_QUEUE_QUEUED : Fld := ⟨0, 5⟩
def GRP_FAULT_SERVO : Fld := ⟨7, 1⟩
def GRP_FAULT_ZONE_OVERRUN : Fld := ⟨6, 1⟩
def GRP_FAULT_SETPOINT_SAT : Fld := ⟨5, 1⟩
def GRP_FAULT_FK_FAIL : Fld := ⟨4, 1⟩
def GRP_FAULT_SERVICE_SPEED : Fld := ⟨3, 1⟩
def GRP_FAULT_PLAN_MISSING : Fld := ⟨2, 1⟩
def GRP_FAULT_TRACK_SOURCE : Fld := ⟨1, 1⟩
def GRP_FAULT_TRACK_LAG : Fld := ⟨0, 1⟩
def GRP_MODEL_LOADED : Fld := ⟨31, 1⟩
def GRP_MODEL_KIND : Fld := ⟨8, 2⟩
def GRP_MODEL_N_JOINTS : Fld := ⟨0, 5⟩
def JNT_AXIS_AXIS : Fld := ⟨0, 8⟩
def OPT_CTRL_DEADLINE_PCT : Fld := ⟨0, 8⟩
def OPT_STATUS_RETIRED : Fld := ⟨24, 8⟩
def OPT_STATUS_LENT : Fld := ⟨16, 8⟩
def OPT_STATUS_ACTIVE : Fld := ⟨8, 8⟩
def OPT_STATUS_MEETS_LENT : Fld := ⟨3, 1⟩
def OPT_STATUS_COMMIT_PENDING : Fld := ⟨2, 1⟩
def OPT_STATUS_STAGED_VALID : Fld := ⟨1, 1⟩
def OPT_STATUS_BANK : Fld := ⟨0, 1⟩
def OPT_CHECK_FAILED_CHECK : Fld := ⟨8, 8⟩
def OPT_CHECK_STAGED_MEETS_LENT : Fld := ⟨1, 1⟩
def OPT_CHECK_STAGED_MEETS_FULL : Fld := ⟨0, 1⟩
def OPT_CLU_STATUS_STATE : Fld := ⟨24, 4⟩
def OPT_CLU_STATUS_GROUP : Fld := ⟨16, 4⟩
def OPT_CLU_STATUS_ECC_CORR : Fld := ⟨0, 16⟩
def OPT_CLU_FLAGS_INVALID : Fld := ⟨3, 1⟩
def OPT_CLU_FLAGS_DIVZERO : Fld := ⟨2, 1⟩
def OPT_CLU_FLAGS_OVERFLOW : Fld := ⟨1, 1⟩
def OPT_CLU_FLAGS_UNDERFLOW : Fld := ⟨0, 1⟩
def OPT_GRP_STATUS_WIDTH : Fld := ⟨26, 2⟩
def OPT_GRP_STATUS_MID_FACTOR : Fld := ⟨25, 1⟩
def OPT_GRP_STATUS_SOLUTION : Fld := ⟨24, 1⟩
def OPT_GRP_STATUS_TEMPLATE : Fld := ⟨16, 5⟩
def OPT_GRP_STATUS_ITER : Fld := ⟨8, 8⟩
def OPT_GRP_STATUS_STATUS : Fld := ⟨0, 8⟩
def OPT_GRP_NFCOL_PHASE : Fld := ⟨28, 4⟩
def OPT_GRP_NFCOL_CANON : Fld := ⟨16, 11⟩
def OPT_GRP_NFCOL_ELIM : Fld := ⟨0, 11⟩
def OPT_GRP_DYN_LOADED : Fld := ⟨31, 1⟩
def OPT_GRP_DYN_N_JOINTS : Fld := ⟨0, 5⟩
def SRV_CTRL_EN_TIMEOUT : Fld := ⟨0, 16⟩
def SRV_STATUS_LENT : Fld := ⟨28, 4⟩
def SRV_STATUS_RETIRED : Fld := ⟨16, 9⟩
def SRV_STATUS_SPARE : Fld := ⟨9, 4⟩
def SRV_STATUS_ACTIVE : Fld := ⟨0, 9⟩
def SRV_COMPUTE_MAX : Fld := ⟨16, 16⟩
def SRV_COMPUTE_LAST : Fld := ⟨0, 16⟩
def SRV_REQ_BRAKE : Fld := ⟨16, 8⟩
def SRV_REQ_STO : Fld := ⟨0, 16⟩
def SRV_CHECK_AXIS : Fld := ⟨8, 8⟩
def SRV_CHECK_FAILED_CHECK : Fld := ⟨0, 8⟩
def SRV_GRP_SAFE_BRAKE_TIME : Fld := ⟨24, 7⟩
def SRV_GRP_SAFE_BRAKE_MASK : Fld := ⟨16, 8⟩
def SRV_GRP_SAFE_STO_MASK : Fld := ⟨0, 16⟩
def SRV_AX_CFG_ACTIVE : Fld := ⟨31, 1⟩
def SRV_AX_CFG_OUT_KIND : Fld := ⟨29, 2⟩
def SRV_AX_CFG_SWAP_SET : Fld := ⟨24, 5⟩
def SRV_AX_CFG_FB_RECORD : Fld := ⟨20, 4⟩
def SRV_AX_CFG_NODE : Fld := ⟨8, 8⟩
def SRV_AX_DET_FRZ_N : Fld := ⟨24, 8⟩
def SRV_AX_DET_FRZ_TOL : Fld := ⟨16, 8⟩
def SRV_AX_DET_LOST_N : Fld := ⟨0, 4⟩
def SRV_AX_FE_TIME_FE_TIME : Fld := ⟨0, 20⟩
def SRV_AX_STATE_MISS_RUN : Fld := ⟨24, 8⟩
def SRV_AX_STATE_FRZ_RUN : Fld := ⟨16, 8⟩
def SRV_AX_STATE_MODE : Fld := ⟨12, 2⟩
def SRV_AX_STATE_BANK : Fld := ⟨11, 1⟩
def SRV_AX_STATE_EXTRAP : Fld := ⟨10, 1⟩
def SRV_AX_STATE_PROBATION_FB : Fld := ⟨9, 1⟩
def SRV_AX_STATE_NODE_HOLDING : Fld := ⟨8, 1⟩
def SRV_AX_STATE_STO_ACTIVE : Fld := ⟨7, 1⟩
def SRV_AX_STATE_ENABLED : Fld := ⟨6, 1⟩
def SRV_AX_STATE_FAULT : Fld := ⟨5, 1⟩
def SRV_AX_STATE_READY : Fld := ⟨4, 1⟩
def SRV_AX_STATE_FB : Fld := ⟨2, 2⟩
def SRV_AX_SAT_TLIM : Fld := ⟨13, 1⟩
def SRV_AX_SAT_BQ1 : Fld := ⟨12, 1⟩
def SRV_AX_SAT_BQ0 : Fld := ⟨11, 1⟩
def SRV_AX_SAT_SUM : Fld := ⟨10, 1⟩
def SRV_AX_SAT_TFF : Fld := ⟨9, 1⟩
def SRV_AX_SAT_AFF : Fld := ⟨8, 1⟩
def SRV_AX_SAT_ITERM : Fld := ⟨7, 1⟩
def SRV_AX_SAT_PTERM : Fld := ⟨6, 1⟩
def SRV_AX_SAT_VERR : Fld := ⟨5, 1⟩
def SRV_AX_SAT_VCMD : Fld := ⟨4, 1⟩
def SRV_AX_SAT_ERR : Fld := ⟨3, 1⟩
def SRV_AX_SAT_VFB : Fld := ⟨2, 1⟩
def SRV_AX_SAT_DPOS : Fld := ⟨1, 1⟩
def SRV_AX_SAT_POS : Fld := ⟨0, 1⟩
def SRV_AX_MISS_SEQ_ERR : Fld := ⟨16, 16⟩
def SRV_AX_MISS_MISSING : Fld := ⟨0, 16⟩
def SRV_CF_SHIFT_AW_COND : Fld := ⟨19, 1⟩
def SRV_CF_SHIFT_BQ_CLEAR : Fld := ⟨18, 1⟩
def SRV_CF_SHIFT_BQ1_EN : Fld := ⟨17, 1⟩
def SRV_CF_SHIFT_BQ0_EN : Fld := ⟨16, 1⟩
def SRV_CF_SHIFT_SA : Fld := ⟨8, 6⟩
def SRV_CF_SHIFT_SV : Fld := ⟨0, 6⟩
def SRV_GRP_STATUS_FAULT_AXIS : Fld := ⟨24, 8⟩
def SRV_GRP_STATUS_CAUSE : Fld := ⟨16, 4⟩
def SRV_GRP_STATUS_FAULT_BRAKING : Fld := ⟨5, 1⟩
def SRV_GRP_STATUS_BRAKE_REQ : Fld := ⟨4, 1⟩
def SRV_GRP_STATUS_STO_REQ : Fld := ⟨3, 1⟩
def SRV_GRP_STATUS_PHASE : Fld := ⟨0, 3⟩
def SEP_STATUS_STALE : Fld := ⟨16, 16⟩
def SEP_STATUS_LENT_FROM_RUN : Fld := ⟨4, 1⟩
def SEP_STATUS_OVER_BUDGET : Fld := ⟨3, 1⟩
def SEP_STATUS_STATE : Fld := ⟨0, 3⟩
def SEP_GRID_CFG_NZ_M1 : Fld := ⟨25, 7⟩
def SEP_GRID_CFG_NY_M1 : Fld := ⟨17, 8⟩
def SEP_GRID_CFG_NX_M1 : Fld := ⟨9, 8⟩
def SEP_GRID_CFG_PITCH : Fld := ⟨0, 6⟩
def SEP_HUMAN_V_H : Fld := ⟨0, 16⟩
def SEP_TR_TR_US : Fld := ⟨0, 20⟩
def SEP_ALLOW_C_M_SLOW : Fld := ⟨16, 16⟩
def SEP_ALLOW_C_C : Fld := ⟨0, 16⟩
def SEP_ALLOW_Z_Z_R : Fld := ⟨16, 16⟩
def SEP_ALLOW_Z_Z_D : Fld := ⟨0, 16⟩
def SEP_RELEASE_HYST : Fld := ⟨16, 16⟩
def SEP_RELEASE_HOLD_TICKS : Fld := ⟨0, 8⟩
def SEP_RISE_RISE : Fld := ⟨0, 17⟩
def SEP_SENSOR_SENSOR_EN : Fld := ⟨16, 16⟩
def SEP_SENSOR_MAX_AGE : Fld := ⟨0, 16⟩
def SEP_SELF_MARGIN : Fld := ⟨0, 16⟩
def SEP_RR_RR_SLOW : Fld := ⟨16, 16⟩
def SEP_RR_RR_STOP : Fld := ⟨0, 16⟩
def SEP_PRED_PRED_STEP : Fld := ⟨8, 7⟩
def SEP_PRED_PRED_N : Fld := ⟨0, 4⟩
def SEP_RR_EXCL_EXCL : Fld := ⟨0, 16⟩
def SEP_IGN_MIN_ENABLE : Fld := ⟨31, 1⟩
def SEP_IGN_MIN_Z : Fld := ⟨16, 7⟩
def SEP_IGN_MIN_Y : Fld := ⟨8, 8⟩
def SEP_IGN_MIN_X : Fld := ⟨0, 8⟩
def SEP_IGN_MAX_Z : Fld := ⟨16, 7⟩
def SEP_IGN_MAX_Y : Fld := ⟨8, 8⟩
def SEP_IGN_MAX_X : Fld := ⟨0, 8⟩
def SEP_GRP_CTRL_MON_EN : Fld := ⟨31, 1⟩
def SEP_GRP_CTRL_RR_EN : Fld := ⟨30, 1⟩
def SEP_GRP_CTRL_SENSOR_MASK : Fld := ⟨0, 16⟩
def SEP_GRP_VREF_V_REF : Fld := ⟨0, 16⟩
def SEP_SENS_CFG_NODE : Fld := ⟨0, 8⟩
def SEP_SENS_STATUS_STALE : Fld := ⟨31, 1⟩
def SEP_SENS_STATUS_ASSEMBLING : Fld := ⟨30, 1⟩
def SEP_SENS_STATUS_BLIND : Fld := ⟨29, 1⟩
def SEP_SENS_STATUS_RECORDS : Fld := ⟨0, 16⟩
def SEP_SENS_ERR_UNITS_DISCARDED : Fld := ⟨16, 16⟩
def SEP_SENS_ERR_RECORDS_DISCARDED : Fld := ⟨0, 16⟩
def SEP_CAP_CTRL_ENABLE : Fld := ⟨31, 1⟩
def SEP_CAP_CTRL_RADIUS : Fld := ⟨16, 11⟩
def SEP_CAP_CTRL_ATTACH : Fld := ⟨0, 6⟩
def SEP_GRP_STATUS_STOP_REQ : Fld := ⟨31, 1⟩
def SEP_GRP_STATUS_OVERRUN : Fld := ⟨28, 1⟩
def SEP_GRP_STATUS_NOT_RUNNING : Fld := ⟨27, 1⟩
def SEP_GRP_STATUS_STALE : Fld := ⟨26, 1⟩
def SEP_GRP_STATUS_ROBOT : Fld := ⟨25, 1⟩
def SEP_GRP_STATUS_PERSON : Fld := ⟨24, 1⟩
def SEP_GRP_STATUS_HOLD_LEFT : Fld := ⟨16, 8⟩
def SEP_GRP_STATUS_UNPLACED : Fld := ⟨15, 1⟩
def SEP_GRP_STATUS_MIN_CAP : Fld := ⟨0, 4⟩
def SEP_GRP_DMIN_SP : Fld := ⟨16, 16⟩
def SEP_GRP_DMIN_D : Fld := ⟨0, 16⟩
def SEP_GRP_FNEXT_FACTOR : Fld := ⟨0, 17⟩
def SEP_GRP_RR_OTHER : Fld := ⟨28, 4⟩
def SEP_GRP_RR_INSTANT : Fld := ⟨24, 4⟩
def SEP_GRP_RR_D_RR : Fld := ⟨0, 16⟩
def SEP_GRP_CAPEN_ENABLED : Fld := ⟨0, 16⟩
def SEP_CAP_D_OUTSIDE : Fld := ⟨31, 1⟩
def SEP_CAP_D_F_MIN : Fld := ⟨16, 12⟩
def SEP_CAP_D_D : Fld := ⟨0, 12⟩
def SEP_CAP_V_V_R : Fld := ⟨0, 16⟩
def SF_STATUS_PATH_OK : Fld := ⟨31, 1⟩
def SF_STATUS_SESSION : Fld := ⟨30, 1⟩
def SF_STATUS_AUTH_BLOCKED : Fld := ⟨29, 1⟩
def SF_STATUS_FRESH : Fld := ⟨28, 1⟩
def SF_STATUS_RETURNED_LOCK : Fld := ⟨27, 1⟩
def SF_STATUS_DIE_FAULT : Fld := ⟨26, 1⟩
def SF_STATUS_FRAMES : Fld := ⟨0, 16⟩
def SF_PATH_CRC_ERR : Fld := ⟨16, 16⟩
def SF_PATH_GAPS : Fld := ⟨0, 16⟩
def SF_REQ_TRIP : Fld := ⟨31, 1⟩
def SF_REQ_BRK : Fld := ⟨16, 8⟩
def SF_REQ_STO : Fld := ⟨0, 16⟩
def SF_REQ_SEEN_TRIP : Fld := ⟨31, 1⟩
def SF_REQ_SEEN_BRK : Fld := ⟨16, 8⟩
def SF_REQ_SEEN_STO : Fld := ⟨0, 16⟩
def SF_STO_OUT_REQUESTED : Fld := ⟨16, 16⟩
def SF_STO_OUT_CLOSED : Fld := ⟨0, 16⟩
def SF_STO_RB_Y_HIGH : Fld := ⟨16, 16⟩
def SF_STO_RB_X_HIGH : Fld := ⟨0, 16⟩
def SF_BRK_FAULT : Fld := ⟨24, 8⟩
def SF_BRK_TESTING : Fld := ⟨16, 8⟩
def SF_BRK_REQUESTED : Fld := ⟨8, 8⟩
def SF_BRK_RELEASED : Fld := ⟨0, 8⟩
def SF_COUPLE_COUPLE0 : Fld := ⟨0, 2⟩
def SF_COUPLE_COUPLE1 : Fld := ⟨2, 2⟩
def SF_COUPLE_COUPLE2 : Fld := ⟨4, 2⟩
def SF_COUPLE_COUPLE3 : Fld := ⟨6, 2⟩
def SF_COUPLE_COUPLE4 : Fld := ⟨8, 2⟩
def SF_COUPLE_COUPLE5 : Fld := ⟨10, 2⟩
def SF_COUPLE_COUPLE6 : Fld := ⟨12, 2⟩
def SF_COUPLE_COUPLE7 : Fld := ⟨14, 2⟩
def SF_COUPLE_COUPLE8 : Fld := ⟨16, 2⟩
def SF_COUPLE_COUPLE9 : Fld := ⟨18, 2⟩
def SF_COUPLE_COUPLE10 : Fld := ⟨20, 2⟩
def SF_COUPLE_COUPLE11 : Fld := ⟨22, 2⟩
def SF_COUPLE_COUPLE12 : Fld := ⟨24, 2⟩
def SF_COUPLE_COUPLE13 : Fld := ⟨26, 2⟩
def SF_COUPLE_COUPLE14 : Fld := ⟨28, 2⟩
def SF_COUPLE_COUPLE15 : Fld := ⟨30, 2⟩
def SF_PAIR_STATE_STARTUP_DONE0 : Fld := ⟨3, 1⟩
def SF_PAIR_STATE_STARTUP_DONE1 : Fld := ⟨7, 1⟩
def SF_PAIR_STATE_STARTUP_DONE2 : Fld := ⟨11, 1⟩
def SF_PAIR_STATE_STARTUP_DONE3 : Fld := ⟨15, 1⟩
def SF_PAIR_STATE_STARTUP_DONE4 : Fld := ⟨19, 1⟩
def SF_PAIR_STATE_STARTUP_DONE5 : Fld := ⟨23, 1⟩
def SF_PAIR_STATE_STARTUP_DONE6 : Fld := ⟨27, 1⟩
def SF_PAIR_STATE_STARTUP_DONE7 : Fld := ⟨31, 1⟩
def SF_PAIR_STATE_STATE0 : Fld := ⟨0, 3⟩
def SF_PAIR_STATE_STATE1 : Fld := ⟨4, 3⟩
def SF_PAIR_STATE_STATE2 : Fld := ⟨8, 3⟩
def SF_PAIR_STATE_STATE3 : Fld := ⟨12, 3⟩
def SF_PAIR_STATE_STATE4 : Fld := ⟨16, 3⟩
def SF_PAIR_STATE_STATE5 : Fld := ⟨20, 3⟩
def SF_PAIR_STATE_STATE6 : Fld := ⟨24, 3⟩
def SF_PAIR_STATE_STATE7 : Fld := ⟨28, 3⟩
def SF_ZONE_LOCK_CAUSE : Fld := ⟨24, 8⟩
def SF_ZONE_TRIP_CAUSE : Fld := ⟨20, 4⟩
def SF_ZONE_STOP_CAT : Fld := ⟨18, 2⟩
def SF_ZONE_DELAY_RUNNING : Fld := ⟨17, 1⟩
def SF_ZONE_STARTUP_PEND : Fld := ⟨16, 1⟩
def SF_ZONE_DEMAND : Fld := ⟨15, 1⟩
def SF_ZONE_STALE : Fld := ⟨14, 1⟩
def SF_ZONE_STATE : Fld := ⟨0, 2⟩
def SF_BRK_I_I_MA : Fld := ⟨0, 16⟩
def LA_OUT_STATE_LEVEL : Fld := ⟨0, 16⟩
def LA_OUT_CFG_ENABLE : Fld := ⟨31, 1⟩
def LA_OUT_CFG_INVERT : Fld := ⟨30, 1⟩
def LA_CH_CFG_RUN : Fld := ⟨31, 1⟩
def LA_CH_CFG_INPUT : Fld := ⟨28, 3⟩
def LA_CH_CFG_INVERT : Fld := ⟨27, 1⟩
def LA_CH_CFG_FILT_X : Fld := ⟨16, 8⟩
def LA_CH_CFG_FILT_D : Fld := ⟨8, 8⟩
def LA_CH_CFG_INVAL_MASK : Fld := ⟨0, 6⟩
def LA_CH_LINES_LC_EN : Fld := ⟨31, 1⟩
def LA_CH_LINES_LINES : Fld := ⟨8, 20⟩
def LA_CH_LINES_LC_TOL : Fld := ⟨0, 8⟩
def LA_CH_STATUS_VALID : Fld := ⟨15, 1⟩
def LA_CH_STATUS_DIR : Fld := ⟨14, 1⟩
def LA_CH_STATUS_X : Fld := ⟨3, 2⟩
def LA_CH_STATUS_D : Fld := ⟨0, 3⟩
def LA_CH_ERR_STEP_SAT : Fld := ⟨7, 1⟩
def LA_CH_ERR_MISMATCH : Fld := ⟨6, 1⟩
def LA_CH_ERR_PATH : Fld := ⟨5, 1⟩
def LA_CH_ERR_CHOP_FAULT : Fld := ⟨4, 1⟩
def LA_CH_ERR_RX_FAULT : Fld := ⟨3, 1⟩
def LA_CH_ERR_LINE_COUNT : Fld := ⟨2, 1⟩
def LA_CH_ERR_IMPOSSIBLE : Fld := ⟨1, 1⟩
def LA_CH_ERR_ILLEGAL : Fld := ⟨0, 1⟩
def LA_CH_ERRCNT_ILLEGAL : Fld := ⟨16, 16⟩
def LA_CH_ERRCNT_IMPOSSIBLE : Fld := ⟨8, 8⟩
def LA_CH_ERRCNT_LINE_COUNT : Fld := ⟨0, 8⟩
def LA_CH_LATCH_CFG_ARM : Fld := ⟨31, 1⟩
def LA_CH_LATCH_CFG_CONT : Fld := ⟨30, 1⟩
def LA_CH_LATCH_CFG_SRC : Fld := ⟨28, 2⟩
def LA_CH_LATCH_CFG_EDGE : Fld := ⟨26, 2⟩
def LA_CH_LATCH_CFG_EVENT : Fld := ⟨25, 1⟩
def LA_CH_LATCH_STAT_LOST : Fld := ⟨8, 8⟩
def LA_CH_LATCH_STAT_HEAD_SRC : Fld := ⟨4, 1⟩
def LA_CH_LATCH_STAT_HEAD_EDGE : Fld := ⟨3, 1⟩
def LA_CH_LATCH_STAT_LEVEL : Fld := ⟨0, 3⟩
def LA_CH_OUT_MODE : Fld := ⟨30, 2⟩
def LA_CH_OUT_DIR_INV : Fld := ⟨29, 1⟩
def LA_CH_OUT_STEP_W : Fld := ⟨12, 12⟩
def LA_CH_OUT_DIR_SETUP : Fld := ⟨0, 8⟩
def LA_CH_CMP_CTRL_ENABLED : Fld := ⟨31, 1⟩
def LA_CH_CMP_CTRL_FIRED : Fld := ⟨0, 16⟩
def LA_CMP_CTRL_VALID : Fld := ⟨31, 1⟩
def LA_CMP_CTRL_REARM : Fld := ⟨30, 1⟩
def LA_CMP_CTRL_DIR : Fld := ⟨28, 2⟩
def LA_CMP_CTRL_ACTION : Fld := ⟨26, 2⟩
def LA_CMP_CTRL_OUT : Fld := ⟨22, 4⟩
def LA_CMP_CTRL_WIDTH : Fld := ⟨0, 18⟩
def LA_ST_CUR_I_MAX : Fld := ⟨16, 16⟩
def LA_ST_CUR_I_MIN : Fld := ⟨0, 16⟩
def LA_ST_HOLD_I_HOLD : Fld := ⟨16, 16⟩
def LA_ST_HOLD_IZERO : Fld := ⟨8, 8⟩
def LA_ST_HOLD_HOLD_DELAY : Fld := ⟨0, 8⟩
def LA_ST_LOAD_RHO_HI : Fld := ⟨24, 8⟩
def LA_ST_LOAD_RHO_LO : Fld := ⟨16, 8⟩
def LA_ST_LOAD_SLEW : Fld := ⟨0, 16⟩
def LA_ST_CHOP_HYST : Fld := ⟨22, 10⟩
def LA_ST_CHOP_DECAY : Fld := ⟨20, 2⟩
def LA_ST_CHOP_FAST_T : Fld := ⟨12, 8⟩
def LA_ST_CHOP_BLANK : Fld := ⟨4, 8⟩
def LA_ST_CHOP_DEAD : Fld := ⟨0, 4⟩
def LA_ST_ADAPT_KA : Fld := ⟨24, 8⟩
def LA_ST_ADAPT_INTERVAL : Fld := ⟨16, 8⟩
def LA_ST_ADAPT_OFS_MAX : Fld := ⟨0, 16⟩
def LA_ST_SENSE_IOCP : Fld := ⟨16, 16⟩
def LA_ST_SENSE_IFS : Fld := ⟨0, 16⟩
def LA_ST_CPE_CPE : Fld := ⟨0, 24⟩
def LA_ST_STATUS_I_RUN : Fld := ⟨16, 16⟩
def LA_ST_STATUS_CHOP_OFF : Fld := ⟨15, 1⟩
def LA_ST_STATUS_MSTEP : Fld := ⟨0, 6⟩
def LA_ST_MEAS_MEAN_B : Fld := ⟨16, 16⟩
def LA_ST_MEAS_MEAN_A : Fld := ⟨0, 16⟩
def LA_ST_OFS_OFS_B : Fld := ⟨16, 16⟩
def LA_ST_OFS_OFS_A : Fld := ⟨0, 16⟩
def LA_ST_RHO_RHO : Fld := ⟨0, 8⟩
def ACQ_STATUS_PATH_OK : Fld := ⟨16, 1⟩
def ACQ_STATUS_ACTIVE : Fld := ⟨0, 16⟩
def ACQ_TB_CFG_ENABLE : Fld := ⟨31, 1⟩
def ACQ_TB_CFG_PEER : Fld := ⟨28, 3⟩
def ACQ_TB_CFG_SYNC_LEAD : Fld := ⟨16, 12⟩
def ACQ_TB_CFG_SYNC_PERIOD : Fld := ⟨0, 16⟩
def ACQ_TB_STATUS_PULSE_ERR : Fld := ⟨24, 8⟩
def ACQ_TB_STATUS_SYNC_SEEN : Fld := ⟨5, 1⟩
def ACQ_TB_STATUS_CAL_OK : Fld := ⟨0, 5⟩
def ACQ_TB_OWN_OWN_SYNC : Fld := ⟨12, 3⟩
def ACQ_TB_OWN_OWN_L : Fld := ⟨0, 12⟩
def ACQ_TB_DELAY_DELAY : Fld := ⟨0, 16⟩
def ACQ_AIN_CFG_SET : Fld := ⟨8, 5⟩
def ACQ_AIN_CFG_RANGE : Fld := ⟨0, 1⟩
def ACQ_AIN_STATUS_CONV_FAULT : Fld := ⟨31, 1⟩
def ACQ_AIN_STATUS_PATH : Fld := ⟨30, 1⟩
def ACQ_AIN_STATUS_OVR : Fld := ⟨29, 1⟩
def ACQ_AIN_STATUS_LAST : Fld := ⟨0, 16⟩
def ACQ_SET_CFG_MODE : Fld := ⟨30, 2⟩
def ACQ_SET_CFG_COUNT : Fld := ⟨0, 16⟩
def ACQ_SET_PER_PER : Fld := ⟨0, 24⟩
def ACQ_SET_STATUS_RUNNING : Fld := ⟨31, 1⟩
def ACQ_SET_STATUS_REFUSED : Fld := ⟨0, 16⟩
def ACQ_STR_CFG_ENABLE : Fld := ⟨31, 1⟩
def ACQ_STR_CFG_NODE : Fld := ⟨0, 8⟩
def ACQ_STR_STAT_LOST_FRAG : Fld := ⟨16, 16⟩
def ACQ_STR_STAT_DISCARDED : Fld := ⟨0, 16⟩
def ACQ_PRB_CFG_ENABLE : Fld := ⟨31, 1⟩
def ACQ_PRB_CFG_CODE : Fld := ⟨8, 5⟩
def ACQ_PRB_CFG_AXIS : Fld := ⟨0, 8⟩
def ACQ_U_CFG_STREAM : Fld := ⟨31, 1⟩
def ACQ_U_CFG_CLASS : Fld := ⟨29, 2⟩
def ACQ_U_CFG_RMODE : Fld := ⟨27, 2⟩
def ACQ_U_CFG_EARLY : Fld := ⟨26, 1⟩
def ACQ_U_CFG_AUTO_REARM : Fld := ⟨25, 1⟩
def ACQ_U_CFG_K : Fld := ⟨21, 4⟩
def ACQ_U_CFG_SEGMENTS : Fld := ⟨16, 5⟩
def ACQ_U_CFG_SET : Fld := ⟨12, 4⟩
def ACQ_U_CFG_N_SRC : Fld := ⟨0, 5⟩
def ACQ_U_MEM_BANKS : Fld := ⟨16, 8⟩
def ACQ_U_MEM_FIRST_BANK : Fld := ⟨0, 8⟩
def ACQ_U_TRIG_TYPE : Fld := ⟨29, 3⟩
def ACQ_U_TRIG_DIR : Fld := ⟨27, 2⟩
def ACQ_U_TRIG_TSRC : Fld := ⟨23, 4⟩
def ACQ_U_TRIG_BUS_LINE : Fld := ⟨21, 2⟩
def ACQ_U_TRIG_OUT_EN : Fld := ⟨20, 1⟩
def ACQ_U_TRIG_OUT_LINE : Fld := ⟨18, 2⟩
def ACQ_U_EVENT_CODE_MASK : Fld := ⟨16, 16⟩
def ACQ_U_EVENT_CODE : Fld := ⟨0, 16⟩
def ACQ_U_MASK_EN : Fld := ⟨31, 1⟩
def ACQ_U_MASK_TABLE : Fld := ⟨29, 2⟩
def ACQ_U_MASK_MSRC : Fld := ⟨25, 4⟩
def ACQ_U_MASK_MASK_LEN : Fld := ⟨0, 13⟩
def ACQ_U_STREAM_RING : Fld := ⟨26, 6⟩
def ACQ_U_STREAM_HIGH : Fld := ⟨19, 7⟩
def ACQ_U_STREAM_LOW : Fld := ⟨12, 7⟩
def ACQ_U_STREAM_CHUNK_LOG : Fld := ⟨8, 4⟩
def ACQ_U_STREAM_RESTORE : Fld := ⟨0, 8⟩
def ACQ_U_STATE_STATE : Fld := ⟨28, 4⟩
def ACQ_U_STATE_DEC_LOG : Fld := ⟨25, 3⟩
def ACQ_U_STATE_SEGMENT : Fld := ⟨20, 5⟩
def ACQ_U_STATE_LOST_LEVEL : Fld := ⟨0, 5⟩
def ACQ_U_STAT_LOST : Fld := ⟨16, 16⟩
def ACQ_U_STAT_HELD_OFF : Fld := ⟨0, 16⟩
def ACQ_U_SRC_SRC0 : Fld := ⟨0, 8⟩
def ACQ_U_SRC_SRC1 : Fld := ⟨8, 8⟩
def ACQ_U_SRC_SRC2 : Fld := ⟨16, 8⟩
def ACQ_U_SRC_SRC3 : Fld := ⟨24, 8⟩
def SC_STATUS_FAULTED : Fld := ⟨24, 8⟩
def SC_STATUS_LENT : Fld := ⟨16, 8⟩
def SC_STATUS_WAITING : Fld := ⟨8, 8⟩
def SC_STATUS_RUNNING : Fld := ⟨0, 8⟩
def SC_ECC_DATA_CORR : Fld := ⟨16, 16⟩
def SC_ECC_PROG_CORR : Fld := ⟨0, 16⟩
def SC_CFG_LENDABLE : Fld := ⟨31, 1⟩
def SC_CFG_SWAP_TMO : Fld := ⟨16, 8⟩
def SC_CFG_SWAP_ENTRY : Fld := ⟨0, 13⟩
def SC_STATE_STATE : Fld := ⟨29, 3⟩
def SC_STATE_BANK : Fld := ⟨28, 1⟩
def SC_STATE_COMMIT_PEND : Fld := ⟨27, 1⟩
def SC_STATE_PC : Fld := ⟨0, 13⟩
def SC_SR_IE : Fld := ⟨15, 1⟩
def SC_SR_IN_ISR : Fld := ⟨14, 1⟩
def SC_SR_FRAC : Fld := ⟨13, 1⟩
def SC_SR_LA1 : Fld := ⟨12, 1⟩
def SC_SR_LA0 : Fld := ⟨11, 1⟩
def SC_SR_WRAP_ADJ : Fld := ⟨10, 1⟩
def SC_SR_IOE : Fld := ⟨9, 1⟩
def SC_SR_DSAT : Fld := ⟨8, 1⟩
def SC_SR_AV1 : Fld := ⟨7, 1⟩
def SC_SR_AV0 : Fld := ⟨6, 1⟩
def SC_SR_N : Fld := ⟨3, 1⟩
def SC_SR_Z : Fld := ⟨2, 1⟩
def SC_SR_V : Fld := ⟨1, 1⟩
def SC_SR_C : Fld := ⟨0, 1⟩
def SC_EXC_CAUSE : Fld := ⟨24, 5⟩
def SC_EXC_PC : Fld := ⟨0, 13⟩
def SC_IRQ_PENDING : Fld := ⟨16, 4⟩
def SC_IRQ_ENABLE : Fld := ⟨0, 4⟩
def SC_IN_CFG_ENABLE : Fld := ⟨31, 1⟩
def SC_IN_CFG_KIND : Fld := ⟨30, 1⟩
def SC_IN_CFG_CHAN : Fld := ⟨8, 6⟩
def SC_IN_CFG_THRESH : Fld := ⟨0, 8⟩
def SC_IN_STAT_LOST : Fld := ⟨16, 16⟩
def SC_IN_STAT_EMPTY_READS : Fld := ⟨8, 8⟩
def SC_IN_STAT_LEVEL : Fld := ⟨0, 8⟩
def SC_RES_RES_HI : Fld := ⟨16, 16⟩
def SC_RES_RES_LO : Fld := ⟨0, 16⟩
def SCH_CTRL_RUN_WARN : Fld := ⟨0, 16⟩
def SCH_STATUS_IN_USE : Fld := ⟨16, 13⟩
def SCH_STATUS_READY : Fld := ⟨0, 13⟩
def SCH_LAT_MAX : Fld := ⟨16, 16⟩
def SCH_LAT_LAST : Fld := ⟨0, 16⟩
def SCH_BIND_ENABLE : Fld := ⟨31, 1⟩
def SCH_BIND_KIND : Fld := ⟨28, 3⟩
def SCH_BIND_ITEM : Fld := ⟨16, 12⟩
def SCH_BIND_CODE : Fld := ⟨0, 16⟩
def WC_STATE_STATE : Fld := ⟨28, 4⟩
def WC_STATE_PRIO : Fld := ⟨25, 3⟩
def WC_STATE_BUSY : Fld := ⟨24, 1⟩
def WC_STATE_FRAMES : Fld := ⟨20, 4⟩
def WC_STATE_SLOTS : Fld := ⟨17, 3⟩
def WC_STATE_NOTICE : Fld := ⟨16, 1⟩
def WC_STATE_ITEM : Fld := ⟨0, 12⟩
def WC_CFG_LENDABLE : Fld := ⟨31, 1⟩
def WC_ECC_DRAM_CORR : Fld := ⟨16, 16⟩
def WC_ECC_IRAM_CORR : Fld := ⟨0, 16⟩
def WC_FAULT_ITEM : Fld := ⟨16, 12⟩
def WC_FAULT_CAUSE : Fld := ⟨0, 8⟩
def WI_STATUS_STATE : Fld := ⟨29, 3⟩
def WI_STATUS_PENDING : Fld := ⟨28, 1⟩
def WI_STATUS_PRIO : Fld := ⟨25, 3⟩
def WI_STATUS_PREEMPT : Fld := ⟨24, 1⟩
def WI_STATUS_USER : Fld := ⟨23, 1⟩
def WI_STATUS_ONESHOT : Fld := ⟨22, 1⟩
def WI_STATUS_LAST : Fld := ⟨16, 4⟩
def WI_STATUS_CORE_MASK : Fld := ⟨0, 16⟩
def WI_COUNT_MERGED : Fld := ⟨16, 16⟩
def WI_COUNT_RUNS : Fld := ⟨0, 16⟩
def WO_STATUS_WAITERS : Fld := ⟨16, 8⟩
def WO_STATUS_COUNT : Fld := ⟨0, 16⟩
def MEM_CTRL_SCRUB_INT : Fld := ⟨0, 16⟩
def MEM_STATUS_SWEEPS : Fld := ⟨16, 16⟩
def MEM_STATUS_ON : Fld := ⟨0, 16⟩
def MEM_ECC_UNCORR : Fld := ⟨16, 16⟩
def MEM_ECC_CORR : Fld := ⟨0, 16⟩
def MEM_ERR_INFO_SRC_KIND : Fld := ⟨12, 4⟩
def MEM_ERR_INFO_SRC_INDEX : Fld := ⟨0, 12⟩
def MEM_GROUP_STATE : Fld := ⟨0, 3⟩
def MEM_SEC_WIPING : Fld := ⟨2, 1⟩
def MEM_SEC_WIPED : Fld := ⟨1, 1⟩
def MEM_SEC_TAMPER : Fld := ⟨0, 1⟩
def MST_CTRL_RETRY : Fld := ⟨0, 16⟩
def MST_STATUS_LENT : Fld := ⟨20, 4⟩
def MST_STATUS_SLOTS : Fld := ⟨0, 16⟩
def MST_POLICY_DEFER : Fld := ⟨0, 4⟩
def MST_SCHED_ENABLE : Fld := ⟨31, 1⟩
def MST_SCHED_LOG_N : Fld := ⟨16, 5⟩
def MST_SCHED_GAP : Fld := ⟨0, 16⟩
def MST_REGION_RESULT : Fld := ⟨29, 3⟩
def MST_REGION_STATE : Fld := ⟨26, 3⟩
def MST_REGION_FAIL_ONCE : Fld := ⟨25, 1⟩
def MST_REGION_LOG_N : Fld := ⟨20, 5⟩
def MST_REGION_SLOT : Fld := ⟨16, 4⟩
def MST_REGION_RUNS : Fld := ⟨0, 16⟩
def MST_DONE_PATTERNS : Fld := ⟨0, 21⟩
def TWIN_CTRL_ENABLE : Fld := ⟨31, 1⟩
def TWIN_CTRL_HOME : Fld := ⟨30, 1⟩
def TWIN_CTRL_SIDE : Fld := ⟨29, 1⟩
def TWIN_CTRL_AUTO_REVERT : Fld := ⟨28, 1⟩
def TWIN_CTRL_FAIL_N : Fld := ⟨16, 4⟩
def TWIN_CTRL_CPL_RING : Fld := ⟨8, 4⟩
def TWIN_TIMING_HOLDOFF : Fld := ⟨16, 16⟩
def TWIN_TIMING_LANE_MAX : Fld := ⟨0, 16⟩
def TWIN_STATUS_PARTNER_ROLE : Fld := ⟨29, 3⟩
def TWIN_STATUS_PARTNER_MODE : Fld := ⟨26, 3⟩
def TWIN_STATUS_PARTNER_HOME : Fld := ⟨25, 1⟩
def TWIN_STATUS_SYNCED : Fld := ⟨24, 1⟩
def TWIN_STATUS_REVERT_PENDING : Fld := ⟨23, 1⟩
def TWIN_STATUS_HANDOVER_PENDING : Fld := ⟨22, 1⟩
def TWIN_STATUS_T1_UP : Fld := ⟨21, 1⟩
def TWIN_STATUS_T0_UP : Fld := ⟨20, 1⟩
def TWIN_STATUS_PAIR_OK : Fld := ⟨19, 1⟩
def TWIN_STATUS_T0_OK : Fld := ⟨18, 1⟩
def TWIN_STATUS_ROLE : Fld := ⟨0, 2⟩
def TWIN_MISS_T0_RUN : Fld := ⟨24, 8⟩
def TWIN_MISS_PAIR_RUN : Fld := ⟨16, 8⟩
def TWIN_MISS_MISSED : Fld := ⟨0, 16⟩
def TWIN_DELAY_T1 : Fld := ⟨16, 16⟩
def TWIN_DELAY_T0 : Fld := ⟨0, 16⟩
def TWIN_BUDGET_NEED : Fld := ⟨16, 16⟩
def TWIN_BUDGET_CAPACITY : Fld := ⟨0, 16⟩
def TWIN_FWD_FWD_END : Fld := ⟨16, 16⟩
def TWIN_FWD_TX_LATE : Fld := ⟨8, 8⟩
def TWIN_FWD_RX_DROPPED : Fld := ⟨0, 8⟩
def TWIN_SWITCH_SWITCHOVERS : Fld := ⟨16, 16⟩
def TWIN_SWITCH_HANDOVERS : Fld := ⟨8, 8⟩
def TWIN_SWITCH_ECLIPSE : Fld := ⟨0, 8⟩
def TWIN_JOURNAL_ENTRIES : Fld := ⟨16, 16⟩
def TWIN_JOURNAL_KIB : Fld := ⟨0, 16⟩
def CK_STATUS_REF_LOSS : Fld := ⟨8, 1⟩
def CK_STATUS_LOCK : Fld := ⟨0, 7⟩
def CK_XMODE_HSF : Fld := ⟨0, 16⟩
def CK_XSTAT_DSA_FALLBACK : Fld := ⟨16, 16⟩
def CK_XSTAT_HSF_SAT : Fld := ⟨8, 8⟩
def CK_XSTAT_FLUSHED : Fld := ⟨0, 8⟩
def CK_MON_ERR : Fld := ⟨0, 16⟩
def PWR_DOMAIN_WAKES : Fld := ⟨16, 16⟩
def PWR_DOMAIN_AUTO_STOP : Fld := ⟨8, 1⟩
def PWR_DOMAIN_STATE : Fld := ⟨0, 3⟩
def RST_CAUSE_COUNT : Fld := ⟨16, 16⟩
def RST_CAUSE_DETAIL : Fld := ⟨8, 8⟩
def RST_CAUSE_CAUSE : Fld := ⟨0, 8⟩
def RST_CTRL_LOCK : Fld := ⟨31, 1⟩
def THERM_WARN : Fld := ⟨16, 1⟩
def THERM_TEMP : Fld := ⟨0, 16⟩
def THERM_CFG_TJ_WARN_ANA : Fld := ⟨8, 8⟩
def THERM_CFG_TJ_WARN_MAIN : Fld := ⟨0, 8⟩
def MSIX_CTRL_MASK : Fld := ⟨0, 1⟩
def RING_CTRL_ENABLE : Fld := ⟨31, 1⟩
def RING_CTRL_ERROR : Fld := ⟨30, 1⟩
def RING_CTRL_HELD : Fld := ⟨29, 1⟩
def RING_CTRL_SIZE_LOG : Fld := ⟨20, 5⟩
def RING_CTRL_VECTOR : Fld := ⟨8, 8⟩
def RING_CTRL_CPL : Fld := ⟨0, 4⟩
def RING_MOD_TIME : Fld := ⟨16, 16⟩
def RING_MOD_COUNT : Fld := ⟨0, 8⟩
end F

def regRows0_0 : List RegRow := [
  -- DEV_ID (R605)
  ⟨0, 4, 1, 4, 1, 0, [⟨⟨16, 16⟩, .ro, true, 0, []⟩]⟩,
  -- DEV_STEP (R605)
  ⟨4, 4, 1, 4, 1, 0, [⟨⟨4, 4⟩, .ro, true, 0, []⟩,
    ⟨⟨0, 4⟩, .ro, true, 0, []⟩]⟩,
  -- DEV_SERIAL_LO (R605)
  ⟨8, 4, 1, 4, 1, 1, [⟨⟨0, 32⟩, .ro, false, 0, []⟩]⟩,
  -- DEV_SERIAL_HI (R605)
  ⟨0xC, 4, 1, 4, 1, 2, [⟨⟨0, 32⟩, .ro, false, 0, []⟩]⟩,
  -- DEV_MODE (R60)
  ⟨0x8000, 4, 1, 4, 1, 0, [⟨⟨16, 4⟩, .ro, true, 0, []⟩,
    ⟨⟨10, 2⟩, .ro, true, 0, []⟩,
    ⟨⟨8, 2⟩, .ro, true, 0, []⟩,
    ⟨⟨0, 3⟩, .ro, true, 0, []⟩]⟩,
  -- DEV_DEFECT (R61)
  ⟨0x8004, 4, 1, 4, 1, 0, [⟨⟨7, 1⟩, .w1c, false, 0, []⟩,
    ⟨⟨6, 1⟩, .w1c, false, 0, []⟩,
    ⟨⟨5, 1⟩, .w1c, false, 0, []⟩,
    ⟨⟨4, 1⟩, .w1c, false, 0, []⟩,
    ⟨⟨3, 1⟩, .w1c, false, 0, []⟩,
    ⟨⟨2, 1⟩, .w1c, false, 0, []⟩,
    ⟨⟨1, 1⟩, .w1c, false, 0, []⟩,
    ⟨⟨0, 1⟩, .w1c, false, 0, []⟩]⟩,
  -- FOUL_CTRL (R62)
  ⟨0x8010, 4, 1, 4, 1, 0, [⟨⟨8, 3⟩, .rw, false, 0, []⟩,
    ⟨⟨1, 1⟩, .rw, false, 1, []⟩,
    ⟨⟨0, 1⟩, .rw, false, 0, []⟩]⟩,
  -- FOUL_STATUS (R63)
  ⟨0x8014, 4, 1, 4, 1, 0, [⟨⟨16, 16⟩, .rc, false, 0, []⟩,
    ⟨⟨0, 11⟩, .ro, false, 0, []⟩]⟩,
  -- FOUL_DROPPED (R64)
  ⟨0x8018, 4, 1, 4, 1, 0, [⟨⟨0, 32⟩, .rc, false, 0, []⟩]⟩]

/-- The registers owned by block 0x00. -/
def regRows0 : List RegRow := regRows0_0

def regRows1_0 : List RegRow := [
  -- HE_CTRL (R636)
  ⟨0x100000, 4, 1, 4, 1, 0, [⟨⟨0, 1⟩, .rw, false, 1, []⟩]⟩,
  -- HE_STATUS (R637)
  ⟨0x100004, 4, 1, 4, 1, 0, [⟨⟨24, 8⟩, .ro, false, 0, []⟩,
    ⟨⟨20, 4⟩, .ro, false, 0, []⟩,
    ⟨⟨16, 4⟩, .ro, false, 0, []⟩,
    ⟨⟨0, 16⟩, .ro, false, 0, []⟩]⟩,
  -- HE_WD (R638)
  ⟨0x100008, 4, 1, 4, 1, 0, [⟨⟨16, 2⟩, .rw, false, 2, [(1, 2)]⟩,
    ⟨⟨0, 16⟩, .rw, false, 0, [(0, 0), (0xA, 0xEA60)]⟩]⟩,
  -- HE_WD_KICK (R638)
  ⟨0x10000C, 4, 1, 4, 1, 0, [⟨⟨0, 32⟩, .wo, false, 0, []⟩]⟩,
  -- BOOT_CTRL (R639)
  ⟨0x100100, 4, 1, 4, 1, 0, [⟨⟨31, 1⟩, .wo, false, 0, []⟩,
    ⟨⟨30, 1⟩, .w1s, false, 0, []⟩]⟩,
  -- BOOT_STATUS (R639)
  ⟨0x100104, 4, 1, 4, 1, 0, [⟨⟨16, 16⟩, .ro, false, 0, []⟩,
    ⟨⟨8, 4⟩, .ro, false, 0, []⟩,
    ⟨⟨7, 1⟩, .ro, false, 0, []⟩,
    ⟨⟨5, 2⟩, .ro, false, 0, []⟩,
    ⟨⟨0, 2⟩, .ro, false, 0, []⟩]⟩,
  -- BOOT_IMG_OFS (R639)
  ⟨0x100108, 4, 1, 4, 1, 0, [⟨⟨0, 32⟩, .rw, false, 0, []⟩]⟩,
  -- MSIX_ADDR_LO (R595)
  ⟨0x108000, 0x10, 0x100, 4, 1, 0, [⟨⟨0, 32⟩, .rw, false, 0, []⟩]⟩,
  -- MSIX_ADDR_HI (R595)
  ⟨0x108004, 0x10, 0x100, 4, 1, 0, [⟨⟨0, 32⟩, .rw, false, 0, []⟩]⟩,
  -- MSIX_ADDR_LO (R595)
  ⟨0x401E000, 0x10000, 0x10, 0x10, 0x10, 0, [⟨⟨0, 32⟩, .rw, false, 0, []⟩]⟩,
  -- MSIX_ADDR_HI (R595)
  ⟨0x401E004, 0x10000, 0x10, 0x10, 0x10, 0, [⟨⟨0, 32⟩, .rw, false, 0, []⟩]⟩,
  -- MSIX_DATA (R595)
  ⟨0x108008, 0x10, 0x100, 4, 1, 0, [⟨⟨0, 32⟩, .rw, false, 0, []⟩]⟩,
  -- MSIX_DATA (R595)
  ⟨0x401E008, 0x10000, 0x10, 0x10, 0x10, 0, [⟨⟨0, 32⟩, .rw, false, 0, []⟩]⟩,
  -- MSIX_CTRL (R595)
  ⟨0x10800C, 0x10, 0x100, 4, 1, 0, [⟨⟨0, 1⟩, .rw, false, 1, []⟩]⟩,
  -- MSIX_CTRL (R595)
  ⟨0x401E00C, 0x10000, 0x10, 0x10, 0x10, 0, [⟨⟨0, 1⟩, .rw, false, 1, []⟩]⟩,
  -- MSIX_PBA (R595)
  ⟨0x109000, 4, 8, 4, 1, 0, [⟨⟨0, 32⟩, .ro, false, 0, []⟩]⟩,
  -- MSIX_PBA (R595)
  ⟨0x401E800, 0x10000, 0x10, 4, 1, 0, [⟨⟨0, 32⟩, .ro, false, 0, []⟩]⟩,
  -- RING_BASE_LO (R641)
  ⟨0x110000, 0x20, 0x10, 4, 1, 1, [⟨⟨0, 32⟩, .rw, false, 0, []⟩]⟩,
  -- RING_BASE_HI (R641)
  ⟨0x110004, 0x20, 0x10, 4, 1, 2, [⟨⟨0, 32⟩, .rw, false, 0, []⟩]⟩,
  -- RING_BASE_LO (R641)
  ⟨0x4018000, 0x10000, 0x10, 0x20, 4, 1, [⟨⟨0, 32⟩, .rw, false, 0, []⟩]⟩,
  -- RING_BASE_HI (R641)
  ⟨0x4018004, 0x10000, 0x10, 0x20, 4, 2, [⟨⟨0, 32⟩, .rw, false, 0, []⟩]⟩,
  -- RING_BASE_LO (R641)
  ⟨0x110400, 0x20, 0x10, 4, 1, 1, [⟨⟨0, 32⟩, .rw, false, 0, []⟩]⟩,
  -- RING_BASE_HI (R641)
  ⟨0x110404, 0x20, 0x10, 4, 1, 2, [⟨⟨0, 32⟩, .rw, false, 0, []⟩]⟩,
  -- RING_BASE_LO (R641)
  ⟨0x4018400, 0x10000, 0x10, 0x20, 4, 1, [⟨⟨0, 32⟩, .rw, false, 0, []⟩]⟩,
  -- RING_BASE_HI (R641)
  ⟨0x4018404, 0x10000, 0x10, 0x20, 4, 2, [⟨⟨0, 32⟩, .rw, false, 0, []⟩]⟩]

def regRows1_1 : List RegRow := [
  -- RING_BASE_LO (R641)
  ⟨0x110800, 0x20, 8, 4, 1, 1, [⟨⟨0, 32⟩, .rw, false, 0, []⟩]⟩,
  -- RING_BASE_HI (R641)
  ⟨0x110804, 0x20, 8, 4, 1, 2, [⟨⟨0, 32⟩, .rw, false, 0, []⟩]⟩,
  -- RING_BASE_LO (R641)
  ⟨0x4018800, 0x10000, 0x10, 0x20, 2, 1, [⟨⟨0, 32⟩, .rw, false, 0, []⟩]⟩,
  -- RING_BASE_HI (R641)
  ⟨0x4018804, 0x10000, 0x10, 0x20, 2, 2, [⟨⟨0, 32⟩, .rw, false, 0, []⟩]⟩,
  -- RING_BASE_LO (R641)
  ⟨0x110C00, 0x20, 0x40, 4, 1, 1, [⟨⟨0, 32⟩, .rw, false, 0, []⟩]⟩,
  -- RING_BASE_HI (R641)
  ⟨0x110C04, 0x20, 0x40, 4, 1, 2, [⟨⟨0, 32⟩, .rw, false, 0, []⟩]⟩,
  -- RING_BASE_LO (R641)
  ⟨0x4018C00, 0x10000, 0x10, 0x20, 8, 1, [⟨⟨0, 32⟩, .rw, false, 0, []⟩]⟩,
  -- RING_BASE_HI (R641)
  ⟨0x4018C04, 0x10000, 0x10, 0x20, 8, 2, [⟨⟨0, 32⟩, .rw, false, 0, []⟩]⟩,
  -- RING_CTRL (R641)
  ⟨0x110008, 0x20, 0x10, 4, 1, 0, [⟨⟨31, 1⟩, .rw, false, 0, []⟩,
    ⟨⟨30, 1⟩, .ro, false, 0, []⟩,
    ⟨⟨29, 1⟩, .ro, false, 0, []⟩,
    ⟨⟨20, 5⟩, .rw, false, 4, [(4, 0x10)]⟩,
    ⟨⟨8, 8⟩, .rw, false, 0, []⟩,
    ⟨⟨0, 4⟩, .rw, false, 0, []⟩]⟩,
  -- RING_CTRL (R641)
  ⟨0x4018008, 0x10000, 0x10, 0x20, 4, 0, [⟨⟨31, 1⟩, .rw, false, 0, []⟩,
    ⟨⟨30, 1⟩, .ro, false, 0, []⟩,
    ⟨⟨29, 1⟩, .ro, false, 0, []⟩,
    ⟨⟨20, 5⟩, .rw, false, 4, [(4, 0x10)]⟩,
    ⟨⟨8, 8⟩, .rw, false, 0, []⟩,
    ⟨⟨0, 4⟩, .rw, false, 0, []⟩]⟩,
  -- RING_CTRL (R641)
  ⟨0x110408, 0x20, 0x10, 4, 1, 0, [⟨⟨31, 1⟩, .rw, false, 0, []⟩,
    ⟨⟨30, 1⟩, .ro, false, 0, []⟩,
    ⟨⟨29, 1⟩, .ro, false, 0, []⟩,
    ⟨⟨20, 5⟩, .rw, false, 4, [(4, 0x10)]⟩,
    ⟨⟨8, 8⟩, .rw, false, 0, []⟩,
    ⟨⟨0, 4⟩, .rw, false, 0, []⟩]⟩,
  -- RING_CTRL (R641)
  ⟨0x4018408, 0x10000, 0x10, 0x20, 4, 0, [⟨⟨31, 1⟩, .rw, false, 0, []⟩,
    ⟨⟨30, 1⟩, .ro, false, 0, []⟩,
    ⟨⟨29, 1⟩, .ro, false, 0, []⟩,
    ⟨⟨20, 5⟩, .rw, false, 4, [(4, 0x10)]⟩,
    ⟨⟨8, 8⟩, .rw, false, 0, []⟩,
    ⟨⟨0, 4⟩, .rw, false, 0, []⟩]⟩,
  -- RING_CTRL (R641)
  ⟨0x110808, 0x20, 8, 4, 1, 0, [⟨⟨31, 1⟩, .rw, false, 0, []⟩,
    ⟨⟨30, 1⟩, .ro, false, 0, []⟩,
    ⟨⟨29, 1⟩, .ro, false, 0, []⟩,
    ⟨⟨20, 5⟩, .rw, false, 4, [(4, 0x10)]⟩,
    ⟨⟨8, 8⟩, .rw, false, 0, []⟩,
    ⟨⟨0, 4⟩, .rw, false, 0, []⟩]⟩,
  -- RING_CTRL (R641)
  ⟨0x4018808, 0x10000, 0x10, 0x20, 2, 0, [⟨⟨31, 1⟩, .rw, false, 0, []⟩,
    ⟨⟨30, 1⟩, .ro, false, 0, []⟩,
    ⟨⟨29, 1⟩, .ro, false, 0, []⟩,
    ⟨⟨20, 5⟩, .rw, false, 4, [(4, 0x10)]⟩,
    ⟨⟨8, 8⟩, .rw, false, 0, []⟩,
    ⟨⟨0, 4⟩, .rw, false, 0, []⟩]⟩,
  -- RING_CTRL (R641)
  ⟨0x110C08, 0x20, 0x40, 4, 1, 0, [⟨⟨31, 1⟩, .rw, false, 0, []⟩,
    ⟨⟨30, 1⟩, .ro, false, 0, []⟩,
    ⟨⟨29, 1⟩, .ro, false, 0, []⟩,
    ⟨⟨20, 5⟩, .rw, false, 4, [(4, 0x10)]⟩,
    ⟨⟨8, 8⟩, .rw, false, 0, []⟩,
    ⟨⟨0, 4⟩, .rw, false, 0, []⟩]⟩,
  -- RING_CTRL (R641)
  ⟨0x4018C08, 0x10000, 0x10, 0x20, 8, 0, [⟨⟨31, 1⟩, .rw, false, 0, []⟩,
    ⟨⟨30, 1⟩, .ro, false, 0, []⟩,
    ⟨⟨29, 1⟩, .ro, false, 0, []⟩,
    ⟨⟨20, 5⟩, .rw, false, 4, [(4, 0x10)]⟩,
    ⟨⟨8, 8⟩, .rw, false, 0, []⟩,
    ⟨⟨0, 4⟩, .rw, false, 0, []⟩]⟩,
  -- RING_MOD (R641)
  ⟨0x11000C, 0x20, 0x10, 4, 1, 0, [⟨⟨16, 16⟩, .rw, false, 0x10, [(1, 0xFFFF)]⟩,
    ⟨⟨0, 8⟩, .rw, false, 0, []⟩]⟩,
  -- RING_MOD (R641)
  ⟨0x401800C, 0x10000, 0x10, 0x20, 4, 0, [⟨⟨16, 16⟩, .rw, false, 0x10, [(1, 0xFFFF)]⟩,
    ⟨⟨0, 8⟩, .rw, false, 0, []⟩]⟩,
  -- RING_MOD (R641)
  ⟨0x11040C, 0x20, 0x10, 4, 1, 0, [⟨⟨16, 16⟩, .rw, false, 0x10, [(1, 0xFFFF)]⟩,
    ⟨⟨0, 8⟩, .rw, false, 0, []⟩]⟩,
  -- RING_MOD (R641)
  ⟨0x401840C, 0x10000, 0x10, 0x20, 4, 0, [⟨⟨16, 16⟩, .rw, false, 0x10, [(1, 0xFFFF)]⟩,
    ⟨⟨0, 8⟩, .rw, false, 0, []⟩]⟩,
  -- RING_MOD (R641)
  ⟨0x11080C, 0x20, 8, 4, 1, 0, [⟨⟨16, 16⟩, .rw, false, 0x10, [(1, 0xFFFF)]⟩,
    ⟨⟨0, 8⟩, .rw, false, 0, []⟩]⟩,
  -- RING_MOD (R641)
  ⟨0x401880C, 0x10000, 0x10, 0x20, 2, 0, [⟨⟨16, 16⟩, .rw, false, 0x10, [(1, 0xFFFF)]⟩,
    ⟨⟨0, 8⟩, .rw, false, 0, []⟩]⟩,
  -- RING_MOD (R641)
  ⟨0x110C0C, 0x20, 0x40, 4, 1, 0, [⟨⟨16, 16⟩, .rw, false, 0x10, [(1, 0xFFFF)]⟩,
    ⟨⟨0, 8⟩, .rw, false, 0, []⟩]⟩,
  -- RING_MOD (R641)
  ⟨0x4018C0C, 0x10000, 0x10, 0x20, 8, 0, [⟨⟨16, 16⟩, .rw, false, 0x10, [(1, 0xFFFF)]⟩,
    ⟨⟨0, 8⟩, .rw, false, 0, []⟩]⟩,
  -- RING_WB_LO (R641)
  ⟨0x110010, 0x20, 0x10, 4, 1, 1, [⟨⟨0, 32⟩, .rw, false, 0, []⟩]⟩]

def regRows1_2 : List RegRow := [
  -- RING_WB_HI (R641)
  ⟨0x110014, 0x20, 0x10, 4, 1, 2, [⟨⟨0, 32⟩, .rw, false, 0, []⟩]⟩,
  -- RING_WB_LO (R641)
  ⟨0x4018010, 0x10000, 0x10, 0x20, 4, 1, [⟨⟨0, 32⟩, .rw, false, 0, []⟩]⟩,
  -- RING_WB_HI (R641)
  ⟨0x4018014, 0x10000, 0x10, 0x20, 4, 2, [⟨⟨0, 32⟩, .rw, false, 0, []⟩]⟩,
  -- RING_WB_LO (R641)
  ⟨0x110410, 0x20, 0x10, 4, 1, 1, [⟨⟨0, 32⟩, .rw, false, 0, []⟩]⟩,
  -- RING_WB_HI (R641)
  ⟨0x110414, 0x20, 0x10, 4, 1, 2, [⟨⟨0, 32⟩, .rw, false, 0, []⟩]⟩,
  -- RING_WB_LO (R641)
  ⟨0x4018410, 0x10000, 0x10, 0x20, 4, 1, [⟨⟨0, 32⟩, .rw, false, 0, []⟩]⟩,
  -- RING_WB_HI (R641)
  ⟨0x4018414, 0x10000, 0x10, 0x20, 4, 2, [⟨⟨0, 32⟩, .rw, false, 0, []⟩]⟩,
  -- RING_WB_LO (R641)
  ⟨0x110810, 0x20, 8, 4, 1, 1, [⟨⟨0, 32⟩, .rw, false, 0, []⟩]⟩,
  -- RING_WB_HI (R641)
  ⟨0x110814, 0x20, 8, 4, 1, 2, [⟨⟨0, 32⟩, .rw, false, 0, []⟩]⟩,
  -- RING_WB_LO (R641)
  ⟨0x4018810, 0x10000, 0x10, 0x20, 2, 1, [⟨⟨0, 32⟩, .rw, false, 0, []⟩]⟩,
  -- RING_WB_HI (R641)
  ⟨0x4018814, 0x10000, 0x10, 0x20, 2, 2, [⟨⟨0, 32⟩, .rw, false, 0, []⟩]⟩,
  -- RING_WB_LO (R641)
  ⟨0x110C10, 0x20, 0x40, 4, 1, 1, [⟨⟨0, 32⟩, .rw, false, 0, []⟩]⟩,
  -- RING_WB_HI (R641)
  ⟨0x110C14, 0x20, 0x40, 4, 1, 2, [⟨⟨0, 32⟩, .rw, false, 0, []⟩]⟩,
  -- RING_WB_LO (R641)
  ⟨0x4018C10, 0x10000, 0x10, 0x20, 8, 1, [⟨⟨0, 32⟩, .rw, false, 0, []⟩]⟩,
  -- RING_WB_HI (R641)
  ⟨0x4018C14, 0x10000, 0x10, 0x20, 8, 2, [⟨⟨0, 32⟩, .rw, false, 0, []⟩]⟩,
  -- RING_DEV_IDX (R641)
  ⟨0x110018, 0x20, 0x10, 4, 1, 0, [⟨⟨0, 32⟩, .ro, false, 0, []⟩]⟩,
  -- RING_DEV_IDX (R641)
  ⟨0x4018018, 0x10000, 0x10, 0x20, 4, 0, [⟨⟨0, 32⟩, .ro, false, 0, []⟩]⟩,
  -- RING_DEV_IDX (R641)
  ⟨0x110418, 0x20, 0x10, 4, 1, 0, [⟨⟨0, 32⟩, .ro, false, 0, []⟩]⟩,
  -- RING_DEV_IDX (R641)
  ⟨0x4018418, 0x10000, 0x10, 0x20, 4, 0, [⟨⟨0, 32⟩, .ro, false, 0, []⟩]⟩,
  -- RING_DEV_IDX (R641)
  ⟨0x110818, 0x20, 8, 4, 1, 0, [⟨⟨0, 32⟩, .ro, false, 0, []⟩]⟩,
  -- RING_DEV_IDX (R641)
  ⟨0x4018818, 0x10000, 0x10, 0x20, 2, 0, [⟨⟨0, 32⟩, .ro, false, 0, []⟩]⟩,
  -- RING_DEV_IDX (R641)
  ⟨0x110C18, 0x20, 0x40, 4, 1, 0, [⟨⟨0, 32⟩, .ro, false, 0, []⟩]⟩,
  -- RING_DEV_IDX (R641)
  ⟨0x4018C18, 0x10000, 0x10, 0x20, 8, 0, [⟨⟨0, 32⟩, .ro, false, 0, []⟩]⟩,
  -- RING_SW_IDX (R641)
  ⟨0x11001C, 0x20, 0x10, 4, 1, 0, [⟨⟨0, 32⟩, .ro, false, 0, []⟩]⟩,
  -- RING_SW_IDX (R641)
  ⟨0x401801C, 0x10000, 0x10, 0x20, 4, 0, [⟨⟨0, 32⟩, .ro, false, 0, []⟩]⟩]

def regRows1_3 : List RegRow := [
  -- RING_SW_IDX (R641)
  ⟨0x11041C, 0x20, 0x10, 4, 1, 0, [⟨⟨0, 32⟩, .ro, false, 0, []⟩]⟩,
  -- RING_SW_IDX (R641)
  ⟨0x401841C, 0x10000, 0x10, 0x20, 4, 0, [⟨⟨0, 32⟩, .ro, false, 0, []⟩]⟩,
  -- RING_SW_IDX (R641)
  ⟨0x11081C, 0x20, 8, 4, 1, 0, [⟨⟨0, 32⟩, .ro, false, 0, []⟩]⟩,
  -- RING_SW_IDX (R641)
  ⟨0x401881C, 0x10000, 0x10, 0x20, 2, 0, [⟨⟨0, 32⟩, .ro, false, 0, []⟩]⟩,
  -- RING_SW_IDX (R641)
  ⟨0x110C1C, 0x20, 0x40, 4, 1, 0, [⟨⟨0, 32⟩, .ro, false, 0, []⟩]⟩,
  -- RING_SW_IDX (R641)
  ⟨0x4018C1C, 0x10000, 0x10, 0x20, 8, 0, [⟨⟨0, 32⟩, .ro, false, 0, []⟩]⟩]

/-- The registers owned by block 0x01. -/
def regRows1 : List RegRow := regRows1_0 ++ regRows1_1 ++ regRows1_2 ++ regRows1_3

def regRows2_0 : List RegRow := [
  -- TB_CTRL (R99)
  ⟨0x200000, 4, 1, 4, 1, 0, [⟨⟨24, 1⟩, .wo, false, 0, []⟩,
    ⟨⟨12, 10⟩, .rw, false, 0x64, [(1, 0x1F4)]⟩,
    ⟨⟨0, 10⟩, .rw, false, 0x64, [(1, 0x1F4)]⟩]⟩,
  -- TB_STATUS (R100)
  ⟨0x200004, 4, 1, 4, 1, 0, [⟨⟨4, 9⟩, .ro, true, 0, []⟩,
    ⟨⟨3, 1⟩, .ro, true, 1, []⟩,
    ⟨⟨2, 1⟩, .ro, true, 0, []⟩,
    ⟨⟨1, 1⟩, .ro, true, 0, []⟩,
    ⟨⟨0, 1⟩, .ro, true, 0, []⟩]⟩,
  -- RAW_LO (R98)
  ⟨0x200010, 4, 1, 4, 1, 1, [⟨⟨0, 32⟩, .ro, true, 0, []⟩]⟩,
  -- RAW_HI (R98)
  ⟨0x200014, 4, 1, 4, 1, 2, [⟨⟨0, 32⟩, .ro, true, 0, []⟩]⟩,
  -- CELL_TIME_LO (R98)
  ⟨0x200018, 4, 1, 4, 1, 1, [⟨⟨0, 32⟩, .ro, true, 0, []⟩]⟩,
  -- CELL_TIME_HI (R98)
  ⟨0x20001C, 4, 1, 4, 1, 2, [⟨⟨0, 32⟩, .ro, true, 0, []⟩]⟩,
  -- PLANT_TIME_LO (R98)
  ⟨0x200020, 4, 1, 4, 1, 1, [⟨⟨0, 32⟩, .ro, true, 0, []⟩]⟩,
  -- PLANT_TIME_HI (R98)
  ⟨0x200024, 4, 1, 4, 1, 2, [⟨⟨0, 32⟩, .ro, true, 0, []⟩]⟩,
  -- SNAP_RAW_LO (R98)
  ⟨0x200030, 4, 1, 4, 1, 1, [⟨⟨0, 32⟩, .ro, false, 0, []⟩]⟩,
  -- SNAP_RAW_HI (R98)
  ⟨0x200034, 4, 1, 4, 1, 2, [⟨⟨0, 32⟩, .ro, false, 0, []⟩]⟩,
  -- SNAP_CELL_LO (R98)
  ⟨0x200038, 4, 1, 4, 1, 1, [⟨⟨0, 32⟩, .ro, false, 0, []⟩]⟩,
  -- SNAP_CELL_HI (R98)
  ⟨0x20003C, 4, 1, 4, 1, 2, [⟨⟨0, 32⟩, .ro, false, 0, []⟩]⟩,
  -- SNAP_PLANT_LO (R98)
  ⟨0x200040, 4, 1, 4, 1, 1, [⟨⟨0, 32⟩, .ro, false, 0, []⟩]⟩,
  -- SNAP_PLANT_HI (R98)
  ⟨0x200044, 4, 1, 4, 1, 2, [⟨⟨0, 32⟩, .ro, false, 0, []⟩]⟩,
  -- CELL_OFS_LO (R98)
  ⟨0x200050, 4, 1, 4, 1, 1, [⟨⟨0, 32⟩, .ro, false, 0, []⟩]⟩,
  -- CELL_OFS_HI (R98)
  ⟨0x200054, 4, 1, 4, 1, 2, [⟨⟨0, 32⟩, .ro, false, 0, []⟩]⟩,
  -- CELL_SLEW_REM_LO (R98)
  ⟨0x200060, 4, 1, 4, 1, 1, [⟨⟨0, 32⟩, .ro, false, 0, []⟩]⟩,
  -- CELL_SLEW_REM_HI (R98)
  ⟨0x200064, 4, 1, 4, 1, 2, [⟨⟨0, 32⟩, .ro, false, 0, []⟩]⟩,
  -- PLANT_OFS_LO (R98)
  ⟨0x200070, 4, 1, 4, 1, 1, [⟨⟨0, 32⟩, .ro, false, 0, []⟩]⟩,
  -- PLANT_OFS_HI (R98)
  ⟨0x200074, 4, 1, 4, 1, 2, [⟨⟨0, 32⟩, .ro, false, 0, []⟩]⟩,
  -- PLANT_SLEW_REM_LO (R98)
  ⟨0x200080, 4, 1, 4, 1, 1, [⟨⟨0, 32⟩, .ro, false, 0, []⟩]⟩,
  -- PLANT_SLEW_REM_HI (R98)
  ⟨0x200084, 4, 1, 4, 1, 2, [⟨⟨0, 32⟩, .ro, false, 0, []⟩]⟩,
  -- PLANT_EPOCH_LO (R98)
  ⟨0x200088, 4, 1, 4, 1, 1, [⟨⟨0, 32⟩, .rw, false, 0, []⟩]⟩,
  -- PLANT_EPOCH_HI (R98)
  ⟨0x20008C, 4, 1, 4, 1, 2, [⟨⟨0, 32⟩, .rw, false, 0, [(0, 0xFFFF)]⟩]⟩,
  -- DISC_SAMPLE_LO (R98)
  ⟨0x2000A0, 4, 1, 4, 1, 1, [⟨⟨0, 32⟩, .wo, false, 0, []⟩]⟩]

def regRows2_1 : List RegRow := [
  -- DISC_SAMPLE_HI (R98)
  ⟨0x2000A4, 4, 1, 4, 1, 2, [⟨⟨0, 32⟩, .wo, false, 0, []⟩]⟩,
  -- CELL_RATE (R98)
  ⟨0x200058, 4, 1, 4, 1, 0, [⟨⟨0, 32⟩, .ro, false, 0, []⟩]⟩,
  -- PLANT_RATE (R98)
  ⟨0x200078, 4, 1, 4, 1, 0, [⟨⟨0, 32⟩, .ro, false, 0, []⟩]⟩,
  -- DISC_CTRL (R101)
  ⟨0x200090, 4, 1, 4, 1, 0, [⟨⟨31, 1⟩, .rw, false, 0, []⟩,
    ⟨⟨30, 1⟩, .rw, false, 0, []⟩,
    ⟨⟨20, 4⟩, .rw, false, 3, [(1, 0xF)]⟩,
    ⟨⟨12, 8⟩, .rw, false, 0x40, []⟩,
    ⟨⟨8, 3⟩, .rw, false, 6, []⟩,
    ⟨⟨0, 8⟩, .rw, false, 1, [(1, 0x64)]⟩]⟩,
  -- DISC_STATUS (R102)
  ⟨0x200094, 4, 1, 4, 1, 0, [⟨⟨16, 16⟩, .ro, false, 0, []⟩,
    ⟨⟨8, 8⟩, .ro, false, 0, []⟩,
    ⟨⟨0, 1⟩, .ro, false, 0, []⟩]⟩,
  -- DISC_LAT (R98)
  ⟨0x200098, 4, 1, 4, 1, 0, [⟨⟨0, 32⟩, .rw, false, 0, []⟩]⟩,
  -- DISC_LAST_ERR (R98)
  ⟨0x20009C, 4, 1, 4, 1, 0, [⟨⟨0, 32⟩, .ro, false, 0, []⟩]⟩,
  -- ACT_TIME_LO (R98)
  ⟨0x201000, 0x20, 0x100, 4, 1, 1, [⟨⟨0, 32⟩, .ro, false, 0, []⟩]⟩,
  -- ACT_TIME_HI (R98)
  ⟨0x201004, 0x20, 0x100, 4, 1, 2, [⟨⟨0, 32⟩, .ro, false, 0, []⟩]⟩,
  -- ACT_PERIOD_LO (R98)
  ⟨0x201008, 0x20, 0x100, 4, 1, 1, [⟨⟨0, 32⟩, .ro, false, 0, []⟩]⟩,
  -- ACT_PERIOD_HI (R98)
  ⟨0x20100C, 0x20, 0x100, 4, 1, 2, [⟨⟨0, 32⟩, .ro, false, 0, []⟩]⟩,
  -- ACT_CTRL (R103)
  ⟨0x201010, 0x20, 0x100, 4, 1, 0, [⟨⟨24, 8⟩, .ro, false, 0, []⟩,
    ⟨⟨20, 4⟩, .ro, false, 0, []⟩,
    ⟨⟨17, 1⟩, .ro, false, 0, []⟩,
    ⟨⟨16, 1⟩, .ro, false, 0, []⟩,
    ⟨⟨15, 1⟩, .ro, false, 0, []⟩]⟩,
  -- ACT_STATUS (R104)
  ⟨0x201014, 0x20, 0x100, 4, 1, 0, [⟨⟨16, 16⟩, .ro, false, 0, []⟩,
    ⟨⟨8, 8⟩, .ro, false, 0, []⟩,
    ⟨⟨0, 1⟩, .ro, false, 0, []⟩]⟩,
  -- ACT_LAST_LO (R98)
  ⟨0x201018, 0x20, 0x100, 4, 1, 1, [⟨⟨0, 32⟩, .ro, false, 0, []⟩]⟩,
  -- ACT_LAST_HI (R98)
  ⟨0x20101C, 0x20, 0x100, 4, 1, 2, [⟨⟨0, 32⟩, .ro, false, 0, []⟩]⟩]

/-- The registers owned by block 0x02. -/
def regRows2 : List RegRow := regRows2_0 ++ regRows2_1

def regRows3_0 : List RegRow := [
  -- LINK_CTRL (R215)
  ⟨0x300000, 4, 1, 4, 1, 0, [⟨⟨31, 1⟩, .w1s, false, 0, []⟩,
    ⟨⟨24, 3⟩, .rw, false, 2, [(0, 6)]⟩,
    ⟨⟨16, 8⟩, .rw, false, 8, [(1, 0xFF)]⟩,
    ⟨⟨8, 8⟩, .rw, false, 4, [(1, 0xFF)]⟩]⟩,
  -- LINK_STATION (R216)
  ⟨0x300004, 4, 1, 4, 1, 0, [⟨⟨16, 8⟩, .rwl, false, 0, [(0, 0), (0xF1, 0xF7)]⟩,
    ⟨⟨8, 2⟩, .rwl, false, 0, []⟩,
    ⟨⟨0, 1⟩, .rwl, false, 1, []⟩]⟩,
  -- LINK_CONTAIN (R217)
  ⟨0x300008, 4, 1, 4, 1, 0, [⟨⟨24, 8⟩, .rw, false, 0x40, [(1, 0xFF)]⟩,
    ⟨⟨8, 8⟩, .rw, false, 8, [(1, 0xFF)]⟩,
    ⟨⟨0, 8⟩, .rw, false, 4, [(1, 0xFF)]⟩]⟩,
  -- LINK_JOIN (R218)
  ⟨0x30000C, 4, 1, 4, 1, 0, [⟨⟨24, 8⟩, .rw, false, 0x10, [(1, 0xFF)]⟩,
    ⟨⟨16, 8⟩, .rw, false, 0x50, [(8, 0xFF)]⟩,
    ⟨⟨12, 4⟩, .rw, false, 2, []⟩,
    ⟨⟨8, 4⟩, .rw, false, 4, [(1, 0xF)]⟩,
    ⟨⟨0, 8⟩, .rw, false, 8, [(1, 0xFF)]⟩]⟩,
  -- LINK_STATUS (R219)
  ⟨0x300010, 4, 1, 4, 1, 0, [⟨⟨24, 8⟩, .ro, true, 0, []⟩,
    ⟨⟨19, 1⟩, .ro, true, 0, []⟩,
    ⟨⟨18, 1⟩, .ro, true, 0, []⟩,
    ⟨⟨17, 1⟩, .ro, true, 0, []⟩,
    ⟨⟨16, 1⟩, .ro, true, 0, []⟩,
    ⟨⟨0, 3⟩, .ro, true, 0, []⟩]⟩,
  -- LINK_MEMBERS (R220)
  ⟨0x300014, 4, 1, 4, 1, 0, [⟨⟨16, 16⟩, .ro, true, 0, []⟩,
    ⟨⟨0, 16⟩, .ro, true, 0, []⟩]⟩,
  -- LINK_ORBIT (R220)
  ⟨0x300018, 4, 1, 4, 1, 0, [⟨⟨0, 32⟩, .ro, true, 0, []⟩]⟩,
  -- LINK_TIMERS (R220)
  ⟨0x30001C, 4, 1, 4, 1, 0, [⟨⟨16, 8⟩, .rw, false, 4, [(1, 0xFF)]⟩,
    ⟨⟨0, 16⟩, .rw, false, 0x3D1, []⟩]⟩,
  -- LINK_SUCC (R220)
  ⟨0x300020, 4, 1, 4, 1, 0, [⟨⟨0, 32⟩, .ro, false, 0, []⟩]⟩,
  -- PORT_STATUS (R221)
  ⟨0x301000, 0x400, 2, 0x20, 0x14, 0, [⟨⟨24, 8⟩, .ro, false, 0, []⟩,
    ⟨⟨16, 8⟩, .ro, false, 0, []⟩,
    ⟨⟨8, 8⟩, .ro, false, 0, []⟩,
    ⟨⟨7, 1⟩, .ro, false, 0, []⟩,
    ⟨⟨6, 1⟩, .ro, false, 0, []⟩,
    ⟨⟨0, 3⟩, .ro, false, 0, []⟩]⟩,
  -- PORT_ERR (R222)
  ⟨0x301004, 0x400, 2, 0x20, 0x14, 0, [⟨⟨16, 16⟩, .rc, false, 0, []⟩,
    ⟨⟨8, 8⟩, .rc, false, 0, []⟩,
    ⟨⟨0, 8⟩, .rc, false, 0, []⟩]⟩,
  -- PORT_VIOL (R220)
  ⟨0x301008, 0x400, 2, 0x20, 0x14, 0, [⟨⟨0, 32⟩, .rc, false, 0, []⟩]⟩,
  -- NODE_STATUS (R223)
  ⟨0x302000, 0x10, 0x100, 4, 1, 0, [⟨⟨24, 8⟩, .ro, false, 0, []⟩,
    ⟨⟨16, 8⟩, .ro, false, 0, []⟩,
    ⟨⟨11, 3⟩, .ro, false, 0, []⟩,
    ⟨⟨8, 3⟩, .ro, false, 0, []⟩,
    ⟨⟨0, 5⟩, .ro, false, 0, []⟩]⟩,
  -- NODE_DELAY (R220)
  ⟨0x302004, 0x10, 0x100, 4, 1, 0, [⟨⟨16, 16⟩, .ro, false, 0, []⟩,
    ⟨⟨0, 16⟩, .ro, false, 0, []⟩]⟩,
  -- NODE_OFS (R220)
  ⟨0x302008, 0x10, 0x100, 4, 1, 0, [⟨⟨8, 8⟩, .ro, false, 0, []⟩,
    ⟨⟨0, 8⟩, .ro, false, 0, []⟩]⟩,
  -- LINK_MISS (R220)
  ⟨0x304000, 4, 0x200, 4, 1, 0, [⟨⟨16, 16⟩, .rc, false, 0, []⟩,
    ⟨⟨0, 16⟩, .rc, false, 0, []⟩]⟩,
  -- ADM_CTRL (R224)
  ⟨0x310000, 0x1000, 2, 0x10, 0x100, 0, [⟨⟨31, 1⟩, .rw, false, 0, []⟩,
    ⟨⟨30, 1⟩, .rw, false, 0, []⟩]⟩,
  -- ADM_SERIAL_LO (R220)
  ⟨0x310008, 0x1000, 2, 0x10, 0x100, 1, [⟨⟨0, 32⟩, .rw, false, 0, []⟩]⟩,
  -- ADM_SERIAL_HI (R220)
  ⟨0x31000C, 0x1000, 2, 0x10, 0x100, 2, [⟨⟨0, 32⟩, .rw, false, 0, []⟩]⟩,
  -- SB_ID (R147)
  ⟨0x340000, 0x40000, 2, 4, 1, 0, [⟨⟨0, 32⟩, .rw, false, 0, []⟩]⟩,
  -- SB_CYCLE (R148)
  ⟨0x340004, 0x40000, 2, 4, 1, 0, [⟨⟨16, 3⟩, .rw, false, 0, []⟩,
    ⟨⟨0, 10⟩, .rw, false, 0, []⟩]⟩,
  -- SB_COUNT (R149)
  ⟨0x340008, 0x40000, 2, 4, 1, 0, [⟨⟨16, 5⟩, .rw, false, 0, []⟩,
    ⟨⟨0, 12⟩, .rw, false, 0, []⟩]⟩,
  -- SB_APPLY (R150)
  ⟨0x34000C, 0x40000, 2, 4, 1, 0, [⟨⟨0, 17⟩, .rw, false, 0, []⟩]⟩,
  -- SB_CUTOFF (R151)
  ⟨0x340010, 0x40000, 2, 4, 1, 0, [⟨⟨0, 17⟩, .rw, false, 0, []⟩]⟩,
  -- SB_STATUS (R152)
  ⟨0x340014, 0x40000, 2, 4, 1, 0, [⟨⟨31, 1⟩, .ro, false, 0, []⟩,
    ⟨⟨16, 8⟩, .ro, false, 0, []⟩,
    ⟨⟨0, 10⟩, .ro, false, 0, []⟩]⟩]

def regRows3_1 : List RegRow := [
  -- SB_WIN_S (R153)
  ⟨0x340040, 0x40000, 2, 8, 0x10, 0, [⟨⟨20, 3⟩, .rw, false, 0, []⟩,
    ⟨⟨17, 3⟩, .rw, false, 0, []⟩,
    ⟨⟨0, 17⟩, .rw, false, 0, []⟩]⟩,
  -- SB_WIN_E (R153)
  ⟨0x340044, 0x40000, 2, 8, 0x10, 0, [⟨⟨0, 17⟩, .rw, false, 0, []⟩]⟩,
  -- SB_ENT0 (R154)
  ⟨0x340100, 0x40000, 2, 0x10, 0x800, 0, [⟨⟨31, 1⟩, .rw, false, 0, []⟩,
    ⟨⟨28, 3⟩, .rw, false, 0, []⟩,
    ⟨⟨24, 4⟩, .rw, false, 0, []⟩,
    ⟨⟨21, 3⟩, .rw, false, 0, []⟩,
    ⟨⟨15, 6⟩, .rw, false, 0, []⟩,
    ⟨⟨0, 9⟩, .rw, false, 0, []⟩]⟩,
  -- SB_ENT1 (R155)
  ⟨0x340104, 0x40000, 2, 0x10, 0x800, 0, [⟨⟨17, 15⟩, .rw, false, 0, []⟩,
    ⟨⟨0, 17⟩, .rw, false, 0, []⟩]⟩,
  -- SB_ENT2 (R156)
  ⟨0x340108, 0x40000, 2, 0x10, 0x800, 0, [⟨⟨24, 8⟩, .rw, false, 0, []⟩,
    ⟨⟨21, 3⟩, .rw, false, 0, []⟩,
    ⟨⟨0, 21⟩, .rw, false, 0, []⟩]⟩,
  -- SB_ENT3 (R157)
  ⟨0x34010C, 0x40000, 2, 0x10, 0x800, 0, [⟨⟨30, 2⟩, .rw, false, 0, []⟩,
    ⟨⟨0, 21⟩, .rw, false, 0, []⟩]⟩,
  -- SB_NODE0 (R158)
  ⟨0x348100, 0x40000, 2, 8, 0x100, 0, [⟨⟨31, 1⟩, .rw, false, 0, []⟩,
    ⟨⟨21, 5⟩, .rw, false, 0, []⟩,
    ⟨⟨12, 9⟩, .rw, false, 0, []⟩,
    ⟨⟨0, 5⟩, .rw, false, 0, []⟩]⟩,
  -- SB_NODE1 (R159)
  ⟨0x348104, 0x40000, 2, 8, 0x100, 0, [⟨⟨16, 5⟩, .rw, false, 0, []⟩,
    ⟨⟨0, 9⟩, .rw, false, 0, []⟩]⟩]

/-- The registers owned by block 0x03. -/
def regRows3 : List RegRow := regRows3_0 ++ regRows3_1

def regRows4_0 : List RegRow := [
  -- PLAN_CTRL (R270)
  ⟨0x400000, 4, 1, 4, 1, 0, [⟨⟨16, 11⟩, .rw, false, 0x40, [(8, 0x400)]⟩,
    ⟨⟨0, 11⟩, .ro, false, 0, []⟩]⟩,
  -- PLAN_SERVICE (R271)
  ⟨0x400004, 4, 1, 4, 1, 0, [⟨⟨16, 16⟩, .rw, false, 0xFA, [(1, 0x3E8)]⟩,
    ⟨⟨0, 7⟩, .rw, false, 0xA, [(1, 0x64)]⟩]⟩,
  -- PLAN_STATUS (R272)
  ⟨0x400008, 4, 1, 4, 1, 0, [⟨⟨16, 16⟩, .ro, true, 0, []⟩,
    ⟨⟨0, 16⟩, .ro, true, 0, []⟩]⟩,
  -- ZONE_CTRL (R273)
  ⟨0x401000, 4, 0x40, 4, 1, 0, [⟨⟨31, 1⟩, .ro, false, 0, []⟩,
    ⟨⟨30, 1⟩, .ro, false, 0, []⟩,
    ⟨⟨29, 1⟩, .ro, false, 0, []⟩,
    ⟨⟨24, 4⟩, .ro, false, 0, []⟩,
    ⟨⟨16, 5⟩, .rw, false, 0, [(0, 0x10)]⟩,
    ⟨⟨8, 8⟩, .rw, false, 4, [(1, 0xFF)]⟩,
    ⟨⟨0, 8⟩, .rw, false, 0, []⟩]⟩,
  -- ZONE_NX (R274)
  ⟨0x404000, 0x100, 0x40, 0x10, 0x10, 0, [⟨⟨0, 32⟩, .rw, false, 0, []⟩]⟩,
  -- ZONE_NY (R274)
  ⟨0x404004, 0x100, 0x40, 0x10, 0x10, 0, [⟨⟨0, 32⟩, .rw, false, 0, []⟩]⟩,
  -- ZONE_NZ (R274)
  ⟨0x404008, 0x100, 0x40, 0x10, 0x10, 0, [⟨⟨0, 32⟩, .rw, false, 0, []⟩]⟩,
  -- ZONE_D (R274)
  ⟨0x40400C, 0x100, 0x40, 0x10, 0x10, 0, [⟨⟨0, 32⟩, .rw, false, 0, []⟩]⟩,
  -- GRP_STATE (R275)
  ⟨0x2000000, 0x10000, 0x10, 4, 1, 0, [⟨⟨12, 3⟩, .ro, true, 0, []⟩,
    ⟨⟨8, 3⟩, .ro, true, 0, []⟩,
    ⟨⟨4, 2⟩, .ro, true, 3, []⟩,
    ⟨⟨3, 1⟩, .ro, true, 0, []⟩,
    ⟨⟨0, 3⟩, .ro, true, 0, []⟩]⟩,
  -- GRP_CTRL (R276)
  ⟨0x2000004, 0x10000, 0x10, 4, 1, 0, [⟨⟨16, 12⟩, .rw, true, 0xFA, [(8, 0xFA0)]⟩,
    ⟨⟨1, 1⟩, .rw, true, 0, []⟩]⟩,
  -- GRP_OVERRIDE (R277)
  ⟨0x2000008, 0x10000, 0x10, 4, 1, 0, [⟨⟨0, 17⟩, .rw, true, 0x10000, [(0, 0x10000)]⟩]⟩,
  -- GRP_SPEED_FACTOR (R277)
  ⟨0x200000C, 0x10000, 0x10, 4, 1, 0, [⟨⟨0, 17⟩, .ro, true, 0x10000, []⟩]⟩,
  -- GRP_LAG (R277)
  ⟨0x2000010, 0x10000, 0x10, 4, 1, 0, [⟨⟨28, 4⟩, .ro, true, 0, []⟩,
    ⟨⟨0, 28⟩, .ro, true, 0, []⟩]⟩,
  -- GRP_QUEUE (R277)
  ⟨0x2000014, 0x10000, 0x10, 4, 1, 0, [⟨⟨8, 5⟩, .ro, true, 0x10, []⟩,
    ⟨⟨0, 5⟩, .ro, true, 0, []⟩]⟩,
  -- GRP_ACTIVE_TAG (R274)
  ⟨0x2000018, 0x10000, 0x10, 4, 1, 0, [⟨⟨0, 32⟩, .ro, true, 0, []⟩]⟩,
  -- GRP_FAULT (R278)
  ⟨0x200001C, 0x10000, 0x10, 4, 1, 0, [⟨⟨7, 1⟩, .w1c, true, 0, []⟩,
    ⟨⟨6, 1⟩, .w1c, true, 0, []⟩,
    ⟨⟨5, 1⟩, .w1c, true, 0, []⟩,
    ⟨⟨4, 1⟩, .w1c, true, 0, []⟩,
    ⟨⟨3, 1⟩, .w1c, true, 0, []⟩,
    ⟨⟨2, 1⟩, .w1c, true, 0, []⟩,
    ⟨⟨1, 1⟩, .w1c, true, 0, []⟩,
    ⟨⟨0, 1⟩, .w1c, true, 0, []⟩]⟩,
  -- GRP_TOKENS_LO (R274)
  ⟨0x2000020, 0x10000, 0x10, 4, 1, 1, [⟨⟨0, 32⟩, .ro, true, 0, []⟩]⟩,
  -- GRP_TOKENS_HI (R274)
  ⟨0x2000024, 0x10000, 0x10, 4, 1, 2, [⟨⟨0, 32⟩, .ro, true, 0, []⟩]⟩,
  -- GRP_WAIT_LO (R274)
  ⟨0x2000028, 0x10000, 0x10, 4, 1, 1, [⟨⟨0, 32⟩, .ro, true, 0, []⟩]⟩,
  -- GRP_WAIT_HI (R274)
  ⟨0x200002C, 0x10000, 0x10, 4, 1, 2, [⟨⟨0, 32⟩, .ro, true, 0, []⟩]⟩,
  -- GRP_MODEL (R277)
  ⟨0x2000030, 0x10000, 0x10, 4, 1, 0, [⟨⟨31, 1⟩, .ro, true, 0, []⟩,
    ⟨⟨8, 2⟩, .ro, true, 0, []⟩,
    ⟨⟨0, 5⟩, .ro, true, 0, []⟩]⟩,
  -- JNT_VMAX (R274)
  ⟨0x2000100, 0x10000, 0x10, 0x10, 0x10, 0, [⟨⟨0, 32⟩, .ro, true, 0, []⟩]⟩,
  -- JNT_AMAX (R274)
  ⟨0x2000104, 0x10000, 0x10, 0x10, 0x10, 0, [⟨⟨0, 32⟩, .ro, true, 0, []⟩]⟩,
  -- JNT_JMAX (R274)
  ⟨0x2000108, 0x10000, 0x10, 0x10, 0x10, 0, [⟨⟨0, 32⟩, .ro, true, 0, []⟩]⟩,
  -- JNT_AXIS (R277)
  ⟨0x200010C, 0x10000, 0x10, 0x10, 0x10, 0, [⟨⟨0, 8⟩, .ro, true, 0, []⟩]⟩]

/-- The registers owned by block 0x04. -/
def regRows4 : List RegRow := regRows4_0

def regRows5_0 : List RegRow := [
  -- OPT_CTRL (R326)
  ⟨0x500000, 4, 1, 4, 1, 0, [⟨⟨0, 8⟩, .rw, false, 0x50, [(0xA, 0x5F)]⟩]⟩,
  -- OPT_STATUS (R327)
  ⟨0x500004, 4, 1, 4, 1, 0, [⟨⟨24, 8⟩, .ro, true, 0, []⟩,
    ⟨⟨16, 8⟩, .ro, true, 0, []⟩,
    ⟨⟨8, 8⟩, .ro, true, 0xFF, []⟩,
    ⟨⟨3, 1⟩, .ro, true, 0, []⟩,
    ⟨⟨2, 1⟩, .ro, true, 0, []⟩,
    ⟨⟨1, 1⟩, .ro, true, 0, []⟩,
    ⟨⟨0, 1⟩, .ro, true, 0, []⟩]⟩,
  -- OPT_PROG_ID (R328)
  ⟨0x500008, 4, 2, 4, 1, 0, [⟨⟨0, 32⟩, .ro, false, 0, []⟩]⟩,
  -- OPT_CHECK (R329)
  ⟨0x500010, 4, 1, 4, 1, 0, [⟨⟨8, 8⟩, .ro, false, 0, []⟩,
    ⟨⟨1, 1⟩, .ro, false, 0, []⟩,
    ⟨⟨0, 1⟩, .ro, false, 0, []⟩]⟩,
  -- OPT_TICK (R328)
  ⟨0x500014, 4, 1, 4, 1, 0, [⟨⟨0, 32⟩, .ro, true, 0, []⟩]⟩,
  -- OPT_CLU_STATUS (R330)
  ⟨0x500100, 0x10, 8, 4, 1, 0, [⟨⟨24, 4⟩, .ro, false, 0, []⟩,
    ⟨⟨16, 4⟩, .ro, false, 0, []⟩,
    ⟨⟨0, 16⟩, .rc, false, 0, []⟩]⟩,
  -- OPT_CLU_BUSY (R328)
  ⟨0x500104, 0x10, 8, 4, 1, 0, [⟨⟨0, 32⟩, .ro, false, 0, []⟩]⟩,
  -- OPT_CLU_FLAGS (R331)
  ⟨0x500108, 0x10, 8, 4, 1, 0, [⟨⟨3, 1⟩, .w1c, false, 0, []⟩,
    ⟨⟨2, 1⟩, .w1c, false, 0, []⟩,
    ⟨⟨1, 1⟩, .w1c, false, 0, []⟩,
    ⟨⟨0, 1⟩, .w1c, false, 0, []⟩]⟩,
  -- OPT_GRP_STATUS (R332)
  ⟨0x2001000, 0x10000, 0x10, 4, 1, 0, [⟨⟨26, 2⟩, .ro, true, 0, []⟩,
    ⟨⟨25, 1⟩, .ro, true, 0, []⟩,
    ⟨⟨24, 1⟩, .ro, true, 0, []⟩,
    ⟨⟨16, 5⟩, .ro, true, 0, []⟩,
    ⟨⟨8, 8⟩, .ro, true, 0, []⟩,
    ⟨⟨0, 8⟩, .ro, true, 0, []⟩]⟩,
  -- OPT_GRP_NFCOL (R333)
  ⟨0x2001004, 0x10000, 0x10, 4, 1, 0, [⟨⟨28, 4⟩, .ro, true, 0, []⟩,
    ⟨⟨16, 11⟩, .ro, true, 0, []⟩,
    ⟨⟨0, 11⟩, .ro, true, 0, []⟩]⟩,
  -- OPT_GRP_RP (R328)
  ⟨0x2001008, 0x10000, 0x10, 4, 1, 0, [⟨⟨0, 32⟩, .ro, true, 0, []⟩]⟩,
  -- OPT_GRP_RD (R328)
  ⟨0x200100C, 0x10000, 0x10, 4, 1, 0, [⟨⟨0, 32⟩, .ro, true, 0, []⟩]⟩,
  -- OPT_GRP_MU (R328)
  ⟨0x2001010, 0x10000, 0x10, 4, 1, 0, [⟨⟨0, 32⟩, .ro, true, 0, []⟩]⟩,
  -- OPT_GRP_CYC (R328)
  ⟨0x2001014, 0x10000, 0x10, 4, 1, 0, [⟨⟨0, 32⟩, .ro, true, 0, []⟩]⟩,
  -- OPT_GRP_DYN (R334)
  ⟨0x2001018, 0x10000, 0x10, 4, 1, 0, [⟨⟨31, 1⟩, .ro, true, 0, []⟩,
    ⟨⟨0, 5⟩, .ro, true, 0, []⟩]⟩]

/-- The registers owned by block 0x05. -/
def regRows5 : List RegRow := regRows5_0

def regRows6_0 : List RegRow := [
  -- SRV_CTRL (R377)
  ⟨0x600000, 4, 1, 4, 1, 0, [⟨⟨0, 16⟩, .rw, false, 0x1F4, [(0xA, 0x2710)]⟩]⟩,
  -- SRV_STATUS (R378)
  ⟨0x600004, 4, 1, 4, 1, 0, [⟨⟨28, 4⟩, .ro, false, 0xF, []⟩,
    ⟨⟨16, 9⟩, .ro, false, 0, []⟩,
    ⟨⟨9, 4⟩, .ro, false, 8, []⟩,
    ⟨⟨0, 9⟩, .ro, false, 0xFF, []⟩]⟩,
  -- SRV_SWAP_BANK (R379)
  ⟨0x600008, 4, 1, 4, 1, 0, [⟨⟨0, 32⟩, .ro, false, 0, []⟩]⟩,
  -- SRV_SWAP_PEND (R379)
  ⟨0x60000C, 4, 1, 4, 1, 0, [⟨⟨0, 32⟩, .ro, false, 0, []⟩]⟩,
  -- SRV_COMPUTE (R379)
  ⟨0x600010, 4, 1, 4, 1, 0, [⟨⟨16, 16⟩, .rc, false, 0, []⟩,
    ⟨⟨0, 16⟩, .ro, false, 0, []⟩]⟩,
  -- SRV_REQ (R379)
  ⟨0x600014, 4, 1, 4, 1, 0, [⟨⟨16, 8⟩, .ro, false, 0xFF, []⟩,
    ⟨⟨0, 16⟩, .ro, false, 0, []⟩]⟩,
  -- SRV_CHECK (R379)
  ⟨0x600018, 4, 1, 4, 1, 0, [⟨⟨8, 8⟩, .ro, false, 0, []⟩,
    ⟨⟨0, 8⟩, .ro, false, 0, []⟩]⟩,
  -- SRV_GRP_SAFE (R380)
  ⟨0x600100, 0x10, 0x10, 4, 1, 0, [⟨⟨24, 7⟩, .rw, false, 0x32, [(0, 0x64)]⟩,
    ⟨⟨16, 8⟩, .rw, false, 0, []⟩,
    ⟨⟨0, 16⟩, .rw, false, 0, []⟩]⟩,
  -- SRV_AX_CFG (R381)
  ⟨0x604000, 0x40, 0xE0, 4, 1, 0, [⟨⟨31, 1⟩, .rw, false, 0, []⟩,
    ⟨⟨29, 2⟩, .rw, false, 0, []⟩,
    ⟨⟨24, 5⟩, .rw, false, 0, []⟩,
    ⟨⟨20, 4⟩, .rw, false, 0, []⟩,
    ⟨⟨8, 8⟩, .rw, false, 0, []⟩]⟩,
  -- SRV_AX_DET (R382)
  ⟨0x604004, 0x40, 0xE0, 4, 1, 0, [⟨⟨24, 8⟩, .rw, false, 0x10, [(1, 0xFF)]⟩,
    ⟨⟨16, 8⟩, .rw, false, 0, []⟩,
    ⟨⟨0, 4⟩, .rw, false, 2, [(1, 8)]⟩]⟩,
  -- SRV_AX_FRZ_V (R379)
  ⟨0x604008, 0x40, 0xE0, 4, 1, 0, [⟨⟨0, 32⟩, .rw, false, 0, []⟩]⟩,
  -- SRV_AX_FRZ_T (R379)
  ⟨0x60400C, 0x40, 0xE0, 4, 1, 0, [⟨⟨0, 32⟩, .rw, false, 0, [(0, 0x7FFFFFFF)]⟩]⟩,
  -- SRV_AX_FE_TIME (R379)
  ⟨0x604010, 0x40, 0xE0, 4, 1, 0, [⟨⟨0, 20⟩, .rw, false, 0x7D0, [(0, 0xF4240)]⟩]⟩,
  -- SRV_AX_STATE (R383)
  ⟨0x604014, 0x40, 0xE0, 4, 1, 0, [⟨⟨24, 8⟩, .ro, true, 0, []⟩,
    ⟨⟨16, 8⟩, .ro, true, 0, []⟩,
    ⟨⟨12, 2⟩, .ro, true, 0, []⟩,
    ⟨⟨11, 1⟩, .ro, true, 0, []⟩,
    ⟨⟨10, 1⟩, .ro, true, 0, []⟩,
    ⟨⟨9, 1⟩, .ro, true, 0, []⟩,
    ⟨⟨8, 1⟩, .ro, true, 0, []⟩,
    ⟨⟨7, 1⟩, .ro, true, 0, []⟩,
    ⟨⟨6, 1⟩, .ro, true, 0, []⟩,
    ⟨⟨5, 1⟩, .ro, true, 0, []⟩,
    ⟨⟨4, 1⟩, .ro, true, 0, []⟩,
    ⟨⟨2, 2⟩, .ro, true, 0, []⟩]⟩,
  -- SRV_AX_SAT (R384)
  ⟨0x604018, 0x40, 0xE0, 4, 1, 0, [⟨⟨13, 1⟩, .w1c, true, 0, []⟩,
    ⟨⟨12, 1⟩, .w1c, true, 0, []⟩,
    ⟨⟨11, 1⟩, .w1c, true, 0, []⟩,
    ⟨⟨10, 1⟩, .w1c, true, 0, []⟩,
    ⟨⟨9, 1⟩, .w1c, true, 0, []⟩,
    ⟨⟨8, 1⟩, .w1c, true, 0, []⟩,
    ⟨⟨7, 1⟩, .w1c, true, 0, []⟩,
    ⟨⟨6, 1⟩, .w1c, true, 0, []⟩,
    ⟨⟨5, 1⟩, .w1c, true, 0, []⟩,
    ⟨⟨4, 1⟩, .w1c, true, 0, []⟩,
    ⟨⟨3, 1⟩, .w1c, true, 0, []⟩,
    ⟨⟨2, 1⟩, .w1c, true, 0, []⟩,
    ⟨⟨1, 1⟩, .w1c, true, 0, []⟩,
    ⟨⟨0, 1⟩, .w1c, true, 0, []⟩]⟩,
  -- SRV_AX_MISS (R379)
  ⟨0x60401C, 0x40, 0xE0, 4, 1, 0, [⟨⟨16, 16⟩, .rc, true, 0, []⟩,
    ⟨⟨0, 16⟩, .rc, true, 0, []⟩]⟩,
  -- SRV_AX_POS_LO (R379)
  ⟨0x604020, 0x40, 0xE0, 4, 1, 1, [⟨⟨0, 32⟩, .ro, true, 0, []⟩]⟩,
  -- SRV_AX_POS_HI (R379)
  ⟨0x604024, 0x40, 0xE0, 4, 1, 2, [⟨⟨0, 32⟩, .ro, true, 0, []⟩]⟩,
  -- SRV_AX_VEL_LO (R379)
  ⟨0x604028, 0x40, 0xE0, 4, 1, 1, [⟨⟨0, 32⟩, .ro, true, 0, []⟩]⟩,
  -- SRV_AX_VEL_HI (R379)
  ⟨0x60402C, 0x40, 0xE0, 4, 1, 2, [⟨⟨0, 32⟩, .ro, true, 0, []⟩]⟩,
  -- SRV_AX_FERR (R379)
  ⟨0x604030, 0x40, 0xE0, 4, 1, 0, [⟨⟨0, 32⟩, .ro, true, 0, []⟩]⟩,
  -- SRV_AX_TRQ (R379)
  ⟨0x604034, 0x40, 0xE0, 4, 1, 0, [⟨⟨0, 32⟩, .ro, true, 0, []⟩]⟩,
  -- SRV_AX_INT (R379)
  ⟨0x604038, 0x40, 0xE0, 4, 1, 0, [⟨⟨0, 32⟩, .ro, true, 0, []⟩]⟩,
  -- SRV_SP_POS_LO (R379)
  ⟨0x608000, 0x20, 0xE0, 4, 1, 1, [⟨⟨0, 32⟩, .ro, false, 0, []⟩]⟩,
  -- SRV_SP_POS_HI (R379)
  ⟨0x608004, 0x20, 0xE0, 4, 1, 2, [⟨⟨0, 32⟩, .ro, false, 0, []⟩]⟩]

def regRows6_1 : List RegRow := [
  -- SRV_SP_VEL_LO (R379)
  ⟨0x608008, 0x20, 0xE0, 4, 1, 1, [⟨⟨0, 32⟩, .ro, false, 0, []⟩]⟩,
  -- SRV_SP_VEL_HI (R379)
  ⟨0x60800C, 0x20, 0xE0, 4, 1, 2, [⟨⟨0, 32⟩, .ro, false, 0, []⟩]⟩,
  -- SRV_SP_ACC_LO (R379)
  ⟨0x608010, 0x20, 0xE0, 4, 1, 1, [⟨⟨0, 32⟩, .ro, false, 0, []⟩]⟩,
  -- SRV_SP_ACC_HI (R379)
  ⟨0x608014, 0x20, 0xE0, 4, 1, 2, [⟨⟨0, 32⟩, .ro, false, 0, []⟩]⟩,
  -- SRV_SP_TRQ (R379)
  ⟨0x608018, 0x20, 0xE0, 4, 1, 0, [⟨⟨0, 32⟩, .ro, false, 0, []⟩]⟩,
  -- SRV_CF_KP (R385)
  ⟨0x610000, 0x8000, 2, 0x80, 0xE0, 0, [⟨⟨0, 32⟩, .rw, false, 0, []⟩]⟩,
  -- SRV_CF_KVFF (R385)
  ⟨0x610004, 0x8000, 2, 0x80, 0xE0, 0, [⟨⟨0, 32⟩, .rw, false, 0x10000, []⟩]⟩,
  -- SRV_CF_KV (R385)
  ⟨0x610008, 0x8000, 2, 0x80, 0xE0, 0, [⟨⟨0, 32⟩, .rw, false, 0, []⟩]⟩,
  -- SRV_CF_KI (R385)
  ⟨0x61000C, 0x8000, 2, 0x80, 0xE0, 0, [⟨⟨0, 32⟩, .rw, false, 0, []⟩]⟩,
  -- SRV_CF_KAFF (R385)
  ⟨0x610010, 0x8000, 2, 0x80, 0xE0, 0, [⟨⟨0, 32⟩, .rw, false, 0, []⟩]⟩,
  -- SRV_CF_KTFF (R385)
  ⟨0x610014, 0x8000, 2, 0x80, 0xE0, 0, [⟨⟨0, 32⟩, .rw, false, 0x10000, []⟩]⟩,
  -- SRV_CF_SHIFT (R386)
  ⟨0x610018, 0x8000, 2, 0x80, 0xE0, 0, [⟨⟨19, 1⟩, .rw, false, 1, []⟩,
    ⟨⟨18, 1⟩, .rw, false, 0, []⟩,
    ⟨⟨17, 1⟩, .rw, false, 0, []⟩,
    ⟨⟨16, 1⟩, .rw, false, 0, []⟩,
    ⟨⟨8, 6⟩, .rw, false, 0, []⟩,
    ⟨⟨0, 6⟩, .rw, false, 0, []⟩]⟩,
  -- SRV_CF_ILIM (R385)
  ⟨0x61001C, 0x8000, 2, 0x80, 0xE0, 0, [⟨⟨0, 32⟩, .rw, false, 0, [(0, 0x7FFFFFFF)]⟩]⟩,
  -- SRV_CF_TLIM_POS (R385)
  ⟨0x610020, 0x8000, 2, 0x80, 0xE0, 0, [⟨⟨0, 32⟩, .rw, false, 0, [(0, 0x7FFFFFFF)]⟩]⟩,
  -- SRV_CF_TLIM_NEG (R385)
  ⟨0x610024, 0x8000, 2, 0x80, 0xE0, 0, [⟨⟨0, 32⟩, .rw, false, 0, [(0, 0x7FFFFFFF)]⟩]⟩,
  -- SRV_CF_VLIM (R385)
  ⟨0x610028, 0x8000, 2, 0x80, 0xE0, 0, [⟨⟨0, 32⟩, .rw, false, 0, []⟩]⟩,
  -- SRV_CF_FE_LIMIT (R385)
  ⟨0x61002C, 0x8000, 2, 0x80, 0xE0, 0, [⟨⟨0, 32⟩, .rw, false, 0, []⟩]⟩,
  -- SRV_CF_BQ0_B0 (R385)
  ⟨0x610030, 0x8000, 2, 0x80, 0xE0, 0, [⟨⟨0, 32⟩, .rw, false, 0, []⟩]⟩,
  -- SRV_CF_BQ0_B1 (R385)
  ⟨0x610034, 0x8000, 2, 0x80, 0xE0, 0, [⟨⟨0, 32⟩, .rw, false, 0, []⟩]⟩,
  -- SRV_CF_BQ0_B2 (R385)
  ⟨0x610038, 0x8000, 2, 0x80, 0xE0, 0, [⟨⟨0, 32⟩, .rw, false, 0, []⟩]⟩,
  -- SRV_CF_BQ0_A1 (R385)
  ⟨0x61003C, 0x8000, 2, 0x80, 0xE0, 0, [⟨⟨0, 32⟩, .rw, false, 0, []⟩]⟩,
  -- SRV_CF_BQ0_A2 (R385)
  ⟨0x610040, 0x8000, 2, 0x80, 0xE0, 0, [⟨⟨0, 32⟩, .rw, false, 0, []⟩]⟩,
  -- SRV_CF_BQ1_B0 (R385)
  ⟨0x610044, 0x8000, 2, 0x80, 0xE0, 0, [⟨⟨0, 32⟩, .rw, false, 0, []⟩]⟩,
  -- SRV_CF_BQ1_B1 (R385)
  ⟨0x610048, 0x8000, 2, 0x80, 0xE0, 0, [⟨⟨0, 32⟩, .rw, false, 0, []⟩]⟩,
  -- SRV_CF_BQ1_B2 (R385)
  ⟨0x61004C, 0x8000, 2, 0x80, 0xE0, 0, [⟨⟨0, 32⟩, .rw, false, 0, []⟩]⟩]

def regRows6_2 : List RegRow := [
  -- SRV_CF_BQ1_A1 (R385)
  ⟨0x610050, 0x8000, 2, 0x80, 0xE0, 0, [⟨⟨0, 32⟩, .rw, false, 0, []⟩]⟩,
  -- SRV_CF_BQ1_A2 (R385)
  ⟨0x610054, 0x8000, 2, 0x80, 0xE0, 0, [⟨⟨0, 32⟩, .rw, false, 0, []⟩]⟩,
  -- SRV_GRP_STATUS (R387)
  ⟨0x2002000, 0x10000, 0x10, 4, 1, 0, [⟨⟨24, 8⟩, .ro, true, 0, []⟩,
    ⟨⟨16, 4⟩, .ro, true, 0, []⟩,
    ⟨⟨5, 1⟩, .ro, true, 0, []⟩,
    ⟨⟨4, 1⟩, .ro, true, 1, []⟩,
    ⟨⟨3, 1⟩, .ro, true, 0, []⟩,
    ⟨⟨0, 3⟩, .ro, true, 0, []⟩]⟩]

/-- The registers owned by block 0x06. -/
def regRows6 : List RegRow := regRows6_0 ++ regRows6_1 ++ regRows6_2

def regRows7_0 : List RegRow := [
  -- SEP_STATUS (R419)
  ⟨0x700000, 4, 1, 4, 1, 0, [⟨⟨16, 16⟩, .ro, true, 0, []⟩,
    ⟨⟨4, 1⟩, .ro, true, 0, []⟩,
    ⟨⟨3, 1⟩, .ro, true, 0, []⟩,
    ⟨⟨0, 3⟩, .ro, true, 0, []⟩]⟩,
  -- SEP_TICK (R421)
  ⟨0x700004, 4, 1, 4, 1, 0, [⟨⟨0, 32⟩, .ro, true, 0, []⟩]⟩,
  -- SEP_CYC_LAST (R421)
  ⟨0x700008, 4, 1, 4, 1, 0, [⟨⟨0, 32⟩, .ro, false, 0, []⟩]⟩,
  -- SEP_CYC_WORST (R421)
  ⟨0x70000C, 4, 1, 4, 1, 0, [⟨⟨0, 32⟩, .ro, false, 0, []⟩]⟩,
  -- SEP_GRID_ORG_X (R421)
  ⟨0x700010, 4, 1, 4, 1, 0, [⟨⟨0, 32⟩, .rw, false, 0, []⟩]⟩,
  -- SEP_GRID_ORG_Y (R421)
  ⟨0x700014, 4, 1, 4, 1, 0, [⟨⟨0, 32⟩, .rw, false, 0, []⟩]⟩,
  -- SEP_GRID_ORG_Z (R421)
  ⟨0x700018, 4, 1, 4, 1, 0, [⟨⟨0, 32⟩, .rw, false, 0, []⟩]⟩,
  -- SEP_GRID_CFG (R422)
  ⟨0x70001C, 4, 1, 4, 1, 0, [⟨⟨25, 7⟩, .rw, false, 0x7F, []⟩,
    ⟨⟨17, 8⟩, .rw, false, 0xFF, []⟩,
    ⟨⟨9, 8⟩, .rw, false, 0xFF, []⟩,
    ⟨⟨0, 6⟩, .rw, false, 0x14, [(0xA, 0x32)]⟩]⟩,
  -- SEP_HUMAN (R421)
  ⟨0x700020, 4, 1, 4, 1, 0, [⟨⟨0, 16⟩, .rw, false, 0x640, [(0x64, 0x1388)]⟩]⟩,
  -- SEP_TR (R421)
  ⟨0x700024, 4, 1, 4, 1, 0, [⟨⟨0, 20⟩, .rw, false, 0xC350, [(0x3E8, 0xF4240)]⟩]⟩,
  -- SEP_ALLOW_C (R421)
  ⟨0x700028, 4, 1, 4, 1, 0, [⟨⟨16, 16⟩, .rw, false, 0x64, [(0, 0x7D0)]⟩,
    ⟨⟨0, 16⟩, .rw, false, 0xC8, [(0, 0x7D0)]⟩]⟩,
  -- SEP_ALLOW_Z (R421)
  ⟨0x70002C, 4, 1, 4, 1, 0, [⟨⟨16, 16⟩, .rw, false, 0xA, [(0, 0x1F4)]⟩,
    ⟨⟨0, 16⟩, .rw, false, 0x32, [(0, 0x1F4)]⟩]⟩,
  -- SEP_RELEASE (R421)
  ⟨0x700030, 4, 1, 4, 1, 0, [⟨⟨16, 16⟩, .rw, false, 0x64, [(0, 0x3E8)]⟩,
    ⟨⟨0, 8⟩, .rw, false, 0x10, [(1, 0xFF)]⟩]⟩,
  -- SEP_RISE (R421)
  ⟨0x700034, 4, 1, 4, 1, 0, [⟨⟨0, 17⟩, .rw, false, 0x400, [(1, 0x10000)]⟩]⟩,
  -- SEP_SENSOR (R421)
  ⟨0x700038, 4, 1, 4, 1, 0, [⟨⟨16, 16⟩, .rw, false, 0, []⟩,
    ⟨⟨0, 16⟩, .rw, false, 0x9C40, [(0x3E8, 0xFFFF)]⟩]⟩,
  -- SEP_SELF (R421)
  ⟨0x70003C, 4, 1, 4, 1, 0, [⟨⟨0, 16⟩, .rw, false, 0x50, [(0, 0x3E8)]⟩]⟩,
  -- SEP_RR (R421)
  ⟨0x700040, 4, 1, 4, 1, 0, [⟨⟨16, 16⟩, .rw, false, 0x12C, [(1, 0x9F6)]⟩,
    ⟨⟨0, 16⟩, .rw, false, 0x32, [(0, 0x9F5)]⟩]⟩,
  -- SEP_PRED (R421)
  ⟨0x700044, 4, 1, 4, 1, 0, [⟨⟨8, 7⟩, .rw, false, 8, [(1, 0x40)]⟩,
    ⟨⟨0, 4⟩, .rw, false, 4, [(0, 8)]⟩]⟩,
  -- SEP_RR_EXCL (R421)
  ⟨0x700080, 4, 0x10, 4, 1, 0, [⟨⟨0, 16⟩, .rw, false, 0, []⟩]⟩,
  -- SEP_IGN_MIN (R423)
  ⟨0x700100, 8, 0x20, 4, 1, 0, [⟨⟨31, 1⟩, .rw, false, 0, []⟩,
    ⟨⟨16, 7⟩, .rw, false, 0, []⟩,
    ⟨⟨8, 8⟩, .rw, false, 0, []⟩,
    ⟨⟨0, 8⟩, .rw, false, 0, []⟩]⟩,
  -- SEP_IGN_MAX (R423)
  ⟨0x700104, 8, 0x20, 4, 1, 0, [⟨⟨16, 7⟩, .rw, false, 0, []⟩,
    ⟨⟨8, 8⟩, .rw, false, 0, []⟩,
    ⟨⟨0, 8⟩, .rw, false, 0, []⟩]⟩,
  -- SEP_GRP_CTRL (R424)
  ⟨0x700200, 8, 0x10, 4, 1, 0, [⟨⟨31, 1⟩, .rw, false, 0, []⟩,
    ⟨⟨30, 1⟩, .rw, false, 0, []⟩,
    ⟨⟨0, 16⟩, .rw, false, 0, []⟩]⟩,
  -- SEP_GRP_VREF (R421)
  ⟨0x700204, 8, 0x10, 4, 1, 0, [⟨⟨0, 16⟩, .rw, false, 0x7D0, [(1, 0x2710)]⟩]⟩,
  -- SEP_SENS_CFG (R421)
  ⟨0x700300, 0x10, 0x10, 4, 1, 0, [⟨⟨0, 8⟩, .rw, false, 0, [(0, 0xF0)]⟩]⟩,
  -- SEP_SENS_STATUS (R425)
  ⟨0x700304, 0x10, 0x10, 4, 1, 0, [⟨⟨31, 1⟩, .ro, false, 0, []⟩,
    ⟨⟨30, 1⟩, .ro, false, 0, []⟩,
    ⟨⟨29, 1⟩, .ro, false, 0, []⟩,
    ⟨⟨0, 16⟩, .ro, false, 0, []⟩]⟩]

def regRows7_1 : List RegRow := [
  -- SEP_SENS_ERR (R421)
  ⟨0x700308, 0x10, 0x10, 4, 1, 0, [⟨⟨16, 16⟩, .rc, false, 0, []⟩,
    ⟨⟨0, 16⟩, .rc, false, 0, []⟩]⟩,
  -- SEP_SENS_AGE (R421)
  ⟨0x70030C, 0x10, 0x10, 4, 1, 0, [⟨⟨0, 32⟩, .ro, false, 0, []⟩]⟩,
  -- SEP_CAP_CTRL (R426)
  ⟨0x701000, 0x20, 0x100, 4, 1, 0, [⟨⟨31, 1⟩, .ro, false, 0, []⟩,
    ⟨⟨16, 11⟩, .rw, false, 0, [(0, 0x7D0)]⟩,
    ⟨⟨0, 6⟩, .rw, false, 0, []⟩]⟩,
  -- SEP_CAP_P0X (R421)
  ⟨0x701004, 0x20, 0x100, 4, 1, 0, [⟨⟨0, 32⟩, .rw, false, 0, []⟩]⟩,
  -- SEP_CAP_P0Y (R421)
  ⟨0x701008, 0x20, 0x100, 4, 1, 0, [⟨⟨0, 32⟩, .rw, false, 0, []⟩]⟩,
  -- SEP_CAP_P0Z (R421)
  ⟨0x70100C, 0x20, 0x100, 4, 1, 0, [⟨⟨0, 32⟩, .rw, false, 0, []⟩]⟩,
  -- SEP_CAP_P1X (R421)
  ⟨0x701010, 0x20, 0x100, 4, 1, 0, [⟨⟨0, 32⟩, .rw, false, 0, []⟩]⟩,
  -- SEP_CAP_P1Y (R421)
  ⟨0x701014, 0x20, 0x100, 4, 1, 0, [⟨⟨0, 32⟩, .rw, false, 0, []⟩]⟩,
  -- SEP_CAP_P1Z (R421)
  ⟨0x701018, 0x20, 0x100, 4, 1, 0, [⟨⟨0, 32⟩, .rw, false, 0, []⟩]⟩,
  -- SEP_GRP_STATUS (R427)
  ⟨0x2003000, 0x10000, 0x10, 4, 1, 0, [⟨⟨31, 1⟩, .ro, true, 0, []⟩,
    ⟨⟨28, 1⟩, .ro, true, 0, []⟩,
    ⟨⟨27, 1⟩, .ro, true, 0, []⟩,
    ⟨⟨26, 1⟩, .ro, true, 0, []⟩,
    ⟨⟨25, 1⟩, .ro, true, 0, []⟩,
    ⟨⟨24, 1⟩, .ro, true, 0, []⟩,
    ⟨⟨16, 8⟩, .ro, true, 0, []⟩,
    ⟨⟨15, 1⟩, .ro, true, 0, []⟩,
    ⟨⟨0, 4⟩, .ro, true, 0, []⟩]⟩,
  -- SEP_GRP_DMIN (R428)
  ⟨0x2003004, 0x10000, 0x10, 4, 1, 0, [⟨⟨16, 16⟩, .ro, true, 0, []⟩,
    ⟨⟨0, 16⟩, .ro, true, 0x9F6, []⟩]⟩,
  -- SEP_GRP_FNEXT (R421)
  ⟨0x2003008, 0x10000, 0x10, 4, 1, 0, [⟨⟨0, 17⟩, .ro, true, 0x10000, []⟩]⟩,
  -- SEP_GRP_RR (R428)
  ⟨0x200300C, 0x10000, 0x10, 4, 1, 0, [⟨⟨28, 4⟩, .ro, true, 0, []⟩,
    ⟨⟨24, 4⟩, .ro, true, 0, []⟩,
    ⟨⟨0, 16⟩, .ro, true, 0x9F6, []⟩]⟩,
  -- SEP_GRP_CAPEN (R421)
  ⟨0x2003010, 0x10000, 0x10, 4, 1, 0, [⟨⟨0, 16⟩, .ro, true, 0, []⟩]⟩,
  -- SEP_CAP_D (R428)
  ⟨0x2003100, 0x10000, 0x10, 8, 0x10, 0, [⟨⟨31, 1⟩, .ro, true, 0, []⟩,
    ⟨⟨16, 12⟩, .ro, true, 0x9F6, []⟩,
    ⟨⟨0, 12⟩, .ro, true, 0x9F6, []⟩]⟩,
  -- SEP_CAP_V (R421)
  ⟨0x2003104, 0x10000, 0x10, 8, 0x10, 0, [⟨⟨0, 16⟩, .ro, true, 0, []⟩]⟩]

/-- The registers owned by block 0x07. -/
def regRows7 : List RegRow := regRows7_0 ++ regRows7_1

def regRows8_0 : List RegRow := [
  -- SF_STATUS (R474)
  ⟨0x800000, 4, 1, 4, 1, 0, [⟨⟨31, 1⟩, .ro, true, 0, []⟩,
    ⟨⟨30, 1⟩, .ro, true, 0, []⟩,
    ⟨⟨29, 1⟩, .ro, true, 0, []⟩,
    ⟨⟨28, 1⟩, .ro, true, 0, []⟩,
    ⟨⟨27, 1⟩, .ro, true, 0, []⟩,
    ⟨⟨26, 1⟩, .ro, true, 0, []⟩,
    ⟨⟨0, 16⟩, .ro, true, 0, []⟩]⟩,
  -- SF_PATH (R476)
  ⟨0x800004, 4, 1, 4, 1, 0, [⟨⟨16, 16⟩, .rc, false, 0, []⟩,
    ⟨⟨0, 16⟩, .rc, false, 0, []⟩]⟩,
  -- SF_REQ (R476)
  ⟨0x800008, 4, 1, 4, 1, 0, [⟨⟨31, 1⟩, .ro, false, 1, []⟩,
    ⟨⟨16, 8⟩, .ro, false, 0xFF, []⟩,
    ⟨⟨0, 16⟩, .ro, false, 0xFFFF, []⟩]⟩,
  -- SF_REQ_SEEN (R476)
  ⟨0x80000C, 4, 1, 4, 1, 0, [⟨⟨31, 1⟩, .ro, false, 1, []⟩,
    ⟨⟨16, 8⟩, .ro, false, 0xFF, []⟩,
    ⟨⟨0, 16⟩, .ro, false, 0xFFFF, []⟩]⟩,
  -- SF_STO_OUT (R476)
  ⟨0x800010, 4, 1, 4, 1, 0, [⟨⟨16, 16⟩, .ro, false, 0xFFFF, []⟩,
    ⟨⟨0, 16⟩, .ro, false, 0, []⟩]⟩,
  -- SF_STO_RB (R476)
  ⟨0x800014, 4, 1, 4, 1, 0, [⟨⟨16, 16⟩, .ro, false, 0, []⟩,
    ⟨⟨0, 16⟩, .ro, false, 0, []⟩]⟩,
  -- SF_BRK (R476)
  ⟨0x800018, 4, 1, 4, 1, 0, [⟨⟨24, 8⟩, .ro, false, 0, []⟩,
    ⟨⟨16, 8⟩, .ro, false, 0, []⟩,
    ⟨⟨8, 8⟩, .ro, false, 0xFF, []⟩,
    ⟨⟨0, 8⟩, .ro, false, 0, []⟩]⟩,
  -- SF_COUPLE (R476)
  ⟨0x80001C, 4, 1, 4, 1, 0, [⟨⟨0, 2⟩, .ro, false, 0, []⟩,
    ⟨⟨2, 2⟩, .ro, false, 0, []⟩,
    ⟨⟨4, 2⟩, .ro, false, 0, []⟩,
    ⟨⟨6, 2⟩, .ro, false, 0, []⟩,
    ⟨⟨8, 2⟩, .ro, false, 0, []⟩,
    ⟨⟨10, 2⟩, .ro, false, 0, []⟩,
    ⟨⟨12, 2⟩, .ro, false, 0, []⟩,
    ⟨⟨14, 2⟩, .ro, false, 0, []⟩,
    ⟨⟨16, 2⟩, .ro, false, 0, []⟩,
    ⟨⟨18, 2⟩, .ro, false, 0, []⟩,
    ⟨⟨20, 2⟩, .ro, false, 0, []⟩,
    ⟨⟨22, 2⟩, .ro, false, 0, []⟩,
    ⟨⟨24, 2⟩, .ro, false, 0, []⟩,
    ⟨⟨26, 2⟩, .ro, false, 0, []⟩,
    ⟨⟨28, 2⟩, .ro, false, 0, []⟩,
    ⟨⟨30, 2⟩, .ro, false, 0, []⟩]⟩,
  -- SF_PAIR_STATE (R476)
  ⟨0x800020, 4, 4, 4, 1, 0, [⟨⟨3, 1⟩, .ro, false, 0, []⟩,
    ⟨⟨7, 1⟩, .ro, false, 0, []⟩,
    ⟨⟨11, 1⟩, .ro, false, 0, []⟩,
    ⟨⟨15, 1⟩, .ro, false, 0, []⟩,
    ⟨⟨19, 1⟩, .ro, false, 0, []⟩,
    ⟨⟨23, 1⟩, .ro, false, 0, []⟩,
    ⟨⟨27, 1⟩, .ro, false, 0, []⟩,
    ⟨⟨31, 1⟩, .ro, false, 0, []⟩,
    ⟨⟨0, 3⟩, .ro, false, 7, []⟩,
    ⟨⟨4, 3⟩, .ro, false, 7, []⟩,
    ⟨⟨8, 3⟩, .ro, false, 7, []⟩,
    ⟨⟨12, 3⟩, .ro, false, 7, []⟩,
    ⟨⟨16, 3⟩, .ro, false, 7, []⟩,
    ⟨⟨20, 3⟩, .ro, false, 7, []⟩,
    ⟨⟨24, 3⟩, .ro, false, 7, []⟩,
    ⟨⟨28, 3⟩, .ro, false, 7, []⟩]⟩,
  -- SF_PAIR_FAULT (R476)
  ⟨0x800030, 4, 1, 4, 1, 0, [⟨⟨0, 32⟩, .ro, false, 0, []⟩]⟩,
  -- SF_LOG_SEQ (R476)
  ⟨0x800034, 4, 1, 4, 1, 0, [⟨⟨0, 32⟩, .ro, false, 0, []⟩]⟩,
  -- SF_ZONE (R475)
  ⟨0x800040, 4, 0x10, 4, 1, 0, [⟨⟨24, 8⟩, .ro, true, 0, []⟩,
    ⟨⟨20, 4⟩, .ro, true, 0, []⟩,
    ⟨⟨18, 2⟩, .ro, true, 0, []⟩,
    ⟨⟨17, 1⟩, .ro, true, 0, []⟩,
    ⟨⟨16, 1⟩, .ro, true, 0, []⟩,
    ⟨⟨15, 1⟩, .ro, true, 0, []⟩,
    ⟨⟨14, 1⟩, .ro, true, 1, []⟩,
    ⟨⟨0, 2⟩, .ro, true, 1, []⟩]⟩,
  -- SF_ZONE_CRC (R476)
  ⟨0x800080, 4, 0x10, 4, 1, 0, [⟨⟨0, 32⟩, .ro, false, 0, []⟩]⟩,
  -- SF_BRK_I (R476)
  ⟨0x8000C0, 4, 8, 4, 1, 0, [⟨⟨0, 16⟩, .ro, false, 0, []⟩]⟩]

/-- The registers owned by block 0x08. -/
def regRows8 : List RegRow := regRows8_0

def regRows9_0 : List RegRow := [
  -- LA_STATUS (R518)
  ⟨0x900004, 4, 1, 4, 1, 0, [⟨⟨0, 32⟩, .ro, false, 0, []⟩]⟩,
  -- LA_OUT_STATE (R518)
  ⟨0x900008, 4, 1, 4, 1, 0, [⟨⟨0, 16⟩, .ro, false, 0, []⟩]⟩,
  -- LA_OUT_CFG (R518)
  ⟨0x900100, 4, 0x10, 4, 1, 0, [⟨⟨31, 1⟩, .rw, false, 0, []⟩,
    ⟨⟨30, 1⟩, .rw, false, 0, []⟩]⟩,
  -- LA_CH_CFG (R515)
  ⟨0x910000, 0x1000, 0x20, 4, 1, 0, [⟨⟨31, 1⟩, .rw, false, 0, []⟩,
    ⟨⟨28, 3⟩, .rw, false, 0, []⟩,
    ⟨⟨27, 1⟩, .rw, false, 0, []⟩,
    ⟨⟨16, 8⟩, .rw, false, 0, []⟩,
    ⟨⟨8, 8⟩, .rw, false, 0, []⟩,
    ⟨⟨0, 6⟩, .rw, false, 0x3F, []⟩]⟩,
  -- LA_CH_WRAP (R518)
  ⟨0x910004, 0x1000, 0x20, 4, 1, 0, [⟨⟨0, 32⟩, .rw, false, 0xFFFFFFFF, []⟩]⟩,
  -- LA_CH_LINES (R518)
  ⟨0x910008, 0x1000, 0x20, 4, 1, 0, [⟨⟨31, 1⟩, .rw, false, 0, []⟩,
    ⟨⟨8, 20⟩, .rw, false, 0, []⟩,
    ⟨⟨0, 8⟩, .rw, false, 0, []⟩]⟩,
  -- LA_CH_COUNT (R518)
  ⟨0x91000C, 0x1000, 0x20, 4, 1, 0, [⟨⟨0, 32⟩, .ro, false, 0, []⟩]⟩,
  -- LA_CH_STATUS (R518)
  ⟨0x910010, 0x1000, 0x20, 4, 1, 0, [⟨⟨15, 1⟩, .ro, false, 0, []⟩,
    ⟨⟨14, 1⟩, .ro, false, 0, []⟩,
    ⟨⟨3, 2⟩, .ro, false, 0, []⟩,
    ⟨⟨0, 3⟩, .ro, false, 0, []⟩]⟩,
  -- LA_CH_ERR (R517)
  ⟨0x910014, 0x1000, 0x20, 4, 1, 0, [⟨⟨7, 1⟩, .w1c, false, 0, []⟩,
    ⟨⟨6, 1⟩, .w1c, false, 0, []⟩,
    ⟨⟨5, 1⟩, .w1c, false, 0, []⟩,
    ⟨⟨4, 1⟩, .w1c, false, 0, []⟩,
    ⟨⟨3, 1⟩, .w1c, false, 0, []⟩,
    ⟨⟨2, 1⟩, .w1c, false, 0, []⟩,
    ⟨⟨1, 1⟩, .w1c, false, 0, []⟩,
    ⟨⟨0, 1⟩, .w1c, false, 0, []⟩]⟩,
  -- LA_CH_ERRCNT (R518)
  ⟨0x910018, 0x1000, 0x20, 4, 1, 0, [⟨⟨16, 16⟩, .rc, false, 0, []⟩,
    ⟨⟨8, 8⟩, .rc, false, 0, []⟩,
    ⟨⟨0, 8⟩, .rc, false, 0, []⟩]⟩,
  -- LA_CH_IDX (R518)
  ⟨0x91001C, 0x1000, 0x20, 4, 1, 0, [⟨⟨0, 32⟩, .ro, false, 0, []⟩]⟩,
  -- LA_CH_LATCH_CFG (R518)
  ⟨0x910020, 0x1000, 0x20, 4, 1, 0, [⟨⟨31, 1⟩, .rw, false, 0, []⟩,
    ⟨⟨30, 1⟩, .rw, false, 0, []⟩,
    ⟨⟨28, 2⟩, .rw, false, 0, []⟩,
    ⟨⟨26, 2⟩, .rw, false, 1, [(1, 3)]⟩,
    ⟨⟨25, 1⟩, .rw, false, 0, []⟩]⟩,
  -- LA_CH_LATCH_STAT (R518)
  ⟨0x910024, 0x1000, 0x20, 4, 1, 0, [⟨⟨8, 8⟩, .rc, false, 0, []⟩,
    ⟨⟨4, 1⟩, .ro, false, 0, []⟩,
    ⟨⟨3, 1⟩, .ro, false, 0, []⟩,
    ⟨⟨0, 3⟩, .ro, false, 0, []⟩]⟩,
  -- LA_CH_LATCH_POS (R518)
  ⟨0x910028, 0x1000, 0x20, 4, 1, 0, [⟨⟨0, 32⟩, .ro, false, 0, []⟩]⟩,
  -- LA_CH_LATCH_TIME_LO (R518)
  ⟨0x910030, 0x1000, 0x20, 4, 1, 1, [⟨⟨0, 32⟩, .ro, false, 0, []⟩]⟩,
  -- LA_CH_LATCH_TIME_HI (R518)
  ⟨0x910034, 0x1000, 0x20, 4, 1, 2, [⟨⟨0, 32⟩, .ro, false, 0, []⟩]⟩,
  -- LA_CH_OUT (R518)
  ⟨0x910040, 0x1000, 0x20, 4, 1, 0, [⟨⟨30, 2⟩, .rw, false, 0, []⟩,
    ⟨⟨29, 1⟩, .rw, false, 0, []⟩,
    ⟨⟨12, 12⟩, .rw, false, 0x14, [(0x14, 0x7D0)]⟩,
    ⟨⟨0, 8⟩, .rw, false, 0x28, []⟩]⟩,
  -- LA_CH_KSTEP (R518)
  ⟨0x910044, 0x1000, 0x20, 4, 1, 0, [⟨⟨0, 32⟩, .rw, false, 0x10000, [(1, 0x7FFFFFFF)]⟩]⟩,
  -- LA_CH_VWORD_LO (R518)
  ⟨0x910048, 0x1000, 0x20, 4, 1, 1, [⟨⟨0, 32⟩, .ro, false, 0, []⟩]⟩,
  -- LA_CH_VWORD_HI (R518)
  ⟨0x91004C, 0x1000, 0x20, 4, 1, 2, [⟨⟨0, 32⟩, .ro, false, 0, []⟩]⟩,
  -- LA_CH_CMP_CTRL (R518)
  ⟨0x910050, 0x1000, 0x20, 4, 1, 0, [⟨⟨31, 1⟩, .ro, false, 0, []⟩,
    ⟨⟨0, 16⟩, .ro, false, 0, []⟩]⟩,
  -- LA_CH_CMP_ARMED_LO (R518)
  ⟨0x910058, 0x1000, 0x20, 4, 1, 1, [⟨⟨0, 32⟩, .ro, false, 0, []⟩]⟩,
  -- LA_CH_CMP_ARMED_HI (R518)
  ⟨0x91005C, 0x1000, 0x20, 4, 1, 2, [⟨⟨0, 32⟩, .ro, false, 0, []⟩]⟩,
  -- LA_CH_CMP_BEHIND_LO (R518)
  ⟨0x910060, 0x1000, 0x20, 4, 1, 1, [⟨⟨0, 32⟩, .ro, false, 0, []⟩]⟩,
  -- LA_CH_CMP_BEHIND_HI (R518)
  ⟨0x910064, 0x1000, 0x20, 4, 1, 2, [⟨⟨0, 32⟩, .ro, false, 0, []⟩]⟩]

def regRows9_1 : List RegRow := [
  -- LA_CMP_POS (R518)
  ⟨0x910100, 0x1000, 0x20, 0x10, 0x40, 0, [⟨⟨0, 32⟩, .rw, false, 0, []⟩]⟩,
  -- LA_CMP_INC (R518)
  ⟨0x910104, 0x1000, 0x20, 0x10, 0x40, 0, [⟨⟨0, 32⟩, .rw, false, 0, []⟩]⟩,
  -- LA_CMP_CTRL (R516)
  ⟨0x910108, 0x1000, 0x20, 0x10, 0x40, 0, [⟨⟨31, 1⟩, .rw, false, 0, []⟩,
    ⟨⟨30, 1⟩, .rw, false, 0, []⟩,
    ⟨⟨28, 2⟩, .rw, false, 0, []⟩,
    ⟨⟨26, 2⟩, .rw, false, 0, []⟩,
    ⟨⟨22, 4⟩, .rw, false, 0, []⟩,
    ⟨⟨0, 18⟩, .rw, false, 2, [(2, 0x30D40)]⟩]⟩,
  -- LA_ST_CUR (R518)
  ⟨0x910800, 0x1000, 0x10, 4, 1, 0, [⟨⟨16, 16⟩, .rw, false, 0, []⟩,
    ⟨⟨0, 16⟩, .rw, false, 0, []⟩]⟩,
  -- LA_ST_HOLD (R518)
  ⟨0x910804, 0x1000, 0x10, 4, 1, 0, [⟨⟨16, 16⟩, .rw, false, 0, []⟩,
    ⟨⟨8, 8⟩, .rw, false, 0x14, [(1, 0xFF)]⟩,
    ⟨⟨0, 8⟩, .rw, false, 0, []⟩]⟩,
  -- LA_ST_LOAD (R518)
  ⟨0x910808, 0x1000, 0x10, 4, 1, 0, [⟨⟨24, 8⟩, .rw, false, 0xC0, []⟩,
    ⟨⟨16, 8⟩, .rw, false, 0x60, []⟩,
    ⟨⟨0, 16⟩, .rw, false, 0x32, [(1, 0xFFFF)]⟩]⟩,
  -- LA_ST_CHOP (R518)
  ⟨0x91080C, 0x1000, 0x10, 4, 1, 0, [⟨⟨22, 10⟩, .rw, false, 0x64, [(0xA, 0x3FF)]⟩,
    ⟨⟨20, 2⟩, .rw, false, 2, [(0, 2)]⟩,
    ⟨⟨12, 8⟩, .rw, false, 0x28, []⟩,
    ⟨⟨4, 8⟩, .rw, false, 0x32, [(4, 0xFF)]⟩,
    ⟨⟨0, 4⟩, .rw, false, 4, [(1, 0xF)]⟩]⟩,
  -- LA_ST_ADAPT (R518)
  ⟨0x910810, 0x1000, 0x10, 4, 1, 0, [⟨⟨24, 8⟩, .rw, false, 0x40, []⟩,
    ⟨⟨16, 8⟩, .rw, false, 0x40, [(0x10, 0xFF)]⟩,
    ⟨⟨0, 16⟩, .rw, false, 0xC8, []⟩]⟩,
  -- LA_ST_SENSE (R518)
  ⟨0x910814, 0x1000, 0x10, 4, 1, 0, [⟨⟨16, 16⟩, .rw, false, 0xFA0, []⟩,
    ⟨⟨0, 16⟩, .rw, false, 0xFA0, [(0x64, 0xFFFF)]⟩]⟩,
  -- LA_ST_CPE (R518)
  ⟨0x910818, 0x1000, 0x10, 4, 1, 0, [⟨⟨0, 24⟩, .rw, false, 0, []⟩]⟩,
  -- LA_ST_CZERO (R518)
  ⟨0x91081C, 0x1000, 0x10, 4, 1, 0, [⟨⟨0, 32⟩, .rw, false, 0, []⟩]⟩,
  -- LA_ST_STATUS (R518)
  ⟨0x910820, 0x1000, 0x10, 4, 1, 0, [⟨⟨16, 16⟩, .ro, false, 0, []⟩,
    ⟨⟨15, 1⟩, .ro, false, 0, []⟩,
    ⟨⟨0, 6⟩, .ro, false, 0, []⟩]⟩,
  -- LA_ST_MEAS (R518)
  ⟨0x910824, 0x1000, 0x10, 4, 1, 0, [⟨⟨16, 16⟩, .ro, false, 0, []⟩,
    ⟨⟨0, 16⟩, .ro, false, 0, []⟩]⟩,
  -- LA_ST_OFS (R518)
  ⟨0x910828, 0x1000, 0x10, 4, 1, 0, [⟨⟨16, 16⟩, .ro, false, 0, []⟩,
    ⟨⟨0, 16⟩, .ro, false, 0, []⟩]⟩,
  -- LA_ST_RHO (R518)
  ⟨0x91082C, 0x1000, 0x10, 4, 1, 0, [⟨⟨0, 8⟩, .ro, false, 0, []⟩]⟩]

/-- The registers owned by block 0x09. -/
def regRows9 : List RegRow := regRows9_0 ++ regRows9_1

def regRowsA_0 : List RegRow := [
  -- ACQ_STATUS (R553)
  ⟨0xA00000, 4, 1, 4, 1, 0, [⟨⟨16, 1⟩, .ro, false, 0, []⟩,
    ⟨⟨0, 16⟩, .ro, false, 0, []⟩]⟩,
  -- ACQ_TB_CFG (R553)
  ⟨0xA00010, 4, 1, 4, 1, 0, [⟨⟨31, 1⟩, .rw, false, 0, []⟩,
    ⟨⟨28, 3⟩, .rw, false, 0, []⟩,
    ⟨⟨16, 12⟩, .rw, false, 0x9C4, [(0x64, 0xFFF)]⟩,
    ⟨⟨0, 16⟩, .rw, false, 0x3E8, [(0x40, 0xFFFF)]⟩]⟩,
  -- ACQ_TB_STATUS (R553)
  ⟨0xA00014, 4, 1, 4, 1, 0, [⟨⟨24, 8⟩, .rc, false, 0, []⟩,
    ⟨⟨5, 1⟩, .ro, false, 0, []⟩,
    ⟨⟨0, 5⟩, .ro, false, 0, []⟩]⟩,
  -- ACQ_TB_OWN (R553)
  ⟨0xA00018, 4, 1, 4, 1, 0, [⟨⟨12, 3⟩, .rw, false, 0, []⟩,
    ⟨⟨0, 12⟩, .rw, false, 0, []⟩]⟩,
  -- ACQ_TB_DELAY (R553)
  ⟨0xA00020, 4, 5, 4, 1, 0, [⟨⟨0, 16⟩, .ro, false, 0, []⟩]⟩,
  -- ACQ_TB_SYNC_ERR_LO (R553)
  ⟨0xA00040, 4, 1, 4, 1, 1, [⟨⟨0, 32⟩, .ro, false, 0, []⟩]⟩,
  -- ACQ_TB_SYNC_ERR_HI (R553)
  ⟨0xA00044, 4, 1, 4, 1, 2, [⟨⟨0, 32⟩, .ro, false, 0, []⟩]⟩,
  -- ACQ_AIN_CFG (R553)
  ⟨0xA00100, 4, 0x30, 4, 1, 0, [⟨⟨8, 5⟩, .rw, false, 0x1F, [(0, 0xF), (0x1F, 0x1F)]⟩,
    ⟨⟨0, 1⟩, .rw, false, 0, []⟩]⟩,
  -- ACQ_AIN_STATUS (R553)
  ⟨0xA00200, 4, 0x30, 4, 1, 0, [⟨⟨31, 1⟩, .w1c, false, 0, []⟩,
    ⟨⟨30, 1⟩, .w1c, false, 0, []⟩,
    ⟨⟨29, 1⟩, .w1c, false, 0, []⟩,
    ⟨⟨0, 16⟩, .ro, false, 0, []⟩]⟩,
  -- ACQ_SET_CFG (R553)
  ⟨0xA00400, 0x10, 0x10, 4, 1, 0, [⟨⟨30, 2⟩, .rw, false, 0, []⟩,
    ⟨⟨0, 16⟩, .rw, false, 1, [(1, 0xFFFF)]⟩]⟩,
  -- ACQ_SET_PER (R553)
  ⟨0xA00404, 0x10, 0x10, 4, 1, 0, [⟨⟨0, 24⟩, .rw, false, 0x28, [(0x28, 0xFFFFFF)]⟩]⟩,
  -- ACQ_SET_STATUS (R553)
  ⟨0xA00408, 0x10, 0x10, 4, 1, 0, [⟨⟨31, 1⟩, .ro, false, 0, []⟩,
    ⟨⟨0, 16⟩, .rc, false, 0, []⟩]⟩,
  -- ACQ_STR_CFG (R553)
  ⟨0xA00600, 4, 0x40, 4, 1, 0, [⟨⟨31, 1⟩, .rw, false, 0, []⟩,
    ⟨⟨0, 8⟩, .rw, false, 0, []⟩]⟩,
  -- ACQ_STR_STAT (R553)
  ⟨0xA00700, 4, 0x40, 4, 1, 0, [⟨⟨16, 16⟩, .rc, false, 0, []⟩,
    ⟨⟨0, 16⟩, .rc, false, 0, []⟩]⟩,
  -- ACQ_PRB_CFG (R553)
  ⟨0xA00800, 4, 0x80, 4, 1, 0, [⟨⟨31, 1⟩, .rw, false, 0, []⟩,
    ⟨⟨8, 5⟩, .rw, false, 0, [(0, 0x10)]⟩,
    ⟨⟨0, 8⟩, .rw, false, 0, [(0, 0xDF)]⟩]⟩,
  -- ACQ_U_CFG (R553)
  ⟨0xA01000, 0x100, 0x10, 4, 1, 0, [⟨⟨31, 1⟩, .rw, false, 0, []⟩,
    ⟨⟨29, 2⟩, .rw, false, 0, [(0, 2)]⟩,
    ⟨⟨27, 2⟩, .rw, false, 0, []⟩,
    ⟨⟨26, 1⟩, .rw, false, 0, []⟩,
    ⟨⟨25, 1⟩, .rw, false, 0, []⟩,
    ⟨⟨21, 4⟩, .rw, false, 0, [(0, 8)]⟩,
    ⟨⟨16, 5⟩, .rw, false, 1, [(1, 0x10)]⟩,
    ⟨⟨12, 4⟩, .rw, false, 0, []⟩,
    ⟨⟨0, 5⟩, .rw, false, 1, [(1, 0x10)]⟩]⟩,
  -- ACQ_U_MEM (R553)
  ⟨0xA01014, 0x100, 0x10, 4, 1, 0, [⟨⟨16, 8⟩, .rw, false, 1, [(1, 0x80)]⟩,
    ⟨⟨0, 8⟩, .rw, false, 0, [(0, 0xFB)]⟩]⟩,
  -- ACQ_U_PRE (R553)
  ⟨0xA01018, 0x100, 0x10, 4, 1, 0, [⟨⟨0, 32⟩, .rw, false, 0, []⟩]⟩,
  -- ACQ_U_POST (R553)
  ⟨0xA0101C, 0x100, 0x10, 4, 1, 0, [⟨⟨0, 32⟩, .rw, false, 1, []⟩]⟩,
  -- ACQ_U_TRIG (R553)
  ⟨0xA01020, 0x100, 0x10, 4, 1, 0, [⟨⟨29, 3⟩, .rw, false, 0, []⟩,
    ⟨⟨27, 2⟩, .rw, false, 0, []⟩,
    ⟨⟨23, 4⟩, .rw, false, 0, []⟩,
    ⟨⟨21, 2⟩, .rw, false, 0, []⟩,
    ⟨⟨20, 1⟩, .rw, false, 0, []⟩,
    ⟨⟨18, 2⟩, .rw, false, 0, []⟩]⟩,
  -- ACQ_U_TH_A_LO (R553)
  ⟨0xA01024, 0x100, 0x10, 4, 1, 1, [⟨⟨0, 32⟩, .rw, false, 0, []⟩]⟩,
  -- ACQ_U_TH_A_HI (R553)
  ⟨0xA01028, 0x100, 0x10, 4, 1, 2, [⟨⟨0, 32⟩, .rw, false, 0, []⟩]⟩,
  -- ACQ_U_TH_B_LO (R553)
  ⟨0xA0102C, 0x100, 0x10, 4, 1, 1, [⟨⟨0, 32⟩, .rw, false, 0, []⟩]⟩,
  -- ACQ_U_TH_B_HI (R553)
  ⟨0xA01030, 0x100, 0x10, 4, 1, 2, [⟨⟨0, 32⟩, .rw, false, 0, []⟩]⟩,
  -- ACQ_U_HYST (R553)
  ⟨0xA01034, 0x100, 0x10, 4, 1, 0, [⟨⟨0, 32⟩, .rw, false, 0, []⟩]⟩]

def regRowsA_1 : List RegRow := [
  -- ACQ_U_TTIME_LO (R553)
  ⟨0xA01038, 0x100, 0x10, 4, 1, 1, [⟨⟨0, 32⟩, .rw, false, 0, []⟩]⟩,
  -- ACQ_U_TTIME_HI (R553)
  ⟨0xA0103C, 0x100, 0x10, 4, 1, 2, [⟨⟨0, 32⟩, .rw, false, 0, []⟩]⟩,
  -- ACQ_U_EVENT (R553)
  ⟨0xA01040, 0x100, 0x10, 4, 1, 0, [⟨⟨16, 16⟩, .rw, false, 0xFFFF, []⟩,
    ⟨⟨0, 16⟩, .rw, false, 0, []⟩]⟩,
  -- ACQ_U_MASK (R553)
  ⟨0xA01044, 0x100, 0x10, 4, 1, 0, [⟨⟨31, 1⟩, .rw, false, 0, []⟩,
    ⟨⟨29, 2⟩, .rw, false, 0, []⟩,
    ⟨⟨25, 4⟩, .rw, false, 0, []⟩,
    ⟨⟨0, 13⟩, .rw, false, 0x1000, [(1, 0x1000)]⟩]⟩,
  -- ACQ_U_STREAM (R553)
  ⟨0xA01048, 0x100, 0x10, 4, 1, 0, [⟨⟨26, 6⟩, .rw, false, 0, []⟩,
    ⟨⟨19, 7⟩, .rw, false, 0x4B, [(1, 0x64)]⟩,
    ⟨⟨12, 7⟩, .rw, false, 0x19, [(0, 0x63)]⟩,
    ⟨⟨8, 4⟩, .rw, false, 4, [(2, 6)]⟩,
    ⟨⟨0, 8⟩, .rw, false, 0x64, [(1, 0xFF)]⟩]⟩,
  -- ACQ_U_STATE (R553)
  ⟨0xA0104C, 0x100, 0x10, 4, 1, 0, [⟨⟨28, 4⟩, .ro, false, 0, []⟩,
    ⟨⟨25, 3⟩, .ro, false, 0, []⟩,
    ⟨⟨20, 5⟩, .ro, false, 0, []⟩,
    ⟨⟨0, 5⟩, .ro, false, 0, []⟩]⟩,
  -- ACQ_U_STAT (R553)
  ⟨0xA01050, 0x100, 0x10, 4, 1, 0, [⟨⟨16, 16⟩, .rc, false, 0, []⟩,
    ⟨⟨0, 16⟩, .rc, false, 0, []⟩]⟩,
  -- ACQ_U_LOST_LO (R553)
  ⟨0xA01058, 0x100, 0x10, 4, 1, 1, [⟨⟨0, 32⟩, .ro, false, 0, []⟩]⟩,
  -- ACQ_U_LOST_HI (R553)
  ⟨0xA0105C, 0x100, 0x10, 4, 1, 2, [⟨⟨0, 32⟩, .ro, false, 0, []⟩]⟩,
  -- ACQ_U_RECS (R553)
  ⟨0xA01060, 0x100, 0x10, 4, 1, 0, [⟨⟨0, 32⟩, .ro, false, 0, []⟩]⟩,
  -- ACQ_U_DROPPED (R553)
  ⟨0xA01064, 0x100, 0x10, 4, 1, 0, [⟨⟨0, 32⟩, .rc, false, 0, []⟩]⟩,
  -- ACQ_U_SRC (R553)
  ⟨0xA01004, 0x100, 0x10, 4, 4, 0, [⟨⟨0, 8⟩, .rw, false, 0, []⟩,
    ⟨⟨8, 8⟩, .rw, false, 0, []⟩,
    ⟨⟨16, 8⟩, .rw, false, 0, []⟩,
    ⟨⟨24, 8⟩, .rw, false, 0, []⟩]⟩,
  -- ACQ_MASK_UP (R553)
  ⟨0xA80000, 0x8000, 4, 4, 0x1000, 0, [⟨⟨0, 32⟩, .rw, false, 0x7FFFFFFF, []⟩]⟩,
  -- ACQ_MASK_LO (R553)
  ⟨0xA84000, 0x8000, 4, 4, 0x1000, 0, [⟨⟨0, 32⟩, .rw, false, 0x80000000, []⟩]⟩]

/-- The registers owned by block 0x0A. -/
def regRowsA : List RegRow := regRowsA_0 ++ regRowsA_1

def regRowsB_0 : List RegRow := [
  -- SC_STATUS (R589)
  ⟨0xB00000, 4, 1, 4, 1, 0, [⟨⟨24, 8⟩, .ro, false, 0, []⟩,
    ⟨⟨16, 8⟩, .ro, false, 0, []⟩,
    ⟨⟨8, 8⟩, .ro, false, 0, []⟩,
    ⟨⟨0, 8⟩, .ro, false, 0, []⟩]⟩,
  -- SC_ECC (R589)
  ⟨0xB00004, 4, 1, 4, 1, 0, [⟨⟨16, 16⟩, .rc, false, 0, []⟩,
    ⟨⟨0, 16⟩, .rc, false, 0, []⟩]⟩,
  -- SC_CFG (R585)
  ⟨0xB01000, 0x100, 8, 4, 1, 0, [⟨⟨31, 1⟩, .rw, false, 0, []⟩,
    ⟨⟨16, 8⟩, .rw, false, 0xA, [(1, 0xFF)]⟩,
    ⟨⟨0, 13⟩, .rw, false, 0, []⟩]⟩,
  -- SC_STATE (R586)
  ⟨0xB01004, 0x100, 8, 4, 1, 0, [⟨⟨29, 3⟩, .ro, false, 0, []⟩,
    ⟨⟨28, 1⟩, .ro, false, 0, []⟩,
    ⟨⟨27, 1⟩, .ro, false, 0, []⟩,
    ⟨⟨0, 13⟩, .ro, false, 0, []⟩]⟩,
  -- SC_SR (R590)
  ⟨0xB01008, 0x100, 8, 4, 1, 0, [⟨⟨15, 1⟩, .ro, false, 0, []⟩,
    ⟨⟨14, 1⟩, .ro, false, 0, []⟩,
    ⟨⟨13, 1⟩, .ro, false, 0, []⟩,
    ⟨⟨12, 1⟩, .ro, false, 0, []⟩,
    ⟨⟨11, 1⟩, .ro, false, 0, []⟩,
    ⟨⟨10, 1⟩, .ro, false, 0, []⟩,
    ⟨⟨9, 1⟩, .ro, false, 0, []⟩,
    ⟨⟨8, 1⟩, .ro, false, 0, []⟩,
    ⟨⟨7, 1⟩, .ro, false, 0, []⟩,
    ⟨⟨6, 1⟩, .ro, false, 0, []⟩,
    ⟨⟨3, 1⟩, .ro, false, 0, []⟩,
    ⟨⟨2, 1⟩, .ro, false, 0, []⟩,
    ⟨⟨1, 1⟩, .ro, false, 0, []⟩,
    ⟨⟨0, 1⟩, .ro, false, 0, []⟩]⟩,
  -- SC_EXC (R586)
  ⟨0xB0100C, 0x100, 8, 4, 1, 0, [⟨⟨24, 5⟩, .ro, false, 0, []⟩,
    ⟨⟨0, 13⟩, .ro, false, 0, []⟩]⟩,
  -- SC_IRQ (R587)
  ⟨0xB01010, 0x100, 8, 4, 1, 0, [⟨⟨16, 4⟩, .ro, false, 0, []⟩,
    ⟨⟨0, 4⟩, .rw, false, 0, []⟩]⟩,
  -- SC_TIMER (R587)
  ⟨0xB01014, 0x100, 8, 4, 1, 0, [⟨⟨0, 32⟩, .rw, false, 0, [(0, 0), (0x64, 0xFFFFFFFF)]⟩]⟩,
  -- SC_BUSY (R587)
  ⟨0xB01018, 0x100, 8, 4, 1, 0, [⟨⟨0, 32⟩, .rc, false, 0, []⟩]⟩,
  -- SC_IN_CFG (R588)
  ⟨0xB01020, 0x100, 8, 4, 4, 0, [⟨⟨31, 1⟩, .rw, false, 0, []⟩,
    ⟨⟨30, 1⟩, .rw, false, 0, []⟩,
    ⟨⟨8, 6⟩, .rw, false, 0, []⟩,
    ⟨⟨0, 8⟩, .rw, false, 1, [(1, 0x80)]⟩]⟩,
  -- SC_IN_STAT (R588)
  ⟨0xB01030, 0x100, 8, 4, 4, 0, [⟨⟨16, 16⟩, .rc, false, 0, []⟩,
    ⟨⟨8, 8⟩, .rc, false, 0, []⟩,
    ⟨⟨0, 8⟩, .ro, false, 0, []⟩]⟩,
  -- SC_RES (R589)
  ⟨0xB01080, 0x100, 8, 4, 0x20, 0, [⟨⟨16, 16⟩, .ro, false, 0, []⟩,
    ⟨⟨0, 16⟩, .ro, false, 0, []⟩]⟩,
  -- SC_PROG (R582)
  ⟨0xB20000, 0x8000, 8, 4, 0x2000, 0, [⟨⟨0, 32⟩, .rw, false, 0, []⟩]⟩,
  -- SC_DATA (R582)
  ⟨0xB80000, 0x10000, 8, 4, 0x4000, 0, [⟨⟨16, 16⟩, .rw, false, 0, []⟩,
    ⟨⟨0, 16⟩, .rw, false, 0, []⟩]⟩]

/-- The registers owned by block 0x0B. -/
def regRowsB : List RegRow := regRowsB_0

def regRowsC_0 : List RegRow := [
  -- SCH_CTRL (R669)
  ⟨0xC00000, 4, 1, 4, 1, 0, [⟨⟨0, 16⟩, .rw, false, 0, []⟩]⟩,
  -- SCH_STATUS (R669)
  ⟨0xC00004, 4, 1, 4, 1, 0, [⟨⟨16, 13⟩, .ro, false, 0, []⟩,
    ⟨⟨0, 13⟩, .ro, false, 0, []⟩]⟩,
  -- SCH_LAT (R669)
  ⟨0xC00008, 4, 1, 4, 1, 0, [⟨⟨16, 16⟩, .rc, false, 0, []⟩,
    ⟨⟨0, 16⟩, .ro, false, 0, []⟩]⟩,
  -- SCH_BIND (R669)
  ⟨0xC00100, 4, 0x40, 4, 1, 0, [⟨⟨31, 1⟩, .rw, false, 0, []⟩,
    ⟨⟨28, 3⟩, .rw, false, 0, []⟩,
    ⟨⟨16, 12⟩, .rw, false, 0, []⟩,
    ⟨⟨0, 16⟩, .rw, false, 0, []⟩]⟩,
  -- WC_STATE (R669)
  ⟨0xC00200, 0x20, 0x10, 4, 1, 0, [⟨⟨28, 4⟩, .ro, false, 0, []⟩,
    ⟨⟨25, 3⟩, .ro, false, 0, []⟩,
    ⟨⟨24, 1⟩, .ro, false, 0, []⟩,
    ⟨⟨20, 4⟩, .ro, false, 0, []⟩,
    ⟨⟨17, 3⟩, .ro, false, 0, []⟩,
    ⟨⟨16, 1⟩, .ro, false, 0, []⟩,
    ⟨⟨0, 12⟩, .ro, false, 0, []⟩]⟩,
  -- WC_CFG (R669)
  ⟨0xC00204, 0x20, 0x10, 4, 1, 0, [⟨⟨31, 1⟩, .rw, false, 0, []⟩]⟩,
  -- WC_BUSY (R669)
  ⟨0xC00208, 0x20, 0x10, 4, 1, 0, [⟨⟨0, 32⟩, .rc, false, 0, []⟩]⟩,
  -- WC_ECC (R669)
  ⟨0xC0020C, 0x20, 0x10, 4, 1, 0, [⟨⟨16, 16⟩, .rc, false, 0, []⟩,
    ⟨⟨0, 16⟩, .rc, false, 0, []⟩]⟩,
  -- WC_FAULT (R669)
  ⟨0xC00210, 0x20, 0x10, 4, 1, 0, [⟨⟨16, 12⟩, .ro, false, 0, []⟩,
    ⟨⟨0, 8⟩, .ro, false, 0, []⟩]⟩,
  -- WI_STATUS (R669)
  ⟨0xC10000, 8, 0x1000, 4, 1, 0, [⟨⟨29, 3⟩, .ro, false, 0, []⟩,
    ⟨⟨28, 1⟩, .ro, false, 0, []⟩,
    ⟨⟨25, 3⟩, .ro, false, 0, []⟩,
    ⟨⟨24, 1⟩, .ro, false, 0, []⟩,
    ⟨⟨23, 1⟩, .ro, false, 0, []⟩,
    ⟨⟨22, 1⟩, .ro, false, 0, []⟩,
    ⟨⟨16, 4⟩, .ro, false, 0, []⟩,
    ⟨⟨0, 16⟩, .ro, false, 0, []⟩]⟩,
  -- WI_COUNT (R669)
  ⟨0xC10004, 8, 0x1000, 4, 1, 0, [⟨⟨16, 16⟩, .rc, false, 0, []⟩,
    ⟨⟨0, 16⟩, .ro, false, 0, []⟩]⟩,
  -- WO_STATUS (R669)
  ⟨0xC20000, 4, 0x400, 4, 1, 0, [⟨⟨16, 8⟩, .ro, false, 0, []⟩,
    ⟨⟨0, 16⟩, .ro, false, 0, []⟩]⟩]

/-- The registers owned by block 0x0C. -/
def regRowsC : List RegRow := regRowsC_0

def regRowsD_0 : List RegRow := [
  -- MEM_CTRL (R696)
  ⟨0xD00000, 4, 1, 4, 1, 0, [⟨⟨0, 16⟩, .rw, false, 0x1000, [(0x100, 0xFFFF)]⟩]⟩,
  -- MEM_STATUS (R696)
  ⟨0xD00004, 4, 1, 4, 1, 0, [⟨⟨16, 16⟩, .ro, false, 0, []⟩,
    ⟨⟨0, 16⟩, .ro, false, 0xFFFF, []⟩]⟩,
  -- MEM_ECC (R696)
  ⟨0xD00008, 4, 1, 4, 1, 0, [⟨⟨16, 16⟩, .rc, false, 0, []⟩,
    ⟨⟨0, 16⟩, .rc, false, 0, []⟩]⟩,
  -- MEM_CONFLICT (R696)
  ⟨0xD0000C, 4, 1, 4, 1, 0, [⟨⟨0, 32⟩, .rc, false, 0, []⟩]⟩,
  -- MEM_ERR_ADDR_LO (R696)
  ⟨0xD00010, 4, 1, 4, 1, 1, [⟨⟨0, 32⟩, .ro, false, 0, []⟩]⟩,
  -- MEM_ERR_ADDR_HI (R696)
  ⟨0xD00014, 4, 1, 4, 1, 2, [⟨⟨0, 32⟩, .ro, false, 0, []⟩]⟩,
  -- MEM_ERR_INFO (R696)
  ⟨0xD00018, 4, 1, 4, 1, 0, [⟨⟨12, 4⟩, .ro, false, 0, []⟩,
    ⟨⟨0, 12⟩, .ro, false, 0, []⟩]⟩,
  -- MEM_RETIRED (R696)
  ⟨0xD00020, 4, 8, 4, 1, 0, [⟨⟨0, 32⟩, .ro, false, 0, []⟩]⟩,
  -- MEM_GROUP (R696)
  ⟨0xD00040, 4, 0x10, 4, 1, 0, [⟨⟨0, 3⟩, .ro, false, 0, []⟩]⟩,
  -- MEM_SEC (R696)
  ⟨0xD00080, 4, 1, 4, 1, 0, [⟨⟨2, 1⟩, .ro, false, 0, []⟩,
    ⟨⟨1, 1⟩, .ro, false, 0, []⟩,
    ⟨⟨0, 1⟩, .ro, false, 0, []⟩]⟩,
  -- MST_CTRL (R696)
  ⟨0xD00100, 4, 1, 4, 1, 0, [⟨⟨0, 16⟩, .rw, false, 0x3E8, [(1, 0xFFFF)]⟩]⟩,
  -- MST_STATUS (R696)
  ⟨0xD00104, 4, 1, 4, 1, 0, [⟨⟨20, 4⟩, .ro, false, 0, []⟩,
    ⟨⟨0, 16⟩, .ro, false, 0, []⟩]⟩,
  -- MST_POLICY (R696)
  ⟨0xD00108, 4, 1, 4, 1, 0, [⟨⟨0, 4⟩, .rw, false, 0, []⟩]⟩,
  -- MST_SCHED (R696)
  ⟨0xD00110, 4, 6, 4, 1, 0, [⟨⟨31, 1⟩, .rw, false, 0, []⟩,
    ⟨⟨16, 5⟩, .rw, false, 0x10, [(0xA, 0x14)]⟩,
    ⟨⟨0, 16⟩, .rw, false, 8, [(1, 0xFFFF)]⟩]⟩,
  -- MST_REGION (R696)
  ⟨0xD00200, 0x10, 0x32, 4, 1, 0, [⟨⟨29, 3⟩, .ro, false, 0, []⟩,
    ⟨⟨26, 3⟩, .ro, false, 0, []⟩,
    ⟨⟨25, 1⟩, .ro, false, 0, []⟩,
    ⟨⟨20, 5⟩, .ro, false, 0, []⟩,
    ⟨⟨16, 4⟩, .ro, false, 0, []⟩,
    ⟨⟨0, 16⟩, .ro, false, 0, []⟩]⟩,
  -- MST_DONE (R696)
  ⟨0xD00204, 0x10, 0x32, 4, 1, 0, [⟨⟨0, 21⟩, .ro, false, 0, []⟩]⟩,
  -- MST_SIG_LO (R696)
  ⟨0xD00208, 0x10, 0x32, 4, 1, 1, [⟨⟨0, 32⟩, .ro, false, 0, []⟩]⟩,
  -- MST_SIG_HI (R696)
  ⟨0xD0020C, 0x10, 0x32, 4, 1, 2, [⟨⟨0, 32⟩, .ro, false, 0, []⟩]⟩]

/-- The registers owned by block 0x0D. -/
def regRowsD : List RegRow := regRowsD_0

def regRowsE_0 : List RegRow := [
  -- TWIN_CTRL (R733)
  ⟨0xE00000, 4, 1, 4, 1, 0, [⟨⟨31, 1⟩, .rw, false, 0, []⟩,
    ⟨⟨30, 1⟩, .rw, false, 0, []⟩,
    ⟨⟨29, 1⟩, .rw, false, 0, []⟩,
    ⟨⟨28, 1⟩, .rw, false, 1, []⟩,
    ⟨⟨16, 4⟩, .rw, false, 3, [(2, 7)]⟩,
    ⟨⟨8, 4⟩, .rw, false, 0, []⟩]⟩,
  -- TWIN_TIMING (R733)
  ⟨0xE00004, 4, 1, 4, 1, 0, [⟨⟨16, 16⟩, .rw, false, 0x3E8, [(0x64, 0xEA60)]⟩,
    ⟨⟨0, 16⟩, .rw, false, 0x1F4, [(0x14, 0x3E8)]⟩]⟩,
  -- TWIN_STATUS (R734)
  ⟨0xE00008, 4, 1, 4, 1, 0, [⟨⟨29, 3⟩, .ro, true, 7, []⟩,
    ⟨⟨26, 3⟩, .ro, true, 0, []⟩,
    ⟨⟨25, 1⟩, .ro, true, 0, []⟩,
    ⟨⟨24, 1⟩, .ro, true, 0, []⟩,
    ⟨⟨23, 1⟩, .ro, true, 0, []⟩,
    ⟨⟨22, 1⟩, .ro, true, 0, []⟩,
    ⟨⟨21, 1⟩, .ro, true, 0, []⟩,
    ⟨⟨20, 1⟩, .ro, true, 0, []⟩,
    ⟨⟨19, 1⟩, .ro, true, 0, []⟩,
    ⟨⟨18, 1⟩, .ro, true, 0, []⟩,
    ⟨⟨0, 2⟩, .ro, true, 0, []⟩]⟩,
  -- TWIN_MISS (R734)
  ⟨0xE0000C, 4, 1, 4, 1, 0, [⟨⟨24, 8⟩, .ro, false, 0, []⟩,
    ⟨⟨16, 8⟩, .ro, false, 0, []⟩,
    ⟨⟨0, 16⟩, .rc, false, 0, []⟩]⟩,
  -- TWIN_DELAY (R734)
  ⟨0xE00010, 4, 1, 4, 1, 0, [⟨⟨16, 16⟩, .ro, false, 0, []⟩,
    ⟨⟨0, 16⟩, .ro, false, 0, []⟩]⟩,
  -- TWIN_TERR (R734)
  ⟨0xE00014, 4, 1, 4, 1, 0, [⟨⟨0, 32⟩, .ro, false, 0, []⟩]⟩,
  -- TWIN_BUDGET (R734)
  ⟨0xE00018, 4, 1, 4, 1, 0, [⟨⟨16, 16⟩, .ro, false, 0, []⟩,
    ⟨⟨0, 16⟩, .ro, false, 0, []⟩]⟩,
  -- TWIN_FWD (R734)
  ⟨0xE0001C, 4, 1, 4, 1, 0, [⟨⟨16, 16⟩, .ro, false, 0, []⟩,
    ⟨⟨8, 8⟩, .rc, false, 0, []⟩,
    ⟨⟨0, 8⟩, .rc, false, 0, []⟩]⟩,
  -- TWIN_SNAP_LO (R734)
  ⟨0xE00020, 4, 1, 4, 1, 1, [⟨⟨0, 32⟩, .ro, false, 0, []⟩]⟩,
  -- TWIN_SNAP_HI (R734)
  ⟨0xE00024, 4, 1, 4, 1, 2, [⟨⟨0, 32⟩, .ro, false, 0, []⟩]⟩,
  -- TWIN_SWITCH (R734)
  ⟨0xE00028, 4, 1, 4, 1, 0, [⟨⟨16, 16⟩, .ro, false, 0, []⟩,
    ⟨⟨8, 8⟩, .ro, false, 0, []⟩,
    ⟨⟨0, 8⟩, .ro, false, 0, []⟩]⟩,
  -- TWIN_JOURNAL (R734)
  ⟨0xE0002C, 4, 1, 4, 1, 0, [⟨⟨16, 16⟩, .ro, false, 0, []⟩,
    ⟨⟨0, 16⟩, .ro, false, 0, []⟩]⟩]

/-- The registers owned by block 0x0E. -/
def regRowsE : List RegRow := regRowsE_0

def regRowsF_0 : List RegRow := [
  -- CK_STATUS (R757)
  ⟨0xF00000, 4, 1, 4, 1, 0, [⟨⟨8, 1⟩, .ro, false, 0, []⟩,
    ⟨⟨0, 7⟩, .ro, false, 0x7F, []⟩]⟩,
  -- CK_XMODE (R757)
  ⟨0xF00004, 4, 1, 4, 1, 0, [⟨⟨0, 16⟩, .rwl, false, 0, []⟩]⟩,
  -- CK_XSTAT (R757)
  ⟨0xF00008, 4, 1, 4, 1, 0, [⟨⟨16, 16⟩, .rc, false, 0, []⟩,
    ⟨⟨8, 8⟩, .rc, false, 0, []⟩,
    ⟨⟨0, 8⟩, .rc, false, 0, []⟩]⟩,
  -- CK_MON (R757)
  ⟨0xF00010, 4, 7, 4, 1, 0, [⟨⟨0, 16⟩, .ro, false, 0, []⟩]⟩,
  -- PWR_DOMAIN (R757)
  ⟨0xF00040, 4, 8, 4, 1, 0, [⟨⟨16, 16⟩, .rc, false, 0, []⟩,
    ⟨⟨8, 1⟩, .rw, false, 0, []⟩,
    ⟨⟨0, 3⟩, .ro, false, 0, []⟩]⟩,
  -- RST_CAUSE (R757)
  ⟨0xF00070, 4, 1, 4, 1, 0, [⟨⟨16, 16⟩, .ro, false, 0, []⟩,
    ⟨⟨8, 8⟩, .ro, false, 0, []⟩,
    ⟨⟨0, 8⟩, .ro, false, 1, []⟩]⟩,
  -- RST_CTRL (R757)
  ⟨0xF00074, 4, 1, 4, 1, 0, [⟨⟨31, 1⟩, .w1s, false, 0, []⟩]⟩,
  -- THERM (R757)
  ⟨0xF00080, 4, 9, 4, 1, 0, [⟨⟨16, 1⟩, .ro, false, 0, []⟩,
    ⟨⟨0, 16⟩, .ro, false, 0, []⟩]⟩,
  -- THERM_CFG (R757)
  ⟨0xF000A4, 4, 1, 4, 1, 0, [⟨⟨8, 8⟩, .rwl, false, 0x73, [(0x50, 0x7C)]⟩,
    ⟨⟨0, 8⟩, .rwl, false, 0x64, [(0x46, 0x6D)]⟩]⟩]

/-- The registers owned by block 0x0F. -/
def regRowsF : List RegRow := regRowsF_0

end Sys2Proof.Machine
end

