-- ==== Sys2Proof/Machine/State.lean ====
section
/-!
DEFINITION. The state of the device, as plain data: the register file (every register of the spec's offset tables,
key: PF-view BAR0 offset), and for each block the state that its chapter gives it beside registers. The commands
that wait stand in `pending`, first in, first out. State.reset is the device right after the power-on reset of PD0.
-/
namespace Sys2Proof.Machine

/-- A foul or event record (R53); `src` is the SOURCE field, kind in bits 15–12. -/
structure Rec where
  time : W64
  code : Nat
  src : Nat
  count : Nat
  detail : BitVec 128
  deriving DecidableEq, Repr

/-- The foul log (R57–R59): the blocks' 16-entry buffers, the device queue of 1,024 records (oldest first), the
records that overflow pushed from a full buffer into the queue and that FOUL_QUEUE_MOVE has not yet looked at, and the
drops that the next FOUL_DROPPED record is to cover. -/
structure LogSt where
  bufs : Tab (List Rec) := []
  queue : List Rec := []
  pushed : List Rec := []
  drops : Nat := 0
  dropFirst : W64 := 0
  dropLast : W64 := 0
  deriving DecidableEq, Repr

/-- What the device gives to the world outside: a posted write, a read request or an interrupt message on PCI Express
(R593, R782), a frame on a star port or twin lane (with layouts internal to the pair as data), a pulse, a level of a ball, a word to another die or to flash.
DEDUCED: notes/assumptions/81.md. -/
inductive Emit where
  | hostWrite (fn : Nat) (addr : W64) (data : List Byte)
  | hostPoisoned (fn : Nat) (addr : W64) (data : List Byte)
  | hostRead (fn id : Nat) (addr : W64) (len : Nat)
  | msix (fn vec : Nat) (addr : W64) (data : Word)
  | readData (who : Init) (addr : Nat) (data : List Byte) (poisoned : Bool)
  | frame (ch port : Nat) (start : Nat) (f : RawFrame)
  | forward (ch port : Nat) (f : RawFrame)
  | cut (ch port : Nat)
  | twinFrame (lane : Nat) (f : RawFrame)
  | twinPorts (ports : List PortRep) (misses : List Nat) (probes : List ProbeRep)
  | twinTick (part : TickPart)
  | twinJournal (e : JEntry)
  | twinAck (n : Nat)
  | twinForward (f : RawFrame)
  | twinControl (m : TwinMsg)
  | heartbeat (ns : Nat)
  | busPulse (line : Nat) (time : W64)
  | syncPulse (time : W64)
  | convStart (set : Nat) (ch : Nat)
  | step (c : Nat) (dir : Bool)
  | gates (c : Nat) (level : Nat)
  | safetyCmd (op : Nat) (par : BitVec 384)
  | flashRead (slot : Nat)
  | ball (name : String) (idx : Nat) (level : Nat)
  deriving DecidableEq, Repr

/-- Signalling state of one ring (R613): entries added since the last message, and when the first of them was. -/
structure ModSt where
  count : Nat := 0
  since : Option W64 := none
  deriving DecidableEq, Repr

/-- What a read of host memory is for (R615, R622). -/
inductive ReadJob where
  | descriptors (fn ring index n : Nat)
  | param (cmd : Cmd)
  deriving DecidableEq, Repr

/-- A read request to host memory: its tag, the job it serves, its place within the job's data, and its data once
it has arrived. -/
structure ReadReq where
  id : Nat
  fn : Nat
  job : Nat
  addr : W64
  len : Nat
  sent : Bool
  got : Option (List Byte)
  deriving DecidableEq, Repr

/-- The host engine (block 0x01) beside its registers: `_HI` latches and held `_LO` writes of R10 (key: initiator ×
2^28 + offset), ring signalling (R613), reads outstanding or waiting for one of the 128 tags (R593, R615) and their
jobs, commands fetched and not yet completed (R615), commands held behind a FENCE (R619), the timed queue (R85),
the PF's power state and the entries waiting for the link (R627), the watchdog (R628) and the boot attempt (R629). -/
structure HostSt where
  latch : Tab (Option Word) := []
  held : Tab (Option Word) := []
  mods : Tab ModSt := []
  reads : List ReadReq := []
  jobs : List (Nat × ReadJob) := []
  nextId : Nat := 1
  nextSeq : Nat := 1
  fetched : List Cmd := []
  fence : List Cmd := []
  timed : List Cmd := []
  d3hot : Bool := false
  waiting : List (Nat × Nat × Nat × List Byte × Bool) := []
  wdRun : Bool := false
  wdFrom : W64 := 0
  selfTestDone : Bool := false
  bootSel : Bool := false
  deriving DecidableEq, Repr

/-- One time view (R67): the offset O in units of 2^-24, the rate r in units of 2^-40, and the remaining slew
correction in units of 2^-24 (R74). -/
structure View where
  ofs : Int := 0
  rate : Int := 0
  slew : Int := 0
  deriving DecidableEq, Repr

/-- The time base (block 0x02, PD0) beside its registers: the raw counter (R66), the two views, the sample being
processed and the plant time of the last accepted one (R77, R78), the plant time of the last accepted correction
(R81), and the entries to be fired at the next tick although their time is past (R97). -/
structure TimeSt where
  raw : W64 := 0
  cell : View := {}
  plant : View := {}
  sample : W64 := 0
  lastTd : Option W64 := none
  lastCorr : W64 := 0
  fireNext : List Nat := []
  deriving DecidableEq, Repr

/-- A work item beside `WI_STATUS` and `WI_COUNT` (R649, R651): its fields, its place in the order of queue times, when
its run began, the context frame that holds it, its SCH_RESULT, the object it waits on with its deadline,
whether foul 0x0C15 has been recorded for it (R668), and whether its run took a discipline sample (R77). -/
structure ItemSt where
  entry : Nat := 0
  arg : W64 := 0
  stack : Nat := 0
  order : Nat := 0
  runFrom : W64 := 0
  warned : Bool := false
  frame : Nat := 0
  result : Nat := 0
  waitOn : Nat := 0
  deadline : W64 := 0
  stranded : Bool := false
  tookSample : Bool := false
  deriving DecidableEq, Repr

/-- The programming state of one RV64GC core (R644): pc, x1–x31, f0–f31, `fcsr`, mode, the machine CSRs, the PMP
entries and the LR reservation. -/
structure RvSt where
  pc : W64 := 0
  x : Tab W64 := []
  f : Tab W64 := []
  fcsr : Nat := 0
  machine : Bool := true
  mstatus : W64 := 0x200001800
  mie : W64 := 0
  mtvec : W64 := 0
  mscratch : W64 := 0
  mepc : W64 := 0
  mcause : W64 := 0
  mtval : W64 := 0
  mcounteren : W64 := 0
  mcountinhibit : W64 := 0
  pmpcfg : Tab Byte := []
  pmpaddr : Tab W64 := []
  mcycle : W64 := 0
  minstret : W64 := 0
  resv : Option (Nat × Nat) := none
  deriving DecidableEq, Repr

/-- A command slot of a work core (R663): 0 free, 1 busy, 2 done; the object to signal. -/
structure SlotSt where
  state : Nat := 0
  sig : Option Nat := none
  deriving DecidableEq, Repr

/-- A reload in progress (R666, R667): its command, and the core state it came from. -/
structure ReloadSt where
  cmd : Cmd
  was : Nat
  deriving DecidableEq, Repr

/-- One work core beside its registers (R645, R646, R657–R667): programming state, instruction and data RAM and the
octets of the command slots (unlisted octets read 0), context frames in use (frame, item), the deadline and result of
waits, the items that have chosen the core as target (R658), why it drains (1 WC_DRAIN, 2 WC_RELOAD, 3 lend), the drain's command, the reload.
DESIGN CHOICE: notes/assumptions/3.md. -/
structure CoreSt where
  rv : RvSt := {}
  iram : Tab Byte := []
  dram : Tab Byte := []
  slotMem : Tab Byte := []
  frames : List (Nat × Nat) := []
  waitTmo : W64 := 0
  result : Nat := 0
  notice : List Nat := []
  slots : Tab SlotSt := []
  drainWhy : Nat := 0
  drainCmd : Option Cmd := none
  reload : Option ReloadSt := none
  deriving DecidableEq, Repr

/-- The work cores and the scheduler (block 0x0C): cores, items, the next place in the order of queue times. -/
structure WcSt where
  cores : Tab CoreSt := []
  items : Tab ItemSt := []
  order : Nat := 1
  deriving DecidableEq, Repr

/-- An access to shared SRAM that waits for its bank group (R679) or for a wipe (R682). -/
inductive MemAccess where
  | read (who : Init) (ofs len : Nat)
  | write (who : Init) (ofs : Nat) (data : List Byte)
  | cmd (c : Cmd) (ofs len : Nat)
  deriving DecidableEq, Repr

/-- The fuses (R683–R686, R605, R634): part, step, serial, life cycle, the fused hashes of the four key slots and
their revocation, the SVN minimum. DESIGN CHOICE: notes/assumptions/2.md. -/
structure FuseSt where
  part : Nat := 0x9224
  step : Nat := 0x11
  serial : W64 := 0
  lifeCycle : Nat := 0
  keyHash : Tab Nat := []
  revoked : Nat := 0
  svnMin : Nat := 0
  deriving DecidableEq, Repr

/-- One self-test region beside `MST_*` (R688–R695): a run is in progress (paused or lent); the MST_RUN command it
belongs to; an aborted run is to be retried, and whether MST_RETRY_EXPIRE and MST_GAP_EXPIRE are still awaited; a
demand held under DEFER until the slice ends; the region is back but its owner has not yet reached its boundary; the
owner's state before the lend; a test of R693 is due, and how often it has failed. -/
structure RegionSt where
  running : Bool := false
  byCmd : Option Cmd := none
  retry : Bool := false
  retryWait : Bool := false
  gapWait : Bool := false
  held : Bool := false
  returning : Bool := false
  lentFrom : Nat := 0
  outOfUse : Bool := false
  fails : Nat := 0
  deriving DecidableEq, Repr

/-- Memory, life cycle and self-test (block 0x0D) beside its registers: the octets of shared SRAM (an unlisted octet
reads 0, R752), the offsets of words holding an uncorrectable error (R675), whether the first error is captured, the
accesses that wait, the scrubber's word, the commands waiting for a group's state, the triggers of wipes in progress (R682), the fuses, a pending life-cycle change, the regions and the
last one tested of each kind (R695). -/
structure MemSt where
  sram : Tab Byte := []
  poison : List Nat := []
  captured : Bool := false
  scrubPos : Nat := 0
  waiting : List MemAccess := []
  setCmds : List Cmd := []
  wipes : List Nat := []
  fuse : FuseSt := {}
  lcFrom : Option Nat := none
  lcResetDue : Bool := false
  lcCmd : Option Cmd := none
  regions : Tab RegionSt := []
  lastTested : Tab Nat := []
  deriving DecidableEq, Repr

/-- What a delayed write of a signal core changes (R573): a data register, a special register, the flags, sticky bits of
SR, a loop's active bit, or the accumulator as SAT sees it. -/
inductive ScTgt where
  | d (n : Nat)
  | sp (x : Nat)
  | flags
  | sticky
  | loop (n : Nat)
  | accSat (n : Nat)
  deriving DecidableEq, Repr

/-- A write that lands after `left` more cycles (R574). -/
structure ScPend where
  left : Nat
  tgt : ScTgt
  val : Nat
  deriving DecidableEq, Repr

/-- One signal core beside its registers (R557–R562, R571–R583): D0–D15, ACC0 and ACC1 and their values as SAT sees
them, the special registers but SR, the program banks (key: bank × 8192 + address), data RAM and result words, the input
FIFOs (word, time), the latched high halves of FIFO times and the latched words of cell time, the return stack, writes
that have not landed in the order of issue, the target that waits for a delay slot and whether RETI waits for it, the
commit that waits for its boundary, whether the last instruction was a loop end outside a handler (R571). -/
structure ScSt where
  d : Tab (BitVec 16) := []
  acc : Tab (BitVec 40) := []
  accSat : Tab (BitVec 40) := []
  sp : Tab (BitVec 16) := []
  prog : Tab Word := []
  data : Tab (BitVec 16) := []
  res : Tab (BitVec 16) := []
  fifo : Tab (List (BitVec 16 × W64)) := []
  inLatch : Tab (BitVec 16) := []
  timeLatch : W64 := 0
  stack : List Nat := []
  pend : List ScPend := []
  branch : Option Nat := none
  reti : Bool := false
  commit : Option Cmd := none
  loopEnd : Bool := false
  deriving DecidableEq, Repr

/-- One bridge phase (R506, R509): the state (0 OFF, 1 DRIVE+, 2 DRIVE−, 3 SLOW, 4 FAST after DRIVE+, 5 FAST after
DRIVE−), whether the FAST is the one of a change of sign or of a zero target, the target in mA. -/
structure LaPhase where
  st : Nat := 0
  rev : Bool := false
  t : Int := 0
  deriving DecidableEq, Repr

/-- A latch entry (R495): count, time, polarity, source (true Z). -/
structure LaLatch where
  pos : Nat
  time : W64
  rising : Bool
  z : Bool
  deriving DecidableEq, Repr

/-- One local-axis channel beside its registers: last valid hall code (R488), unwrapped count (R490) and its value at the
last index event (R491), the counts of the last 256 samples with the instant each came about (R495), the latch queue
(R496), whether SRC 3 has seen its X0 edge, held writes of POS and INC (initiator, entry, value; R498), the count and
validity latched for the cycle (R492), ENABLE and τ_out of the last load (R503), the phases, the values in use of
`LA_ST_CUR`, `_HOLD`, `_LOAD` and `_ADAPT` (R510), the gate outputs as last driven. -/
structure LaSt where
  hall : Nat := 4
  unw : Int := 0
  lastIdx : Option Int := none
  hist : List (Nat × Nat) := []
  latch : List LaLatch := []
  xSeen : Bool := false
  heldPos : List (Init × Nat × Word) := []
  heldInc : List (Init × Nat × Word) := []
  ck : Nat := 0
  ckValid : Bool := false
  enable : Bool := false
  tau : Int := 0
  phA : LaPhase := {}
  phB : LaPhase := {}
  cur : Word := 0
  hold : Word := 0x1400
  load : Word := 0xC0600032
  adapt : Word := 0x404000C8
  gates : Nat := 0
  deriving DecidableEq, Repr

/-- A conversion set beside its registers (R522, R523): conversions still to make (none: until stopped), conversions
sampled and not yet usable (time, and for each channel its code, or none when it is missing), the start and stop
commands that wait, and the start a sync pulse has set (R551). -/
structure AcqSet where
  left : Option Nat := none
  queue : List (W64 × List (Nat × Option Int)) := []
  startCmd : Option Cmd := none
  stopCmd : Option Cmd := none
  syncAt : Option W64 := none
  deriving DecidableEq, Repr

/-- A stream channel (R527): the FSEQ and time of its last sample and its latest samples, newest first. -/
structure AcqStr where
  fseq : Option Nat := none
  hist : List (W64 × Int) := []
  deriving DecidableEq, Repr

/-- A frame held in a segment: its instant, whether it is missing, and the values that a mask test compares with the lower
and the upper bound (R542). -/
structure AcqFrame where
  t : W64
  miss : Bool
  lo : Int
  hi : Int
  deriving DecidableEq, Repr

/-- The reduction of one source over an interval (R531). -/
structure AcqAcc where
  sum : Int := 0
  sq : Nat := 0
  lo : Int := 0
  hi : Int := 0
  deriving DecidableEq, Repr

/-- The chunk that a streaming unit fills (R543). -/
structure AcqChunk where
  idx : Nat
  first : W64
  n : Nat
  flags : Nat
  dropped : Nat
  trig : W64
  deriving DecidableEq, Repr

/-- One capture unit beside its registers (R529–R544): the interval being reduced (samples, start, missing, sources), the
grid interval, the frames held with the ring place of the next one, the trigger evaluation (previous sample, a sample
has been evaluated, rising and falling edges allowed, TTIME has been dealt with), the instants of entry to FILLING, of
arming, of the first frame and of the frame that filled PRE, the instant before which frames are not stored, the
previous record's last frame, the record's trigger and whether it came in FILLING or late, frames mask-tested, lost
triggers, records by segment (first ring place, frames), the record number; in streaming the chunk number, open chunk,
closed chunks in order (chunk, frames, last), frames dropped, flags for the next chunk, frames since F0, and the ACQ_STOP
that waits. -/
structure AcqU where
  accN : Nat := 0
  accT : W64 := 0
  accMiss : Bool := false
  acc : List AcqAcc := []
  gi : Nat := 0
  frames : List AcqFrame := []
  next : Nat := 0
  prev : Option (Int × W64) := none
  seen : Bool := false
  rise : Bool := false
  fall : Bool := false
  timeDone : Bool := false
  fillT : W64 := 0
  armT : W64 := 0
  segT : Option W64 := none
  readyT : Option W64 := none
  notBefore : Option W64 := none
  lastT : Option W64 := none
  trig : Option W64 := none
  short : Bool := false
  late : Bool := false
  tested : Nat := 0
  lost : List W64 := []
  recs : List (Nat × Nat × Nat) := []
  recNo : Nat := 0
  seq : Nat := 0
  chunk : Option AcqChunk := none
  closed : List (Nat × Nat × Bool) := []
  nextChunk : Nat := 0
  dropped : Nat := 0
  decChanged : Bool := false
  since : Nat := 0
  stopCmd : Option Cmd := none
  deriving DecidableEq, Repr

/-- A line's calibration (R549): rounds made, the probe that waits for its echo, the doubled d values, ended. -/
structure TbLine where
  rounds : Nat := 0
  probe : Option W64 := none
  ds : List Int := []
  done : Bool := false
  deriving DecidableEq, Repr

/-- The acquisition engine (block 0x0A) beside its registers: sets, streams, probes' samples of the cycle, units, the
order in which chunks have closed (unit), the time of the last sync pulse, the calibration that runs. -/
structure AcqSt where
  sets : Tab AcqSet := []
  strs : Tab AcqStr := []
  units : Tab AcqU := []
  order : List Nat := []
  lastSync : Option W64 := none
  calCmd : Option Cmd := none
  lines : Tab TbLine := []
  deriving DecidableEq, Repr

/-- A start block being followed on a port (R200): the entry it was judged against, the arbitration round, whether the round
was granted to it, and whether it is the answer to a probe (R186). -/
structure LkCur where
  ent : Nat
  round : Nat
  arb : Bool
  granted : Bool
  answer : Bool
  deriving DecidableEq, Repr

/-- A measurement of a node's delay on a port (R184–R189): node, PROBE_NO of the next probe, the doubled measurements, unanswered probes in a row,
the outstanding probe (departure of its terminate block, cycle count, START of its entry), and the delay that a final
probe is to carry. -/
structure LkMeas where
  node : Nat
  ms : List Int := []
  silent : Nat := 0
  out : Option (W64 × Nat × Nat) := none
  final : Option Nat := none
  deriving DecidableEq, Repr

/-- A frame of the device that waits for a MGMT entry of a port (R190): its place in the order of kinds, kind, DST, payload. -/
structure LkMsg where
  rank : Nat
  kind : Nat
  dst : Nat
  payload : List Byte
  deriving DecidableEq, Repr

/-- A port on one channel beside its registers: whether the star sends on it (R174, R208), the start block being followed, the notices
(node, code; R204), violations in this orbit and clean orbits (R206), cycles the lane has been lost and whether R207 has acted, the
measurement, the last node measured, whether "no probe interval" has been recorded for the bank, waiting frames. -/
structure LkPort where
  sending : Bool := false
  cur : Option LkCur := none
  notices : List (Nat × Nat) := []
  violated : Bool := false
  clean : Nat := 0
  lostFor : Nat := 0
  lossDone : Bool := false
  meas : Option LkMeas := none
  cursor : Nat := 0
  noInterval : Bool := false
  queue : List LkMsg := []
  deriving DecidableEq, Repr

/-- A node on one channel beside its registers: accepted delay (R188), serial and orbit of its grant (R193), the banks whose slot
list it has acknowledged (bit k), probation cycles left and what failed in them (R195), EDGE notices in a row and the cycle count
of the last (R202), whether it is to be measured again, whether a copy arrived in this orbit, silent orbits (R196). -/
structure LkNode where
  delay : Option Nat := none
  serial : W64 := 0
  grantOrbit : Nat := 0
  acked : Nat := 0
  probLeft : Nat := 0
  bad : Bool := false
  edges : Nat := 0
  edgeRun : Nat := 0
  edgeAt : Nat := 0
  remeasure : Bool := false
  heard : Bool := false
  silent : Nat := 0
  deriving DecidableEq, Repr

/-- The first valid copy of a frame in this cycle (R198): sender, slot, channel, the frame. -/
structure LkCopy where
  src : Nat
  slot : Nat
  ch : Nat
  f : RawFrame
  deriving DecidableEq, Repr

/-- A LINK_MGMT that waits for its reply (R225): command, node, TAG, orbit of its issue. -/
structure LkMgmt where
  cmd : Cmd
  node : Nat
  tag : Nat
  orbit : Nat
  deriving DecidableEq, Repr

/-- A schedule commit (R211): its command, the orbits it has waited, whether this orbit announces, and the reason that a succession or a twin
switch-over in the announcing orbit gives. -/
structure LkCommit where
  cmd : Cmd
  waited : Nat := 0
  announcing : Bool := false
  reason : Nat := 0
  deriving DecidableEq, Repr

/-- The cell link (block 0x03) beside its registers. `ports` and `nodes` are keyed by channel × 256 + index. CYCLE and T_k of the
present cycle; listen or claim cycles left, better claims since LINK_START and the claims of this cycle (channel, station); the
commands LINK_START, LINK_STOP, LINK_COMMIT that wait; the staged bank (R210); the bank in use is to be checked again; the default
guard of each bank's last check (R215); by channel the entries missing and their ports in this and the previous cycle (R124); the
entries with a valid copy or already counted in this cycle (entry, channel) and the copies; the feedback cut-off has passed; starts in
arbitration rounds (channel, entry, round, PRIO, port); channels whose serve has come, whose let phase is open, and the
block at which the let of the cycle began; the master from the next boundary; cycles without serve or let; LINK_MGMT outstanding; slot
lists without SLOT_ACK (TAG, channel, node, bank); the next TAG; supervision ticks since the last measurement of members. -/
structure LinkSt where
  ports : Tab LkPort := []
  nodes : Tab LkNode := []
  cycle : Nat := 0
  tk : W64 := 0
  count : Nat := 0
  better : Nat := 0
  claims : List (Nat × Nat) := []
  startCmd : Option Cmd := none
  stopCmd : Option Cmd := none
  commit : Option LkCommit := none
  member : Option Cmd := none
  staged : Option Nat := none
  recheck : Bool := false
  guard : Tab Nat := []
  miss : Tab Nat := []
  missPorts : Tab Nat := []
  missPrev : Tab Nat := []
  missPortsPrev : Tab Nat := []
  got : List (Nat × Nat) := []
  copies : List LkCopy := []
  cut : Bool := false
  arb : List (Nat × Nat × Nat × Nat × Nat) := []
  served : Nat := 0
  letOpen : Nat := 0
  letAt : List (Nat × Nat) := []
  newMaster : Option Nat := none
  lossCount : Nat := 0
  mgmt : List LkMgmt := []
  lists : List (Nat × Nat × Nat × Nat) := []
  nextTag : Nat := 1
  ticks : Nat := 0
  deriving DecidableEq, Repr

/-- A biquad's states (R349). -/
structure SrvBq where
  x1 : Int := 0
  x2 : Int := 0
  y1 : Int := 0
  y2 : Int := 0
  deriving DecidableEq, Repr

/-- What an axis carries from cycle to cycle (R343, R348–R351, R365–R367, R375): whether its history has started, p(k), p_last, p_prev,
m and m', the µs since p_last, the local count at p_last, v_fb, the integrator (Q1.47), the biquads, τ_out and v_cmd of the last
cycle, the following-error timer (µs), MISS_RUN, FRZ_RUN, FB, EXTRAP, PROBATION_FB, the status bits of the last record (bits 8–4 of
`SRV_AX_STATE`) and its TORQUE, the values of the probe codes 0–14 and the SAT flags of the cycle, whether feedback was missing, a
SEQ that did not match, and the fault causes recognised (cause, DETAIL byte 19, bytes 24–31). -/
structure SrvAx where
  started : Bool := false
  p : Int := 0
  pLast : Int := 0
  pPrev : Int := 0
  m : Nat := 0
  mp : Nat := 1
  dt : Nat := 0
  cnt : Nat := 0
  vfb : Int := 0
  integ : Int := 0
  bq0 : SrvBq := {}
  bq1 : SrvBq := {}
  tau : Int := 0
  vcmd : Int := 0
  fe : Nat := 0
  miss : Nat := 0
  frz : Nat := 0
  fb : Nat := 0
  extrap : Bool := false
  probFb : Bool := false
  status : Nat := 0
  torque : Int := 0
  vals : List Int := []
  sat : Nat := 0
  missing : Bool := false
  seqBad : Option Nat := none
  flt : List (Nat × Nat × Nat) := []
  deriving DecidableEq, Repr

/-- An axis's outputs (R344, R354): the results that wait for T_(k+1), what was issued at T_k, HOLD, cycles discarded in a row;
with it the held set-point (R363), whether it was taken in this cycle (R715), and SP_POS(T_k) as it stood at the end of cycle k − 1 (R353). -/
structure SrvOut where
  cmd : Int := 0
  vcmd : Int := 0
  cmdNow : Int := 0
  vcmdNow : Int := 0
  hold : Bool := false
  holdNow : Bool := false
  discards : Nat := 0
  held : Int := 0
  taken : Bool := false
  sp0 : Int := 0
  deriving DecidableEq, Repr

/-- A group's servo phase beside `SRV_GRP_STATUS` (R361): cycle boundaries since entry, the instant of entry, cycles in a row in
which every axis was ready, the request that waits for a boundary (1 enable, 2 disable, 3 category 0), the time of the
phase has run out, and what the planner has not yet been told: the axes are enabled, a servo fault has occurred. -/
structure SrvGrp where
  age : Nat := 0
  entered : W64 := 0
  readyRun : Nat := 0
  req : Nat := 0
  due : Bool := false
  tellOn : Bool := false
  tellFault : Bool := false
  deriving DecidableEq, Repr

/-- The servo engine (block 0x06) beside its registers: the axes, the results of the computation in progress, the outputs, the
groups, whether a computation is in progress, the pipelines that failed in this cycle and the axes they had, the faults recognised in this cycle (group, axis,
cause, DETAIL byte 19, bytes 24–31), the commits that wait (swap set, command), the length in µs of the last and of the present
cycle. -/
structure SrvSt where
  ax : Tab SrvAx := []
  nx : Tab SrvAx := []
  out : Tab SrvOut := []
  grp : Tab SrvGrp := []
  busy : Bool := false
  failed : List Nat := []
  lost : List Nat := []
  faults : List (Nat × Nat × Nat × Nat × Nat) := []
  commits : List (Nat × Cmd) := []
  prevUs : Nat := 0
  curUs : Nat := 0
  deriving DecidableEq, Repr

/-- The planner (block 0x04): groups, zones, the index of the planning tick, whether the freeze of the tick is still to come, the plan build of the
tick is still to come, and the groups of the deadlock last reported (R265). -/
structure PlSt where
  grp : Tab PlGrp := []
  zones : Tab PlZone := []
  tick : Nat := 0
  freezeDue : Bool := false
  deadlineDue : Bool := false
  deadlock : Nat := 0
  deriving DecidableEq, Repr

/-- The quadratic program of a solve (R286) in the template's slots: H, A and C by rows, g, b, l and u. -/
structure OptProb where
  H : List (List Nat)
  g : List Nat
  A : List (List Nat)
  b : List Nat
  C : List (List Nat)
  l : List Nat
  u : List Nat
  deriving DecidableEq, Repr

/-- An iterate (R310): x, y, and per inequality row the slacks and duals of its two sides. -/
structure OptIter where
  x : List Nat
  y : List Nat
  sl : List Nat
  su : List Nat
  zl : List Nat
  zu : List Nat
  deriving DecidableEq, Repr

/-- A solve (R309–R313): template, the clusters that carry it, knot 0 and its velocity, the step, the program, the
point reached, whether it is a complete iterate, complete iterations, the status once the solve has ended (0 while it runs), the
norms of R328 (r_p, r_d, μ), `OPT_GRP_NFCOL`. -/
structure OptSolve where
  tmpl : Nat
  mask : List Nat
  q0 : List Nat
  v0 : List Nat
  h : Nat
  prob : OptProb
  it : OptIter
  whole : Bool
  iters : Nat
  status : Nat
  norms : List Nat
  nf : Nat × Nat × Nat
  deriving DecidableEq, Repr

/-- One group of the optimiser beside its registers: the dynamic model; the payload commands that wait for a freeze; whether the move
has had its first solve, its start pose and progress u_0 (R292), the rest of a blend (its moves' progress past the entry point); the previous solution and
whether it belongs to the move (R335); the gravity job of the tick is still to come; a solve in progress or ended; the status of a group that is not
placed or whose assembly failed. -/
structure OptGrp where
  dyn : Option OptDyn := none
  payload : List Cmd := []
  started : Bool := false
  startP : List Nat := []
  startQ : List Nat := []
  u : Nat := 0
  blendFrom : Option (List Nat × List Nat × List Byte) := none
  sol : Option OptSol := none
  returned : Bool := false
  gravDue : Bool := false
  solve : Option OptSolve := none
  early : Nat := 0
  deriving DecidableEq, Repr

/-- The optimiser (block 0x05) beside its registers: groups, the containers of banks A and B (empty list: empty bank), the
commit that waits, clusters that faulted in this tick, DEADLINE_PCT in use. -/
structure OptSt where
  grp : Tab OptGrp := []
  banks : Tab (List Byte) := []
  commit : Option Cmd := none
  faulted : List Nat := []
  pct : Nat := 80
  deriving DecidableEq, Repr

/-- A unit of occupancy records (R394, R395): scan time, records, blind; while in assembly TIME_LO and the last FSEQ too. -/
structure SepUnit where
  time : W64 := 0
  recs : List Nat := []
  blind : Bool := false
  timeLo : Nat := 0
  fseq : Nat := 0
  deriving DecidableEq, Repr

/-- The three record buffers of a sensor (R395), and whether it was stale at the last freeze (R396). -/
structure SepSens where
  asm : Option SepUnit := none
  latest : Option SepUnit := none
  pinned : Option SepUnit := none
  stale : Bool := false
  deriving DecidableEq, Repr

/-- The result of a tick for one capsule: F_min, OUTSIDE, d, v_r (m/s) and S_p (m). -/
structure SepCap where
  cap : Nat
  fmin : Nat
  outside : Bool
  d : Nat
  v : Nat
  sp : Nat
  deriving DecidableEq, Repr

/-- The result of a tick for one group: placed, its capsules, the least robot-robot distance in metres with the other group and instant. -/
structure SepRes where
  placed : Bool := false
  caps : List SepCap := []
  rr : Option (Nat × Nat × Nat) := none
  stale : Bool := false
  deriving DecidableEq, Repr

/-- The separation monitor (block 0x07) beside its registers: sensors, publications in a row at which PERSON and ROBOT were clear
(key 2g and 2g + 1), the computation of the tick: whether one is in progress, its results and the occupied voxels (index x + NX (y + NY z));
the commands that wait, the state change for the next tick boundary, whether the mirrored requests still stand (R416). -/
structure SepSt where
  sens : Tab SepSens := []
  runs : Tab Nat := []
  busy : Bool := false
  res : Tab SepRes := []
  occ : List Nat := []
  capCmds : List Cmd := []
  enable : Option Cmd := none
  disable : List Cmd := []
  copies : List Cmd := []
  change : Option Nat := none
  mirror : Bool := false
  deriving DecidableEq, Repr

/-- An input pair of the safety die (R436, R437, R440): filtered levels, state (0 OFF, 1 HALF_ON, 2 ON, 3 HALF_OFF, 4 FAULT), the
channel that was first at its ON level, fault cause and channel, a failed test-pulse check, whether it has reached OFF since power-up. -/
structure SfPair where
  f1 : Bool := false
  f2 : Bool := false
  st : Nat := 0
  first : Nat := 0
  cause : Nat := 0
  chan : Nat := 0
  tpFail : Bool := false
  offSeen : Bool := false
  deriving DecidableEq, Repr

/-- A couple (R441): 0 IDLE, 1 ARMING, 2 ACTIVE, 3 BLOCKED; the hand that came first. -/
structure SfCouple where
  st : Nat := 0
  first : Nat := 0
  deriving DecidableEq, Repr

/-- A zone in the die (R445, R446): state as in `SF_ZONE.STATE`, trip and lock causes, a stop delay runs, its outputs may close, the
state and lock cause from which CONFIGURING was entered, its demand at the last scan. -/
structure SfZone where
  st : Nat := 1
  trip : Nat := 0
  lock : Nat := 0
  delay : Bool := false
  run : Bool := false
  back : Nat × Nat := (1, 0)
  demand : Bool := false
  deriving DecidableEq, Repr

/-- An output (R449–R454; 0–15 STO groups, 16–23 brake channels): 0 open, 1–3 step of a closing or unlock test, 4 closed; the step is of an unlock
test; ON test in progress (1 high side, 2 low side open) and whether the next one opens the low side; it has had a fault. -/
structure SfOutput where
  step : Nat := 0
  unlock : Bool := false
  onTest : Nat := 0
  onLow : Bool := false
  fault : Bool := false
  deriving DecidableEq, Repr

/-- A copy of the configuration in non-volatile memory (R462): validity, sequence number, records. -/
structure SfNvm where
  valid : Bool := true
  seq : Nat := 0
  recs : Tab (List Byte) := []
  deriving DecidableEq, Repr

/-- The die's answer to a message: status, block-specific byte, state dimension and value for STATE_REJECT, data, records that
block 0x08 posts with it (code, DETAIL). -/
structure SfAns where
  status : Nat
  blk : Nat := 0
  dim : Nat := 0
  val : Nat := 0
  data : List Byte := []
  posts : List (Nat × BitVec 128) := []
  deriving DecidableEq, Repr

/-- A message on the configuration port: its command (none: SF_LOCK_RETURNED), the cell time stamped, when it was sent (U of R66),
whether the die has it at work on a commit, the answer. -/
structure SfMsg where
  cmd : Option Cmd
  stamp : W64
  sent : Nat
  commit : Bool := false
  ans : Option SfAns := none
  deriving DecidableEq, Repr

/-- The safety die, and block 0x08 beside its registers. Records are keyed kind × 32 + index (kinds 0 zone, 1 pair, 2 brake, 3
source). Of the die: started since its power-on; DIE_FAULT cause; pairs, couples, zones, outputs; request lines as seen (layout of
`SF_REQ`); readbacks; records in use and staged; the two copies; lockouts held (zone, cause); salt, hash; failures in a row and block of SF_AUTH; the
session's user; change log, newest first, with the SEQ of the newest; the source that is low and, per source, until when (U) its
channels hold; output faults not yet reported; the zone under unlock test. Of block 0x08: messages in order, U at the last valid frame,
a bad frame since, path lost, causes of the pair faults reported, a twin snapshot loss asserts every line (R729). -/
structure SfSt where
  started : Bool := false
  dieFault : Nat := 0
  pairs : Tab SfPair := []
  couples : Tab SfCouple := []
  zones : Tab SfZone := []
  outs : Tab SfOutput := []
  seen : Nat := 0x80FFFFFF
  rbX : Nat := 0
  rbY : Nat := 0
  rbMa : Tab Nat := []
  recs : Tab (List Byte) := []
  staged : Tab (Option (List Byte)) := []
  nvmA : SfNvm := {}
  nvmB : SfNvm := { valid := false }
  locks : Tab Nat := []
  salt : List Byte := []
  hash : Option (List Byte) := none
  fails : Nat := 0
  blocked : Bool := false
  session : Option Nat := none
  log : List (List Byte) := []
  logSeq : Nat := 0
  tpLow : Option Nat := none
  tpHold : Tab Nat := []
  outFaults : List (Nat × Nat × Nat) := []
  unlock : Option Nat := none
  port : List SfMsg := []
  lastFrame : Nat := 0
  crcBad : Bool := false
  lost : Bool := false
  repCause : Tab Nat := []
  repDie : Bool := false
  forced : Bool := false
  deriving DecidableEq, Repr

/-- A TX frame that the standby holds for its star (R710): cycle count of the cycle named, bank, slot, DST, AUX, payload. -/
structure TwTx where
  cycle : Nat
  bank : Nat
  slot : Nat
  dst : Nat
  aux : Nat
  payload : List Byte
  deriving DecidableEq, Repr

/-- The twin block (block 0x0E) beside its registers. TWIN_ACT is kept low after R724; the beat window of the cycle is over; a
beat received in it on T0 (bit 0) and the pair (bit 1); paths lost (R705) and consecutive beats received on each; whether a beat
of the partner has been heard, its SIDE, station, SYNCED, DEFECT and zone states; the mirroring runs. Of the standby: fragments of
the cycle part being received (cycle count mod 2^22, index, count, octets); the cycle count of the last complete part and its outputs section; complete parts in a
row and cycles without one; a part named a bank that the journal has not delivered; θ known, and cycles with |θ| over 64; TX frames held;
feedback records (slot, index, octets) and other frames (entry, cycle count, frame) to forward; answered probes and entries without a copy to report; the
content that the journaled command being applied reads. TWIN_JOIN and TWIN_HANDOVER that wait; a handover waits for its boundary and is
automatic; the hold-off of R727 since; per zone since when it has differed and the zones recorded (R730); octets of journal entries not
acknowledged; forwarded records of the cycle (slot, index, octets; R712); the budget is exceeded (R718); how commands go out in this cycle (R720, R726: 0 as
ever, 1 the outgoing unit issues its own, 2 the incoming unit issues those held, 3 none); the length of the last eclipse is known from the part's
cycle. -/
structure TwinSt where
  actLow : Bool := false
  closed : Bool := false
  heard : Nat := 0
  lost : Nat := 0
  runT0 : Nat := 0
  runPair : Nat := 0
  partner : Bool := false
  side : Nat := 0
  station : Nat := 0
  psync : Bool := false
  defect : Nat := 0
  zones : Nat := 0
  mirror : Bool := false
  frags : List (Nat × Nat × Nat × List Byte) := []
  held : Option Nat := none
  outs : List Byte := []
  parts : Nat := 0
  without : Nat := 0
  behind : Bool := false
  theta : Bool := false
  thetaRun : Nat := 0
  tx : List TwTx := []
  fb : List (Nat × Nat × List Byte) := []
  rx : List (Nat × Nat × RawFrame) := []
  probes : List ProbeRep := []
  miss : List Nat := []
  feed : Option (List Byte) := none
  joinCmd : Option Cmd := none
  handCmd : Option Cmd := none
  pending : Bool := false
  auto : Bool := false
  since : Option W64 := none
  differ : Tab (Option W64) := []
  noted : Nat := 0
  journal : List Nat := []
  fwd : List (Nat × Nat × List Byte) := []
  overBudget : Bool := false
  out : Nat := 0
  deriving DecidableEq, Repr

/-- Block 0x0F beside its registers: windows in a row in which each clock has been off by more than 200 ppm (R739), a device reset
is due after CK_DEVICE_RESET (R758), event 0x0F31 is due (R745), the CK_DOMAIN_SET commands that wait for PD4 (R751), the state of the
analogue die: 0 its words arrive, 1 it calibrates after power-up (R753), 2 it has reset by itself, and whether its own temperature
holds its reset (R756). -/
structure CkSt where
  overs : Tab Nat := []
  resetDue : Bool := false
  eventDue : Bool := false
  powerCmds : List Cmd := []
  ana : Nat := 1
  anaHot : Bool := false
  deriving DecidableEq, Repr

/-- The whole device. `laPulse` holds a bit for each compare output whose pulse timer runs (R499). `regs` holds every register that does not stand at its reset value; `free` counts the values
that the spec leaves open and that steps have taken (the model's own field); `egress` lists what the device has
given to the outside, newest first (the model's own field); `modeCmd` is the SET_DEVICE_MODE that waits for its tick (R65), `modeOver` tells that a twin switch-over has come since (R43); `pending` is the queue of waiting commands. -/
structure State where
  regs : Tab Word := []
  log : LogSt := {}
  host : HostSt := {}
  time : TimeSt := {}
  wc : WcSt := {}
  mem : MemSt := {}
  sc : Tab ScSt := []
  la : Tab LaSt := []
  laPulse : Nat := 0
  acq : AcqSt := {}
  link : LinkSt := {}
  srv : SrvSt := {}
  pl : PlSt := {}
  opt : OptSt := {}
  sep : SepSt := {}
  sf : SfSt := {}
  twin : TwinSt := {}
  clk : CkSt := {}
  modeCmd : Option Cmd := none
  modeOver : Bool := false
  egress : List Emit := []
  free : Nat := 0
  pending : List Instr := []
  deriving DecidableEq, Repr

/-- The reasons a step can stop with a fault. No command of this model stops with one: the spec gives every command
and event an effect or an answer. -/
inductive Fault where
  /-- Raised by nothing (safe). -/
  | none
  deriving DecidableEq, Repr

/-- The reasons a step can be refused. -/
inductive Refusal where
  /-- Raised by the dispatcher for a row that has no meaning yet (safe). -/
  | notModelled (mnemonic : String)
  deriving DecidableEq, Repr

/-- The outcome of a step of this machine. -/
abbrev Out := Host.Outcome State Fault Refusal

/-- The device right after the power-on reset of PD0 (R18, R71, R752), every register at its reset value.
DEDUCED: notes/assumptions/71.md. DESIGN CHOICE: notes/assumptions/80.md. -/
def State.reset : State := {}

end Sys2Proof.Machine
end

