-- ==== Sys2Proof/Machine/Ops.lean ====
section
/-!
DEFINITION. The named operations: sparse tables, octets and integers, the register file, the two time views, the
foul log, and what the device posts to host memory (entries, writebacks, MSI-X messages, completions).
-/
namespace Sys2Proof.Machine

/-! ### Sparse tables -/

/-- The value at key `k`; an unlisted key reads as `d k`. -/
def tabGet {α : Type} (d : Nat → α) : Tab α → Nat → α
  | [], k => d k
  | (i, v) :: t, k => if i = k then v else tabGet d t k

/-- The table with key `k` at value `v`, in canonical form: a value equal to `d k` is not listed. (No other entry of key `k` stays, were the
table not canonical.) -/
def tabSet {α : Type} [DecidableEq α] (d : Nat → α) : Tab α → Nat → α → Tab α
  | [], k, v => if v = d k then [] else [(k, v)]
  | (i, w) :: t, k, v =>
    if i < k then (i, w) :: tabSet d t k v
    else
      let rest := ((i, w) :: t).filter fun e => e.1 != k
      if v = d k then rest else (k, v) :: rest

/-- The canonical form: keys strictly rising from `lo`, no entry equal to what an unlisted key reads as. -/
def tabWf {α : Type} [DecidableEq α] (d : Nat → α) : Nat → Tab α → Bool
  | _, [] => true
  | lo, (i, v) :: t => decide (lo ≤ i) && decide (v ≠ d i) && tabWf d (i + 1) t

/-- The table without the keys of `[lo, hi)`: those keys read as unlisted. -/
def tabClear {α : Type} (lo hi : Nat) (t : Tab α) : Tab α :=
  t.filter fun e => decide (e.1 < lo) || decide (hi ≤ e.1)

/-! ### Octets and integers -/

/-- The octets of `v`, `n` of them, least significant first (R6). -/
def leBytes : Nat → Nat → List Byte
  | 0, _ => []
  | n + 1, v => BitVec.ofNat 8 v :: leBytes n (v / 256)

/-- The unsigned integer of octets, least significant first (R6). -/
def ofLe : List Byte → Nat
  | [] => 0
  | b :: t => b.toNat + 256 * ofLe t

/-- The unsigned integer of octets, most significant first (SEC 1, R630). -/
def ofBe (l : List Byte) : Nat := ofLe l.reverse

/-- `n` octets of `l` from `o` (octets beyond the end read as 0). -/
def slice (l : List Byte) (o n : Nat) : List Byte :=
  let r := (l.drop o).take n
  r ++ List.replicate (n - r.length) 0

/-- The unsigned little-endian field of `n` octets at `o`. -/
def leAt (l : List Byte) (o n : Nat) : Nat := ofLe (slice l o n)

/-- Two's complement: the `w`-bit value of `n` as a signed integer (R7). -/
def toSigned (w n : Nat) : Int :=
  let m := n % 2 ^ w
  if m < 2 ^ (w - 1) then (m : Int) else (m : Int) - (2 ^ w : Nat)

/-- The signed little-endian field of `n` octets at `o`. -/
def sleAt (l : List Byte) (o n : Nat) : Int := toSigned (8 * n) (leAt l o n)

/-- The `w`-bit pattern of a signed integer. -/
def ofSigned (w : Nat) (i : Int) : Nat := (i % ((2 ^ w : Nat) : Int)).toNat

/-- `i` held within [lo, hi]. -/
def clampI (lo hi i : Int) : Int := if i < lo then lo else if hi < i then hi else i

/-- `i` saturated to a signed value of `w` bits. -/
def satS (w : Nat) (i : Int) : Int := clampI (-(2 ^ (w - 1) : Nat)) ((2 ^ (w - 1) : Nat) - 1) i

/-- `n` saturated to an unsigned value of `w` bits. -/
def satU (w n : Nat) : Nat := if n < 2 ^ w then n else 2 ^ w - 1

/-- Floor division of integers (the divisor positive). -/
def floorDiv (a : Int) (b : Nat) : Int := a / (b : Int)

/-- a / b rounded to nearest, ties away from zero (R74, R78); b positive. -/
def roundAway (a : Int) (b : Nat) : Int :=
  if 0 ≤ a then (2 * a + b) / (2 * (b : Int)) else -((2 * (-a) + b) / (2 * (b : Int)))

/-- a / b rounded to nearest, ties toward +∞ (R347); b positive. -/
def roundHalf (a : Int) (b : Nat) : Int := (2 * a + b) / (2 * (b : Int))

/-- ⌈a / b⌉. -/
def ceilDiv (a b : Nat) : Nat := if b = 0 then 0 else (a + b - 1) / b

/-- Bit `i` of `n`. -/
def bit (n i : Nat) : Bool := n.testBit i

/-- `n` with bit `i` set to `v`. -/
def setBit (n i : Nat) (v : Bool) : Nat :=
  if n.testBit i then (if v then n else n - 2 ^ i) else (if v then n + 2 ^ i else n)

/-- 1 for true, 0 for false. -/
def b2n (b : Bool) : Nat := if b then 1 else 0

/-- The number of set bits of `n` below bit `w`. -/
def popCount : Nat → Nat → Nat
  | 0, _ => 0
  | w + 1, n => n % 2 + popCount w (n / 2)

/-- The indices below `n` that satisfy `p`, ascending. -/
def idxs (n : Nat) (p : Nat → Bool) : List Nat := (List.range n).filter p

/-- Folds a state function over a list. -/
def forEach {α σ : Type} (l : List α) (s : σ) (f : α → σ → σ) : σ := l.foldl (fun s a => f a s) s

/-! ### The register file -/

/-- A field's value in a register. -/
def fldOf (v : Word) (f : Fld) : Nat := v.toNat / 2 ^ f.lo % 2 ^ f.w

/-- A register with a field replaced (bits of `x` above the field's width are dropped). -/
def fldPut (v : Word) (f : Fld) (x : Nat) : Word :=
  BitVec.ofNat 32 (v.toNat - fldOf v f * 2 ^ f.lo + x % 2 ^ f.w * 2 ^ f.lo)

/-- A register row's indices for an offset, when the offset is one of the row's registers. -/
def rowIdx (r : RegRow) (o : Nat) : Option (Nat × Nat) :=
  if o < r.base then none
  else
    let d := o - r.base
    let i := d / r.s1
    let e := d % r.s1
    if i < r.n1 ∧ e % r.s2 = 0 ∧ e / r.s2 < r.n2 then some (i, e / r.s2) else none

/-- The register rows of a block (R19). -/
def blockRows : Nat → List RegRow
  | 0 => regRows0 | 1 => regRows1 | 2 => regRows2 | 3 => regRows3 | 4 => regRows4 | 5 => regRows5
  | 6 => regRows6 | 7 => regRows7 | 8 => regRows8 | 9 => regRows9 | 10 => regRowsA | 11 => regRowsB
  | 12 => regRowsC | 13 => regRowsD | 14 => regRowsE | 15 => regRowsF | _ => []

/-- The block that owns a PF-view offset: by block range (R19), and in a group page by the page's part (R597). -/
def blockOf (o : Nat) : Nat :=
  if o < 0x1000000 then o / 0x100000
  else if 0x2000000 ≤ o ∧ o < 0x2100000 then
    let p := o % 0x10000 / 0x1000
    if p < 4 then 4 + p else 1
  else 1

/-- The register row of an offset. -/
def findRow (o : Nat) : Option RegRow := (blockRows (blockOf o)).find? fun r => (rowIdx r o).isSome

/-- The reset value of a register row (R18). -/
def rowReset (r : RegRow) : Word :=
  r.fields.foldl (fun v f => fldPut v f.fld f.reset) 0

/-- The reset value of the register at an offset (R18); 0 where there is no register (R14).
DESIGN CHOICE: notes/assumptions/80.md. -/
def regReset (o : Nat) : Word :=
  match findRow o with
  | some r => rowReset r
  | none => 0

/-- The register at an offset. -/
def State.reg (s : State) (o : Nat) : Word := tabGet regReset s.regs o

/-- The state with the register at an offset set. -/
def State.setReg (s : State) (o : Nat) (v : Word) : State := { s with regs := tabSet regReset s.regs o v }

/-- A field of a register. -/
def State.fld (s : State) (o : Nat) (f : Fld) : Nat := fldOf (s.reg o) f

/-- A one-bit field of a register, as a Boolean. -/
def State.flag (s : State) (o : Nat) (f : Fld) : Bool := s.fld o f == 1

/-- The state with a field of a register set. -/
def State.put (s : State) (o : Nat) (f : Fld) (x : Nat) : State := s.setReg o (fldPut (s.reg o) f x)

/-- The state with a field of a register raised by `n`, saturating at its width. -/
def State.addSat (s : State) (o : Nat) (f : Fld) (n : Nat) : State :=
  s.put o f (satU f.w (s.fld o f + n))

/-- The state with a field of a register raised by 1, wrapping at its width. -/
def State.addWrap (s : State) (o : Nat) (f : Fld) : State := s.put o f (s.fld o f + 1)

/-- A 64-bit pair (R10), from its `_LO` offset. -/
def State.reg64 (s : State) (o : Nat) : W64 :=
  BitVec.ofNat 64 ((s.reg o).toNat + 2 ^ 32 * (s.reg (o + 4)).toNat)

/-- The state with a 64-bit pair set. -/
def State.setReg64 (s : State) (o : Nat) (v : W64) : State :=
  (s.setReg o (BitVec.ofNat 32 v.toNat)).setReg (o + 4) (BitVec.ofNat 32 (v.toNat / 2 ^ 32))

/-- The state with every register of `[lo, hi)` at its reset value. -/
def State.clearRegs (s : State) (lo hi : Nat) : State := { s with regs := tabClear lo hi s.regs }

/-! ### Time (R66–R70) -/

/-- U = 32 × raw (R66). -/
def State.u (s : State) : Nat := 32 * s.time.raw.toNat

/-- A view's value: ⌊O + U + U × r × 2^-40⌋ mod 2^64 (R67). -/
def viewAt (v : View) (u : Nat) : W64 :=
  BitVec.ofInt 64 ((v.ofs * 2 ^ 16 + (u : Int) * 2 ^ 40 + (u : Int) * v.rate) / 2 ^ 40)

/-- Cell time now. -/
def State.cell (s : State) : W64 := viewAt s.time.cell s.u

/-- Plant time now. -/
def State.plantNow (s : State) : W64 := viewAt s.time.plant s.u

/-- The 64-bit difference of two times taken as signed (R70). -/
def timeDiff (a b : W64) : Int := (a - b).toInt

/-- `t` is at or before `now` (R70, R97 "past"). -/
def timePast (t now : W64) : Bool := decide (0 ≤ timeDiff now t)

/-! ### Free values -/

/-- A value that the spec leaves open, and the state with the count advanced. DESIGN CHOICE: notes/assumptions/5.md. -/
def State.takeFree (s : State) : W64 × State := (Config.freeValue s.free, { s with free := s.free + 1 })

/-! ### The foul log (R53–R59) -/

/-- SOURCE: kind in bits 15–12, index in bits 11–0 (R54). -/
def srcOf (kind idx : Nat) : Nat := kind * 4096 + idx % 4096

/-- SOURCE of an on-die block. -/
def srcBlock (b : Nat) : Nat := srcOf 0 b

/-- SOURCE of a link port: [5] channel, [4:0] port. -/
def srcPort (c p : Nat) : Nat := srcOf 1 (c * 32 + p)

/-- SOURCE of an initiator; an action of the device itself carries kind 0 and the recording block. -/
def srcInit (blk : Nat) : Init → Nat
  | .pf => srcOf 3 0
  | .vf n => srcOf 3 n
  | .wc c => srcOf 4 c
  | .dev => srcBlock blk

/-- One field of DETAIL: octet number 16–31, octets, value. -/
def det1 (o n v : Nat) : BitVec 128 := BitVec.ofNat 128 (v % 2 ^ (8 * n) * 2 ^ (8 * (o - 16)))

/-- DETAIL from its fields (octet number, octets, value), R53. -/
def det (l : List (Nat × Nat × Nat)) : BitVec 128 := l.foldl (fun d x => d ||| det1 x.1 x.2.1 x.2.2) 0

/-- Octet `o` (16–31) of a DETAIL. -/
def detByte (d : BitVec 128) (o : Nat) : Nat := d.toNat / 2 ^ (8 * (o - 16)) % 256

/-- A list of records with one more occurrence of (code, source) merged (R57), or none when no record matches. -/
def mergeRec (code src : Nat) : List Rec → Option (List Rec)
  | [] => none
  | r :: t =>
    if r.code = code ∧ r.src = src then some ({ r with count := satU 32 (r.count + 1) } :: t)
    else (mergeRec code src t).map (r :: ·)

/-- The records of one block's buffer. -/
def LogSt.buf (l : LogSt) (b : Nat) : List Rec := tabGet (fun _ => []) l.bufs b

/-- A block's buffer replaced. -/
def LogSt.setBuf (l : LogSt) (b : Nat) (x : List Rec) : LogSt := { l with bufs := tabSet (fun _ => []) l.bufs b x }

/-- The log after a block records `r` (R57, R59): merged in the block's buffer or in the queue; else put into the
16-entry buffer, whose oldest record moves on into the queue when the buffer is full; dropped and counted when both
are full. -/
def LogSt.record (l : LogSt) (b : Nat) (r : Rec) : LogSt :=
  match mergeRec r.code r.src (l.buf b) with
  | some x => l.setBuf b x
  | none =>
    match mergeRec r.code r.src l.queue with
    | some q => { l with queue := q }
    | none =>
      if (l.buf b).length < 16 then l.setBuf b (l.buf b ++ [r])
      else
        match l.buf b with
        | [] => l
        | h :: t =>
          if l.queue.length < 1024 then
            { l.setBuf b (t ++ [r]) with queue := l.queue ++ [h], pushed := l.pushed ++ [h] }
          else
            { l with
              drops := l.drops + 1
              dropFirst := if l.drops = 0 then r.time else l.dropFirst
              dropLast := r.time }

/-- Records a foul or event in the log of the block that the code's high byte names, at cell time now. -/
def State.post (s : State) (code src : Nat) (d : BitVec 128) : State :=
  let before := s.log
  let l := before.record (code / 256) ⟨s.cell, code, src, 1, d⟩
  let s := { s with log := l }
  if l.drops = before.drops then s else s.setReg Reg.FOUL_DROPPED (BitVec.ofNat 32 (satU 32 ((s.reg Reg.FOUL_DROPPED).toNat + 1)))

/-- A foul or event whose source is the recording block. -/
def State.postB (s : State) (code : Nat) (d : List (Nat × Nat × Nat)) : State :=
  s.post code (srcBlock (code / 256)) (det d)

/-! ### Power domains (R749–R751) -/

/-- The power domain that holds a block (R749). -/
def domainOf : Nat → Nat
  | 2 => 0 | 15 => 0
  | 0 => 1 | 1 => 1 | 8 => 1 | 13 => 1
  | 12 => 2
  | 4 => 3 | 6 => 3 | 7 => 3
  | 5 => 4
  | 3 => 5 | 14 => 5
  | _ => 6

/-- `PWR_DOMAIN(d).STATE`: 0 ON, 1 STOPPED, 2 OFF, 3 RESET. -/
def State.domState (s : State) (d : Nat) : Nat := s.fld (Reg.PWR_DOMAIN d) F.PWR_DOMAIN_STATE

/-- A domain changes state: event 0x0F30 (R751). -/
def State.setDom (s : State) (d st : Nat) : State :=
  let old := s.domState d
  if old = st then s
  else (s.put (Reg.PWR_DOMAIN d) F.PWR_DOMAIN_STATE st).postB 0x0F30 [(16, 1, d), (17, 1, old), (18, 1, st)]

/-- A wake request reaches a domain: a STOPPED one opens its clock gate (R750). -/
def State.wakeDom (s : State) (d : Nat) : State :=
  if s.domState d = 1 then (s.addSat (Reg.PWR_DOMAIN d) F.PWR_DOMAIN_WAKES 1).setDom d 0 else s

/-- The domain of a block is OFF or in RESET. -/
def State.blockAway (s : State) (b : Nat) : Bool := decide (2 ≤ s.domState (domainOf b))

/-! ### Posting to host memory -/

/-- Adds an emission. DEDUCED: notes/assumptions/81.md. -/
def State.emit (s : State) (e : Emit) : State := { s with egress := e :: s.egress }

/-- The function index of an initiator: 0 PF, n VF n. -/
def fnOf : Init → Nat
  | .vf n => n
  | _ => 0

/-- Ring types of R609 (0 command, 1 completion, 2 event, 3 stream): the offset of the first register of ring `r`
of function `fn` (R640). -/
def ringBase (fn ty r : Nat) : Nat :=
  (if fn = 0 then 0x110000 else 0x4008000 + fn * 0x10000) + ty * 0x400 + r * 0x20

/-- Offset of a ring's `RING_CTRL`. -/
def ringCtrl (fn ty r : Nat) : Nat := ringBase fn ty r + 8

/-- The rings of a function (R609, R2 for the number of VFs). -/
def ringExists (fn ty r : Nat) : Bool :=
  if fn = 0 then decide (r < (match ty with | 0 => 16 | 1 => 16 | 2 => 8 | 3 => 64 | _ => 0))
  else decide (fn ≤ 16) && decide (r < (match ty with | 0 => 4 | 1 => 4 | 2 => 2 | 3 => 8 | _ => 0))

/-- `RING_CTRL.ENABLE`. -/
def State.ringOn (s : State) (fn ty r : Nat) : Bool :=
  ringExists fn ty r && s.flag (ringCtrl fn ty r) F.RING_CTRL_ENABLE

/-- Device index (R612). -/
def State.devIdx (s : State) (fn ty r : Nat) : Nat := (s.reg (ringBase fn ty r + 0x18)).toNat
/-- Software index (R641). -/
def State.swIdx (s : State) (fn ty r : Nat) : Nat := (s.reg (ringBase fn ty r + 0x1C)).toNat
/-- Entries of a ring: 2^SIZE_LOG (R609). -/
def State.ringSize (s : State) (fn ty r : Nat) : Nat := 2 ^ s.fld (ringCtrl fn ty r) F.RING_CTRL_SIZE_LOG
/-- (a − b) mod 2^32, the number of entries between two indices (R610). -/
def idxSub (a b : Nat) : Nat := (a + 2 ^ 32 - b % 2 ^ 32) % 2 ^ 32
/-- Octets of an entry of a ring type (R609). -/
def entrySize : Nat → Nat | 0 => 64 | 1 => 16 | _ => 32

/-- Room of a ring that the device fills with records: 0 when it is disabled. -/
def State.ringRoom (s : State) (fn ty r : Nat) : Nat :=
  if s.ringOn fn ty r then s.ringSize fn ty r - idxSub (s.devIdx fn ty r) (s.swIdx fn ty r) else 0

/-- The link is up and the PF is in D0 (R627). -/
def State.hostUp (s : State) : Bool := s.fld Reg.HE_STATUS F.HE_STATUS_WIDTH != 0 && !s.host.d3hot

/-- Offset of the MSI-X table entry of a vector. -/
def msixEntry (fn v : Nat) : Nat :=
  (if fn = 0 then 0x108000 else 0x400E000 + fn * 0x10000) + v * 16

/-- Offset and bit of a vector's pending bit. -/
def msixPba (fn v : Nat) : Nat × Nat :=
  if fn = 0 then (0x109000 + v / 32 * 4, v % 32) else (0x400E800 + fn * 0x10000, v % 32)

/-- Sends the message of an MSI-X vector, or sets its pending bit while it is masked (R613). -/
def State.msix (s : State) (fn v : Nat) : State :=
  let e := msixEntry fn v
  if s.flag (e + 12) F.MSIX_CTRL_MASK then
    let (o, b) := msixPba fn v
    s.setReg o (BitVec.ofNat 32 (setBit (s.reg o).toNat b true))
  else s.emit (.msix fn v (s.reg64 e) (s.reg (e + 8)))

/-- Key of a ring in the table of signalling states. -/
def ringKey (fn ty r : Nat) : Nat := fn * 1024 + ty * 128 + r

/-- A ring's signalling state. -/
def State.modSt (s : State) (fn ty r : Nat) : ModSt := tabGet (fun _ => {}) s.host.mods (ringKey fn ty r)
/-- Sets a ring's signalling state. -/
def State.setMod (s : State) (fn ty r : Nat) (m : ModSt) : State :=
  { s with host := { s.host with mods := tabSet (fun _ => {}) s.host.mods (ringKey fn ty r) m } }

/-- Signals a ring's vector and starts a new count (R613, R621). -/
def State.signal (s : State) (fn ty r : Nat) : State :=
  (s.msix fn (s.fld (ringCtrl fn ty r) F.RING_CTRL_VECTOR)).setMod fn ty r {}

/-- A ring's device index moves on by one: index, writeback, and the MSI-X message when R613 or `now` (R621) asks for
it. -/
def State.ringAdvance (s : State) (fn ty r : Nat) (now : Bool) : State :=
  let b := ringBase fn ty r
  let i' := (s.devIdx fn ty r + 1) % 2 ^ 32
  let s := s.setReg (b + 0x18) (BitVec.ofNat 32 i')
  let s := s.emit (.hostWrite fn (s.reg64 (b + 0x10)) (leBytes 4 i'))
  let m := s.modSt fn ty r
  let m : ModSt := ⟨m.count + 1, some (m.since.getD s.cell)⟩
  let c := s.fld (b + 0xC) F.RING_MOD_COUNT
  if now || decide (c ≤ m.count) then s.signal fn ty r else s.setMod fn ty r m

/-- Host address of the entry at the device index. -/
def State.ringEntry (s : State) (fn ty r : Nat) : W64 :=
  s.reg64 (ringBase fn ty r) + BitVec.ofNat 64 (s.devIdx fn ty r % s.ringSize fn ty r * entrySize ty)

/-- One entry written to a ring that the device fills. -/
def State.ringPush (s : State) (fn ty r : Nat) (data : List Byte) (now : Bool) : State :=
  (s.emit (.hostWrite fn (s.ringEntry fn ty r) data)).ringAdvance fn ty r now

/-- Posts an entry, or holds it until the link is back (R627). -/
def State.ringPost (s : State) (fn ty r : Nat) (data : List Byte) (now : Bool) : State :=
  if s.hostUp then s.ringPush fn ty r data now
  else { s with host := { s.host with waiting := s.host.waiting ++ [(fn, ty, r, data, now)] } }

/-! ### Completion statuses (R618) -/

/-- OK -/ def stOK : Nat := 0x00
/-- STATE_REJECT -/ def stReject : Nat := 0x01
/-- BAD_PARAM -/ def stBad : Nat := 0x02
/-- NO_RESOURCE -/ def stNoRes : Nat := 0x03
/-- PRIV_DENIED -/ def stPriv : Nat := 0x04
/-- LATE -/ def stLate : Nat := 0x05
/-- ABORTED -/ def stAborted : Nat := 0x06
/-- TIMEOUT -/ def stTimeout : Nat := 0x07
/-- BUSY -/ def stBusy : Nat := 0x08
/-- LOCKED -/ def stLocked : Nat := 0x09
/-- DMA_ERROR -/ def stDma : Nat := 0x0A

/-- The 16 octets of a completion (R617). -/
def cplBytes (tag : Word) (status blk : Nat) (t : W64) : List Byte :=
  leBytes 4 tag.toNat ++ [BitVec.ofNat 8 status, BitVec.ofNat 8 blk, 0, 0] ++ leBytes 8 t.toNat

end Sys2Proof.Machine

namespace Sys2Proof

/-- FLAGS bit 0. -/ def Cmd.timed (c : Cmd) : Bool := Machine.bit c.flags 0
/-- FLAGS bit 1. -/ def Cmd.fence (c : Cmd) : Bool := Machine.bit c.flags 1
/-- FLAGS bit 2. -/ def Cmd.event (c : Cmd) : Bool := Machine.bit c.flags 2

end Sys2Proof
end

