-- ==== Sys2Proof/Machine/Crypto.lean ====
section
/-!
DEFINITION. Check values: CRC-8 and CRC-32C (R121), SHA-256 (R464), SHA-384 and ECDSA on P-384 (R630).
-/
namespace Sys2Proof.Machine

/-! ### CRC -/

/-- One bit of a reflected CRC. -/
def crcBit (poly c : Nat) : Nat := if c % 2 = 1 then (c / 2) ^^^ poly else c / 2

/-- Eight bits. -/
def crcByte (poly c : Nat) (b : Byte) : Nat :=
  let x := c ^^^ b.toNat
  crcBit poly (crcBit poly (crcBit poly (crcBit poly (crcBit poly (crcBit poly (crcBit poly (crcBit poly x)))))))

/-- CRC-32C: polynomial 0x1EDC6F41 reflected, initial and final value all ones (R121). -/
def crc32c (l : List Byte) : Nat := l.foldl (crcByte 0x82F63B78) 0xFFFFFFFF ^^^ 0xFFFFFFFF

/-- One bit of an unreflected CRC-8. -/
def crc8Bit (c : Nat) : Nat := if c / 128 % 2 = 1 then (c * 2 % 256) ^^^ 7 else c * 2 % 256

/-- CRC-8 with polynomial 0x07 and initial value 0. -/
def crc8 (l : List Byte) : Nat :=
  l.foldl (fun c b =>
    let x := c ^^^ b.toNat
    crc8Bit (crc8Bit (crc8Bit (crc8Bit (crc8Bit (crc8Bit (crc8Bit (crc8Bit x)))))))) 0

/-! ### SHA-2 (FIPS 180-4: the spec names the functions and does not describe them, notes/assumptions/67.md) -/

/-- The round constants of SHA-256. -/
def sha256K : List Nat :=
  [0x428A2F98, 0x71374491, 0xB5C0FBCF, 0xE9B5DBA5, 0x3956C25B, 0x59F111F1, 0x923F82A4, 0xAB1C5ED5] ++
  [0xD807AA98, 0x12835B01, 0x243185BE, 0x550C7DC3, 0x72BE5D74, 0x80DEB1FE, 0x9BDC06A7, 0xC19BF174] ++
  [0xE49B69C1, 0xEFBE4786, 0x0FC19DC6, 0x240CA1CC, 0x2DE92C6F, 0x4A7484AA, 0x5CB0A9DC, 0x76F988DA] ++
  [0x983E5152, 0xA831C66D, 0xB00327C8, 0xBF597FC7, 0xC6E00BF3, 0xD5A79147, 0x06CA6351, 0x14292967] ++
  [0x27B70A85, 0x2E1B2138, 0x4D2C6DFC, 0x53380D13, 0x650A7354, 0x766A0ABB, 0x81C2C92E, 0x92722C85] ++
  [0xA2BFE8A1, 0xA81A664B, 0xC24B8B70, 0xC76C51A3, 0xD192E819, 0xD6990624, 0xF40E3585, 0x106AA070] ++
  [0x19A4C116, 0x1E376C08, 0x2748774C, 0x34B0BCB5, 0x391C0CB3, 0x4ED8AA4A, 0x5B9CCA4F, 0x682E6FF3] ++
  [0x748F82EE, 0x78A5636F, 0x84C87814, 0x8CC70208, 0x90BEFFFA, 0xA4506CEB, 0xBEF9A3F7, 0xC67178F2]

/-- The initial value of SHA-256. -/
def sha256Init : List Nat :=
  [0x6A09E667, 0xBB67AE85, 0x3C6EF372, 0xA54FF53A, 0x510E527F, 0x9B05688C, 0x1F83D9AB, 0x5BE0CD19]

/-- The round constants of SHA-384. -/
def sha512K : List Nat :=
  [0x428A2F98D728AE22, 0x7137449123EF65CD, 0xB5C0FBCFEC4D3B2F, 0xE9B5DBA58189DBBC, 0x3956C25BF348B538, 0x59F111F1B605D019, 0x923F82A4AF194F9B, 0xAB1C5ED5DA6D8118] ++
  [0xD807AA98A3030242, 0x12835B0145706FBE, 0x243185BE4EE4B28C, 0x550C7DC3D5FFB4E2, 0x72BE5D74F27B896F, 0x80DEB1FE3B1696B1, 0x9BDC06A725C71235, 0xC19BF174CF692694] ++
  [0xE49B69C19EF14AD2, 0xEFBE4786384F25E3, 0x0FC19DC68B8CD5B5, 0x240CA1CC77AC9C65, 0x2DE92C6F592B0275, 0x4A7484AA6EA6E483, 0x5CB0A9DCBD41FBD4, 0x76F988DA831153B5] ++
  [0x983E5152EE66DFAB, 0xA831C66D2DB43210, 0xB00327C898FB213F, 0xBF597FC7BEEF0EE4, 0xC6E00BF33DA88FC2, 0xD5A79147930AA725, 0x06CA6351E003826F, 0x142929670A0E6E70] ++
  [0x27B70A8546D22FFC, 0x2E1B21385C26C926, 0x4D2C6DFC5AC42AED, 0x53380D139D95B3DF, 0x650A73548BAF63DE, 0x766A0ABB3C77B2A8, 0x81C2C92E47EDAEE6, 0x92722C851482353B] ++
  [0xA2BFE8A14CF10364, 0xA81A664BBC423001, 0xC24B8B70D0F89791, 0xC76C51A30654BE30, 0xD192E819D6EF5218, 0xD69906245565A910, 0xF40E35855771202A, 0x106AA07032BBD1B8] ++
  [0x19A4C116B8D2D0C8, 0x1E376C085141AB53, 0x2748774CDF8EEB99, 0x34B0BCB5E19B48A8, 0x391C0CB3C5C95A63, 0x4ED8AA4AE3418ACB, 0x5B9CCA4F7763E373, 0x682E6FF3D6B2B8A3] ++
  [0x748F82EE5DEFB2FC, 0x78A5636F43172F60, 0x84C87814A1F0AB72, 0x8CC702081A6439EC, 0x90BEFFFA23631E28, 0xA4506CEBDE82BDE9, 0xBEF9A3F7B2C67915, 0xC67178F2E372532B] ++
  [0xCA273ECEEA26619C, 0xD186B8C721C0C207, 0xEADA7DD6CDE0EB1E, 0xF57D4F7FEE6ED178, 0x06F067AA72176FBA, 0x0A637DC5A2C898A6, 0x113F9804BEF90DAE, 0x1B710B35131C471B] ++
  [0x28DB77F523047D84, 0x32CAAB7B40C72493, 0x3C9EBE0A15C9BEBC, 0x431D67C49C100D4C, 0x4CC5D4BECB3E42B6, 0x597F299CFC657E2A, 0x5FCB6FAB3AD6FAEC, 0x6C44198C4A475817]

/-- The initial value of SHA-384. -/
def sha384Init : List Nat :=
  [0xCBBB9D5DC1059ED8, 0x629A292A367CD507, 0x9159015A3070DD17, 0x152FECD8F70E5939, 0x67332667FFC00B31, 0x8EB44A8768581511, 0xDB0C2E0D64F98FA7, 0x47B5481DBEFA4FA4]

/-- The parameters of a SHA-2 function: word width in bits, round constants, rotations of Σ₀, Σ₁, σ₀ and σ₁ (the last of each σ is a
shift). -/
structure Sha where
  w : Nat
  k : List Nat
  s0 : Nat × Nat × Nat
  s1 : Nat × Nat × Nat
  t0 : Nat × Nat × Nat
  t1 : Nat × Nat × Nat

/-- SHA-256. -/
def sha256P : Sha := ⟨32, sha256K, (2, 13, 22), (6, 11, 25), (7, 18, 3), (17, 19, 10)⟩
/-- SHA-384. -/
def sha384P : Sha := ⟨64, sha512K, (28, 34, 39), (14, 18, 41), (1, 8, 7), (19, 61, 6)⟩

/-- A rotation to the right. -/
def rotR (w n x : Nat) : Nat := x / 2 ^ n + x % 2 ^ n * 2 ^ (w - n)

/-- Three rotations. -/
def Sha.big (p : Sha) (r : Nat × Nat × Nat) (x : Nat) : Nat := rotR p.w r.1 x ^^^ rotR p.w r.2.1 x ^^^ rotR p.w r.2.2 x
/-- Two rotations and a shift. -/
def Sha.small (p : Sha) (r : Nat × Nat × Nat) (x : Nat) : Nat := rotR p.w r.1 x ^^^ rotR p.w r.2.1 x ^^^ x / 2 ^ r.2.2

/-- One more word of the message schedule, newest first. -/
def Sha.extend (p : Sha) (l : List Nat) : List Nat :=
  (p.small p.t1 (l.getD 1 0) + l.getD 6 0 + p.small p.t0 (l.getD 14 0) + l.getD 15 0) % 2 ^ p.w :: l

/-- The message schedule of a block of 16 words. -/
def Sha.schedule (p : Sha) (m : List Nat) : List Nat :=
  ((List.range (p.k.length - 16)).foldl (fun l _ => p.extend l) m.reverse).reverse

/-- One round on a … h. -/
def Sha.round (p : Sha) (v : List Nat) (kw : Nat × Nat) : List Nat :=
  match v with
  | [a, b, c, d, e, f, g, h] =>
    let ch := (e &&& f) ^^^ ((2 ^ p.w - 1 - e) &&& g)
    let mj := (a &&& b) ^^^ (a &&& c) ^^^ (b &&& c)
    let t1 := h + p.big p.s1 e + ch + kw.1 + kw.2
    [(t1 + p.big p.s0 a + mj) % 2 ^ p.w, a, b, c, (d + t1) % 2 ^ p.w, e, f, g]
  | _ => v

/-- The value after one block. -/
def Sha.block (p : Sha) (h : List Nat) (m : List Nat) : List Nat :=
  ((p.k.zip (p.schedule m)).foldl p.round h).zipWith (fun a b => (a + b) % 2 ^ p.w) h

/-- The padded message: 1 bit, zeros, the length in bits. -/
def Sha.pad (p : Sha) (l : List Byte) : List Byte :=
  let blk := p.w * 2
  let len := p.w / 4
  let z := (2 * blk - (l.length + 1 + len) % blk) % blk
  l ++ [0x80#8] ++ List.replicate z 0 ++ (leBytes len (8 * l.length)).reverse

/-- The words of a message, most significant octet first, with fuel. -/
def beWords (n : Nat) : Nat → List Byte → List Nat
  | 0, _ => []
  | k + 1, l => if l.isEmpty then [] else ofBe (l.take n) :: beWords n k (l.drop n)

/-- The value after the message's words, 16 at a time, with fuel. -/
def Sha.run (p : Sha) : Nat → List Nat → List Nat → List Nat
  | 0, h, _ => h
  | k + 1, h, ws => if ws.isEmpty then h else p.run k (p.block h (ws.take 16)) (ws.drop 16)

/-- The digest of `n` octets. -/
def Sha.digest (p : Sha) (init : List Nat) (n : Nat) (l : List Byte) : List Byte :=
  let m := p.pad l
  let ws := beWords (p.w / 8) m.length m
  ((p.run ws.length init ws).flatMap fun x => (leBytes (p.w / 8) x).reverse).take n

/-- SHA-256 of octets. PRESUMED: notes/assumptions/67.md. -/
def sha256 (l : List Byte) : List Byte := sha256P.digest sha256Init 32 l
/-- SHA-384 of octets. PRESUMED: notes/assumptions/67.md. -/
def sha384 (l : List Byte) : List Byte := sha384P.digest sha384Init 48 l

/-! ### ECDSA on P-384 (FIPS 186-5, SP 800-186: named by R630, R632 and R686, notes/assumptions/67.md) -/

/-- The prime of the field. -/
def p384P : Nat := 2 ^ 384 - 2 ^ 128 - 2 ^ 96 + 2 ^ 32 - 1
/-- The coefficient b of y² = x³ − 3x + b. -/
def p384B : Nat := 0xB3312FA7E23EE7E4988E056BE3F82D19181D9C6EFE8141120314088F5013875AC656398D8A2ED19D2A85C8EDD3EC2AEF
/-- The order of the base point. -/
def p384N : Nat := 0xFFFFFFFFFFFFFFFFFFFFFFFFFFFFFFFFFFFFFFFFFFFFFFFFC7634D81F4372DDF581A0DB248B0A77AECEC196ACCC52973
/-- The base point. -/
def p384G : Nat × Nat :=
  (0xAA87CA22BE8B05378EB1C71EF320AD746E1D3B628BA79B9859F741E082542A385502F25DBF55296C3A545E3872760AB7,
   0x3617DE4A96262C6F5D9E98BF9292DC29F8F41DBD289A147CE9DA3113B5F0B8C00A60B1CE1D7E819D7A431D7C90EA0E5F)

/-- a − b in the field. -/
def fSub (a b : Nat) : Nat := (a + p384P - b % p384P) % p384P
/-- a · b in the field. -/
def fMul (a b : Nat) : Nat := a * b % p384P

/-- b^e mod m by squaring, with fuel. -/
def powMod (m : Nat) : Nat → Nat → Nat → Nat
  | 0, _, _ => 1 % m
  | k + 1, b, e =>
    if e = 0 then 1 % m
    else
      let h := powMod m k (b * b % m) (e / 2)
      if e % 2 = 1 then b * h % m else h

/-- A point in Jacobian coordinates; Z = 0 is the point at infinity. -/
structure Jac where
  x : Nat
  y : Nat
  z : Nat

/-- Twice a point. -/
def Jac.double (a : Jac) : Jac :=
  let d := fMul a.z a.z
  let g := fMul a.y a.y
  let b := fMul a.x g
  let al := fMul 3 (fMul (fSub a.x d) (a.x + d))
  let x := fSub (fMul al al) (8 * b)
  let z := fSub (fSub (fMul (a.y + a.z) (a.y + a.z)) g) d
  ⟨x, fSub (fMul al (fSub (4 * b) x)) (8 * fMul g g), z⟩

/-- The sum of two points. -/
def Jac.add (a b : Jac) : Jac :=
  if a.z = 0 then b
  else if b.z = 0 then a
  else
    let za := fMul a.z a.z
    let zb := fMul b.z b.z
    let u1 := fMul a.x zb
    let u2 := fMul b.x za
    let s1 := fMul a.y (fMul b.z zb)
    let s2 := fMul b.y (fMul a.z za)
    if u1 = u2 then (if s1 = s2 then a.double else ⟨1, 1, 0⟩)
    else
      let h := fSub u2 u1
      let r := fSub s2 s1
      let hh := fMul h h
      let hhh := fMul h hh
      let v := fMul u1 hh
      let x := fSub (fSub (fMul r r) hhh) (2 * v)
      ⟨x, fSub (fMul r (fSub v x)) (fMul s1 hhh), fMul h (fMul a.z b.z)⟩

/-- k times a point, over bits `i` − 1 … 0 of k. -/
def Jac.mul (k : Nat) (a : Jac) : Nat → Jac
  | 0 => ⟨1, 1, 0⟩
  | i + 1 =>
    let h := Jac.mul (k / 2) a i
    let d := h.double
    if k % 2 = 1 then d.add a else d

/-- A signature (r, s) on a digest of 48 octets verifies with the public key (x, y). -/
def p384Verify (x y r s : Nat) (digest : List Byte) : Bool :=
  if decide (p384P ≤ x ∨ p384P ≤ y) || fMul y y != (fMul x (fMul x x) + 3 * (p384P - x) + p384B) % p384P then false
  else if decide (r = 0 ∨ p384N ≤ r ∨ s = 0 ∨ p384N ≤ s) then false
  else
    let w := powMod p384N 384 s (p384N - 2)
    let u1 := ofBe digest * w % p384N
    let u2 := r * w % p384N
    let q := (Jac.mul u1 ⟨p384G.1, p384G.2, 1⟩ 384).add (Jac.mul u2 ⟨x, y, 1⟩ 384)
    if q.z = 0 then false
    else fMul q.x (powMod p384P 384 (fMul q.z q.z) (p384P - 2)) % p384N == r

/-- The same with a key of 96 octets X, Y and a signature of 96 octets r, s, most significant octet first (R630).
PRESUMED: notes/assumptions/67.md. -/
def ecdsaOk (key sig msg : List Byte) : Bool :=
  p384Verify (ofBe (slice key 0 48)) (ofBe (slice key 48 48)) (ofBe (slice sig 0 48)) (ofBe (slice sig 48 48)) (sha384 msg)

end Sys2Proof.Machine
end

