-- ==== Sys2Proof/Machine/Sched.lean ====
section
/-!
DEFINITION. The hardware scheduler's shared operations (R649–R668): items, readying, wait objects, core states, and
the completion of a command, which goes to a completion ring or to a work core's command slot.
-/
namespace Sys2Proof.Machine

/-! ### Items -/

/-- An item's fields beside its registers. -/
def State.item (s : State) (i : Nat) : ItemSt := tabGet (fun _ => {}) s.wc.items i
/-- An item's fields changed. -/
def State.modItem (s : State) (i : Nat) (f : ItemSt → ItemSt) : State :=
  { s with wc := { s.wc with items := tabSet (fun _ => {}) s.wc.items i (f (s.item i)) } }
/-- A core's state beside its registers. -/
def State.core (s : State) (c : Nat) : CoreSt := tabGet (fun _ => {}) s.wc.cores c
/-- A core's state changed. -/
def State.modCore (s : State) (c : Nat) (f : CoreSt → CoreSt) : State :=
  { s with wc := { s.wc with cores := tabSet (fun _ => {}) s.wc.cores c (f (s.core c)) } }

/-- Item states of `WI_STATUS.STATE`. -/
def iFree := 0
/-- IDLE -/ def iIdle := 1
/-- READY -/ def iReady := 2
/-- RUNNING -/ def iRunning := 3
/-- SUSPENDED -/ def iSuspended := 4
/-- WAITING -/ def iWaiting := 5
/-- FAULTED -/ def iFaulted := 6

/-- `WI_STATUS(i).STATE`. -/
def State.itemState (s : State) (i : Nat) : Nat := s.fld (Reg.WI_STATUS i) F.WI_STATUS_STATE

/-- Sets an item's state and keeps the counts of `SCH_STATUS`. -/
def State.setItemState (s : State) (i st : Nat) : State :=
  let old := s.itemState i
  let adj (n : Nat) (was now : Bool) : Nat := if was == now then n else if now then n + 1 else n - 1
  let s := s.put (Reg.WI_STATUS i) F.WI_STATUS_STATE st
  let s := s.put Reg.SCH_STATUS F.SCH_STATUS_IN_USE
    (adj (s.fld Reg.SCH_STATUS F.SCH_STATUS_IN_USE) (old != iFree) (st != iFree))
  s.put Reg.SCH_STATUS F.SCH_STATUS_READY
    (adj (s.fld Reg.SCH_STATUS F.SCH_STATUS_READY) (old == iReady) (st == iReady))

/-- The items in a state, ascending (`WI_STATUS` of any other item reads 0, FREE). -/
def State.itemsIn (s : State) (st : Nat) : List Nat :=
  (s.regs.filter fun e =>
      decide (Reg.WI_STATUS 0 ≤ e.1) && decide (e.1 < Reg.WI_STATUS 4096) && decide (e.1 % 8 = 0)
        && fldOf e.2 F.WI_STATUS_STATE == st).map fun e => (e.1 - Reg.WI_STATUS 0) / 8

/-- A new place at the end of the order of queue times. -/
def State.enqueue (s : State) (i : Nat) : State :=
  let n := s.wc.order
  let s := s.modItem i fun x => { x with order := n }
  { s with wc := { s.wc with order := n + 1 } }

/-- An item becomes READY with a new queue time; it wakes the cores' domain (R750). -/
def State.makeReady (s : State) (i : Nat) : State :=
  (((s.wakeDom 2).setItemState i iReady).enqueue i).modItem i fun x => { x with stranded := false }

/-- An item becomes SUSPENDED with a new queue time and a result for its SCH_RESULT. -/
def State.makeSuspended (s : State) (i res : Nat) : State :=
  ((s.setItemState i iSuspended).enqueue i).modItem i fun x => { x with result := res }

/-- The effect of "ready" on an item (R651): none for a FREE or FAULTED item, else the block-specific byte of
WI_READY (0 readied, 1 PENDING set, 2 merged) and the new state. -/
def State.ready (s : State) (i : Nat) : Option (Nat × State) :=
  let st := s.itemState i
  if st = iFree ∨ st = iFaulted then none
  else if st = iIdle then some (0, s.makeReady i)
  else if st = iReady then some (2, s.addSat (Reg.WI_COUNT i) F.WI_COUNT_MERGED 1)
  else if s.fld (Reg.WI_STATUS i) F.WI_STATUS_PENDING = 0 then
    some (1, s.put (Reg.WI_STATUS i) F.WI_STATUS_PENDING 1)
  else some (2, s.addSat (Reg.WI_COUNT i) F.WI_COUNT_MERGED 1)

/-- A readying by a source other than WI_READY: ignored with foul 0x0C13 for a FREE or FAULTED item (R651); `why` 1
SCH_READY, 2 binding; `b` the binding. -/
def State.readyFrom (s : State) (i why b : Nat) : State :=
  match s.ready i with
  | some (_, s) => s
  | none => s.postB 0x0C13 [(17, 1, why), (18, 2, i), (20, 1, b)]

/-- The bindings of a kind that are enabled and whose CODE satisfies `p`, ascending b (R652). -/
def State.bindings (s : State) (kind : Nat) (p : Nat → Bool) : List Nat :=
  idxs 64 fun b =>
    s.flag (Reg.SCH_BIND b) F.SCH_BIND_ENABLE && s.fld (Reg.SCH_BIND b) F.SCH_BIND_KIND == kind
      && p (s.fld (Reg.SCH_BIND b) F.SCH_BIND_CODE)

/-- Every matching binding readies its item, in ascending b (R652). -/
def State.fireBindings (s : State) (kind : Nat) (p : Nat → Bool) : State :=
  forEach (s.bindings kind p) s fun b s => s.readyFrom (s.fld (Reg.SCH_BIND b) F.SCH_BIND_ITEM) 2 b

/-! ### Wait objects (R660–R662) -/

/-- `a` comes before `b`: higher PRIO, then earlier (R653, R661). -/
def State.itemBefore (s : State) (a b : Nat) : Bool :=
  let pa := s.fld (Reg.WI_STATUS a) F.WI_STATUS_PRIO
  let pb := s.fld (Reg.WI_STATUS b) F.WI_STATUS_PRIO
  decide (pb < pa) || (pa == pb && decide ((s.item a).order < (s.item b).order))

/-- The first of a list of items in the order of R653. -/
def State.firstItem (s : State) : List Nat → Option Nat
  | [] => none
  | a :: t =>
    match s.firstItem t with
    | none => some a
    | some b => if s.itemBefore b a then some b else some a

/-- The items waiting on an object. -/
def State.waiters (s : State) (w : Nat) : List Nat :=
  (s.itemsIn iWaiting).filter fun i => (s.item i).waitOn == w

/-- A waiter leaves its object with a result. -/
def State.endWait (s : State) (i res : Nat) : State :=
  let w := (s.item i).waitOn
  let n := s.fld (Reg.WO_STATUS w) F.WO_STATUS_WAITERS
  (s.put (Reg.WO_STATUS w) F.WO_STATUS_WAITERS (n - 1)).makeSuspended i res

/-- A signal of an object (R661). -/
def State.signalObj (s : State) (w : Nat) : State :=
  match s.firstItem (s.waiters w) with
  | some i => s.endWait i 0
  | none => s.addSat (Reg.WO_STATUS w) F.WO_STATUS_COUNT 1

/-! ### Core states (R665) -/

/-- OFF -/ def kOff := 0
/-- INIT -/ def kInit := 1
/-- ONLINE -/ def kOnline := 2
/-- DRAINING -/ def kDraining := 3
/-- OFFLINE -/ def kOffline := 4
/-- RELOADING -/ def kReloading := 5
/-- LENT -/ def kLent := 6
/-- FAULTED -/ def kFaulted := 7

/-- `WC_STATE(c).STATE`. -/
def State.coreState (s : State) (c : Nat) : Nat := s.fld (Reg.WC_STATE c) F.WC_STATE_STATE
/-- `WC_STATE(c).BUSY`: the core runs an item. -/
def State.coreBusy (s : State) (c : Nat) : Bool := s.flag (Reg.WC_STATE c) F.WC_STATE_BUSY
/-- `WC_STATE(c).ITEM`. -/
def State.coreItem (s : State) (c : Nat) : Nat := s.fld (Reg.WC_STATE c) F.WC_STATE_ITEM
/-- SOURCE of a work core. -/
def srcWc (c : Nat) : Nat := srcOf 4 c

/-- An item's CORE_MASK. -/
def State.itemMask (s : State) (i : Nat) : Nat := s.fld (Reg.WI_STATUS i) F.WI_STATUS_CORE_MASK

/-- Some ONLINE core is in a mask. -/
def State.anyOnline (s : State) (mask : Nat) : Bool :=
  (List.range 16).any fun c => bit mask c && s.coreState c == kOnline

/-- READY items with no ONLINE core in their mask record foul 0x0C15, once each (R668). -/
def State.noteStranded (s : State) (c : Nat) : State :=
  forEach ((s.itemsIn iReady).filter fun i =>
      bit (s.itemMask i) c && !s.anyOnline (s.itemMask i) && !(s.item i).stranded) s fun i s =>
    (s.post 0x0C15 (srcWc c) (det [(16, 1, c), (18, 2, i), (20, 2, s.itemMask i)])).modItem i
      fun x => { x with stranded := true }

/-- A core changes state: event 0x0C30, and the check of R668 when it leaves ONLINE. -/
def State.setCoreState (s : State) (c st : Nat) : State :=
  let old := s.coreState c
  if old = st then s
  else
    let s := s.put (Reg.WC_STATE c) F.WC_STATE_STATE st
    let s := s.post 0x0C30 (srcWc c) (det [(16, 1, c), (17, 1, old), (18, 1, st)])
    if old = kOnline then s.noteStranded c else s

/-! ### Completions (R617, R663) -/

/-- A command slot. -/
def State.slot (s : State) (c k : Nat) : SlotSt := tabGet (fun _ => {}) (s.core c).slots k
/-- Sets a command slot and the count of busy slots in `WC_STATE.SLOTS`. -/
def State.setSlot (s : State) (c k : Nat) (x : SlotSt) : State :=
  let s := s.modCore c fun z => { z with slots := tabSet (fun _ => {}) z.slots k x }
  s.put (Reg.WC_STATE c) F.WC_STATE_SLOTS ((idxs 4 fun k => (s.slot c k).state == 1).length)

/-- Octets written into a byte memory (unlisted octets read 0). -/
def memWrite (m : Tab Byte) (o : Nat) : List Byte → Tab Byte
  | [] => m
  | b :: t => memWrite (tabSet (fun _ => 0) m o b) (o + 1) t

/-- The canonical form of a byte memory: addresses strictly rising, no octet of 0 listed. -/
def Memory.wf (m : Tab Byte) : Bool := tabWf (fun _ => 0) 0 m

/-- Octets read from a byte memory. DESIGN CHOICE: notes/assumptions/3.md. -/
def memRead (m : Tab Byte) (o n : Nat) : List Byte := (List.range n).map fun k => tabGet (fun _ => 0) m (o + k)

/-- The same fetched command: issuer, port and fetch number. -/
def sameCmd (a b : Cmd) : Bool := decide (a.who = b.who ∧ a.port = b.port ∧ a.seq = b.seq)

/-- The device writes a command's completion: to the completion ring of its command ring, discarded with foul 0x0119
when that ring is disabled (R614, R621), to its command slot, with the slot's signal (R663), or, for a journaled command of a twin pair, by
the unit that has become active (R720). The completion of a fetched command that a reset has since discarded is not written (R625, R626). -/
def State.complete (s : State) (c : Cmd) (status blk : Nat) : State :=
  if c.seq ≠ 0 ∧ !(s.host.fetched.any fun x => sameCmd x c) then s
  else
  let s := { s with host := { s.host with fetched := s.host.fetched.filter fun x => !sameCmd x c || c.seq == 0 } }
  match c.port with
  | .none => s
  | .twin =>
    if 2 ≤ s.fld Reg.DEV_MODE F.DEV_MODE_TWIN_ROLE then s
    else
      let q := s.fld Reg.TWIN_CTRL F.TWIN_CTRL_CPL_RING
      if s.ringOn 0 1 q then s.ringPost 0 1 q (cplBytes c.tag status blk s.cell) c.event
      else s.post 0x0119 (srcInit 1 .pf) (det [(16, 1, 1), (17, 1, q), (20, 4, c.tag.toNat)])
  | .slot k =>
    match c.who with
    | .wc w =>
      let s := s.modCore w fun z =>
        { z with slotMem := memWrite z.slotMem (k * 0x80 + 0x40) (cplBytes c.tag status blk s.cell) }
      let sig := (s.slot w k).sig
      let s := s.setSlot w k ⟨2, sig⟩
      match sig with
      | some o => s.signalObj o
      | none => s
    | _ => s
  | .ring r =>
    let fn := fnOf c.who
    let q := s.fld (ringCtrl fn 0 r) F.RING_CTRL_CPL
    if s.ringOn fn 1 q then s.ringPost fn 1 q (cplBytes c.tag status blk s.cell) c.event
    else s.post 0x0119 (srcInit 1 c.who) (det [(16, 1, 1), (17, 1, q), (20, 4, c.tag.toNat)])

end Sys2Proof.Machine
end

