-- ==== Sys2Proof/Machine/Operands.lean ====
section
/-!
DEFINITION. Command operands: the descriptor's parameter fields (R616), the order of the checks that every command
passes (R49, R50, R603, R781), and the addresses a command names (R279, R603, R681).
-/
namespace Sys2Proof

/-! ### Parameter fields -/

/-- The unsigned field of `n` octets at descriptor octet `o` (16–63). -/
def Cmd.u (c : Cmd) (o n : Nat) : Nat := c.par.toNat / 2 ^ (8 * (o - 16)) % 2 ^ (8 * n)
/-- The signed field of `n` octets at descriptor octet `o`. -/
def Cmd.i (c : Cmd) (o n : Nat) : Int := Machine.toSigned (8 * n) (c.u o n)
/-- Descriptor octet `o`. -/
def Cmd.b (c : Cmd) (o : Nat) : Nat := c.u o 1

/-- The parameter octets that a command's table does not list are zero (R616): `l` gives the listed fields. -/
def Cmd.onlyUses (c : Cmd) (l : List (Nat × Nat)) : Bool :=
  let mask := l.foldl (fun m x => m ||| ((2 ^ (8 * x.2) - 1) * 2 ^ (8 * (x.1 - 16)))) 0
  c.par.toNat &&& mask == c.par.toNat

/-- A command reads data that an address parameter names: LINK_STAGE with a container, LINK_MGMT writes, the model,
moves, a modification of a target, a program, a dynamic table. -/
def Cmd.reads (c : Cmd) : Bool :=
  match c.op with
  | 0x0301 => c.b 17 == 1
  | 0x0308 => c.b 17 == 2
  | 0x0407 => Machine.bit (c.b 16) 0
  | o => [0x0401, 0x0404, 0x0405, 0x0406, 0x0501, 0x0503].contains o

/-- An initiator is a VF. -/
def Init.isVf : Init → Bool
  | .vf _ => true
  | _ => false
/-- An initiator is a work core. -/
def Init.isWc : Init → Bool
  | .wc _ => true
  | _ => false
/-- An initiator is the PF or the device itself. -/
def Init.isPf : Init → Bool
  | .pf => true
  | .dev => true
  | _ => false

end Sys2Proof

namespace Sys2Proof.Machine

/-- An address parameter names shared SRAM: bit 63 is 0 (R279, R603). -/
def isSram (a : Nat) : Bool := decide (a < 2 ^ 63)
/-- The host address of an address parameter. -/
def hostAddr (a : Nat) : W64 := BitVec.ofNat 64 (a % 2 ^ 63)

/-- The size of shared SRAM. -/
def sramSize : Nat := 0x4000000
/-- The first offset of the secure partition, banks 252–255 (R681). -/
def secureBase : Nat := 0x3F00000

/-! ### Device state that many commands test -/

/-- `DEV_MODE.MODE`: 0 BOOT, 1 CONFIG, 2 OPERATE, 3 SERVICE, 4 DEGRADED. -/
def State.mode (s : State) : Nat := s.fld Reg.DEV_MODE F.DEV_MODE_MODE
/-- `DEV_MODE.TWIN_ROLE`: 0 SOLO, 1 ACTIVE, 2 STANDBY, 3 REJOINING. -/
def State.role (s : State) : Nat := s.fld Reg.DEV_MODE F.DEV_MODE_TWIN_ROLE
/-- The life cycle in the fuses (R683). -/
def State.lifeCycle (s : State) : Nat := s.mem.fuse.lifeCycle
/-- Group state `GRP_STATE.STATE`: 0 DISABLED, 1 STANDSTILL, 2 MOVING, 3 HOLDING, 4 STOPPING, 5 FAULTED. -/
def State.grpState (s : State) (g : Nat) : Nat := s.fld (Reg.GRP_STATE g) F.GRP_STATE_STATE
/-- The part is an SW-9112 (R2). -/
def State.small (s : State) : Bool := s.mem.fuse.part == 0x9112
/-- Motion groups of the part (R2). -/
def State.nGroups (s : State) : Nat := if s.small then 8 else 16
/-- Virtual functions of the part. -/
def State.nVf (s : State) : Nat := if s.small then 8 else 16
/-- Link axes of the part. -/
def State.nLinkAxes (s : State) : Nat := if s.small then 96 else 192
/-- Local-axis channels of the part. -/
def State.nLocal (s : State) : Nat := if s.small then 16 else 32
/-- Ports per link channel. -/
def State.nPorts (s : State) : Nat := if s.small then 12 else 20
/-- Capsules of the part. -/
def State.nCaps (s : State) : Nat := if s.small then 128 else 256
/-- Optimiser clusters of the part. -/
def State.nClu (s : State) : Nat := if s.small then 4 else 8
/-- Analogue channels of the part. -/
def State.nAin (s : State) : Nat := if s.small then 24 else 48
/-- An axis is present (R2): link axes 0–191 (0–95), local axes 192–223 (192–207). -/
def State.axisPresent (s : State) (a : Nat) : Bool :=
  decide (a < s.nLinkAxes) || (decide (192 ≤ a) && decide (a < 192 + s.nLocal))
/-- The groups of the part, ascending. -/
def State.groups (s : State) : List Nat := List.range s.nGroups
/-- Every group is DISABLED. -/
def State.allDisabled (s : State) : Bool := s.groups.all fun g => s.grpState g == 0

/-! ### The checks of R49 -/

/-- The answer of a failed check of R49: the status it gives, or a status of the owning block; `secure` is the
refusal of R681, with the offset named. -/
inductive Verdict where
  | priv
  | secure (ofs : Nat)
  | bad
  | badWith (blk : Nat)
  | locked
  | busy
  | reject (dim val : Nat)
  | noRes
  deriving DecidableEq, Repr

/-- The first check whose condition holds. -/
def firstFail : List (Bool × Verdict) → Option Verdict
  | [] => none
  | (true, v) :: _ => some v
  | (false, _) :: t => firstFail t

/-- DETAIL of the record of a refused command: opcode, tag, state dimension and value (R53, R781). -/
def refuseDet (c : Cmd) (dim val : Nat) : BitVec 128 :=
  det [(16, 2, c.op), (18, 4, c.tag.toNat), (22, 1, dim), (23, 1, val)]

/-- A refused command completes with its status and, for the statuses that R49 names, records its foul under the
block of the opcode. -/
def State.refuse (s : State) (c : Cmd) (v : Verdict) : State :=
  let blk := c.op / 256
  let src := srcInit blk c.who
  match v with
  | .priv => (s.post (blk * 256 + 3) src (refuseDet c 0 0)).complete c stPriv 0
  | .secure o => (s.post 0x0D13 (srcInit 0x0D c.who) (det [(24, 8, o)])).complete c stPriv 0
  | .bad => s.complete c stBad 0
  | .badWith b => s.complete c stBad b
  | .locked => (s.post (blk * 256 + 4) src (refuseDet c 0 0)).complete c stLocked 0
  | .busy => s.complete c stBusy 0
  | .reject d x => (s.post (blk * 256 + 1) src (refuseDet c d x)).complete c stReject 0
  | .noRes => s.complete c stNoRes 0

/-- The mirrored blocks of R713. -/
def mirrored (b : Nat) : Bool := (2 ≤ b && b ≤ 7) || b == 9

/-- Twin operation is enabled (R699). -/
def State.twinOn (s : State) : Bool := s.flag Reg.TWIN_CTRL F.TWIN_CTRL_ENABLE
/-- The unit's SIDE: the channel of its star (R699). -/
def State.twinSide (s : State) : Nat := s.fld Reg.TWIN_CTRL F.TWIN_CTRL_SIDE
/-- Channel `c` has its star in this unit (R699). -/
def State.ownCh (s : State) (c : Nat) : Bool := !s.twinOn || s.twinSide == c

/-- The octets of a journal entry's content, for `TWIN_JOURNAL`. -/
def JEntry.size : JEntry → Nat
  | .cmd _ d => 64 + d.length
  | .prog _ d => d.length
  | _ => 8

/-- `TWIN_JOURNAL` shows the entries not acknowledged (R734). -/
def State.showJournal (s : State) : State :=
  let r := Reg.TWIN_JOURNAL
  (s.put r F.TWIN_JOURNAL_ENTRIES (satU 16 s.twin.journal.length)).put r F.TWIN_JOURNAL_KIB
    (satU 16 (ceilDiv (s.twin.journal.foldl (· + ·) 0) 1024))

/-- The active sends a journal entry (R714). -/
def State.journal (s : State) (e : JEntry) : State :=
  (({ s with twin := { s.twin with journal := s.twin.journal ++ [e.size] } }).emit (.twinJournal e)).showJournal

/-- The active journals a command that it executes for a mirrored block, with the content that it reads (R714). -/
def State.journalCmd (s : State) (c : Cmd) (d : List Byte) : State :=
  if s.role = 1 && mirrored (c.op / 256) && c.op != 0x0505 && c.op != 0x0704 then s.journal (.cmd c d) else s

/-- While the role is REJOINING or STANDBY, commands of mirrored blocks are answered by R50, OPT_COPY_SOLUTION and
SEP_COPY_FIELD apart (R713). -/
def State.mirrorStop (s : State) (c : Cmd) : Bool :=
  decide (2 ≤ s.role) && mirrored (c.op / 256) && c.op != 0x0505 && c.op != 0x0704

/-- Which initiators may issue a command: the PF only, the PF and work cores, or any function of its own group. -/
inductive Issuer where
  | pf | pfWc | any
  deriving DecidableEq, Repr

/-- Check 1 of R49: the issuer, a VF's group (R603, octet 3), a VF's SRAM address, and the secure partition (R681).
`addrs` gives each address the command uses with its length; only shared SRAM addresses are judged. -/
def check1 (c : Cmd) (iss : Issuer) (addrs : List (Nat × Nat)) : List (Bool × Verdict) :=
  [ ((match iss, c.who with
      | .pf, .vf _ => true
      | .pf, .wc _ => true
      | .pfWc, .vf _ => true
      | _, _ => false), .priv),
    ((match c.who with
      | .vf n => c.group != n - 1
      | _ => false), .priv),
    (c.who.isVf && addrs.any (fun a => isSram a.1), .priv) ] ++
  addrs.map fun a =>
    (isSram a.1 && decide (a.1 < sramSize) && decide (secureBase < a.1 + a.2 ∨ secureBase ≤ a.1), .secure a.1)

/-- An SRAM range of a command lies within the 64 MiB. -/
def sramFits (a n : Nat) : Bool := !isSram a || decide (a + n ≤ sramSize)

/-- Runs a command whose checks, in the order of R49, are `checks`: the first that fails answers it, and the command
then has no other effect; a command accepted earlier (R51) is not judged again. A command to a block wakes its domain (R750); a
block whose domain is OFF or in RESET answers by R50. DEDUCED: notes/assumptions/70.md. -/
def State.judge (s : State) (c : Cmd) (checks : List (Bool × Verdict)) (run : State → State) : State :=
  let b := c.op / 256
  let s := s.wakeDom (domainOf b)
  if c.accepted then run s
  else if s.blockAway b then s.refuse c (.reject 22 (s.domState (domainOf b)))
  else
    match firstFail checks with
    | some v => s.refuse c v
    | none => run (if c.reads then s else s.journalCmd c [])

/-- The check of R713 for the command's block, put with the checks of state legality. -/
def State.mirrorCheck (s : State) (c : Cmd) : Bool × Verdict := (s.mirrorStop c, .reject 2 s.role)

end Sys2Proof.Machine
end

