-- ==== Sys2Proof/Machine/Mode.lean ====
section
/-!
DEFINITION. The device mode and the defect bits (R44, R45, R785, R61).
-/
namespace Sys2Proof.Machine

/-- BOOT -/ def mBoot := 0
/-- CONFIG -/ def mConfig := 1
/-- OPERATE -/ def mOperate := 2
/-- SERVICE -/ def mService := 3
/-- DEGRADED -/ def mDegraded := 4

/-- TWIN_ACT is high (R701, R724). -/
def State.twinAct (s : State) : Bool :=
  !s.twin.actLow && (s.role == 1 || (s.role == 0 && s.twinOn && decide (2 ≤ s.mode)))

/-- Block 0x09 holds every output ball at its inactive level (R701). -/
def State.outHeld (s : State) : Bool := s.twinOn && !s.twinAct

/-- An output of block 0x09 reaches its ball (R701). -/
def State.laEmit (s : State) (e : Emit) : State := if s.outHeld then s else s.emit e

/-- Every output ball of block 0x09 as it stands now (R701): gates, step directions, and the levels of the compare outputs. -/
def State.showOuts (s : State) : State :=
  let now := !s.outHeld
  let s := forEach (List.range 16) s fun c s => s.emit (.gates c (if now then (tabGet (fun _ => {}) s.la c : LaSt).gates else 0))
  let s := if now then s else forEach (List.range s.nLocal) s fun c s => s.emit (.ball "LA_DIR" c 0)
  forEach (List.range 16) s fun o s =>
    let l := now && bit (s.fld Reg.LA_OUT_STATE F.LA_OUT_STATE_LEVEL) o && s.flag (Reg.LA_OUT_CFG o) F.LA_OUT_CFG_ENABLE
    s.emit (.ball "LA_CMP" o (b2n (l != s.flag (Reg.LA_OUT_CFG o) F.LA_OUT_CFG_INVERT)))

/-- TWIN_ACT and the output balls of block 0x09 after a change of `was` (R701). -/
def State.showAct (s : State) (was : Bool) : State :=
  let now := s.twinAct
  if was = now then s
  else
    let s := s.emit (.ball "TWIN_ACT" 0 (b2n now))
    if s.twinOn then s.showOuts else s

/-- The device mode becomes `m`: event 0x0020 with the old and new mode (R785). -/
def State.setMode (s : State) (m : Nat) : State :=
  let old := s.mode
  let was := s.twinAct
  if old = m then s
  else
    let s := if m ≤ 1 then { s with twin := { s.twin with actLow := false } } else s
    ((s.put Reg.DEV_MODE F.DEV_MODE_MODE m).postB 0x0020 [(16, 1, old), (17, 1, m)]).showAct was

/-- `DEV_DEFECT`. -/
def State.defects (s : State) : Nat := (s.reg Reg.DEV_DEFECT).toNat

/-- A defect bit sets (R44, R785): in OPERATE the device goes to DEGRADED with events 0x0020 and 0x0021; a bit that
sets in DEGRADED posts 0x0021 alone. -/
def State.setDefect (s : State) (b : Nat) : State :=
  if bit s.defects b then s
  else
    let s := s.setReg Reg.DEV_DEFECT (BitVec.ofNat 32 (setBit s.defects b true))
    let s := if s.mode = mOperate then s.setMode mDegraded else s
    if s.mode = mDegraded then s.postB 0x0021 [(16, 4, s.defects)] else s

/-- Bit numbers of `DEV_DEFECT` (R61). -/
def dfSram := 0
/-- SELFTEST_FAIL -/ def dfSelftest := 1
/-- TWIN_PATH -/ def dfTwin := 2
/-- ANALOGUE_PATH -/ def dfAnalogue := 3
/-- SAFETY_PATH -/ def dfSafety := 4
/-- THERMAL -/ def dfThermal := 5
/-- CLOCK -/ def dfClock := 6
/-- LINK_CHANNEL -/ def dfLink := 7

/-- A role change of the twin block: `DEV_MODE.TWIN_ROLE`, `TWIN_STATUS.ROLE` and event 0x0E30 (R707). -/
def State.setRole (s : State) (r : Nat) : State :=
  let old := s.role
  let was := s.twinAct
  if old = r then s
  else
    let s := { s with twin := { s.twin with actLow := false } }
    (((s.put Reg.DEV_MODE F.DEV_MODE_TWIN_ROLE r).put Reg.TWIN_STATUS F.TWIN_STATUS_ROLE r).postB 0x0E30
      [(16, 1, old), (17, 1, r)]).showAct was

/-- The axes that group `g` carries: the `JNT_AXIS` of its model's joints (R230). -/
def State.groupAxes (s : State) (g : Nat) : List Nat :=
  if s.flag (Reg.GRP_MODEL g) F.GRP_MODEL_LOADED then
    (List.range (s.fld (Reg.GRP_MODEL g) F.GRP_MODEL_N_JOINTS)).map fun j => s.fld (Reg.JNT_AXIS g j) F.JNT_AXIS_AXIS
  else []

/-- The group that an axis belongs to. -/
def State.axisGroup (s : State) (a : Nat) : Option Nat := s.groups.find? fun g => (s.groupAxes g).contains a

end Sys2Proof.Machine
end

