-- ==== Sys2Proof/Machine/Data.lean ====
section
/-!
DEFINITION. Data that commands read and write: shared SRAM with its bank groups, errors and secure partition
(R672–R682), and reads and writes of host memory (R593, R615, R622, R782).
-/
namespace Sys2Proof.Machine

/-! ### Shared SRAM -/

/-- Octets of shared SRAM. -/
def State.sramRead (s : State) (o n : Nat) : List Byte := memRead s.mem.sram o n

/-- The word offset that holds an octet (R672). -/
def wordOf (o : Nat) : Nat := o / 8 * 8

/-- The word offsets of a range. -/
def wordsOf (o n : Nat) : List Nat :=
  if n = 0 then [] else (List.range ((o + n - 1) / 8 - o / 8 + 1)).map fun k => wordOf o + 8 * k

/-- The words of a range that are written whole. -/
def wholeWords (o n : Nat) : List Nat := (wordsOf o n).filter fun w => decide (o ≤ w) && decide (w + 8 ≤ o + n)

/-- A write of shared SRAM ends the reservations of work cores on it (R647). -/
def State.breakResv (s : State) (o n : Nat) : State :=
  forEach (List.range 16) s fun c s =>
    match (s.core c).rv.resv with
    | some (a, m) =>
      if a < 2 ^ 32 + o + n ∧ 2 ^ 32 + o < a + m then s.modCore c fun z => { z with rv := { z.rv with resv := none } } else s
    | none => s

/-- Octets written to shared SRAM; a word written whole loses its poison (R676). -/
def State.sramWrite (s : State) (o : Nat) (data : List Byte) : State :=
  let whole := wholeWords o data.length
  let s := s.breakResv o data.length
  { s with mem := { s.mem with
      sram := memWrite s.mem.sram o data
      poison := s.mem.poison.filter fun w => !whole.contains w } }

/-- A poisoned word of a range, the first. -/
def State.poisoned (s : State) (o n : Nat) : Option Nat := (wordsOf o n).find? fun w => s.mem.poison.contains w

/-- The bank group of an offset (R672). -/
def groupOf (o : Nat) : Nat := o / 0x400000
/-- The bank of an offset. -/
def bankOf (o : Nat) : Nat := o / 0x40000

/-- ON -/ def gOn := 0
/-- RETENTION -/ def gRetention := 1
/-- WAKING -/ def gWaking := 2
/-- OFF -/ def gOff := 3
/-- CLEARING -/ def gClearing := 4
/-- LOST -/ def gLost := 5

/-- `MEM_GROUP(g).STATE`. -/
def State.groupState (s : State) (g : Nat) : Nat := s.fld (Reg.MEM_GROUP g) F.MEM_GROUP_STATE

/-- A group changes state: event 0x0D32, `MEM_STATUS.ON` (R678). -/
def State.setGroup (s : State) (g st : Nat) : State :=
  let old := s.groupState g
  if old = st then s
  else
    let s := s.put (Reg.MEM_GROUP g) F.MEM_GROUP_STATE st
    let s := s.put Reg.MEM_STATUS F.MEM_STATUS_ON (setBit (s.fld Reg.MEM_STATUS F.MEM_STATUS_ON) g (st == gOn))
    s.postB 0x0D32 [(16, 1, g), (17, 1, old), (18, 1, st)]

/-- The contents of a group are lost: it will read 0, without poison (R678). -/
def State.clearGroup (s : State) (g : Nat) : State :=
  let lo := g * 0x400000
  { s with mem := { s.mem with
      sram := tabClear lo (lo + 0x400000) s.mem.sram
      poison := s.mem.poison.filter fun w => groupOf w != g } }

/-- An access to a group, or MEM_GROUP_SET ON, wakes it (R678). -/
def State.wakeGroup (s : State) (g : Nat) : State :=
  let st := s.groupState g
  if st = gRetention then s.setGroup g gWaking
  else if st = gOff ∨ st = gLost then (s.clearGroup g).setGroup g gClearing
  else s

/-- The groups of a range. -/
def groupsOf (o n : Nat) : List Nat := idxs 16 fun g => decide (g * 0x400000 < o + n) && decide (o < (g + 1) * 0x400000)

/-- A wipe is in progress (R682). -/
def State.wiping (s : State) : Bool := s.flag Reg.MEM_SEC F.MEM_SEC_WIPING

/-- Every group of a range is ON, and no wipe holds the range (R679, R682). -/
def State.sramReady (s : State) (o n : Nat) : Bool :=
  (groupsOf o n).all (fun g => s.groupState g == gOn) && !(s.wiping && decide (secureBase < o + n))

/-- An access to a range waits: its groups wake, and the access stands in the order of arrival (R679). -/
def State.sramWait (s : State) (o n : Nat) (a : MemAccess) : State :=
  let s := forEach (groupsOf o n) s fun g s => s.wakeGroup g
  { s with mem := { s.mem with waiting := s.mem.waiting ++ [a] } }

/-- The device's own write to shared SRAM; it waits for a group that is not ON (R679). -/
def State.devWrite (s : State) (o : Nat) (data : List Byte) : State :=
  if s.sramReady o data.length then s.sramWrite o data else s.sramWait o data.length (.write .dev o data)

/-- A read found an uncorrectable error (R675, R676): counted, the first one captured, bank retired, defect bit,
foul 0x0D10, the word poisoned. `src` is the requester's SOURCE. -/
def State.uncorrectable (s : State) (src w : Nat) : State :=
  let s := s.addSat Reg.MEM_ECC F.MEM_ECC_UNCORR 1
  let s :=
    if s.mem.captured then s
    else
      let s := s.setReg64 Reg.MEM_ERR_ADDR (BitVec.ofNat 64 w)
      let s := s.put Reg.MEM_ERR_INFO F.MEM_ERR_INFO_SRC_KIND (src / 4096)
      let s := s.put Reg.MEM_ERR_INFO F.MEM_ERR_INFO_SRC_INDEX (src % 4096)
      { s with mem := { s.mem with captured := true } }
  let b := bankOf w
  let r := Reg.MEM_RETIRED (b / 32)
  let s := s.setReg r (BitVec.ofNat 32 (setBit (s.reg r).toNat (b % 32) true))
  let s := { s with mem := { s.mem with poison := if s.mem.poison.contains w then s.mem.poison else w :: s.mem.poison } }
  let s := s.post 0x0D10 src (det [(16, 2, b), (24, 8, w)])
  s.setDefect dfSram

/-- A read of a range that holds poisoned words records the first of them again for its requester (R675). -/
def State.notePoison (s : State) (src o n : Nat) : State :=
  match s.poisoned o n with
  | some w => s.uncorrectable src w
  | none => s

/-- The errors that a read finds in the array (R675): word offset, and whether it is uncorrectable. -/
def State.foundErrors (s : State) (src : Nat) (errs : List (Nat × Bool)) : State :=
  forEach errs s fun e s =>
    if e.2 then s.uncorrectable src (wordOf e.1) else s.addSat Reg.MEM_ECC F.MEM_ECC_CORR 1

/-! ### Host memory -/

/-- The number of read requests outstanding (R593). -/
def State.readsOut (s : State) : Nat := (s.host.reads.filter fun r => r.sent && r.got.isNone).length

/-- Sends waiting read requests while fewer than 128 are outstanding and the link is up (R593, R627). -/
def State.pumpReads (s : State) : State :=
  let step (acc : List Emit × Nat × List ReadReq) (r : ReadReq) : List Emit × Nat × List ReadReq :=
    if !r.sent && decide (acc.2.1 < 128) && s.hostUp then
      (.hostRead r.fn r.id r.addr r.len :: acc.1, acc.2.1 + 1, acc.2.2 ++ [{ r with sent := true }])
    else (acc.1, acc.2.1, acc.2.2 ++ [r])
  let x := s.host.reads.foldl step (s.egress, s.readsOut, [])
  let s := { s with egress := x.1, host := { s.host with reads := x.2.2 } }
  s.put Reg.HE_STATUS F.HE_STATUS_READS s.readsOut

/-- The pieces of a host range: at most 512 octets (R593), none across a 4 KiB boundary (R601), with fuel `k`.
DEDUCED: notes/assumptions/77.md. -/
def readPieces : Nat → Nat → Nat → List (Nat × Nat)
  | 0, _, _ => []
  | k + 1, a, n =>
    if n = 0 then [] else
    let m := min n (min 512 (4096 - a % 4096))
    (a, m) :: readPieces k (a + m) (n - m)

/-- Starts a job of reads of host memory with the requester ID of function `fn` (R604). -/
def State.startReads (s : State) (fn : Nat) (addr : W64) (len : Nat) (job : ReadJob) : State :=
  let j := s.host.nextId
  let ps := readPieces (len / 512 + 2) addr.toNat len
  let reqs := ps.zipIdx.map fun p => (⟨j + 1 + p.2, fn, j, BitVec.ofNat 64 p.1.1, p.1.2, false, none⟩ : ReadReq)
  let s := { s with host := { s.host with
    reads := s.host.reads ++ reqs
    jobs := s.host.jobs ++ [(j, job)]
    nextId := j + 1 + ps.length } }
  s.pumpReads

/-- Octets written to host memory as posted writes of at most 512 octets (R593, R604, R782). -/
def State.hostWrite (s : State) (fn : Nat) (addr : W64) (data : List Byte) : State :=
  forEach (readPieces (data.length / 512 + 2) addr.toNat data.length) s fun p s =>
    s.emit (.hostWrite fn (BitVec.ofNat 64 p.1) (slice data (p.1 - addr.toNat) p.2))

/-! ### A command's data -/

/-- The data of `n` octets that a command's address parameter names, given to `k`: from shared SRAM when its groups
are ON (else the command waits, R679; a poisoned word answers it with BAD_PARAM, R675), or from host memory (a failed
read answers it with DMA_ERROR, R622). A journaled command finds its data in the journal (R717). -/
def State.withData (s : State) (c : Cmd) (addr n : Nat) (dma : Dma) (k : List Byte → State → State) : State :=
  let go (d : List Byte) (s : State) : State := k d (s.journalCmd c d)
  match s.twin.feed with
  | some d => k (slice d 0 n) s
  | none =>
  if n = 0 then go [] s
  else if isSram addr then
    if s.sramReady addr n then
      match s.poisoned addr n with
      | some w => (s.uncorrectable (srcInit (c.op / 256) c.who) w).complete c stBad 0
      | none => go (s.sramRead addr n) s
    else s.sramWait addr n (.cmd { c with accepted := true } addr n)
  else
    match dma with
    | .data bytes => go (slice bytes 0 n) s
    | .fail => s.complete c stDma 0
    | .pending => s.startReads (fnOf c.who) (hostAddr addr) n (.param { c with accepted := true })

/-- Octets written where a command's address parameter points, then `k`; an SRAM group that is not ON makes the
command wait (R679). -/
def State.withRoom (s : State) (c : Cmd) (addr : Nat) (data : List Byte) (k : State → State) : State :=
  if isSram addr then
    if s.sramReady addr data.length then k (s.sramWrite addr data)
    else s.sramWait addr data.length (.cmd { c with accepted := true } addr data.length)
  else k (s.hostWrite (fnOf c.who) (hostAddr addr) data)

end Sys2Proof.Machine
end

