-- ==== Sys2Proof/Machine/SelfTest.lean ====
section
/-!
DEFINITION. Block 0x0D, logic self-test: regions, runs, slices, demands and results (R687–R695). How a region is lent
stands with the owners' conditions in Lend.lean.
-/
namespace Sys2Proof.Machine

/-- Kind of a region (R687): 0 work core, 1 signal core, 2 servo pipeline, 3 optimiser cluster, 4 planner,
5 separation engine. -/
def regionKind (r : Nat) : Nat :=
  if r < 0x10 then 0 else if r < 0x18 then 1 else if r < 0x28 then 2 else if r < 0x30 then 3 else if r = 0x30 then 4 else 5

/-- First region of a kind. -/
def kindBase : Nat → Nat
  | 0 => 0 | 1 => 0x10 | 2 => 0x18 | 3 => 0x28 | 4 => 0x30 | _ => 0x31

/-- A region is present (R2, R687). DEDUCED: notes/assumptions/16.md. -/
def State.regionPresent (s : State) (r : Nat) : Bool :=
  decide (r < 0x21) || (decide (0x28 ≤ r) && decide (r < 0x28 + s.nClu)) || r == 0x30 || r == 0x31

/-- Patterns of one slice of a kind, P_s (R687). -/
def slicePatterns : Nat → Nat
  | 0 => 615 | 1 => 606 | 2 => 612 | 3 => 271 | 4 => 232 | _ => 116

/-- Octets of saved state of a kind (R687). -/
def savedSize : Nat → Nat
  | 0 => 0x1000 | 1 => 0x400 | 2 => 0xC00 | _ => 0x2000

/-- A region's state beside its registers. -/
def State.region (s : State) (r : Nat) : RegionSt := tabGet (fun _ => {}) s.mem.regions r
/-- A region's state changed. -/
def State.modRegion (s : State) (r : Nat) (f : RegionSt → RegionSt) : State :=
  { s with mem := { s.mem with regions := tabSet (fun _ => {}) s.mem.regions r (f (s.region r)) } }

/-- `MST_REGION(r).STATE`: 0 idle, 1 paused, 2 lent, 3 retired. -/
def State.regionState (s : State) (r : Nat) : Nat := s.fld (Reg.MST_REGION r) F.MST_REGION_STATE
/-- A region is lent or retired: its owner is without it (R692). DEDUCED: notes/assumptions/15.md. -/
def State.regionAway (s : State) (r : Nat) : Bool := decide (2 ≤ s.regionState r ∧ s.regionState r ≤ 3) || (s.region r).returning

/-- The planner is lent (R47, R687). -/
def State.plannerLent (s : State) : Bool := s.regionAway 0x30

/-- Adds to or takes from the counts of lent regions, `MST_STATUS.LENT` and `DEV_MODE.LENT` (R689). -/
def State.countLent (s : State) (up : Bool) : State :=
  let n := s.fld Reg.MST_STATUS F.MST_STATUS_LENT
  let n := if up then n + 1 else n - 1
  (s.put Reg.MST_STATUS F.MST_STATUS_LENT n).put Reg.DEV_MODE F.DEV_MODE_LENT n

/-! ### Signal-core states, which a lend changes (R580) -/

/-- `SC_STATE.STATE`: 0 HALTED, 1 RUNNING, 2 WAITING, 3 FAULTED, 4 LENT. -/
def State.scState (s : State) (c : Nat) : Nat := s.fld (Reg.SC_STATE c) F.SC_STATE_STATE
/-- SOURCE of a signal core. -/
def srcSc (c : Nat) : Nat := srcOf 5 c

/-- A core changes state: event 0x0B32 and the bits of `SC_STATUS` (R580, R589). -/
def State.setScState (s : State) (c st : Nat) : State :=
  let old := s.scState c
  if old = st then s
  else
    let s := s.put (Reg.SC_STATE c) F.SC_STATE_STATE st
    let mark (s : State) (f : Fld) (k : Nat) : State := s.put Reg.SC_STATUS f (setBit (s.fld Reg.SC_STATUS f) c (st == k))
    let s := mark s F.SC_STATUS_RUNNING 1
    let s := mark s F.SC_STATUS_WAITING 2
    let s := mark s F.SC_STATUS_FAULTED 3
    let s := mark s F.SC_STATUS_LENT 4
    s.post 0x0B32 (srcSc c) (det [(16, 1, c), (17, 1, old), (18, 1, st)])

/-! ### Lend and return -/

/-- The owner takes a returned region back: cores at once, the other kinds at their next boundary (R687). -/
def State.ownerReturn (s : State) (r : Nat) : State :=
  match regionKind r with
  | 0 => s.setCoreState r kOnline
  | 1 =>
    s.setScState (r - 0x10) (s.region r).lentFrom
  | _ => s.modRegion r fun x => { x with returning := true }

/-- A region fails for the second time: it is retired and never returned (R692). DEDUCED: notes/assumptions/13.md. -/
def State.retireRegion (s : State) (r : Nat) : State :=
  let s := s.put (Reg.MST_REGION r) F.MST_REGION_STATE 3
  let s := s.put (Reg.MST_REGION r) F.MST_REGION_FAIL_ONCE 0
  let s := s.modRegion r fun x => { x with running := false, retry := false, retryWait := false, gapWait := false, outOfUse := false }
  let s := match regionKind r with
    | 2 => s.put Reg.SRV_STATUS F.SRV_STATUS_RETIRED (setBit (s.fld Reg.SRV_STATUS F.SRV_STATUS_RETIRED) (r - 0x18) true)
    | 3 => s.put Reg.OPT_STATUS F.OPT_STATUS_RETIRED (setBit (s.fld Reg.OPT_STATUS F.OPT_STATUS_RETIRED) (r - 0x28) true)
    | _ => s
  let s := if regionKind r = 2 then s.postB 0x0632 [(19, 1, r - 0x18), (20, 1, 2)] else s
  (s.postB 0x0D16 [(16, 1, r)]).setDefect dfSelftest

/-- A lent region leaves its save slot: counts and `MST_STATUS.SLOTS`. -/
def State.freeSlot (s : State) (r : Nat) : State :=
  let k := s.fld (Reg.MST_REGION r) F.MST_REGION_SLOT
  (s.put Reg.MST_STATUS F.MST_STATUS_SLOTS (setBit (s.fld Reg.MST_STATUS F.MST_STATUS_SLOTS) k false)).countLent false

/-- The range of bank 255 that holds a lent region's saved state (R689). -/
def State.slotRange (s : State) (r : Nat) : Nat × Nat :=
  (0x3FC0000 + s.fld (Reg.MST_REGION r) F.MST_REGION_SLOT * 0x4000, savedSize (regionKind r))

/-- A lent region is restored and returned, and the region's state becomes `st`. An uncorrectable word in its save slot
leaves it reset, and the engine retires it (R691). -/
def State.returnRegion (s : State) (r st : Nat) : State :=
  if s.regionState r ≠ 2 then s.put (Reg.MST_REGION r) F.MST_REGION_STATE st
  else
    let (o, n) := s.slotRange r
    let k := s.fld (Reg.MST_REGION r) F.MST_REGION_SLOT
    match s.poisoned o n with
    | some w => ((s.uncorrectable (srcBlock 0x0D) w).freeSlot r).retireRegion r
    | none =>
      let s := (s.freeSlot r).put (Reg.MST_REGION r) F.MST_REGION_STATE st
      (s.ownerReturn r).postB 0x0D30 [(16, 1, r), (17, 1, 1), (18, 1, k)]

/-- The lowest free save slot (R689). -/
def State.saveSlot (s : State) : Option Nat :=
  (List.range 16).find? fun k => !bit (s.fld Reg.MST_STATUS F.MST_STATUS_SLOTS) k

/-- A region becomes lent (R689): it is saved to the lowest free slot, whose words are written whole, and reset; event
0x0D30. With no slot free nothing happens. DESIGN CHOICE: notes/assumptions/12.md. -/
def State.lendRegion (s : State) (r : Nat) : State :=
  match s.saveSlot with
  | none => s
  | some k =>
    let s := s.put (Reg.MST_REGION r) F.MST_REGION_SLOT k
    let s := s.put (Reg.MST_REGION r) F.MST_REGION_STATE 2
    let s := s.put Reg.MST_STATUS F.MST_STATUS_SLOTS (setBit (s.fld Reg.MST_STATUS F.MST_STATUS_SLOTS) k true)
    let s := s.countLent true
    let (o, n) := s.slotRange r
    let s := { s with mem := { s.mem with poison := s.mem.poison.filter fun w => decide (w < o) || decide (o + n ≤ w) } }
    s.postB 0x0D30 [(16, 1, r), (17, 1, 0), (18, 1, k)]

/-- The end of a run (R690): result 1 PASS, 2 FAIL, 3 ABORTED; `cause` of R691 for an abort. -/
def State.endRun (s : State) (r result cause : Nat) (sig : W64) : State :=
  let n := s.fld (Reg.MST_REGION r) F.MST_REGION_LOG_N
  let done := (s.reg (Reg.MST_DONE r)).toNat
  let cmd := (s.region r).byCmd
  let s := s.put (Reg.MST_REGION r) F.MST_REGION_RESULT result
  let s := s.addWrap (Reg.MST_REGION r) F.MST_REGION_RUNS
  let s := s.setReg64 (Reg.MST_SIG r) sig
  let s := s.put (Reg.MST_REGION r) F.MST_REGION_FAIL_ONCE
    (if result = 2 ∧ s.fld (Reg.MST_REGION r) F.MST_REGION_FAIL_ONCE = 0 then 1 else 0)
  let s := s.modRegion r fun x =>
    { x with running := false, byCmd := none, held := false,
             retry := decide (result = 3) && cmd.isNone, retryWait := decide (result = 3) && cmd.isNone }
  let s := s.postB 0x0D31 [(16, 1, r), (17, 1, result), (20, 4, done)]
  let s := match result with
    | 2 => s.postB 0x0D14 [(16, 1, r), (17, 1, n), (24, 8, sig.toNat)]
    | 3 => s.postB 0x0D15 [(16, 1, r), (17, 1, cause), (20, 4, done)]
    | _ => s
  match cmd with
  | some c => if result = 3 then s.complete c stAborted cause else s.complete c stOK result
  | none => s

/-- A run is ended before its count (R691): the region is restored and the run ends ABORTED. How many patterns of
the present slice were applied, and the signature, are open. DESIGN CHOICE: notes/assumptions/12.md. -/
def State.abortRun (s : State) (r cause : Nat) : State :=
  if !(s.region r).running then s
  else
    let (x, s) := s.takeFree
    let (sig, s) := s.takeFree
    let done := (s.reg (Reg.MST_DONE r)).toNat
    let size := min (slicePatterns (regionKind r)) (2 ^ s.fld (Reg.MST_REGION r) F.MST_REGION_LOG_N - done)
    let s := if s.regionState r = 2 then s.setReg (Reg.MST_DONE r) (BitVec.ofNat 32 (done + x.toNat % size)) else s
    (s.returnRegion r 0).endRun r 3 cause sig

/-- A demand for a region (R691): its run is aborted, or under DEFER the demand waits for the slice's end. -/
def State.mstDemand (s : State) (r : Nat) : State :=
  if s.regionState r ≠ 2 then s
  else if bit (s.fld Reg.MST_POLICY F.MST_POLICY_DEFER) (regionKind r) && decide (regionKind r < 4) then
    s.modRegion r fun x => { x with held := true }
  else s.abortRun r 1

/-- Every run in progress ends with a cause (R682, R691). -/
def State.abortAll (s : State) (cause : Nat) : State :=
  forEach (idxs 0x32 fun r => (s.region r).running) s fun r s => s.abortRun r cause

/-- A work core is wanted: a READY item's mask holds core `c` and no ONLINE core (R668). -/
def State.coreWanted (s : State) (c : Nat) : Bool :=
  (s.itemsIn iReady).any fun i => bit (s.itemMask i) c && !s.anyOnline (s.itemMask i)

/-- The scheduler reports the demands for lent work cores (R668). -/
def State.coreDemands (s : State) : State :=
  forEach (idxs 16 fun c => s.regionState c == 2) s fun c s => if s.coreWanted c then s.mstDemand c else s

/-- The result of a run of all its patterns. -/
def runResult (kind n : Nat) (sig : W64) : Nat := if sig = Config.mstExpected kind n then 1 else 2

/-- A complete run ends; a second consecutive FAIL retires the region (R692). -/
def State.finishRun (s : State) (r : Nat) (sig : W64) : State :=
  let res := runResult (regionKind r) (s.fld (Reg.MST_REGION r) F.MST_REGION_LOG_N) sig
  let again := s.flag (Reg.MST_REGION r) F.MST_REGION_FAIL_ONCE
  let s := s.endRun r res 0 sig
  if res = 2 && again then s.retireRegion r else s

/-- A slice of a lent region ends (R688, R689): the count rises by the slice's patterns, the region is restored and
returned, and with the last slice the run ends. A region that its last slice retires is not returned.
DEDUCED: notes/assumptions/13.md. -/
def State.sliceEnd (s : State) (r : Nat) (sig : W64) : State :=
  if s.regionState r ≠ 2 then s
  else
    let n := 2 ^ s.fld (Reg.MST_REGION r) F.MST_REGION_LOG_N
    let done := min n ((s.reg (Reg.MST_DONE r)).toNat + slicePatterns (regionKind r))
    let s := s.setReg (Reg.MST_DONE r) (BitVec.ofNat 32 done)
    let s := s.modRegion r fun x => { x with gapWait := true, held := false }
    if done < n then s.returnRegion r 1
    else
      let res := runResult (regionKind r) (s.fld (Reg.MST_REGION r) F.MST_REGION_LOG_N) sig
      let s :=
        if res = 2 && s.flag (Reg.MST_REGION r) F.MST_REGION_FAIL_ONCE then s.freeSlot r
        else s.returnRegion r 0
      if s.regionState r = 3 then s else s.finishRun r sig

/-- MST_SLICE_END: the present slice of region `r` ends; `sig` is the register after it. -/
def execMstSliceEnd (r : Nat) (sig : W64) (s : State) : Out := .next (s.sliceEnd r sig)

/-- MST_RETRY_EXPIRE: RETRY ms have passed since region `r`'s run was aborted (R691). -/
def execMstRetryExpire (r : Nat) (s : State) : Out :=
  .next (if (s.region r).retryWait then s.modRegion r fun x => { x with retryWait := false } else s)

/-- MST_GAP_EXPIRE: GAP ms have passed since region `r`'s slice returned (R695). -/
def execMstGapExpire (r : Nat) (s : State) : Out :=
  .next (if (s.region r).gapWait then s.modRegion r fun x => { x with gapWait := false } else s)

/-- A region out of use is to be tested at once (R693). -/
def State.startOutOfUse (s : State) (r : Nat) : State :=
  let s := s.abortRun r 1
  if s.regionState r = 3 then s
  else
    let s := s.put (Reg.MST_REGION r) F.MST_REGION_LOG_N 16
    let s := s.setReg (Reg.MST_DONE r) 0
    s.modRegion r fun x => { x with outOfUse := true, retry := false, retryWait := false, fails := 0 }

/-- OUT_OF_USE_TEST_DONE (R693): PASS returns the region at its owner's next boundary, FAIL runs the test again, a
second FAIL retires the region. -/
def execOutOfUseTestDone (r : Nat) (sig : W64) (s : State) : Out :=
  .next <|
    if !(s.region r).outOfUse then s
    else
      let s := s.setReg (Reg.MST_DONE r) (BitVec.ofNat 32 (2 ^ 16))
      let s := s.finishRun r sig
      if s.fld (Reg.MST_REGION r) F.MST_REGION_RESULT = 1 then
        s.modRegion r fun x => { x with outOfUse := false, returning := true }
      else s

/-- One run of R694: all 2^12 patterns, no lend. -/
def State.bootRun (s : State) (r : Nat) (sig : W64) : State :=
  let s := s.put (Reg.MST_REGION r) F.MST_REGION_LOG_N 12
  let s := s.setReg (Reg.MST_DONE r) (BitVec.ofNat 32 (2 ^ 12))
  s.finishRun r sig

/-- The runs of BOOT (R694): every present region once, and a failed one again; `sigs` gives a region's two
signatures where they are not both the expected one. Retired cores, and the separation engine, show LENT. -/
def State.bootTests (s : State) (sigs : List (Nat × W64 × W64)) : State :=
  forEach (idxs 0x32 s.regionPresent) s fun r s =>
    let e := Config.mstExpected (regionKind r) 12
    let x := (sigs.find? fun q => q.1 == r).map (·.2) |>.getD (e, e)
    let s := s.bootRun r x.1
    let s := if s.flag (Reg.MST_REGION r) F.MST_REGION_FAIL_ONCE then s.bootRun r x.2 else s
    if s.regionState r = 3 then
      match regionKind r with
      | 0 => s.put (Reg.WC_STATE r) F.WC_STATE_STATE kLent
      | 1 =>
        (s.put (Reg.SC_STATE (r - 0x10)) F.SC_STATE_STATE 4).put Reg.SC_STATUS F.SC_STATUS_LENT
          (setBit (s.fld Reg.SC_STATUS F.SC_STATUS_LENT) (r - 0x10) true)
      | 5 => s.put Reg.SEP_STATUS F.SEP_STATUS_STATE 3
      | _ => s
    else s

/-! ### Commands -/

/-- The runs of background testing pause while a command's run of the region is in progress (R697). A new run of region
`r` starts from pattern 0. -/
def State.startRun (s : State) (r n : Nat) (c : Option Cmd) : State :=
  let s := s.put (Reg.MST_REGION r) F.MST_REGION_LOG_N n
  let s := s.setReg (Reg.MST_DONE r) 0
  s.modRegion r fun x => { x with running := true, byCmd := c, retry := false, retryWait := false, gapWait := false }

/-- MST_RUN (R697). The region is lent at its owner's boundaries. -/
def execMstRun (c : Cmd) (s : State) : Out :=
  let c := { c with op := 0x0D02 }
  let r := c.b 16
  .next <| s.judge c
    (check1 c .pf [] ++
     [ (!c.onlyUses [(16, 1), (17, 1)] || !s.regionPresent r || decide (c.b 17 < 10 ∨ 20 < c.b 17), .bad),
       (s.regionState r == 3 || (s.region r).running || (s.region r).outOfUse, .reject 21 (s.regionState r)) ])
    fun s => s.startRun r (c.b 17) (some c)

/-- MST_CANCEL (R697): ends a run with cause 4. -/
def execMstCancel (c : Cmd) (s : State) : Out :=
  let c := { c with op := 0x0D03 }
  let r := c.b 16
  .next <| s.judge c
    (check1 c .pf [] ++
     [ (!c.onlyUses [(16, 1)] || !s.regionPresent r, .bad),
       (!(s.region r).running, .reject 21 (s.regionState r)) ])
    fun s => (s.abortRun r 4).complete c stOK 0

end Sys2Proof.Machine
end

