-- ==== Sys2Proof/Machine/SignalCores.lean ====
section
/-!
DEFINITION. Block 0x0B, the signal cores: registers and memories (R557–R563), the instruction set (R564–R574),
interrupts (R575–R578), exceptions and states (R579–R581), program banks and swap (R582–R584), commands (R591).

A row of an instruction is the issue of that instruction on a core; it takes place when the core is RUNNING, no
interrupt entry is due and the word at its PC carries the row's OP. `ecc` is what the row's reads of program and data
RAM found: bit 0 and 2 a corrected error, bit 1 and 3 an uncorrectable one, in program and in data RAM.
-/
namespace Sys2Proof.Machine

/-! ### Registers -/

/-- A core's state beside its registers. -/
def State.scCore (s : State) (c : Nat) : ScSt := tabGet (fun _ => {}) s.sc c
/-- A core's state changed. -/
def State.modSc (s : State) (c : Nat) (f : ScSt → ScSt) : State :=
  { s with sc := tabSet (fun _ => {}) s.sc c (f (s.scCore c)) }

/-- D register. -/
def State.scD (s : State) (c n : Nat) : Nat := (tabGet (fun _ => 0) (s.scCore c).d n).toNat
/-- D register, signed. -/
def State.scDi (s : State) (c n : Nat) : Int := toSigned 16 (s.scD c n)
/-- Accumulator, signed. -/
def State.scAcc (s : State) (c n : Nat) : Int := (tabGet (fun _ => 0) (s.scCore c).acc n).toInt
/-- `SC_SR`. -/
def State.scSr (s : State) (c : Nat) : Nat := (s.reg (Reg.SC_SR c)).toNat
/-- Sets SR. -/
def State.setScSr (s : State) (c v : Nat) : State := s.setReg (Reg.SC_SR c) (BitVec.ofNat 32 (v % 2 ^ 16))
/-- A special register (R557). -/
def State.scSp (s : State) (c x : Nat) : Nat :=
  if x = 0x20 then s.scSr c else (tabGet (fun _ => 0) (s.scCore c).sp x).toNat

/-- Bits of SR (R590). -/
def srIE := 15
/-- IN_ISR -/ def srInIsr := 14
/-- FRAC -/ def srFrac := 13
/-- LA1 -/ def srLA1 := 12
/-- LA0 -/ def srLA0 := 11
/-- WRAP_ADJ -/ def srWrap := 10
/-- IOE -/ def srIoe := 9
/-- DSAT -/ def srDsat := 8

/-- The bits of SR that MOVS writes: all but IN_ISR, LA1, LA0 and the reserved ones. -/
def srWritable : Nat := 0xA7CF
/-- The sticky flags that RETI keeps (R577). -/
def srSticky : Nat := 0x07C0

/-- Width of a special register (R557). -/
def spMask (x : Nat) : Nat := if x = 0x21 ∨ 0x23 ≤ x then 0x1FFF else 0xFFFF

/-- `SC_STATE.PC`. -/
def State.scPc (s : State) (c : Nat) : Nat := s.fld (Reg.SC_STATE c) F.SC_STATE_PC
/-- Sets PC. -/
def State.setScPc (s : State) (c v : Nat) : State := s.put (Reg.SC_STATE c) F.SC_STATE_PC v
/-! ### Interrupt lines (R575) -/

/-- Pending lines of a core. -/
def State.scPending (s : State) (c : Nat) : Nat := s.fld (Reg.SC_IRQ c) F.SC_IRQ_PENDING
/-- The lowest line that is pending and enabled. -/
def State.scLine (s : State) (c : Nat) : Option Nat :=
  (List.range 4).find? fun i => bit (s.scPending c) i && bit (s.fld (Reg.SC_IRQ c) F.SC_IRQ_ENABLE) i

/-- A line becomes pending; an enabled line of a LENT core is a demand for it (R691). -/
def State.scPend (s : State) (c line : Nat) : State :=
  let s := s.put (Reg.SC_IRQ c) F.SC_IRQ_PENDING (setBit (s.scPending c) line true)
  if bit (s.fld (Reg.SC_IRQ c) F.SC_IRQ_ENABLE) line then s.mstDemand (0x10 + c) else s

/-- CYCLE becomes pending on every core at a firing of entry 0 (R575). -/
def State.scCycle (s : State) : State := forEach (List.range 8) s fun c s => s.scPend c 0

/-- SC_TIMER_IRQ: PERIOD cycles have passed on core `core` since SC_START or the last such event. -/
def execScTimerIrq (core : Nat) (s : State) : Out :=
  .next (if s.reg (Reg.SC_TIMER core) = 0 then s else s.scPend core 2)

/-! ### Input FIFOs (R561, R562) -/

/-- The words of an input FIFO. -/
def State.scFifo (s : State) (c f : Nat) : List (BitVec 16 × W64) := tabGet (fun _ => []) (s.scCore c).fifo f
/-- Sets an input FIFO and its LEVEL. -/
def State.setScFifo (s : State) (c f : Nat) (l : List (BitVec 16 × W64)) : State :=
  (s.modSc c fun z => { z with fifo := tabSet (fun _ => []) z.fifo f l }).put (Reg.SC_IN_STAT c f) F.SC_IN_STAT_LEVEL l.length

/-- A sample of a source reaches FIFO `f` of core `c`. -/
def State.scPush (s : State) (c f : Nat) (x : BitVec 16) (t : W64) : State :=
  let l := s.scFifo c f
  if 128 ≤ l.length then
    (s.addSat (Reg.SC_IN_STAT c f) F.SC_IN_STAT_LOST 1).post 0x0B12 (srcSc c) (det [(16, 1, c), (17, 1, f)])
  else
    let s := s.setScFifo c f (l ++ [(x, t)])
    if l.length + 1 = s.fld (Reg.SC_IN_CFG c f) F.SC_IN_CFG_THRESH then s.scPend c 1 else s

/-- A sample of a source (KIND 0 analogue, 1 stream; CHAN) goes to every enabled FIFO that takes it (R561). -/
def State.scFeed (s : State) (kind chan : Nat) (x : BitVec 16) (t : W64) : State :=
  forEach (List.range 32) s fun k s =>
    let c := k / 4
    let f := k % 4
    if s.flag (Reg.SC_IN_CFG c f) F.SC_IN_CFG_ENABLE && s.fld (Reg.SC_IN_CFG c f) F.SC_IN_CFG_KIND == kind &&
        s.fld (Reg.SC_IN_CFG c f) F.SC_IN_CFG_CHAN == chan then s.scPush c f x t
    else s

/-! ### Data space (R559) -/

/-- The access kind of a data address: 0 none, 1 data RAM, 2 read only, 3 result words, 4 EVENT. -/
def scMap (a : Nat) : Nat :=
  if a < 0x8000 then 1
  else if a < 0x8014 then 2
  else if 0x8100 ≤ a ∧ a < 0x8140 then 3
  else if a = 0x8140 then 4 else 0

/-- A load can be made from an address. -/
def scReadable (a : Nat) : Bool := scMap a == 1 || scMap a == 2 || scMap a == 3
/-- A store can be made to an address. DEDUCED: notes/assumptions/21.md. -/
def scStorable (a : Nat) : Bool := scMap a == 1 || scMap a == 3 || scMap a == 4

/-- A load from a readable address: the word, and the state after a pop or a latch. -/
def State.scLoad (s : State) (c a : Nat) : Nat × State :=
  match scMap a with
  | 1 => ((tabGet (fun _ => 0) (s.scCore c).data a).toNat, s)
  | 3 => ((tabGet (fun _ => 0) (s.scCore c).res (a - 0x8100)).toNat, s)
  | _ =>
    let o := a - 0x8000
    if o < 16 then
      let f := o / 4
      let l := s.scFifo c f
      let t := match l with | [] => 0 | h :: _ => h.2.toNat
      match o % 4 with
      | 0 =>
        match l with
        | [] =>
          let s := s.addSat (Reg.SC_IN_STAT c f) F.SC_IN_STAT_EMPTY_READS 1
          let s := s.setScSr c (setBit (s.scSr c) srIoe true)
          (0x8000, s.post 0x0B13 (srcSc c) (det [(16, 1, c), (17, 1, f), (18, 2, s.scPc c)]))
        | h :: r => (h.1.toNat, s.setScFifo c f r)
      | 1 => (l.length, s)
      | 2 => (t % 2 ^ 16, s.modSc c fun z => { z with inLatch := tabSet (fun _ => 0) z.inLatch f (BitVec.ofNat 16 (t / 2 ^ 16)) })
      | _ => ((tabGet (fun _ => 0) (s.scCore c).inLatch f).toNat, s)
    else
      let k := o - 16
      if k = 0 then (s.cell.toNat % 2 ^ 16, s.modSc c fun z => { z with timeLatch := s.cell })
      else ((s.scCore c).timeLatch.toNat / 2 ^ (16 * k) % 2 ^ 16, s)

/-- A store to a storable address; EVENT posts 0x0B31 (R563). -/
def State.scStore (s : State) (c a v : Nat) : State :=
  match scMap a with
  | 1 => s.modSc c fun z => { z with data := tabSet (fun _ => 0) z.data a (BitVec.ofNat 16 v) }
  | 3 =>
    let k := a - 0x8100
    let s := s.modSc c fun z => { z with res := tabSet (fun _ => 0) z.res k (BitVec.ofNat 16 v) }
    s.put (Reg.SC_RES c (k / 2)) (if k % 2 = 0 then F.SC_RES_RES_LO else F.SC_RES_RES_HI) v
  | 4 => s.post 0x0B31 (srcSc c) (det [(16, 1, c), (18, 2, v)])
  | _ => s

/-! ### Addressing (R569) -/

/-- An access through A_i: its address, whether the pointer was reduced, and o after the reduction. -/
def State.scAddr (s : State) (c i : Nat) : Nat × Bool × Nat :=
  let a := s.scSp c i
  let b := s.scSp c (0x10 + i)
  let l := s.scSp c (0x18 + i)
  if l = 0 then (a, false, 0)
  else
    let o := (a + 0x10000 - b) % 0x10000
    let o' := o % l
    ((b + o') % 0x10000, decide (l ≤ o), o')

/-- A_i after a post-modification by `m`. -/
def State.scNext (s : State) (c i : Nat) (m : Int) : Nat :=
  let (a, _, o) := s.scAddr c i
  let b := s.scSp c (0x10 + i)
  let l := s.scSp c (0x18 + i)
  if l = 0 then (((a : Int) + m) % 0x10000).toNat
  else (b + (((o : Int) + m) % (l : Int)).toNat) % 0x10000

/-- M_i, signed. -/
def State.scM (s : State) (c i : Nat) : Int := toSigned 16 (s.scSp c (8 + i))

/-- The writes of an access through A_i: the post-modification when PM is 1, and WRAP_ADJ. -/
def State.scPost (s : State) (c i : Nat) (pm : Bool) : List ScPend :=
  (if pm then [⟨0, .sp i, s.scNext c i (s.scM c i)⟩] else []) ++
    (if (s.scAddr c i).2.1 then [⟨0, .sticky, 2 ^ srWrap⟩] else [])

/-! ### Writes that land (R573, R574) -/

/-- One write lands. -/
def State.scLand1 (s : State) (c : Nat) (p : ScPend) : State :=
  match p.tgt with
  | .d n => s.modSc c fun z => { z with d := tabSet (fun _ => 0) z.d n (BitVec.ofNat 16 p.val) }
  | .sp x =>
    if x = 0x20 then s.setScSr c ((p.val &&& srWritable) ||| (s.scSr c &&& (0xFFFF - srWritable)))
    else s.modSc c fun z => { z with sp := tabSet (fun _ => 0) z.sp x (BitVec.ofNat 16 (p.val &&& spMask x)) }
  | .flags => s.setScSr c (s.scSr c / 16 * 16 + p.val % 16)
  | .sticky => s.setScSr c (s.scSr c ||| p.val)
  | .loop n => s.setScSr c (setBit (s.scSr c) (if n = 0 then srLA0 else srLA1) (p.val == 1))
  | .accSat n => s.modSc c fun z => { z with accSat := tabSet (fun _ => 0) z.accSat n (BitVec.ofNat 40 p.val) }

/-- The end of a cycle: due writes land in the order of issue. -/
def State.scLand (s : State) (c : Nat) : State :=
  let l := (s.scCore c).pend
  let s := s.modSc c fun z =>
    { z with pend := (l.filter fun p => p.left != 0).map fun p => { p with left := p.left - 1 } }
  forEach (l.filter fun p => p.left == 0) s fun p s => s.scLand1 c p

/-- Every issued write lands, in the cycles that pass before the next instruction (at most 3).
DEDUCED: notes/assumptions/21.md. -/
def State.scFlush (s : State) (c : Nat) : State := (((s.scLand c).scLand c).scLand c).scLand c

/-- Adds cycles to `SC_BUSY`. -/
def State.scBusy (s : State) (c n : Nat) : State :=
  s.setReg (Reg.SC_BUSY c) (BitVec.ofNat 32 (satU 32 ((s.reg (Reg.SC_BUSY c)).toNat + n)))

/-! ### Exceptions, swap -/

/-- A pending commit ends: `SC_STATE.COMMIT_PEND` clears and its command completes. -/
def State.scEndCommit (s : State) (c status reason : Nat) : State :=
  match (s.scCore c).commit with
  | none => s
  | some k =>
    ((s.modSc c fun z => { z with commit := none }).put (Reg.SC_STATE c) F.SC_STATE_COMMIT_PEND 0).complete k status reason

/-- An exception (R579): the core is FAULTED before the instruction; a pending commit is withheld with reason 1. -/
def State.scExc (s : State) (c cause : Nat) : State :=
  let s := s.scFlush c
  let s := s.put (Reg.SC_EXC c) F.SC_EXC_CAUSE cause
  let s := s.put (Reg.SC_EXC c) F.SC_EXC_PC (s.scPc c)
  let s := s.post 0x0B10 (srcSc c) (det [(16, 1, c), (17, 1, cause), (18, 2, s.scPc c)])
  (s.setScState c 3).scEndCommit c stAborted 1

/-- The staged bank comes into use (R583). -/
def State.scSwap (s : State) (c : Nat) : State :=
  let b := 1 - s.fld (Reg.SC_STATE c) F.SC_STATE_BANK
  let s := s.put (Reg.SC_STATE c) F.SC_STATE_BANK b
  let s := s.setScPc c (s.fld (Reg.SC_CFG c) F.SC_CFG_SWAP_ENTRY)
  let s := s.modSc c fun z =>
    { z with stack := [], branch := none, reti := false, sp := tabClear 0x23 0x29 z.sp }
  let s := s.setScSr c (setBit (setBit (s.scSr c) srLA0 false) srLA1 false)
  let s := s.scEndCommit c stOK b
  s.post 0x0B30 (srcSc c) (det [(16, 1, c), (17, 1, b)])

/-- Self-test waits for a loop end of the core, which it takes there (R581, R584). -/
def State.scWanted (s : State) (c : Nat) : Bool :=
  let r := 0x10 + c
  (s.region r).running && !(s.region r).gapWait && decide (s.regionState r ≤ 1) && s.flag (Reg.SC_CFG c) F.SC_CFG_LENDABLE &&
    s.mode != mBoot && s.mode != mDegraded

/-! ### Issue -/

/-- What an instruction asks of the sequencer: writes, a branch target after the delay slot, a next address in place of
PC + 1, RETI, a new core state. -/
structure ScEff where
  pend : List ScPend := []
  br : Option Nat := none
  next : Option Nat := none
  reti : Bool := false
  st : Option Nat := none
  deriving DecidableEq, Repr

/-- The instruction word at PC of the bank in use. -/
def State.scFetch (s : State) (c : Nat) : Nat :=
  (tabGet (fun _ => 0) (s.scCore c).prog (s.fld (Reg.SC_STATE c) F.SC_STATE_BANK * 8192 + s.scPc c)).toNat

/-- OP of a word. -/
def scOp (w : Nat) : Nat := w / 2 ^ 26
/-- Bits [hi:lo] of a word. -/
def bits (w hi lo : Nat) : Nat := w / 2 ^ lo % 2 ^ (hi + 1 - lo)

/-- OP is defined (R565). -/
def scDefined (op : Nat) : Bool :=
  decide (op ≤ 0x05) || (decide (0x08 ≤ op) && decide (op ≤ 0x14)) || (decide (0x18 ≤ op) && decide (op ≤ 0x1B)) ||
    (decide (0x20 ≤ op) && decide (op ≤ 0x27)) || (decide (0x30 ≤ op) && decide (op ≤ 0x3A))

/-- OP is a branch, a LOOP, WAIT or HALT, which R572 forbids at an active loop end. -/
def scControl (op : Nat) : Bool := decide (0x30 ≤ op)

/-- An interrupt entry is due before the next instruction (R576). -/
def State.scIntDue (s : State) (c : Nat) : Bool :=
  bit (s.scSr c) srIE && (s.scLine c).isSome && (s.scCore c).branch.isNone

/-- PC is an active LE_n (R571). -/
def State.scAtEnd (s : State) (c n : Nat) : Bool :=
  bit (s.scSr c) (if n = 0 then srLA0 else srLA1) && s.scPc c == s.scSp c (if n = 0 then 0x25 else 0x28)

/-- One level of the loop hardware after the instruction at LE_n: the next address while the loop goes on. -/
def State.scLoop (s : State) (c n : Nat) : Option Nat × State :=
  let lc := if n = 0 then 0x23 else 0x26
  let k := s.scSp c lc
  let set (s : State) (v : Nat) : State := s.modSc c fun z => { z with sp := tabSet (fun _ => 0) z.sp lc (BitVec.ofNat 16 v) }
  if 1 < k then (some (s.scSp c (lc + 1)), set s (k - 1))
  else (none, (set s 0).setScSr c (setBit (s.scSr c) (if n = 0 then srLA0 else srLA1) false))

/-- The next address without a pending branch: the loops at PC, and at a level-0 loop end outside a handler the swap
(R583). DEDUCED: notes/assumptions/21.md. -/
def State.scSequence (s : State) (c : Nat) (at0 at1 : Bool) (dflt : Nat) : State :=
  let go (s : State) : State :=
    if at0 then
      match s.scLoop c 0 with
      | (some a, s) => s.setScPc c a
      | (none, s) =>
        let s := s.modSc c fun z => { z with loopEnd := !bit (s.scSr c) srInIsr }
        let s := if (s.scCore c).loopEnd && s.scWanted c then s.scEndCommit c stAborted 2 else s
        if (s.scCore c).commit.isSome && (s.scCore c).loopEnd then s.scSwap c
        else if 0x1FFF < dflt then s.scExc c 8 else s.setScPc c dflt
    else if 0x1FFF < dflt then s.scExc c 8 else s.setScPc c dflt
  if at1 then
    match s.scLoop c 1 with
    | (some a, s) => s.setScPc c a
    | (none, s) => go s
  else go s

/-- The end of an instruction's cycle: writes land, RETI restores SR (R577), PC moves on. DEDUCED: notes/assumptions/21.md. -/
def State.scFinish (s : State) (c : Nat) (e : ScEff) : State :=
  let s := s.modSc c fun z => { z with loopEnd := false }
  let at0 := s.scAtEnd c 0
  let at1 := s.scAtEnd c 1
  let slot := (s.scCore c).branch
  let reti := (s.scCore c).reti
  let pc := s.scPc c
  let s := (s.modSc c fun z => { z with pend := z.pend ++ e.pend, branch := e.br, reti := e.reti }).scLand c
  let s := if reti then s.setScSr c (s.scSp c 0x22 ||| (s.scSr c &&& srSticky)) else s
  let s := s.scBusy c 1
  let s := match slot with
    | some t => if reti then s.setScPc c (s.scSp c 0x21) else if 0x1FFF < t then s.scExc c 8 else s.setScPc c t
    | none =>
      match e.next with
      | some a => if 0x1FFF < a then s.scExc c 8 else s.setScPc c a
      | none => s.scSequence c at0 at1 (pc + 1)
  match e.st with
  | some st => if s.scState c = 3 then s else s.setScState c st
  | none => s

/-- The issue of an instruction with an OP on a core: its fields are legal, R572 holds, and `body` gives its effect or
the cause of its exception. -/
def State.scIssue (s : State) (c ecc op : Nat) (legal : Nat → Bool)
    (body : Nat → State → Except Nat (State × ScEff)) : State :=
  if s.scState c ≠ 1 ∨ s.scIntDue c then s
  else
    let s := if bit ecc 0 then s.addSat Reg.SC_ECC F.SC_ECC_PROG_CORR 1 else s
    if bit ecc 1 then s.scExc c 5
    else
      let w := s.scFetch c
      if !scDefined (scOp w) then s.scExc c 1
      else if scOp w ≠ op then s
      else if !legal w then s.scExc c 1
      else if (s.scAtEnd c 0 || s.scAtEnd c 1) && (scControl op || (s.scCore c).branch.isSome) then s.scExc c 7
      else
        match body w s with
        | .error cause => s.scExc c cause
        | .ok (s, e) => s.scFinish c e

/-! ### Formats (R564) -/

/-- Format R with s, t used or not and the sh field of width 6 used or not. -/
def fmtR (useS useT useSh : Bool) (w : Nat) : Bool :=
  (useS || bits w 21 18 == 0) && (useT || bits w 17 14 == 0) && bits w 13 6 == 0 && (useSh || bits w 5 0 == 0)
/-- d names an accumulator. -/
def accField (w : Nat) : Bool := decide (bits w 25 22 < 2)
/-- A value within 16 bits as a pattern. -/
def w16 (i : Int) : Nat := ofSigned 16 i

/-- N and Z of a 16-bit result. -/
def nz (v : Nat) : Nat := (if bit v 15 then 8 else 0) + (if v = 0 then 4 else 0)

/-- An ALU result: the register and the flags N, Z, V, C; DSAT when it saturates. -/
def aluEff (d v : Nat) (ov : Bool) (cy : Nat) (sat : Bool) : ScEff :=
  { pend := [⟨0, .d d, v⟩, ⟨0, .flags, nz v + 2 * b2n ov + cy % 2⟩] ++ (if sat then [⟨0, .sticky, 2 ^ srDsat⟩] else []) }

/-- ADD, ADDS: C is the carry out of bit 15, V the signed overflow. DESIGN CHOICE: notes/assumptions/20.md. -/
def scAdd (sat : Bool) (c w : Nat) (s : State) : Except Nat (State × ScEff) :=
  let a := s.scD c (bits w 21 18)
  let b := s.scD c (bits w 17 14)
  let x := toSigned 16 a + toSigned 16 b
  let ov := decide (satS 16 x ≠ x)
  .ok (s, aluEff (bits w 25 22) (w16 (if sat then satS 16 x else x)) ov ((a + b) / 2 ^ 16) (sat && ov))

/-- SUB, SUBS: V is the signed overflow; what C holds after a subtraction is open. DESIGN CHOICE: notes/assumptions/20.md. -/
def scSub (sat : Bool) (c w : Nat) (s : State) : Except Nat (State × ScEff) :=
  let x := s.scDi c (bits w 21 18) - s.scDi c (bits w 17 14)
  let ov := decide (satS 16 x ≠ x)
  let (f, s) := s.takeFree
  .ok (s, aluEff (bits w 25 22) (w16 (if sat then satS 16 x else x)) ov f.toNat (sat && ov))

/-- A bitwise operation: V and C after it are open. DESIGN CHOICE: notes/assumptions/20.md. -/
def scLogic (op : Nat → Nat → Nat) (c w : Nat) (s : State) : Except Nat (State × ScEff) :=
  let v := op (s.scD c (bits w 21 18)) (s.scD c (bits w 17 14)) % 2 ^ 16
  let (f, s) := s.takeFree
  .ok (s, aluEff (bits w 25 22) v (bit f.toNat 1) f.toNat false)

/-- A shift: V and C after it are open. DESIGN CHOICE: notes/assumptions/20.md. -/
def scShift (op : Int → Nat → Int) (c w : Nat) (signed : Bool) (s : State) : Except Nat (State × ScEff) :=
  let n := bits w 21 18
  let x : Int := if signed then s.scDi c n else s.scD c n
  let (f, s) := s.takeFree
  .ok (s, aluEff (bits w 25 22) (w16 (op x (bits w 5 0))) (bit f.toNat 1) f.toNat false)

/-- ABS, NEG: saturating; C after them is open. DESIGN CHOICE: notes/assumptions/20.md. -/
def scUnary (op : Int → Int) (c w : Nat) (s : State) : Except Nat (State × ScEff) :=
  let x := op (s.scDi c (bits w 21 18))
  let ov := decide (satS 16 x ≠ x)
  let (f, s) := s.takeFree
  .ok (s, aluEff (bits w 25 22) (w16 (satS 16 x)) ov f.toNat ov)

/-! ### Accumulators (R567) -/

/-- Writes an accumulator at once, to SAT with 2 delay slots; saturation sets AV_n. -/
def scSetAcc (c n : Nat) (x : Int) (more : List ScPend) (s : State) : Except Nat (State × ScEff) :=
  let y := satS 40 x
  let s := s.modSc c fun z => { z with acc := tabSet (fun _ => 0) z.acc n (BitVec.ofInt 40 y) }
  .ok (s, { pend := more ++ [⟨2, .accSat n, ofSigned 40 y⟩] ++ (if x = y then [] else [⟨0, .sticky, 2 ^ (6 + n)⟩]) })

/-- The product of two words under FRAC. -/
def State.scProduct (s : State) (c : Nat) (a b : Int) : Int := if bit (s.scSr c) srFrac then 2 * (a * b) else a * b

/-- MPY, MAC, MSU: `k` times the accumulator plus `m` times the product. -/
def scMul (k m : Int) (c w : Nat) (s : State) : Except Nat (State × ScEff) :=
  let n := bits w 25 22
  scSetAcc c n (k * s.scAcc c n + m * s.scProduct c (s.scDi c (bits w 21 18)) (s.scDi c (bits w 17 14))) [] s

/-- The format of M: d, i, PMi, and j, PMj where used. -/
def fmtM (useJ : Bool) (w : Nat) : Bool := bits w 13 0 == 0 && (useJ || bits w 17 14 == 0)

/-- Delay of a load's D register (R573). -/
def loadDelay (a : Nat) : Nat := if a < 0x8000 then 1 else 3

/-- A data-RAM read found errors: corrected ones are counted; an uncorrectable one is exception 6. -/
def State.scEcc (s : State) (ecc a : Nat) : Except Nat State :=
  if scMap a = 1 ∧ bit ecc 3 then .error 6
  else .ok (if scMap a = 1 ∧ bit ecc 2 then s.addSat Reg.SC_ECC F.SC_ECC_DATA_CORR 1 else s)

/-- LD. -/
def scLd (ecc c w : Nat) (s : State) : Except Nat (State × ScEff) :=
  let i := bits w 21 19
  let a := (s.scAddr c i).1
  let post := s.scPost c i (bit w 18)
  if !scReadable a then .error 2
  else do
    let s ← s.scEcc ecc a
    let (v, s) := s.scLoad c a
    .ok (s, { pend := [⟨loadDelay a, .d (bits w 25 22), v⟩] ++ post })

/-- ST. -/
def scSt (c w : Nat) (s : State) : Except Nat (State × ScEff) :=
  let i := bits w 21 19
  let a := (s.scAddr c i).1
  if !scStorable a then .error 2
  else .ok (s.scStore c a (s.scD c (bits w 25 22)), { pend := s.scPost c i (bit w 18) })

/-- LD.P (R558). -/
def scLdP (ecc c w : Nat) (s : State) : Except Nat (State × ScEff) :=
  let i := bits w 21 19
  let n := bits w 25 22
  let a := (s.scAddr c i).1
  let b := s.scNext c i 1
  let post := s.scPost c i (bit w 18)
  if !scReadable a || !scReadable b then .error 2
  else do
    let s ← s.scEcc ecc (min a b)
    let (v, s) := s.scLoad c a
    let (u, s) := s.scLoad c b
    .ok (s, { pend := [⟨loadDelay a, .d (2 * n), v⟩, ⟨loadDelay b, .d (2 * n + 1), u⟩] ++ post })

/-- ST.P (R558). -/
def scStP (c w : Nat) (s : State) : Except Nat (State × ScEff) :=
  let i := bits w 21 19
  let n := bits w 25 22
  let a := (s.scAddr c i).1
  let b := s.scNext c i 1
  if !scStorable a || !scStorable b then .error 2
  else .ok ((s.scStore c a (s.scD c (2 * n))).scStore c b (s.scD c (2 * n + 1)), { pend := s.scPost c i (bit w 18) })

/-- MACM. -/
def scMacm (ecc c w : Nat) (s : State) : Except Nat (State × ScEff) :=
  let i := bits w 21 19
  let n := bits w 25 22
  let a := (s.scAddr c i).1
  let post := s.scPost c i (bit w 18)
  if !scReadable a then .error 2
  else do
    let s ← s.scEcc ecc a
    let (v, s) := s.scLoad c a
    scSetAcc c n (s.scAcc c n + s.scProduct c (s.scDi c (bits w 17 14)) (toSigned 16 v)) post s

/-- FTAP (R568). -/
def scFtap (ecc c w : Nat) (s : State) : Except Nat (State × ScEff) :=
  let i := bits w 21 19
  let j := bits w 17 15
  let n := bits w 25 22
  let a := (s.scAddr c i).1
  let b := (s.scAddr c j).1
  let dst := s.scNext c i 1
  let post := s.scPost c i (bit w 18) ++ s.scPost c j (bit w 14)
  if !scReadable a || !scReadable b || !scStorable dst then .error 2
  else do
    let s ← s.scEcc ecc (min a b)
    let (x, s) := s.scLoad c a
    let (k, s) := s.scLoad c b
    let s := s.scStore c dst x
    scSetAcc c n (s.scAcc c n + s.scProduct c (toSigned 16 x) (toSigned 16 k)) post s

/-- SAT (R567): the accumulator as SAT sees it, shifted right by sh with ties toward +∞, saturated to 16 bits. -/
def scSat (c w : Nat) (s : State) : Except Nat (State × ScEff) :=
  let a := (tabGet (fun _ => 0) (s.scCore c).accSat (bits w 21 18)).toInt
  let sh := bits w 5 0
  let r := if sh = 0 then a else (a + 2 ^ (sh - 1)) / 2 ^ sh
  let v := satS 16 r
  .ok (s, { pend := [⟨0, .d (bits w 25 22), w16 v⟩] ++ (if v = r then [] else [⟨0, .sticky, 2 ^ srDsat⟩]) })

/-! ### Branches and loops -/

/-- A condition of JCC. -/
def scCond (sr k : Nat) : Bool :=
  let v := bit sr (match k / 2 with | 0 => 2 | 1 => 3 | 2 => 1 | _ => 0)
  if k % 2 = 0 then v else !v

/-- LOOP_n with count `k` and end address `a` (R571, R572). -/
def scLoopStart (n k c w : Nat) (s : State) : Except Nat (State × ScEff) :=
  let a := bits w 12 0
  let la0 := bit (s.scSr c) srLA0
  if n = 0 ∧ la0 then .error 7
  else if n = 1 ∧ (!la0 ∨ s.scSp c 0x25 < a) then .error 7
  else if k = 0 then .ok (s, { next := some (a + 1) })
  else
    let x := if n = 0 then 0x23 else 0x26
    .ok (s, { pend := [⟨0, .sp x, k⟩, ⟨0, .sp (x + 1), s.scPc c + 1⟩, ⟨0, .sp (x + 2), a⟩, ⟨0, .loop n, 1⟩] })

/-- Format B without F or address. -/
def fmtB (useF useA : Bool) (w : Nat) : Bool := (useF || bits w 25 13 == 0) && (useA || bits w 12 0 == 0)

/-- CALL. -/
def scCall (c w : Nat) (s : State) : Except Nat (State × ScEff) :=
  if 4 ≤ (s.scCore c).stack.length then .error 3
  else .ok (s.modSc c fun z => { z with stack := (s.scPc c + 2) % 8192 :: z.stack }, { br := some (bits w 12 0) })

/-- RET. -/
def scRet (c : Nat) (_w : Nat) (s : State) : Except Nat (State × ScEff) :=
  match (s.scCore c).stack with
  | [] => .error 4
  | a :: r => .ok (s.modSc c fun z => { z with stack := r }, { br := some a })

/-! ### The instructions (R565) -/

/-- NOP -/
def execIsaNop (core : Nat) (ecc : Nat) (s : State) : Out :=
  .next (s.scIssue core ecc 0x00 (fun w => fmtR false false false w && bits w 25 22 == 0)
    (fun _ s => .ok (s, {})))

/-- MOV -/
def execIsaMov (core : Nat) (ecc : Nat) (s : State) : Out :=
  .next (s.scIssue core ecc 0x01 (fmtR true false false)
    (fun w s => .ok (s, { pend := [⟨0, .d (bits w 25 22), s.scD core (bits w 21 18)⟩] })))

/-- MOVI -/
def execIsaMovi (core : Nat) (ecc : Nat) (s : State) : Out :=
  .next (s.scIssue core ecc 0x02 (fun w => bits w 21 16 == 0)
    (fun w s => .ok (s, { pend := [⟨0, .d (bits w 25 22), bits w 15 0⟩] })))

/-- MOVS Dd, Sx -/
def execIsaMovsLoad (core : Nat) (ecc : Nat) (s : State) : Out :=
  .next (s.scIssue core ecc 0x03 (fun w => decide (bits w 21 16 ≤ 0x28) && bits w 15 0 == 0)
    (fun w s => .ok (s, { pend := [⟨0, .d (bits w 25 22), s.scSp core (bits w 21 16)⟩] })))

/-- MOVS Sx, Ds -/
def execIsaMovsStore (core : Nat) (ecc : Nat) (s : State) : Out :=
  .next (s.scIssue core ecc 0x04 (fun w => decide (bits w 21 16 ≤ 0x28) && bits w 15 0 == 0)
    (fun w s => .ok (s, { pend := [⟨2, .sp (bits w 21 16), s.scD core (bits w 25 22)⟩] })))

/-- MOVSI -/
def execIsaMovsi (core : Nat) (ecc : Nat) (s : State) : Out :=
  .next (s.scIssue core ecc 0x05 (fun w => decide (bits w 21 16 ≤ 0x28) && bits w 25 22 == 0)
    (fun w s => .ok (s, { pend := [⟨2, .sp (bits w 21 16), bits w 15 0⟩] })))

/-- ADD -/
def execIsaAdd (core : Nat) (ecc : Nat) (s : State) : Out :=
  .next (s.scIssue core ecc 0x08 (fmtR true true false)
    (scAdd false core))

/-- SUB -/
def execIsaSub (core : Nat) (ecc : Nat) (s : State) : Out :=
  .next (s.scIssue core ecc 0x09 (fmtR true true false)
    (scSub false core))

/-- ADDS -/
def execIsaAdds (core : Nat) (ecc : Nat) (s : State) : Out :=
  .next (s.scIssue core ecc 0x0A (fmtR true true false)
    (scAdd true core))

/-- SUBS -/
def execIsaSubs (core : Nat) (ecc : Nat) (s : State) : Out :=
  .next (s.scIssue core ecc 0x0B (fmtR true true false)
    (scSub true core))

/-- AND -/
def execIsaAnd (core : Nat) (ecc : Nat) (s : State) : Out :=
  .next (s.scIssue core ecc 0x0C (fmtR true true false)
    (scLogic (· &&& ·) core))

/-- OR -/
def execIsaOr (core : Nat) (ecc : Nat) (s : State) : Out :=
  .next (s.scIssue core ecc 0x0D (fmtR true true false)
    (scLogic (· ||| ·) core))

/-- XOR -/
def execIsaXor (core : Nat) (ecc : Nat) (s : State) : Out :=
  .next (s.scIssue core ecc 0x0E (fmtR true true false)
    (scLogic (· ^^^ ·) core))

/-- SHL -/
def execIsaShl (core : Nat) (ecc : Nat) (s : State) : Out :=
  .next (s.scIssue core ecc 0x0F (fun w => fmtR true false true w && decide (bits w 5 0 ≤ 15))
    (fun w => scShift (fun x n => x * 2 ^ n) core w false))

/-- ASR -/
def execIsaAsr (core : Nat) (ecc : Nat) (s : State) : Out :=
  .next (s.scIssue core ecc 0x10 (fun w => fmtR true false true w && decide (bits w 5 0 ≤ 15))
    (fun w => scShift (fun x n => x / 2 ^ n) core w true))

/-- LSR -/
def execIsaLsr (core : Nat) (ecc : Nat) (s : State) : Out :=
  .next (s.scIssue core ecc 0x11 (fun w => fmtR true false true w && decide (bits w 5 0 ≤ 15))
    (fun w => scShift (fun x n => x / 2 ^ n) core w false))

/-- CMP -/
def execIsaCmp (core : Nat) (ecc : Nat) (s : State) : Out :=
  .next (s.scIssue core ecc 0x12 (fun w => fmtR true true false w && bits w 25 22 == 0)
    (fun w s => (scSub false core w s).map fun r => (r.1, { pend := r.2.pend.filter fun p => p.tgt == .flags })))

/-- ABS -/
def execIsaAbs (core : Nat) (ecc : Nat) (s : State) : Out :=
  .next (s.scIssue core ecc 0x13 (fmtR true false false)
    (scUnary (fun x => if x < 0 then -x else x) core))

/-- NEG -/
def execIsaNeg (core : Nat) (ecc : Nat) (s : State) : Out :=
  .next (s.scIssue core ecc 0x14 (fmtR true false false)
    (scUnary (fun x => -x) core))

/-- LD -/
def execIsaLd (core : Nat) (ecc : Nat) (s : State) : Out :=
  .next (s.scIssue core ecc 0x18 (fmtM false)
    (scLd ecc core))

/-- ST -/
def execIsaSt (core : Nat) (ecc : Nat) (s : State) : Out :=
  .next (s.scIssue core ecc 0x19 (fmtM false)
    (scSt core))

/-- LD.P -/
def execIsaLdP (core : Nat) (ecc : Nat) (s : State) : Out :=
  .next (s.scIssue core ecc 0x1A (fun w => fmtM false w && decide (bits w 25 22 < 8))
    (scLdP ecc core))

/-- ST.P -/
def execIsaStP (core : Nat) (ecc : Nat) (s : State) : Out :=
  .next (s.scIssue core ecc 0x1B (fun w => fmtM false w && decide (bits w 25 22 < 8))
    (scStP core))

/-- MPY -/
def execIsaMpy (core : Nat) (ecc : Nat) (s : State) : Out :=
  .next (s.scIssue core ecc 0x20 (fun w => fmtR true true false w && accField w)
    (scMul 0 1 core))

/-- MAC -/
def execIsaMac (core : Nat) (ecc : Nat) (s : State) : Out :=
  .next (s.scIssue core ecc 0x21 (fun w => fmtR true true false w && accField w)
    (scMul 1 1 core))

/-- MSU -/
def execIsaMsu (core : Nat) (ecc : Nat) (s : State) : Out :=
  .next (s.scIssue core ecc 0x22 (fun w => fmtR true true false w && accField w)
    (scMul 1 (-1) core))

/-- MACM -/
def execIsaMacm (core : Nat) (ecc : Nat) (s : State) : Out :=
  .next (s.scIssue core ecc 0x23 (fun w => bits w 13 0 == 0 && accField w)
    (scMacm ecc core))

/-- FTAP -/
def execIsaFtap (core : Nat) (ecc : Nat) (s : State) : Out :=
  .next (s.scIssue core ecc 0x24 (fun w => fmtM true w && accField w)
    (scFtap ecc core))

/-- CLR -/
def execIsaClr (core : Nat) (ecc : Nat) (s : State) : Out :=
  .next (s.scIssue core ecc 0x25 (fun w => fmtR false false false w && accField w)
    (fun w s => scSetAcc core (bits w 25 22) 0 [] s))

/-- SAT -/
def execIsaSat (core : Nat) (ecc : Nat) (s : State) : Out :=
  .next (s.scIssue core ecc 0x26 (fun w => fmtR true false true w && decide (bits w 21 18 < 2) && decide (bits w 5 0 ≤ 24))
    (scSat core))

/-- LDACC -/
def execIsaLdacc (core : Nat) (ecc : Nat) (s : State) : Out :=
  .next (s.scIssue core ecc 0x27 (fun w => fmtR true false false w && accField w && decide (bits w 21 18 < 8))
    (fun w s => scSetAcc core (bits w 25 22) (toSigned 32 (s.scD core (2 * bits w 21 18 + 1) * 2 ^ 16 + s.scD core (2 * bits w 21 18))) [] s))

/-- JMP -/
def execIsaJmp (core : Nat) (ecc : Nat) (s : State) : Out :=
  .next (s.scIssue core ecc 0x30 (fmtB false true)
    (fun w s => .ok (s, { br := some (bits w 12 0) })))

/-- JCC -/
def execIsaJcc (core : Nat) (ecc : Nat) (s : State) : Out :=
  .next (s.scIssue core ecc 0x31 (fun w => bits w 21 13 == 0 && decide (bits w 25 22 < 8))
    (fun w s => .ok (s, { br := some (if scCond (s.scSr core) (bits w 25 22) then bits w 12 0 else s.scPc core + 2) })))

/-- CALL -/
def execIsaCall (core : Nat) (ecc : Nat) (s : State) : Out :=
  .next (s.scIssue core ecc 0x32 (fmtB false true)
    (scCall core))

/-- RET -/
def execIsaRet (core : Nat) (ecc : Nat) (s : State) : Out :=
  .next (s.scIssue core ecc 0x33 (fmtB false false)
    (scRet core))

/-- RETI -/
def execIsaReti (core : Nat) (ecc : Nat) (s : State) : Out :=
  .next (s.scIssue core ecc 0x34 (fmtB false false)
    (fun _ s => .ok (s, { br := some 0, reti := true })))

/-- LOOP0 -/
def execIsaLoop0 (core : Nat) (ecc : Nat) (s : State) : Out :=
  .next (s.scIssue core ecc 0x35 (fun _ => true)
    (fun w => scLoopStart 0 (bits w 25 13) core w))

/-- LOOP1 -/
def execIsaLoop1 (core : Nat) (ecc : Nat) (s : State) : Out :=
  .next (s.scIssue core ecc 0x36 (fun _ => true)
    (fun w => scLoopStart 1 (bits w 25 13) core w))

/-- LOOP0R -/
def execIsaLoop0r (core : Nat) (ecc : Nat) (s : State) : Out :=
  .next (s.scIssue core ecc 0x37 (fun w => bits w 21 13 == 0)
    (fun w s => scLoopStart 0 (s.scD core (bits w 25 22) % 8192) core w s))

/-- LOOP1R -/
def execIsaLoop1r (core : Nat) (ecc : Nat) (s : State) : Out :=
  .next (s.scIssue core ecc 0x38 (fun w => bits w 21 13 == 0)
    (fun w s => scLoopStart 1 (s.scD core (bits w 25 22) % 8192) core w s))

/-- WAIT -/
def execIsaWait (core : Nat) (ecc : Nat) (s : State) : Out :=
  .next (s.scIssue core ecc 0x39 (fmtB false false)
    (fun _ s => .ok (s, { st := some 2 })))

/-- HALT -/
def execIsaHalt (core : Nat) (ecc : Nat) (s : State) : Out :=
  .next (s.scIssue core ecc 0x3A (fmtB false false)
    (fun _ s => .ok (s, { st := some 0 })))

/-! ### Interrupts (R576, R578) -/

/-- Entry to the handler of a line. -/
def State.scEnter (s : State) (c line : Nat) : State :=
  let s := s.scFlush c
  let sr := s.scSr c
  let s := s.modSc c fun z =>
    { z with sp := tabSet (fun _ => 0) (tabSet (fun _ => 0) z.sp 0x21 (BitVec.ofNat 16 (s.scPc c))) 0x22 (BitVec.ofNat 16 sr) }
  let s := s.setScSr c (setBit (setBit (setBit (setBit sr srIE false) srLA0 false) srLA1 false) srInIsr true)
  let s := s.put (Reg.SC_IRQ c) F.SC_IRQ_PENDING (setBit (s.scPending c) line false)
  (s.setScPc c (4 + 4 * line)).scBusy c 4

/-- SC_INTERRUPT_ENTRY: an enabled pending line is taken, or ends WAITING (R578). -/
def execScInterruptEntry (core : Nat) (s : State) : Out :=
  .next <|
    match s.scLine core with
    | none => s
    | some l =>
      if s.scState core = 2 then
        let s := (s.scFlush core).setScState core 1
        if bit (s.scSr core) srIE then s.scEnter core l else s
      else if s.scState core = 1 ∧ s.scIntDue core then s.scEnter core l
      else s

/-- SC_SWAP_TIMEOUT: no boundary within SWAP_TMO (R584). -/
def execScSwapTimeout (core : Nat) (s : State) : Out := .next (s.scEndCommit core stAborted 3)

/-! ### Commands (R591) -/

/-- The checks that the block's commands share: issuer, listed octets, core 0–7. -/
def scChecks (c : Cmd) (l : List (Nat × Nat)) (addrs : List (Nat × Nat)) : List (Bool × Verdict) :=
  check1 c .pfWc addrs ++ [ (!c.onlyUses ((16, 1) :: l) || decide (8 ≤ c.b 16), .bad) ]

/-- Words written into a program bank. -/
def progWrite (m : Tab Word) (k : Nat) (d : List Byte) : Tab Word :=
  (List.range (d.length / 4)).foldl (fun m i => tabSet (fun _ => 0) m (k + i) (BitVec.ofNat 32 (leAt d (4 * i) 4))) m

/-- SC_LOAD (R582). -/
def execScLoad (c : Cmd) (dma : Dma) (s : State) : Out :=
  let c := { c with op := 0x0B01 }
  let k := c.b 16
  let n := c.u 20 2
  let a := c.u 24 8
  let len := c.u 32 4
  .next <| s.judge c
    (scChecks c [(20, 2), (24, 8), (32, 4), (36, 4)] [(a, len)] ++
     [ (decide (8192 ≤ n) || len % 4 != 0 || decide (32768 - 4 * n < len) || !sramFits a len, .bad),
       ((s.scCore k).commit.isSome, .reject 255 0) ])
    fun s => s.withData c a len dma fun d s =>
      if crc32c d ≠ c.u 36 4 then s.complete c 0x40 0
      else
        let b := 1 - s.fld (Reg.SC_STATE k) F.SC_STATE_BANK
        (s.modSc k fun z => { z with prog := progWrite z.prog (b * 8192 + n) d }).complete c stOK 0

/-- SC_COMMIT (R583, R584). -/
def execScCommit (c : Cmd) (s : State) : Out :=
  let c := { c with op := 0x0B02 }
  let k := c.b 16
  .next <| s.judge c
    (scChecks c [] [] ++ [ ((s.scCore k).commit.isSome, .busy), (s.mode == mBoot, .reject 1 mBoot) ])
    fun s =>
      let s := (s.modSc k fun z => { z with commit := some c }).put (Reg.SC_STATE k) F.SC_STATE_COMMIT_PEND 1
      if s.scState k = 0 ∨ s.scState k = 2 then s.scSwap k
      else if s.scState k = 3 then s.scEndCommit k stAborted 1
      else s

/-- SC_START (R580). -/
def execScStart (c : Cmd) (s : State) : Out :=
  let c := { c with op := 0x0B03 }
  let k := c.b 16
  .next <| s.judge c
    (scChecks c [(20, 2)] [] ++
     [ (decide (8192 ≤ c.u 20 2), .bad), (s.scState k != 0 && s.scState k != 3, .reject 17 (s.scState k)) ])
    fun s =>
      let s := (s.scFlush k).modSc k fun z => { z with stack := [], branch := none, reti := false, sp := tabClear 0x23 0x29 z.sp }
      let s := s.setScSr k (setBit (setBit (setBit (s.scSr k) srLA0 false) srLA1 false) srIE false)
      ((s.setScPc k (c.u 20 2)).setScState k 1).complete c stOK 0

/-- SC_HALT (R580). -/
def execScHalt (c : Cmd) (s : State) : Out :=
  let c := { c with op := 0x0B04 }
  let k := c.b 16
  let st := s.scState k
  .next <| s.judge c
    (scChecks c [] [] ++ [ (st != 1 && st != 2 && st != 3, .reject 17 st) ])
    fun s => ((s.scFlush k).setScState k 0).complete c stOK 0

/-- SC_KICK (R575). -/
def execScKick (c : Cmd) (s : State) : Out :=
  let c := { c with op := 0x0B05 }
  .next <| s.judge c
    (check1 c .pfWc [] ++ [ (!c.onlyUses [(16, 1)], .bad) ])
    fun s => (forEach (idxs 8 fun k => bit (c.b 16) k) s fun k s => s.scPend k 3).complete c stOK 0

/-- The firmware-visible effect of a write of `SC_IN_CFG`: the FIFO is emptied (R588). -/
def State.scFifoCleared (s : State) (c f : Nat) : State := s.setScFifo c f []

end Sys2Proof.Machine
end

