-- ==== Sys2Proof/Machine/SoftFloat.lean ====
section
/-!
DEFINITION. IEEE 754 binary32 and binary64 arithmetic over bit patterns, with the five rounding modes and the exception
flags of the RISC-V F and D extensions (R644). The optimiser, the planner and the separation engine use binary64 with
rounding to nearest, ties to even.
-/
namespace Sys2Proof.Machine

/-- A binary format: precision and exponent width. -/
structure Fmt where
  p : Nat
  ew : Nat
  deriving DecidableEq, Repr

/-- binary32 -/ def f32 : Fmt := ⟨24, 8⟩
/-- binary64 -/ def f64 : Fmt := ⟨53, 11⟩

/-- Width of a format. -/
def Fmt.w (f : Fmt) : Nat := f.p + f.ew
/-- Exponent bias. -/
def Fmt.bias (f : Fmt) : Nat := 2 ^ (f.ew - 1) - 1
/-- The exponent of the smallest subnormal's unit. -/
def Fmt.qmin (f : Fmt) : Int := 1 - (f.bias : Int) - (f.p - 1 : Nat)
/-- The pattern of +∞. -/
def Fmt.inf (f : Fmt) : Nat := (2 ^ f.ew - 1) * 2 ^ (f.p - 1)
/-- The canonical quiet NaN. -/
def Fmt.nan (f : Fmt) : Nat := f.inf + 2 ^ (f.p - 2)
/-- The sign bit's weight. -/
def Fmt.sgn (f : Fmt) : Nat := 2 ^ (f.w - 1)

/-- A floating-point datum: NaN (signalling or not), infinity, or (−1)^s × m × 2^e. -/
inductive FVal where
  | nan (sig : Bool)
  | inf (s : Bool)
  | num (s : Bool) (m : Nat) (e : Int)
  deriving DecidableEq, Repr

/-- The datum of a pattern. -/
def Fmt.unpack (f : Fmt) (b : Nat) : FVal :=
  let s := bit b (f.w - 1)
  let x := b / 2 ^ (f.p - 1) % 2 ^ f.ew
  let m := b % 2 ^ (f.p - 1)
  if x = 2 ^ f.ew - 1 then (if m = 0 then .inf s else .nan (!bit m (f.p - 2)))
  else if x = 0 then .num s m f.qmin
  else .num s (m + 2 ^ (f.p - 1)) (f.qmin + (x - 1 : Nat))

/-- Flag NX. -/ def flNX := 1
/-- Flag UF. -/ def flUF := 2
/-- Flag OF. -/ def flOF := 4
/-- Flag DZ. -/ def flDZ := 8
/-- Flag NV. -/ def flNV := 16

/-- A result and its flags. -/
abbrev FRes := Nat × Nat

/-- The number of bits of `m`. -/
def bitLen (m : Nat) : Nat := if m = 0 then 0 else Nat.log2 m + 1

/-- Whether a magnitude whose kept part is `k`, with remainder class `r` (0 exact, 1 below half, 2 half, 3 above half),
rounds up: modes 0 nearest even, 1 to zero, 2 down, 3 up, 4 nearest away. -/
def roundUp (rm : Nat) (s : Bool) (k r : Nat) : Bool :=
  match rm with
  | 0 => r == 3 || (r == 2 && k % 2 == 1)
  | 1 => false
  | 2 => s && r != 0
  | 3 => !s && r != 0
  | _ => decide (2 ≤ r)

/-- m × 2^e cut at unit 2^q: the kept part and the remainder class. -/
def cutAt (m : Nat) (e q : Int) (sticky : Bool) : Nat × Nat :=
  if q ≤ e then (m * 2 ^ (e - q).toNat, if sticky then 1 else 0)
  else
    let n := (q - e).toNat
    let k := m / 2 ^ n
    let r := m % 2 ^ n
    let h := 2 ^ (n - 1)
    (k, if r = 0 then (if sticky then 1 else 0) else if r < h then 1 else if r = h then (if sticky then 3 else 2) else 3)

/-- The pattern nearest to (−1)^s × (m × 2^e), a little more when `sticky`, in a rounding mode, with its flags. -/
def Fmt.round (f : Fmt) (rm : Nat) (s : Bool) (m : Nat) (e : Int) (sticky : Bool) : FRes :=
  let sb := if s then f.sgn else 0
  if m = 0 ∧ !sticky then (sb, 0)
  else
    let top := e + (bitLen m : Int) - 1
    let qn := top - (f.p - 1 : Nat)
    let q := if qn < f.qmin then f.qmin else qn
    let (k, r) := cutAt m e q sticky
    let k' := if roundUp rm s k r then k + 1 else k
    let bits := (q - f.qmin).toNat * 2 ^ (f.p - 1) + k'
    if f.inf ≤ bits then
      let toInf := match rm with | 1 => false | 2 => s | 3 => !s | _ => true
      (sb + (if toInf then f.inf else f.inf - 1), flOF + flNX)
    else
      let (ku, ru) := cutAt m e qn sticky
      let ku' := if roundUp rm s ku ru then ku + 1 else ku
      let tiny := decide (qn < f.qmin) && !(decide (qn = f.qmin - 1) && decide (ku' = 2 ^ f.p))
      (sb + bits, if r = 0 then 0 else if tiny then flUF + flNX else flNX)

/-- The canonical NaN, with NV when an operand signals. -/
def Fmt.nanOf (f : Fmt) (sig : Bool) : FRes := (f.nan, if sig then flNV else 0)

/-- A datum signals. -/
def FVal.isSig : FVal → Bool
  | .nan b => b
  | _ => false
/-- A datum is a NaN. -/
def FVal.isNan : FVal → Bool
  | .nan _ => true
  | _ => false
/-- The sign of a datum. -/
def FVal.sign : FVal → Bool
  | .nan _ => false
  | .inf s => s
  | .num s _ _ => s

/-- The exact sum of two finite data, as a signed integer and its unit. -/
def exactSum (s1 : Bool) (m1 : Nat) (e1 : Int) (s2 : Bool) (m2 : Nat) (e2 : Int) : Int × Int :=
  let e := if e1 < e2 then e1 else e2
  let a : Int := (m1 * 2 ^ (e1 - e).toNat : Nat)
  let b : Int := (m2 * 2 ^ (e2 - e).toNat : Nat)
  ((if s1 then -a else a) + (if s2 then -b else b), e)

/-- The sum of two data: an exact zero from unlike signs is +0, and −0 when rounding down. -/
def Fmt.addV (f : Fmt) (rm : Nat) (a b : FVal) : FRes :=
  match a, b with
  | .nan x, y => f.nanOf (x || y.isSig)
  | y, .nan x => f.nanOf (x || y.isSig)
  | .inf s, .inf t => if s = t then (f.inf + (if s then f.sgn else 0), 0) else (f.nan, flNV)
  | .inf s, _ => (f.inf + (if s then f.sgn else 0), 0)
  | _, .inf s => (f.inf + (if s then f.sgn else 0), 0)
  | .num s m e, .num t n d =>
    if m = 0 ∧ n = 0 then ((if (s && t) || (rm == 2 && (s || t)) then f.sgn else 0), 0)
    else
      let (v, u) := exactSum s m e t n d
      if v = 0 then ((if rm = 2 then f.sgn else 0), 0)
      else f.round rm (decide (v < 0)) v.natAbs u false

/-- Addition. -/
def Fmt.add (f : Fmt) (rm a b : Nat) : FRes := f.addV rm (f.unpack a) (f.unpack b)
/-- The pattern with its sign changed. -/
def Fmt.neg (f : Fmt) (a : Nat) : Nat := if bit a (f.w - 1) then a - f.sgn else a + f.sgn
/-- The pattern with sign 0. -/
def Fmt.abs (f : Fmt) (a : Nat) : Nat := a % f.sgn
/-- Subtraction. -/
def Fmt.sub (f : Fmt) (rm a b : Nat) : FRes :=
  match f.unpack b with
  | .nan x => f.nanOf (x || (f.unpack a).isSig)
  | _ => f.add rm a (f.neg b)

/-- The exact product of two data, as a datum (NaN with `true` for 0 × ∞). -/
def mulV (a b : FVal) : FVal × Bool :=
  match a, b with
  | .nan x, y => (.nan (x || y.isSig), x || y.isSig)
  | y, .nan x => (.nan (x || y.isSig), x || y.isSig)
  | .inf s, .inf t => (.inf (s != t), false)
  | .inf s, .num t m _ => if m = 0 then (.nan true, true) else (.inf (s != t), false)
  | .num t m _, .inf s => if m = 0 then (.nan true, true) else (.inf (s != t), false)
  | .num s m e, .num t n d => (.num (s != t) (m * n) (e + d), false)

/-- A datum as a pattern. -/
def Fmt.ofV (f : Fmt) (rm : Nat) : FVal → FRes
  | .nan sig => f.nanOf sig
  | .inf s => (f.inf + (if s then f.sgn else 0), 0)
  | .num s m e => f.round rm s m e false

/-- Multiplication. -/
def Fmt.mul (f : Fmt) (rm a b : Nat) : FRes := f.ofV rm (mulV (f.unpack a) (f.unpack b)).1

/-- a × b + c with one rounding. -/
def Fmt.fma (f : Fmt) (rm a b c : Nat) : FRes :=
  let (p, nv) := mulV (f.unpack a) (f.unpack b)
  let (x, fl) := f.addV rm p (f.unpack c)
  (x, if nv && fl &&& flNV == 0 then fl + flNV else fl)

/-- Division. -/
def Fmt.div (f : Fmt) (rm a b : Nat) : FRes :=
  match f.unpack a, f.unpack b with
  | .nan x, y => f.nanOf (x || y.isSig)
  | y, .nan x => f.nanOf (x || y.isSig)
  | .inf _, .inf _ => (f.nan, flNV)
  | .inf s, .num t _ _ => (f.inf + (if s != t then f.sgn else 0), 0)
  | .num s _ _, .inf t => ((if s != t then f.sgn else 0), 0)
  | .num s m e, .num t n d =>
    if n = 0 then (if m = 0 then (f.nan, flNV) else (f.inf + (if s != t then f.sgn else 0), flDZ))
    else if m = 0 then ((if s != t then f.sgn else 0), 0)
    else
      let k := f.p + 3 + bitLen n
      let x := m * 2 ^ k
      f.round rm (s != t) (x / n) (e - d - k) (x % n != 0)

/-- ⌊√n⌋, bit by bit from bit `k − 1`. -/
def isqrtGo (n : Nat) : Nat → Nat → Nat
  | 0, r => r
  | k + 1, r => if (r + 2 ^ k) * (r + 2 ^ k) ≤ n then isqrtGo n k (r + 2 ^ k) else isqrtGo n k r

/-- ⌊√n⌋. -/
def isqrt (n : Nat) : Nat := isqrtGo n (bitLen n / 2 + 1) 0

/-- Square root. -/
def Fmt.sqrt (f : Fmt) (rm a : Nat) : FRes :=
  match f.unpack a with
  | .nan x => f.nanOf x
  | .inf s => if s then (f.nan, flNV) else (f.inf, 0)
  | .num s m e =>
    if m = 0 then ((if s then f.sgn else 0), 0)
    else if s then (f.nan, flNV)
    else
      let k := 2 * (f.p + 3)
      let (m, e) := if e % 2 = 0 then (m * 2 ^ k, e - k) else (m * 2 ^ (k + 1), e - (k + 1 : Nat))
      let r := isqrt m
      f.round rm false r (e / 2) (r * r != m)

/-- The order of two data that are no NaN: −1, 0 or 1. -/
def cmpV (a b : FVal) : Int :=
  match a, b with
  | .inf s, .inf t => if s = t then 0 else if s then -1 else 1
  | .inf s, _ => if s then -1 else 1
  | _, .inf t => if t then 1 else -1
  | .num s m e, .num t n d => ((exactSum s m e (!t) n d).1).sign
  | _, _ => 0

/-- a = b (quiet). -/
def Fmt.feq (f : Fmt) (a b : Nat) : Bool × Nat :=
  let x := f.unpack a
  let y := f.unpack b
  if x.isNan || y.isNan then (false, if x.isSig || y.isSig then flNV else 0) else (cmpV x y == 0, 0)
/-- a < b (signalling). -/
def Fmt.flt (f : Fmt) (a b : Nat) : Bool × Nat :=
  let x := f.unpack a
  let y := f.unpack b
  if x.isNan || y.isNan then (false, flNV) else (decide (cmpV x y < 0), 0)
/-- a ≤ b (signalling). -/
def Fmt.fle (f : Fmt) (a b : Nat) : Bool × Nat :=
  let x := f.unpack a
  let y := f.unpack b
  if x.isNan || y.isNan then (false, flNV) else (decide (cmpV x y ≤ 0), 0)

/-- The lesser (`hi` false) or greater of two data; −0 counts below +0; a NaN gives way to a number. -/
def Fmt.minMax (f : Fmt) (hi : Bool) (a b : Nat) : FRes :=
  let x := f.unpack a
  let y := f.unpack b
  let fl := if x.isSig || y.isSig then flNV else 0
  if x.isNan && y.isNan then (f.nan, fl)
  else if x.isNan then (b, fl)
  else if y.isNan then (a, fl)
  else
    let c := cmpV x y
    let less := decide (c < 0) || (c == 0 && x.sign && !y.sign)
    ((if less != hi then a else b), fl)

/-- The class mask of RISC-V FCLASS. -/
def Fmt.classify (f : Fmt) (a : Nat) : Nat :=
  match f.unpack a with
  | .nan true => 2 ^ 8
  | .nan false => 2 ^ 9
  | .inf true => 1
  | .inf false => 2 ^ 7
  | .num s m _ =>
    if m = 0 then (if s then 2 ^ 3 else 2 ^ 4)
    else if m < 2 ^ (f.p - 1) then (if s then 2 ^ 2 else 2 ^ 5)
    else (if s then 2 ^ 1 else 2 ^ 6)

/-- A datum rounded to an integer: the integer and whether it is inexact. -/
def roundInt (rm : Nat) (s : Bool) (m : Nat) (e : Int) : Int × Bool :=
  let (k, r) := cutAt m e 0 false
  let k := if roundUp rm s k r then k + 1 else k
  ((if s then -(k : Int) else k), r != 0)

/-- Conversion to an integer within [lo, hi] (RISC-V FCVT): NaN and +∞ give hi, −∞ lo, with NV outside the range. -/
def Fmt.toInt (f : Fmt) (rm : Nat) (lo hi : Int) (a : Nat) : Int × Nat :=
  match f.unpack a with
  | .nan _ => (hi, flNV)
  | .inf s => ((if s then lo else hi), flNV)
  | .num s m e =>
    let (i, nx) := roundInt rm s m e
    if i < lo then (lo, flNV) else if hi < i then (hi, flNV) else (i, if nx then flNX else 0)

/-- Conversion from an integer. -/
def Fmt.ofInt (f : Fmt) (rm : Nat) (i : Int) : FRes := f.round rm (decide (i < 0)) i.natAbs 0 false

/-- Conversion between formats. -/
def Fmt.conv (f g : Fmt) (rm a : Nat) : FRes := g.ofV rm (f.unpack a)

/-! ### binary64, to nearest -/

/-- Sum. -/ def dAdd (a b : Nat) : Nat := (f64.add 0 a b).1
/-- Difference. -/ def dSub (a b : Nat) : Nat := (f64.sub 0 a b).1
/-- Product. -/ def dMul (a b : Nat) : Nat := (f64.mul 0 a b).1
/-- Quotient. -/ def dDiv (a b : Nat) : Nat := (f64.div 0 a b).1
/-- Square root. -/ def dSqrt (a : Nat) : Nat := (f64.sqrt 0 a).1
/-- Negation. -/ def dNeg (a : Nat) : Nat := f64.neg a
/-- Magnitude. -/ def dAbs (a : Nat) : Nat := f64.abs a
/-- a < b. -/ def dLt (a b : Nat) : Bool := (f64.flt a b).1
/-- a ≤ b. -/ def dLe (a b : Nat) : Bool := (f64.fle a b).1
/-- a = b. -/ def dEq (a b : Nat) : Bool := (f64.feq a b).1
/-- The nearest binary64 value of an integer. -/ def dOfInt (i : Int) : Nat := (f64.ofInt 0 i).1
/-- The nearest binary64 value of a ratio of integers. -/ def dRatio (i : Int) (n : Nat) : Nat :=
  let k := 64 + bitLen n
  let x := i.natAbs * 2 ^ k
  (f64.round 0 (decide (i < 0)) (x / n) (-(k : Int)) (x % n != 0)).1
/-- The lesser of two values. -/ def dMin (a b : Nat) : Nat := if dLt b a then b else a
/-- The greater of two values. -/ def dMax (a b : Nat) : Nat := if dLt a b then b else a
/-- A finite datum. -/ def dFinite (a : Nat) : Bool := a / 2 ^ 52 % 2048 != 2047
/-- The integer nearest to a finite datum, ties to even. -/ def dRound (a : Nat) : Int :=
  match f64.unpack a with
  | .num s m e => (roundInt 0 s m e).1
  | _ => 0

end Sys2Proof.Machine
end

