-- ==== Sys2Proof/Machine/Acquisition.lean ====
section
/-!
DEFINITION. Block 0x0A, the acquisition engine: conversions (R521–R525), streams (R526, R527), probes (R528), capture
units with reduction, triggers, records, masks and streaming (R529–R544), the trigger bus (R545–R551) and the commands
(R554).
-/
namespace Sys2Proof.Machine

/-! ### Access to the engine's state -/

/-- A conversion set beside its registers. -/
def State.aSet (s : State) (k : Nat) : AcqSet := tabGet (fun _ => {}) s.acq.sets k
/-- A conversion set changed. -/
def State.modASet (s : State) (k : Nat) (f : AcqSet → AcqSet) : State :=
  { s with acq := { s.acq with sets := tabSet (fun _ => {}) s.acq.sets k (f (s.aSet k)) } }
/-- A stream channel beside its registers. -/
def State.aStr (s : State) (c : Nat) : AcqStr := tabGet (fun _ => {}) s.acq.strs c
/-- A stream channel changed. -/
def State.modAStr (s : State) (c : Nat) (f : AcqStr → AcqStr) : State :=
  { s with acq := { s.acq with strs := tabSet (fun _ => {}) s.acq.strs c (f (s.aStr c)) } }
/-- A capture unit beside its registers. -/
def State.aU (s : State) (u : Nat) : AcqU := tabGet (fun _ => {}) s.acq.units u
/-- A capture unit changed. -/
def State.modAU (s : State) (u : Nat) (f : AcqU → AcqU) : State :=
  { s with acq := { s.acq with units := tabSet (fun _ => {}) s.acq.units u (f (s.aU u)) } }

/-- IDLE -/ def uIdle := 0
/-- FILLING -/ def uFilling := 1
/-- READY -/ def uReady := 2
/-- POST -/ def uPost := 3
/-- REARM -/ def uRearm := 4
/-- STREAMING -/ def uStreaming := 5
/-- DONE -/ def uDone := 6
/-- MASKED -/ def uMasked := 7

/-- `ACQ_U_STATE.STATE`. -/
def State.uState (s : State) (u : Nat) : Nat := s.fld (Reg.ACQ_U_STATE u) F.ACQ_U_STATE_STATE
/-- A unit in FILLING, READY, POST, REARM or STREAMING. -/
def State.uActive (s : State) (u : Nat) : Bool := decide (1 ≤ s.uState u ∧ s.uState u ≤ 5)
/-- Sets a unit's state and its bit of `ACQ_STATUS.ACTIVE`. -/
def State.setU (s : State) (u st : Nat) : State :=
  let s := s.put (Reg.ACQ_U_STATE u) F.ACQ_U_STATE_STATE st
  s.put Reg.ACQ_STATUS F.ACQ_STATUS_ACTIVE (setBit (s.fld Reg.ACQ_STATUS F.ACQ_STATUS_ACTIVE) u (decide (1 ≤ st ∧ st ≤ 5)))

/-- A field of `ACQ_U_CFG(u)`. -/
def State.uCfg (s : State) (u : Nat) (f : Fld) : Nat := s.fld (Reg.ACQ_U_CFG u) f
/-- A field of `ACQ_U_TRIG(u)`. -/
def State.uTrig (s : State) (u : Nat) (f : Fld) : Nat := s.fld (Reg.ACQ_U_TRIG u) f
/-- CLASS -/ def State.uClass (s : State) (u : Nat) : Nat := s.uCfg u F.ACQ_U_CFG_CLASS
/-- K -/ def State.uK (s : State) (u : Nat) : Nat := s.uCfg u F.ACQ_U_CFG_K
/-- RMODE -/ def State.uRmode (s : State) (u : Nat) : Nat := s.uCfg u F.ACQ_U_CFG_RMODE
/-- N_SRC -/ def State.uN (s : State) (u : Nat) : Nat := s.uCfg u F.ACQ_U_CFG_N_SRC
/-- SEGMENTS -/ def State.uSegs (s : State) (u : Nat) : Nat := s.uCfg u F.ACQ_U_CFG_SEGMENTS
/-- STREAM -/ def State.uStream (s : State) (u : Nat) : Bool := s.uCfg u F.ACQ_U_CFG_STREAM == 1
/-- HOLDOFF -/ def State.uHoldoff (s : State) (u : Nat) : Bool := s.uCfg u F.ACQ_U_CFG_EARLY == 1
/-- PRE -/ def State.uPre (s : State) (u : Nat) : Nat := (s.reg (Reg.ACQ_U_PRE u)).toNat
/-- POST -/ def State.uPostN (s : State) (u : Nat) : Nat := (s.reg (Reg.ACQ_U_POST u)).toNat
/-- SEGMENT in use -/ def State.uSeg (s : State) (u : Nat) : Nat := s.fld (Reg.ACQ_U_STATE u) F.ACQ_U_STATE_SEGMENT
/-- DEC_LOG -/ def State.uDec (s : State) (u : Nat) : Nat := s.fld (Reg.ACQ_U_STATE u) F.ACQ_U_STATE_DEC_LOG
/-- The source of entry `e` of `ACQ_U_SRC`. -/
def State.uSrc (s : State) (u e : Nat) : Nat := (s.reg (Reg.ACQ_U_SRC u (e / 4))).toNat / 2 ^ (8 * (e % 4)) % 256
/-- The sources in list order. -/
def State.uSrcs (s : State) (u : Nat) : List Nat := (List.range (s.uN u)).map (s.uSrc u)

/-- Octets of one word of a frame (R530). -/
def State.uWord (s : State) (u : Nat) : Nat :=
  if s.uClass u = 2 then 8 else if s.uRmode u ≠ 0 then 4 else if s.uK u = 0 then 2 else 4
/-- Words of one source. -/
def State.uWords (s : State) (u : Nat) : Nat := if s.uClass u = 2 ∨ s.uRmode u = 0 then 1 else 4
/-- FS, the frame size (R530, R532). -/
def State.uFS (s : State) (u : Nat) : Nat := ceilDiv (s.uWord u * s.uWords u * s.uN u) 8 * 8
/-- Octets of the unit's region. -/
def State.uSize (s : State) (u : Nat) : Nat := s.fld (Reg.ACQ_U_MEM u) F.ACQ_U_MEM_BANKS * 262144
/-- First octet of the region. -/
def State.uBase (s : State) (u : Nat) : Nat := s.fld (Reg.ACQ_U_MEM u) F.ACQ_U_MEM_FIRST_BANK * 262144
/-- C, the capacity of a segment in frames (R532). -/
def State.uCap (s : State) (u : Nat) : Nat := (s.uSize u - 64 * s.uSegs u) / s.uSegs u / s.uFS u
/-- Octet of a frame's place in a segment (R532). -/
def State.uPlace (s : State) (u seg p : Nat) : Nat :=
  s.uBase u + 64 * s.uSegs u + (seg * s.uCap u + p) * s.uFS u

/-- The engine's view of its region: shared SRAM with its own waiting writes on top. -/
def State.devRead (s : State) (o n : Nat) : List Byte :=
  let m := s.mem.waiting.foldl (fun m a => match a with
    | .write .dev p d => memWrite m p d
    | _ => m) s.mem.sram
  memRead m o n

/-! ### Reduction (R531) -/

/-- The reduction with one more sample. -/
def AcqAcc.add (a : AcqAcc) (first : Bool) (x : Int) : AcqAcc :=
  if first then ⟨x, x.natAbs * x.natAbs, x, x⟩
  else ⟨a.sum + x, a.sq + x.natAbs * x.natAbs, min a.lo x, max a.hi x⟩

/-- round(√(Σx² / 2^K) × 2^E). -/
def rmsWord (sq k e : Nat) : Nat := (isqrt (4 * sq * 2 ^ (2 * e) / 2 ^ k) + 1) / 2

/-- The words of one source of a frame that is not missing: mean alone, or min, max, mean, RMS (R530, R531). -/
def accWords (cls rmode k : Nat) (a : AcqAcc) : List Int :=
  let e := min k 4
  let mean := if cls = 2 then roundHalf a.sum (2 ^ k) else roundHalf a.sum (2 ^ (k - e))
  if cls = 2 ∨ rmode = 0 then [mean] else [a.lo * 2 ^ e, a.hi * 2 ^ e, mean, rmsWord a.sq k e]

/-- The frame of the interval that the unit holds: its octets and what a mask test looks at. -/
def State.uFrame (s : State) (u : Nat) : AcqFrame × List Byte :=
  let z := s.aU u
  let w := s.uWord u
  let low : Int := -(2 ^ (8 * w - 1) : Nat)
  let words (e : Nat) : List Int :=
    if z.accMiss then List.replicate (s.uWords u) low
    else accWords (s.uClass u) (s.uRmode u) (s.uK u) (z.acc.getD e {})
  let body := (List.range (s.uN u)).flatMap fun e => (words e).flatMap fun x => leBytes w (ofSigned (8 * w) x)
  let m := words (s.fld (Reg.ACQ_U_MASK u) F.ACQ_U_MASK_MSRC)
  let lo := m.getD 0 0
  let hi := if s.uWords u = 1 then lo else m.getD 1 0
  (⟨z.accT, z.accMiss, lo, hi⟩, slice body 0 (s.uFS u))

/-- Grid interval in units (R529): conversions PER × 5 ns; the spacing of the stream's samples; the servo period. -/
def State.uGrid (s : State) (u : Nat) : Nat :=
  match s.uClass u with
  | 0 => s.fld (Reg.ACQ_SET_PER (s.uCfg u F.ACQ_U_CFG_SET)) F.ACQ_SET_PER_PER * 80
  | 1 => (s.aU u).gi
  | _ => s.fld (Reg.SB_CYCLE (s.fld Reg.LINK_STATUS F.LINK_STATUS_BANK)) F.SB_CYCLE_PERIOD_US * 16000
/-- The frame interval, units. -/
def State.uInt (s : State) (u : Nat) : Nat := s.uGrid u * 2 ^ s.uK u

/-! ### Records (R535, R541) -/

/-- The place of F0 among the frames held, newest first, and whether the oldest frame stands in for it (R535).
DEDUCED: notes/assumptions/31.md. -/
def f0Of (frames : List AcqFrame) (t : W64) : Nat × Bool :=
  match frames.findIdx? fun f => timePast f.t t with
  | some i => (i, false)
  | none => (frames.length - 1, true)

/-- Frames of the open record from F0 onward. -/
def State.uPostHeld (s : State) (u : Nat) : Nat :=
  let z := s.aU u
  match z.trig with
  | none => 0
  | some t => if z.frames.isEmpty then 0 else (f0Of z.frames t).1 + 1

/-- Closes the open record: header written (R541), event 0x0A30 unless a mask violation closed it. `flags` adds STOPPED
or MASK_FAIL, `j` is MASK_FRAME. DEDUCED: notes/assumptions/31.md. -/
def State.closeRecord (s : State) (u flags j : Nat) : State :=
  let z := s.aU u
  let trig := z.trig.getD 0
  let (i0, late) := f0Of z.frames trig
  let held := if z.frames.isEmpty then 0 else i0 + 1
  let post := min held (s.uPostN u)
  let pre := min (s.uPre u) (z.frames.length - held)
  -- the record's frames, newest first, start after the frames beyond POST
  let skip := held - post
  let rec0 := (z.frames.drop skip).take (post + pre)
  let first := match rec0.getLast? with | some f => f.t | none => trig
  let last := match rec0.head? with | some f => f.t | none => trig
  let tf0 := match z.frames[i0]? with | some f => f.t | none => trig
  let cap := s.uCap u
  let place := if cap = 0 then 0 else (z.next + cap - (skip + post + pre) % cap) % cap
  let fi := s.uInt u
  let gaps := satU 16 ((rec0.filter (·.miss)).length)
  let blindTo := if s.uHoldoff u then z.readyT.getD first else z.segT.getD first
  let span (t : W64) : Int :=
    match z.lastT with
    | none => timeDiff t z.armT
    | some l => timeDiff t l - fi
  let fl := b2n (z.short && decide (pre < s.uPre u)) + flags + (if z.late || late then 8 else 0)
  let seg := s.uSeg u
  let hdr := leBytes 8 trig.toNat ++ leBytes 8 first.toNat ++ leBytes 8 fi ++ leBytes 8 (ofSigned 64 (span first))
    ++ leBytes 8 (ofSigned 64 (span blindTo)) ++ leBytes 4 pre ++ leBytes 4 post
    ++ leBytes 4 (ofSigned 32 (timeDiff trig tf0)) ++ leBytes 2 gaps ++ [BitVec.ofNat 8 fl]
    ++ [BitVec.ofNat 8 (s.uRmode u + 16 * s.uK u)] ++ leBytes 4 j ++ leBytes 2 z.recNo
    ++ [BitVec.ofNat 8 u, BitVec.ofNat 8 (s.uN u)]
  let s := s.devWrite (s.uBase u + 64 * seg) hdr
  let s := s.setReg (Reg.ACQ_U_RECS u) (s.reg (Reg.ACQ_U_RECS u) + 1)
  let s := s.modAU u fun z =>
    { z with
      recs := z.recs.filter (fun r => r.1 != seg) ++ [(seg, place, post + pre)]
      recNo := (z.recNo + 1) % 65536
      lastT := some last
      trig := none, short := false, late := false, tested := 0, frames := [], segT := none, readyT := none }
  if flags = 4 then s else s.postB 0x0A30 [(16, 1, u), (17, 1, seg), (18, 1, fl), (20, 4, z.recNo)]

/-! ### Streaming (R543, R544) -/

/-- Octets of a chunk. -/
def State.chunkSize (s : State) (u : Nat) : Nat := 1024 * 2 ^ s.fld (Reg.ACQ_U_STREAM u) F.ACQ_U_STREAM_CHUNK_LOG
/-- Frames that a chunk holds. -/
def State.chunkFrames (s : State) (u : Nat) : Nat := (s.chunkSize u - 64) / s.uFS u
/-- Chunks of the ring, which starts after the segment's header (R532, R543). -/
def State.chunkCount (s : State) (u : Nat) : Nat := (s.uSize u - 64) / s.chunkSize u
/-- First octet of a chunk. DEDUCED: notes/assumptions/32.md. -/
def State.chunkAt (s : State) (u k : Nat) : Nat := s.uBase u + 64 + k * s.chunkSize u

/-- The fill f is at least (at most) `p` percent of the region. -/
def State.fillGe (s : State) (u p : Nat) : Bool := decide (p * s.uSize u ≤ 100 * (s.aU u).closed.length * s.chunkSize u)
/-- f ≤ p %. -/
def State.fillLe (s : State) (u p : Nat) : Bool := decide (100 * (s.aU u).closed.length * s.chunkSize u ≤ p * s.uSize u)

/-- Writes the open chunk's header and closes it; `last` is the chunk that the unit's stop closes. -/
def State.sealChunk (s : State) (u : Nat) (flags : Nat) (last : Bool) : State :=
  let z := s.aU u
  match z.chunk with
  | none => s
  | some c =>
    let fi := s.uInt u * 2 ^ s.uDec u
    let hdr := leBytes 8 c.first.toNat ++ leBytes 8 fi ++ leBytes 4 c.n ++ leBytes 4 z.seq
      ++ [BitVec.ofNat 8 (s.uDec u), BitVec.ofNat 8 (c.flags ||| flags), 0, 0] ++ leBytes 4 c.dropped
      ++ leBytes 8 c.trig.toNat ++ List.replicate 24 0
    let s := s.devWrite (s.chunkAt u c.idx) hdr
    let s := s.modAU u fun z =>
      { z with chunk := none, closed := z.closed ++ [(c.idx, c.n, last)], seq := (z.seq + 1) % 2 ^ 32 }
    { s with acq := { s.acq with order := s.acq.order ++ [u] } }

/-- DEC_LOG changes (R544): the next chunk carries DEC_CHANGED; event 0x0A32. -/
def State.setDec (s : State) (u d : Nat) : State :=
  let s := (s.put (Reg.ACQ_U_STATE u) F.ACQ_U_STATE_DEC_LOG d).modAU u fun z => { z with decChanged := true }
  s.postB 0x0A32 [(16, 1, u), (17, 1, d)]

/-- A chunk closes: header, then the fill rule (R543, R544). -/
def State.closeChunk (s : State) (u flags : Nat) (last : Bool) : State :=
  if (s.aU u).chunk.isNone then s
  else
    let s := s.sealChunk u flags last
    if s.fillGe u (s.fld (Reg.ACQ_U_STREAM u) F.ACQ_U_STREAM_HIGH) && decide (s.uDec u < 7) then s.setDec u (s.uDec u + 1)
    else s

/-- A chunk is opened when none is open and one is free. DEDUCED: notes/assumptions/32.md. -/
def State.openChunk (s : State) (u : Nat) (t : W64) : State :=
  let z := s.aU u
  if z.chunk.isSome ∨ s.chunkCount u ≤ z.closed.length then s
  else
    let fl := b2n z.decChanged + (if z.dropped = 0 then 0 else 2)
    let c : AcqChunk := ⟨z.nextChunk, t, 0, fl, z.dropped, if z.seq = 0 then z.trig.getD 0 else 0⟩
    let s := s.modAU u fun z =>
      { z with chunk := some c, nextChunk := (z.nextChunk + 1) % s.chunkCount u, decChanged := false, dropped := 0 }
    if z.dropped = 0 then s else s.postB 0x0A18 [(16, 1, u), (20, 4, z.dropped)]

/-- A frame goes into the open chunk, or is dropped and counted while no chunk is free (R544). -/
def State.chunkFrame (s : State) (u : Nat) (t : W64) (data : List Byte) (f0 : Bool) : State :=
  let s := s.openChunk u t
  let z := s.aU u
  match z.chunk with
  | none =>
    (s.addSat (Reg.ACQ_U_DROPPED u) ⟨0, 32⟩ 1).modAU u fun z => { z with dropped := satU 32 (z.dropped + 1) }
  | some c =>
    let s := s.devWrite (s.chunkAt u c.idx + 64 + c.n * s.uFS u) data
    let s := s.modAU u fun z => { z with chunk := some { c with n := c.n + 1, flags := if f0 then c.flags ||| 8 else c.flags } }
    if s.chunkFrames u ≤ c.n + 1 then s.closeChunk u 0 false else s

/-! ### Mask tests (R542) -/

/-- Bound `j` of a table. -/
def State.maskUp (s : State) (m j : Nat) : Int := toSigned 32 (s.reg (Reg.ACQ_MASK_UP m j)).toNat
/-- LOWER(j). -/
def State.maskLow (s : State) (m j : Nat) : Int := toSigned 32 (s.reg (Reg.ACQ_MASK_LO m j)).toNat

/-- Frame `j` after F0 violates the unit's mask. -/
def State.maskFails (s : State) (u j : Nat) (f : AcqFrame) : Bool :=
  let r := Reg.ACQ_U_MASK u
  let len := s.fld r F.ACQ_U_MASK_MASK_LEN
  let m := s.fld r F.ACQ_U_MASK_TABLE
  let k := if s.uStream u then j % len else j
  s.flag r F.ACQ_U_MASK_EN && decide (k < len) && (decide (s.maskUp m k < f.hi) || decide (f.lo < s.maskLow m k))

/-- A violation in POST: frames after the violating one are not kept, the record closes, the unit is MASKED. -/
def State.maskViolation (s : State) (u j : Nat) : State :=
  let s := s.closeRecord u 4 j
  (s.setU u uMasked).postB 0x0A31 [(16, 1, u), (20, 4, j)]

/-- Tests the record's frames from F0 onward that have not been tested. -/
def State.maskRecord (s : State) (u : Nat) : State :=
  let z := s.aU u
  match z.trig with
  | none => s
  | some t =>
    if z.frames.isEmpty then s
    else
      let i0 := (f0Of z.frames t).1
      let fresh := ((z.frames.take (i0 + 1)).reverse.zipIdx).drop z.tested
      match fresh.find? fun x => s.maskFails u x.2 x.1 with
      | some x =>
        let drop := i0 - x.2
        let cap := s.uCap u
        (s.modAU u fun z => { z with frames := z.frames.drop drop, next := (z.next + cap - drop % cap) % cap }).maskViolation u x.2
      | none => s.modAU u fun z => { z with tested := i0 + 1 }

/-- A frame in STREAMING: it is tested, and stored when its count since F0 is a multiple of 2^DEC_LOG (R542–R544). -/
def State.streamFrame (s : State) (u : Nat) (f : AcqFrame) (data : List Byte) : State :=
  let j := (s.aU u).since
  if s.maskFails u j f then
    let s := (s.chunkFrame u f.t data (j == 0)).closeChunk u 4 false
    (s.setU u uMasked).postB 0x0A31 [(16, 1, u), (20, 4, j)]
  else
    let s := s.modAU u fun z => { z with since := j + 1 }
    if j % 2 ^ s.uDec u = 0 then s.chunkFrame u f.t data (j == 0) else s

/-! ### The trigger bus lines -/

/-- Owner of line `l` (0–3, 4 the sync pair), R545. -/
def State.tbOwner (s : State) (l : Nat) : Nat :=
  if l = 4 then s.fld Reg.ACQ_TB_OWN F.ACQ_TB_OWN_OWN_SYNC
  else s.fld Reg.ACQ_TB_OWN F.ACQ_TB_OWN_OWN_L / 8 ^ l % 8
/-- `ACQ_TB_CFG.ENABLE`. -/
def State.tbOn (s : State) : Bool := s.flag Reg.ACQ_TB_CFG F.ACQ_TB_CFG_ENABLE
/-- This device owns line `l`. -/
def State.tbMine (s : State) (l : Nat) : Bool := s.tbOwner l == s.fld Reg.ACQ_TB_CFG F.ACQ_TB_CFG_PEER
/-- A 100 ns pulse on a line (R546). -/
def State.tbPulse (s : State) (l : Nat) (t : W64) : State := s.emit (.busPulse l t)

/-- OUTPUT_TOGGLE of index 16 + l (R546). -/
def State.tbToggle (s : State) (l : Nat) : State :=
  if s.tbMine l then s.tbPulse l s.cell else s.postB 0x0A1B [(16, 1, l)]

/-! ### Triggers (R533–R537) -/

/-- The lost-trigger FIFO's level and head as the registers show them. -/
def State.showLost (s : State) (u : Nat) : State :=
  let l := (s.aU u).lost
  (s.put (Reg.ACQ_U_STATE u) F.ACQ_U_STATE_LOST_LEVEL l.length).setReg64 (Reg.ACQ_U_LOST u) (l.headD 0)

/-- A lost trigger (R537). -/
def State.lostTrigger (s : State) (u : Nat) (t : W64) : State :=
  let s := s.addSat (Reg.ACQ_U_STAT u) F.ACQ_U_STAT_LOST 1
  if 16 ≤ (s.aU u).lost.length then s.postB 0x0A1A [(16, 1, u)]
  else (s.modAU u fun z => { z with lost := z.lost ++ [t] }).showLost u

/-- The streaming record starts (R543): the PRE_ACT frames, then F0 and the frames already held after it. -/
def State.startStream (s : State) (u : Nat) (t : W64) : State :=
  let z := s.aU u
  let (i0, _) := f0Of z.frames t
  let held := if z.frames.isEmpty then 0 else i0 + 1
  let pre := min (s.uPre u) (z.frames.length - held)
  let cap := s.uCap u
  let part := ((z.frames.take (held + pre)).zipIdx).map fun x =>
    (x.1, s.devRead (s.uPlace u 0 ((z.next + cap - (x.2 + 1) % cap) % cap)) (s.uFS u))
  let l := part.reverse
  let s := s.setU u uStreaming
  let s := forEach (l.take pre) s fun x s => s.chunkFrame u x.1.t x.2 false
  let s := forEach (l.drop pre) s fun x s => if s.uState u = uStreaming then s.streamFrame u x.1 x.2 else s
  s.modAU u fun z => { z with frames := [] }

/-- An accepted trigger: output pulse, t_trig, POST or STREAMING (R536, R546). -/
def State.acceptTrigger (s : State) (u : Nat) (t : W64) (short : Bool) : State :=
  let s := if s.uTrig u F.ACQ_U_TRIG_OUT_EN = 1 then s.tbPulse (s.uTrig u F.ACQ_U_TRIG_OUT_LINE) s.cell else s
  let z := s.aU u
  let s := s.modAU u fun z' => { z' with
    trig := some t, short := short, tested := 0, since := 0
    late := (f0Of z.frames t).2 && !z.frames.isEmpty && !(decide (z.accN ≠ 0) && timePast z.accT t) }
  if s.uStream u then s.startStream u t else (s.setU u uPost).maskRecord u

/-- PRE frames are held. -/
def State.preHeld (s : State) (u : Nat) : Bool := decide (s.uPre u ≤ (s.aU u).frames.length)

/-- A trigger of unit `u` at `t` (R536, R537). DEDUCED: notes/assumptions/31.md. -/
def State.trigger (s : State) (u : Nat) (t : W64) : State :=
  let st := s.uState u
  if st = uFilling ∧ !s.preHeld u then
    if s.uHoldoff u then s.addSat (Reg.ACQ_U_STAT u) F.ACQ_U_STAT_HELD_OFF 1 else s.acceptTrigger u t true
  else if st = uFilling ∨ st = uReady then s.acceptTrigger u t false
  else if st = uPost ∨ st = uRearm ∨ st = uStreaming then s.lostTrigger u t
  else s

/-- The instant at which the line from (t0, x0) to (t1, x1) crosses θ, to the nearest unit (R534).
DEDUCED: notes/assumptions/30.md. -/
def crossing (t0 : W64) (x0 : Int) (t1 : W64) (x1 th : Int) : W64 :=
  let n := timeDiff t1 t0 * (th - x0)
  let d := x1 - x0
  if d = 0 then t1
  else t0 + BitVec.ofInt 64 (if 0 < d then roundHalf n d.natAbs else roundHalf (-n) d.natAbs)

/-- Evaluates a unit's trigger on one sample of entry TSRC (R533, R534): t_trig when it occurs, and the unit's
evaluation state after it. -/
def evalTrigger (type dir : Nat) (a b : Int) (hyst : Nat) (z : AcqU) (t : W64) (x : Option Int) : Option W64 × AcqU :=
  match x with
  | none => (none, { z with prev := none, seen := true })
  | some x =>
    let first := !z.seen
    let cross (th : Int) : W64 := match z.prev with | some (x0, t0) => crossing t0 x0 t x th | none => t
    let holds (y : Int) : Bool :=
      match type with
      | 1 => if dir = 0 then decide (a ≤ y) else decide (y ≤ a)
      | 3 => decide (a ≤ y) && decide (y ≤ b)
      | _ => ofSigned 64 y &&& ofSigned 64 a == ofSigned 64 b
    let pv := z.prev.map (·.1)
    let rising := match pv with | some y => decide (y < a) && decide (a ≤ x) | none => false
    let falling := match pv with | some y => decide (a < y) && decide (x ≤ a) | none => false
    let r : Option W64 :=
      match type with
      | 1 =>
        if holds x && first then some t
        else match pv with | some y => if holds x && !holds y then some (cross a) else none | none => none
      | 2 =>
        if (rising && z.rise && dir != 1) || (falling && z.fall && dir != 0) then some (cross a) else none
      | 3 =>
        match pv with
        | none => none
        | some y =>
          if dir = 0 then (if holds x && !holds y then some (cross (if y < a then a else b)) else none)
          else if holds y && !holds x then some (cross (if x < a then a else b)) else none
      | 4 =>
        if holds x && first then some t
        else match pv with | some y => if holds x && !holds y then some t else none | none => none
      | _ => none
    let rise := if rising && z.rise then false else z.rise || decide (x < a - hyst)
    let fall := if falling && z.fall then false else z.fall || decide (a + hyst < x)
    (r, { z with prev := some (x, t), seen := true, rise := rise, fall := fall })

/-- A frame that is complete is stored (R536, R540, R543). DEDUCED: notes/assumptions/31.md. -/
def State.storeFrame (s : State) (u : Nat) : State :=
  let (f, data) := s.uFrame u
  let z := s.aU u
  let st := s.uState u
  let early := match z.notBefore with | some n => decide (timeDiff f.t n < 0) | none => false
  if st = uStreaming then s.streamFrame u f data
  else if early || !(st == uFilling || st == uReady || (st == uPost && decide (s.uPostHeld u < s.uPostN u))) then s
  else
    let cap := s.uCap u
    let s := s.devWrite (s.uPlace u (s.uSeg u) z.next) data
    let frames := (f :: z.frames).take cap
    let s := s.modAU u fun z =>
      { z with
        frames := frames
        next := (z.next + 1) % cap
        segT := some (z.segT.getD f.t)
        readyT := if z.readyT.isNone && decide (s.uPre u ≤ frames.length) then some f.t else z.readyT }
    if st = uPost then s.maskRecord u else s

/-- One input instant of a unit: the trigger is evaluated on entry TSRC, then the sample joins its interval (R531,
R533). `xs` gives one sample for each entry; none is a missing one. -/
def State.unitInput (s : State) (u : Nat) (t : W64) (xs : List (Option Int)) : State :=
  if !s.uActive u then s
  else
    let x := (xs[s.uTrig u F.ACQ_U_TRIG_TSRC]?).getD none
    let (hit, z) := evalTrigger (s.uTrig u F.ACQ_U_TRIG_TYPE) (s.uTrig u F.ACQ_U_TRIG_DIR)
      (s.reg64 (Reg.ACQ_U_TH_A u)).toInt (s.reg64 (Reg.ACQ_U_TH_B u)).toInt (s.reg (Reg.ACQ_U_HYST u)).toNat (s.aU u) t x
    let s := s.modAU u fun _ => z
    -- the interval that holds this instant may hold F0
    let z := s.aU u
    let first := z.accN == 0
    let miss := xs.any (·.isNone) || (!first && z.accMiss)
    let acc := (List.range (s.uN u)).map fun e => (z.acc.getD e {}).add first ((xs.getD e none).getD 0)
    let s := s.modAU u fun z => { z with
      accN := z.accN + 1, accT := if first then t else z.accT, accMiss := miss, acc := acc }
    let done := decide (2 ^ s.uK u ≤ z.accN + 1)
    let s := if done then (s.storeFrame u).modAU u fun z => { z with accN := 0 } else s
    match hit with
    | some tt => s.trigger u tt
    | none => s

/-! ### Conversions (R522–R525) -/

/-- `ACQ_SET_STATUS.RUNNING`. -/
def State.setRunning (s : State) (k : Nat) : Bool := s.flag (Reg.ACQ_SET_STATUS k) F.ACQ_SET_STATUS_RUNNING
/-- MODE of a set. -/
def State.setMode' (s : State) (k : Nat) : Nat := s.fld (Reg.ACQ_SET_CFG k) F.ACQ_SET_CFG_MODE
/-- The channels of a set. -/
def State.setChans (s : State) (k : Nat) : List Nat :=
  idxs s.nAin fun ch => s.fld (Reg.ACQ_AIN_CFG ch) F.ACQ_AIN_CFG_SET == k

/-- A start that arrives while the set runs, or too late (R523, R551). -/
def State.setRefused (s : State) (k : Nat) : State :=
  (s.addSat (Reg.ACQ_SET_STATUS k) F.ACQ_SET_STATUS_REFUSED 1).postB 0x0A10 [(16, 1, k)]

/-- A set starts; its first conversion is the next CONVERSION_SAMPLE. -/
def State.setStart (s : State) (k : Nat) (c : Option Cmd) : State :=
  if s.setRunning k then s.setRefused k
  else
    let n := if s.setMode' k = 2 then none else some (s.fld (Reg.ACQ_SET_CFG k) F.ACQ_SET_CFG_COUNT)
    (s.put (Reg.ACQ_SET_STATUS k) F.ACQ_SET_STATUS_RUNNING 1).modASet k fun z =>
      { z with left := n, startCmd := c, syncAt := none }

/-- The ADC_SET action of index `k` (R88, R523). -/
def State.adcSetAction (s : State) (k : Nat) : State :=
  if s.setMode' k = 1 ∨ s.setMode' k = 2 then s.setStart k none else s

/-- The set ends; a stop command that waits completes. -/
def State.setEnds (s : State) (k : Nat) : State :=
  let c := (s.aSet k).stopCmd
  let s := (s.put (Reg.ACQ_SET_STATUS k) F.ACQ_SET_STATUS_RUNNING 0).modASet k fun z =>
    { z with left := none, stopCmd := none, startCmd := none }
  match c with
  | some c => s.complete c stOK 0
  | none => s

/-- CONVERSION_SAMPLE (R521, R522, R525): the set's channels convert at one grid instant. `xs` gives for each channel the
code before saturation and whether its converter's check failed. DEDUCED: notes/assumptions/30.md. -/
def execConversionSample (set : Nat) (xs : List (Nat × Int × Bool)) (s : State) : Out :=
  .next <|
    if !s.setRunning set ∨ (s.aSet set).stopCmd.isSome then s
    else
      let chans := s.setChans set
      let ys := xs.filter fun x => chans.contains x.1
      let s := forEach ys s fun x s =>
        let s := if satS 16 x.2.1 = x.2.1 then s else s.put (Reg.ACQ_AIN_STATUS x.1) F.ACQ_AIN_STATUS_OVR 1
        if x.2.2 then (s.put (Reg.ACQ_AIN_STATUS x.1) F.ACQ_AIN_STATUS_CONV_FAULT 1).postB 0x0A12 [(16, 1, x.1)] else s
      let codes := ys.map fun x => (x.1, some (satS 16 x.2.1))
      let z := s.aSet set
      let left := z.left.map (· - 1)
      let s := s.modASet set fun z => { z with queue := z.queue ++ [(s.cell, codes)], left := left, startCmd := none }
      let s := match z.startCmd with
        | some c => s.complete c stOK 0
        | none => s
      if left = some 0 then s.setEnds set else s

/-- CONVERSION_READY (R524): the oldest conversion of the set becomes usable, 400 ns after its sample. -/
def execConversionReady (set : Nat) (s : State) : Out :=
  .next <|
    match (s.aSet set).queue with
    | [] => s
    | (t, codes) :: rest =>
      if timeDiff s.cell t < 6400 then s
      else
        let s := s.modASet set fun z => { z with queue := rest }
        let s := forEach codes s fun x s =>
          match x.2 with
          | some v =>
            let s := s.put Reg.ACQ_STATUS F.ACQ_STATUS_PATH_OK 1
            let s := s.put (Reg.ACQ_AIN_STATUS x.1) F.ACQ_AIN_STATUS_LAST (ofSigned 16 v)
            s.scFeed 0 x.1 (BitVec.ofInt 16 v) t
          | none => s
        let s := forEach (idxs 16 fun u => s.uActive u && s.uClass u == 0 && s.uCfg u F.ACQ_U_CFG_SET == set) s
          fun u s => s.unitInput u t ((s.uSrcs u).map fun ch => ((codes.find? fun x => x.1 == ch).map (·.2)).getD none)
        if rest.isEmpty && (s.aSet set).stopCmd.isSome then s.setEnds set else s

/-- ACQ_PATH_GAP (R525, R753): no valid conversion word for `ns` ns. -/
def execAcqPathGap (ns : Nat) (s : State) : Out :=
  .next <|
    if ns < 1000 then s
    else
      let run := idxs 16 s.setRunning
      let s := forEach (List.range 16) s fun k s =>
        s.modASet k fun z => { z with queue := z.queue.map fun q => (q.1, q.2.map fun x => (x.1, none)) }
      let s := forEach run s fun k s => forEach (s.setChans k) s fun ch s =>
        s.put (Reg.ACQ_AIN_STATUS ch) F.ACQ_AIN_STATUS_PATH 1
      let s := s.put Reg.ACQ_STATUS F.ACQ_STATUS_PATH_OK 0
      if s.clk.ana = 1 then s else (s.setDefect dfAnalogue).postB 0x0A13 [(20, 4, ns)]

/-- A TRACK source of an analogue channel reports an error (R256, R525). -/
def State.ainError (s : State) (ch : Nat) : Bool :=
  let r := Reg.ACQ_AIN_STATUS ch
  let k := s.fld (Reg.ACQ_AIN_CFG ch) F.ACQ_AIN_CFG_SET
  s.flag r F.ACQ_AIN_STATUS_CONV_FAULT || s.flag r F.ACQ_AIN_STATUS_PATH || decide (16 ≤ k) || s.setMode' k == 0 ||
    !s.setRunning k

/-! ### Streams and probes (R526–R528) -/

/-- The latest sample of a stream channel at or before an instant (R529). -/
def State.strAt (s : State) (c : Nat) (t : W64) : Option Int :=
  ((s.aStr c).hist.find? fun x => timePast x.1 t).map (·.2)

/-- The units of class 1 whose entry 0 is stream channel `c`. -/
def State.strUnits (s : State) (c : Nat) : List Nat :=
  idxs 16 fun u => s.uActive u && s.uClass u == 1 && s.uSrc u 0 == c

/-- One instant of stream channel `c`: a sample, or a missing one. -/
def State.strSample (s : State) (c spacing : Nat) (t : W64) (x : Option Int) : State :=
  let s := match x with
    | some v => (s.modAStr c fun z => { z with hist := ((t, v) :: z.hist).take 1024 }).scFeed 1 c (BitVec.ofInt 16 v) t
    | none => s
  forEach (s.strUnits c) s fun u s =>
    let s := s.modAU u fun z => { z with gi := spacing }
    s.unitInput u t ((s.uSrcs u).zipIdx.map fun p => if p.2 = 0 then x else if p.1 = c then x else s.strAt p.1 t)

/-- A STREAM fragment of class 0 (R526, R527): channel, node, FSEQ, t_s, spacing in units, samples. -/
def State.strFragment (s : State) (c node fseq : Nat) (ts : W64) (spacing : Nat) (xs : List Int) : State :=
  let r := Reg.ACQ_STR_CFG c
  if !s.flag r F.ACQ_STR_CFG_ENABLE then s.addSat (Reg.ACQ_STR_STAT c) F.ACQ_STR_STAT_DISCARDED 1
  else if s.fld r F.ACQ_STR_CFG_NODE ≠ node then
    (s.addSat (Reg.ACQ_STR_STAT c) F.ACQ_STR_STAT_DISCARDED 1).post 0x0A14 (srcOf 2 node)
      (det [(16, 1, c), (17, 1, s.fld r F.ACQ_STR_CFG_NODE)])
  else
    let z := s.aStr c
    let s :=
      match z.fseq with
      | none => s
      | some p =>
        if (p + 1) % 256 = fseq then s
        else
          let s := (s.addSat (Reg.ACQ_STR_STAT c) F.ACQ_STR_STAT_LOST_FRAG 1).post 0x0A15 (srcOf 2 node)
            (det [(16, 1, c), (17, 1, (p + 1) % 256), (18, 1, fseq)])
          let last := match z.hist with | x :: _ => x.1 | [] => ts
          let n := if spacing = 0 then 0 else (timeDiff ts last).toNat / spacing - 1
          forEach (List.range (min n 65536)) s fun k s =>
            s.strSample c spacing (last + BitVec.ofNat 64 ((k + 1) * spacing)) none
    let s := s.modAStr c fun z => { z with fseq := some fseq }
    forEach xs.zipIdx s fun x s => s.strSample c spacing (ts + BitVec.ofNat 64 (x.2 * spacing)) (some x.1)

/-- The probe samples of cycle k (R528, R538): every active unit of class 2 takes one instant T_k. `value` gives a
probe's axis and code their sample, none when the axis is not ACTIVE. -/
def State.acqProbes (s : State) (tk : W64) (value : Nat → Nat → Option Int) : State :=
  let gone := s.role == 2
  forEach (idxs 16 fun u => s.uActive u && s.uClass u == 2) s fun u s =>
    s.unitInput u tk ((s.uSrcs u).map fun p =>
      if gone then none
      else value (s.fld (Reg.ACQ_PRB_CFG p) F.ACQ_PRB_CFG_AXIS) (s.fld (Reg.ACQ_PRB_CFG p) F.ACQ_PRB_CFG_CODE))

/-! ### Arm (R539) -/

/-- Banks [lo, hi) of a unit. -/
def State.uBanks (s : State) (u : Nat) : Nat × Nat :=
  let f := s.fld (Reg.ACQ_U_MEM u) F.ACQ_U_MEM_FIRST_BANK
  (f, f + s.fld (Reg.ACQ_U_MEM u) F.ACQ_U_MEM_BANKS)

/-- Check 3 of R539: the region lies in banks 0–251, overlaps no unit that is not IDLE, and the sum is at most 128. -/
def State.uMemOk (s : State) (u : Nat) : Bool :=
  let (lo, hi) := s.uBanks u
  let others := idxs 16 fun v => v != u && s.uState v != uIdle
  decide (lo < hi) && decide (hi ≤ 252) && others.all (fun v => decide ((s.uBanks v).2 ≤ lo ∨ hi ≤ (s.uBanks v).1)) &&
    decide ((hi - lo) + (others.map fun v => (s.uBanks v).2 - (s.uBanks v).1).foldl (· + ·) 0 ≤ 128)

/-- A source is present, valid for its class and enabled (check 1). -/
def State.srcOk (s : State) (u x : Nat) : Bool :=
  match s.uClass u with
  | 0 => decide (x < s.nAin) && s.fld (Reg.ACQ_AIN_CFG x) F.ACQ_AIN_CFG_SET == s.uCfg u F.ACQ_U_CFG_SET
  | 1 => decide (x < 64) && s.flag (Reg.ACQ_STR_CFG x) F.ACQ_STR_CFG_ENABLE
  | 2 => decide (x < 128) && s.flag (Reg.ACQ_PRB_CFG x) F.ACQ_PRB_CFG_ENABLE
  | _ => false

/-- The first failed check of R539 (0x40: POST_TOO_LARGE). -/
def State.armFails (s : State) (u : Nat) : Option Nat :=
  let n := s.uN u
  let cap := s.uCap u
  let type := s.uTrig u F.ACQ_U_TRIG_TYPE
  let out := s.uTrig u F.ACQ_U_TRIG_OUT_EN == 1
  let st := Reg.ACQ_U_STREAM u
  let log := s.fld st F.ACQ_U_STREAM_CHUNK_LOG
  if !(decide (1 ≤ n ∧ n ≤ 16) && (s.uSrcs u).all (s.srcOk u)) then some 1
  else if !(decide (s.uK u ≤ 8) && (s.uRmode u == 0 || decide (s.uClass u ≤ 1))) then some 2
  else if !(s.uMemOk u && decide (1 ≤ s.uSegs u ∧ s.uSegs u ≤ 16)) then some 3
  else if !s.uStream u && decide (cap < s.uPostN u) then some 0x40
  else if !(if s.uStream u then decide (s.uPre u < cap) && s.uSegs u == 1
            else decide (1 ≤ s.uPostN u ∧ s.uPre u + s.uPostN u ≤ cap)) then some 4
  else if !(decide (s.uTrig u F.ACQ_U_TRIG_TSRC < n)
      && (type != 3 || decide ((s.reg64 (Reg.ACQ_U_TH_A u)).toInt ≤ (s.reg64 (Reg.ACQ_U_TH_B u)).toInt))
      && (!(type == 7 || out) || s.tbOn) && (!out || s.tbMine (s.uTrig u F.ACQ_U_TRIG_OUT_LINE))) then some 5
  else if s.flag (Reg.ACQ_U_MASK u) F.ACQ_U_MASK_EN &&
      !(decide (s.fld (Reg.ACQ_U_MASK u) F.ACQ_U_MASK_MSRC < n) && decide (s.uClass u ≤ 1)
        && decide (1 ≤ s.fld (Reg.ACQ_U_MASK u) F.ACQ_U_MASK_MASK_LEN
            ∧ s.fld (Reg.ACQ_U_MASK u) F.ACQ_U_MASK_MASK_LEN ≤ 4096)) then some 6
  else if s.uStream u && !(decide (s.fld st F.ACQ_U_STREAM_LOW < s.fld st F.ACQ_U_STREAM_HIGH)
      && decide (2 ≤ log ∧ log ≤ 6) && decide (s.uFS u + 64 ≤ s.chunkSize u)) then some 7
  else none

/-- The unit may be armed: IDLE, DONE or MASKED. -/
def State.uFree (s : State) (u : Nat) : Bool := !s.uActive u

/-- The effect of arm (R536). DEDUCED: notes/assumptions/35.md. -/
def State.armUnit (s : State) (u : Nat) : State :=
  let late := timePast (s.reg64 (Reg.ACQ_U_TTIME u)) s.cell
  let z : AcqU := { fillT := s.cell, armT := s.cell, timeDone := late }
  let s := (s.modAU u fun _ => z).showLost u
  let s := { s with acq := { s.acq with order := s.acq.order.filter (· != u) } }
  let s := ((s.setReg (Reg.ACQ_U_STAT u) 0).setReg (Reg.ACQ_U_RECS u) 0).setReg (Reg.ACQ_U_DROPPED u) 0
  let s := (s.put (Reg.ACQ_U_STATE u) F.ACQ_U_STATE_SEGMENT 0).put (Reg.ACQ_U_STATE u) F.ACQ_U_STATE_DEC_LOG 0
  s.setU u (if s.uPre u = 0 then uReady else uFilling)

/-- The CAPTURE_ARM action of index `u` (R88, R536). DEDUCED: notes/assumptions/34.md. -/
def State.captureArm (s : State) (u : Nat) : State :=
  if !s.uFree u then s.postB 0x0A11 [(16, 1, u), (17, 1, 0)]
  else
    match s.armFails u with
    | some n => s.postB 0x0A11 [(16, 1, u), (17, 1, if n = 0x40 then 4 else n)]
    | none => s.armUnit u

/-! ### Rows of the units -/

/-- ACQ_TIME_TRIGGER (R533): cell time reaches `ACQ_U_TTIME` of a unit of TYPE 5. -/
def execAcqTimeTrigger (u : Nat) (s : State) : Out :=
  .next <|
    let t := s.reg64 (Reg.ACQ_U_TTIME u)
    if u < 16 ∧ s.uActive u ∧ s.uTrig u F.ACQ_U_TRIG_TYPE = 5 ∧ !(s.aU u).timeDone ∧ timePast t s.cell then
      (s.modAU u fun z => { z with timeDone := true }).trigger u t
    else s

/-- The device queues a record: units of TYPE 6 that it matches (R533). -/
def State.eventTrigger (s : State) (r : Rec) : State :=
  forEach (idxs 16 fun u =>
      let e := Reg.ACQ_U_EVENT u
      let m := s.fld e F.ACQ_U_EVENT_CODE_MASK
      s.uActive u && s.uTrig u F.ACQ_U_TRIG_TYPE == 6 && r.code &&& m == s.fld e F.ACQ_U_EVENT_CODE &&& m
        && timePast (s.aU u).fillT r.time) s fun u s => s.trigger u r.time

/-- ACQ_PRE_FILLED (R536). -/
def execAcqPreFilled (u : Nat) (s : State) : Out :=
  .next <| if u < 16 ∧ s.uState u = uFilling ∧ s.preHeld u then s.setU u uReady else s

/-- ACQ_POST_COMPLETE (R536): POST frames are held. -/
def execAcqPostComplete (u : Nat) (s : State) : Out :=
  .next <|
    if u < 16 ∧ s.uState u = uPost ∧ s.uPostN u ≤ s.uPostHeld u then
      let s := s.closeRecord u 0 0
      s.setU u (if s.uCfg u F.ACQ_U_CFG_AUTO_REARM = 1 ∧ s.uSeg u + 1 < s.uSegs u then uRearm else uDone)
    else s

/-- ACQ_REARM_END (R540): 800 ns after the last frame the next segment fills. -/
def execAcqRearmEnd (u : Nat) (s : State) : Out :=
  .next <|
    let last := (s.aU u).lastT.getD 0
    if u < 16 ∧ s.uState u = uRearm ∧ 12800 ≤ timeDiff s.cell last then
      let s := s.put (Reg.ACQ_U_STATE u) F.ACQ_U_STATE_SEGMENT (s.uSeg u + 1)
      let s := s.modAU u fun z => { z with notBefore := some (last + 12800), next := 0, frames := [], fillT := s.cell }
      s.setU u (if s.uPre u = 0 then uReady else uFilling)
    else s

/-- STREAM_CHUNK_POST (R543, R544, R624): the oldest closed chunk of the units that name `ring` goes to the buffer at
the device index, whose address and length software wrote into the entry. -/
def execStreamChunkPost (ring : Nat) (addr : W64) (len : Nat) (s : State) : Out :=
  .next <|
    match s.acq.order.find? fun u => s.fld (Reg.ACQ_U_STREAM u) F.ACQ_U_STREAM_RING == ring with
    | none => s
    | some u =>
      match (s.aU u).closed with
      | [] => s
      | (k, n, last) :: rest =>
        let size := 64 + n * s.uFS u
        let o := s.chunkAt u k
        if !s.ringOn 0 3 ring ∨ s.devIdx 0 3 ring = s.swIdx 0 3 ring ∨ !s.hostUp then s
        else
          let entry := s.ringEntry 0 3 ring + 16
          let tail (w fl : Nat) : List Byte := leBytes 4 w ++ [BitVec.ofNat 8 fl, BitVec.ofNat 8 u, 0, 0] ++ leBytes 8 s.cell.toNat
          if len < size then
            ((s.hostWrite 0 entry (tail 0 1)).ringAdvance 0 3 ring false).post 0x0118 (srcBlock 1)
              (det [(16, 1, 3), (17, 1, ring)])
          else if !s.sramReady o size then forEach (groupsOf o size) s fun g s => s.wakeGroup g
          else
            let s := s.notePoison (srcBlock 0x0A) o size
            let data := s.sramRead o size
            let s := match s.poisoned o size with
              | some _ => s.emit (.hostPoisoned 0 addr data)
              | none => s.hostWrite 0 addr data
            let s := (s.hostWrite 0 entry (tail size (if last then 2 else 0))).ringAdvance 0 3 ring false
            let s := s.modAU u fun z => { z with closed := rest }
            let i := s.acq.order.findIdx (· == u)
            let s := { s with acq := { s.acq with order := s.acq.order.eraseIdx i } }
            match (s.aU u).stopCmd with
            | some c =>
              if rest.isEmpty then ((s.modAU u fun z => { z with stopCmd := none }).setU u uDone).complete c stOK 0 else s
            | none => s

/-- DEC_RESTORE (R544): f has stayed at or below LOW % for RESTORE ms. DEDUCED: notes/assumptions/32.md. -/
def execDecRestore (u : Nat) (s : State) : Out :=
  .next <|
    if u < 16 ∧ s.uState u = uStreaming ∧ 0 < s.uDec u ∧ s.fillLe u (s.fld (Reg.ACQ_U_STREAM u) F.ACQ_U_STREAM_LOW) then
      (s.sealChunk u 0 false).setDec u (s.uDec u - 1)
    else s

/-- The lost-trigger FIFO loses its head (R537). -/
def State.popLost (s : State) (u : Nat) : State := (s.modAU u fun z => { z with lost := z.lost.drop 1 }).showLost u

/-! ### The trigger bus (R545–R551) -/

/-- `ACQ_TB_DELAY(l)`. -/
def State.tbDelay (s : State) (l : Nat) : Nat := s.fld (Reg.ACQ_TB_DELAY l) F.ACQ_TB_DELAY_DELAY
/-- A line's calibration state. -/
def State.tbLine (s : State) (l : Nat) : TbLine := tabGet (fun _ => {}) s.acq.lines l
/-- A line's calibration state set. -/
def State.setTbLine (s : State) (l : Nat) (x : TbLine) : State :=
  { s with acq := { s.acq with lines := tabSet (fun _ => {}) s.acq.lines l x } }

/-- A rejected pulse (R548): cause 1 width, 2 foreign drive. -/
def State.badPulse (s : State) (l cause : Nat) : State :=
  (s.addSat Reg.ACQ_TB_STATUS F.ACQ_TB_STATUS_PULSE_ERR 1).post 0x0A16 (srcOf 7 (s.tbOwner l))
    (det [(16, 1, l), (17, 1, cause)])

/-- This device drove the pulse received on line `l` at `t`. -/
def State.droveLine (s : State) (l : Nat) (t : W64) : Bool :=
  s.egress.any fun e => match e with
    | .busPulse m d => m == l && decide (0 ≤ timeDiff t d ∧ timeDiff t d ≤ 3200)
    | _ => false

/-- A calibration that has ended on every line ends its command with event 0x0A33 (R549). -/
def State.calCheck (s : State) : State :=
  match s.acq.calCmd with
  | none => s
  | some c =>
    if (List.range 5).all fun l => (s.tbLine l).done then
      let ok := s.fld Reg.ACQ_TB_STATUS F.ACQ_TB_STATUS_CAL_OK
      let s := { s with acq := { s.acq with calCmd := none } }
      (s.postB 0x0A33 [(16, 1, ok)]).complete c stOK ok
    else s

/-- A line's calibration fails (R549, R550). -/
def State.calFail (s : State) (l : Nat) : State :=
  ((s.setTbLine l { s.tbLine l with done := true, probe := none }).postB 0x0A17 [(16, 1, l)]).calCheck

/-- A line's delay is written (R549). DEDUCED: notes/assumptions/33.md. -/
def State.calDone (s : State) (l d : Nat) : State :=
  let s := s.setTbLine l { s.tbLine l with done := true, probe := none }
  let s := s.put (Reg.ACQ_TB_DELAY l) F.ACQ_TB_DELAY_DELAY d
  s.put Reg.ACQ_TB_STATUS F.ACQ_TB_STATUS_CAL_OK (setBit (s.fld Reg.ACQ_TB_STATUS F.ACQ_TB_STATUS_CAL_OK) l true)

/-- A value put into an ascending list. -/
def insertI (x : Int) : List Int → List Int
  | [] => [x]
  | y :: t => if x ≤ y then x :: y :: t else y :: insertI x t

/-- Four values of an ascending list of doubled d's within 32 units of each other, and their sum.
DEDUCED: notes/assumptions/33.md. -/
def fourClose : List Int → Option Int
  | a :: b :: c :: d :: t => if d - a ≤ 64 then some (a + b + c + d) else fourClose (b :: c :: d :: t)
  | _ => none

/-- An echo gives a d value (R549); `x` is 2d. -/
def State.calValue (s : State) (l : Nat) (x : Int) : State :=
  let z := s.tbLine l
  let ds := insertI x z.ds
  let s := s.setTbLine l { z with ds := ds, probe := none }
  match fourClose ds with
  | some sum =>
    let d := roundHalf sum 8
    if 0 ≤ d ∧ d ≤ 32000 then (s.calDone l d.toNat).calCheck else s.calFail l
  | none => if 8 ≤ z.rounds then s.calFail l else s

/-- TRIGGER_BUS_PULSE (R548, R549): a pulse on a line with the timestamp of its leading edge; `window` when it falls into the
line's calibration window. -/
def execTriggerBusPulse (line : Nat) (width : Nat) (t : W64) (window : Bool) (s : State) : Out :=
  .next <|
    if !s.tbOn ∨ 5 ≤ line ∨ (line = 4 ∧ !window) then s
    else if width < 50 ∨ 200 < width then s.badPulse line 1
    else if window then
      if s.tbMine line then s.tbPulse line (t + 8000)
      else
        match (s.tbLine line).probe with
        | some p => if s.acq.calCmd.isSome then s.calValue line (timeDiff t p - 8000) else s
        | none => s
    else if s.tbMine line && !s.droveLine line t then s.badPulse line 2
    else
      let tt := t - BitVec.ofNat 64 (s.tbDelay line)
      forEach (idxs 16 fun u =>
          s.uActive u && s.uTrig u F.ACQ_U_TRIG_TYPE == 7 && s.uTrig u F.ACQ_U_TRIG_BUS_LINE == line) s
        fun u s => s.trigger u tt

/-- The sync period in units. -/
def State.syncPeriod (s : State) : Nat := s.fld Reg.ACQ_TB_CFG F.ACQ_TB_CFG_SYNC_PERIOD * 16000

/-- The nearest multiple of the sync period to a time. -/
def State.nearestSync (s : State) (t : W64) : Nat :=
  let p := s.syncPeriod
  if p = 0 then 0 else (2 * t.toNat + p) / (2 * p) * p

/-- TB_CAL_PROBE (R549): slot PEER of the line's window after a sync pulse whose index is a multiple of 16.
DEDUCED: notes/assumptions/33.md. -/
def execTbCalProbe (line : Nat) (t : W64) (s : State) : Out :=
  .next <|
    match s.acq.lastSync with
    | none => s
    | some a =>
      let z := s.tbLine line
      let peer := s.fld Reg.ACQ_TB_CFG F.ACQ_TB_CFG_PEER
      let n := s.nearestSync (a - BitVec.ofNat 64 (s.tbDelay 4)) / max 1 s.syncPeriod
      if 5 ≤ line ∨ s.acq.calCmd.isNone ∨ z.done ∨ n % 16 ≠ 0 ∨ timeDiff t a ≠ ((2 + 8 * line + peer) * 16000 : Nat) then s
      else if 8 ≤ z.rounds then s.calFail line
      else (s.setTbLine line { z with rounds := z.rounds + 1, probe := some t }).tbPulse line t

/-- The sets of MODE SYNC get their start at a sync instant, in this device's cell time (R551). -/
def State.syncSets (s : State) (sn : W64) : State :=
  let t := sn + BitVec.ofNat 64 (s.fld Reg.ACQ_TB_CFG F.ACQ_TB_CFG_SYNC_LEAD * 16)
  forEach (idxs 16 fun k => s.setMode' k == 3) s fun k s =>
    if timePast t s.cell then s.setRefused k else s.modASet k fun z => { z with syncAt := some t }

/-- SYNC_PULSE_DRIVE (R547): the owner's cell time stands at a multiple of SYNC_PERIOD. DEDUCED: notes/assumptions/33.md. -/
def execSyncPulseDrive (s : State) : Out :=
  .next <|
    let p := s.syncPeriod
    if !s.tbOn ∨ !s.tbMine 4 ∨ p = 0 then s
    else
      let sn := s.cell - BitVec.ofNat 64 (s.cell.toNat % p)
      if 33 ≤ s.cell.toNat % p ∨ s.acq.lastSync = some sn then s
      else
        let s := s.emit (.syncPulse sn)
        ({ s with acq := { s.acq with lastSync := some sn } } : State).syncSets sn

/-- SYNC_PULSE_RECEIVE (R548, R551): a pulse on the sync pair with the timestamp of its leading edge. -/
def execSyncPulseReceive (width : Nat) (t : W64) (s : State) : Out :=
  .next <|
    if !s.tbOn then s
    else if width < 50 ∨ 200 < width then s.badPulse 4 1
    else if s.tbMine 4 then
      if s.egress.any (fun e => match e with
          | .syncPulse d => decide (0 ≤ timeDiff t d ∧ timeDiff t d ≤ 3200)
          | _ => false) then s
      else s.badPulse 4 2
    else
      let sn := t - BitVec.ofNat 64 (s.tbDelay 4)
      let s := s.setReg64 Reg.ACQ_TB_SYNC_ERR (BitVec.ofNat 64 (s.nearestSync sn) - sn)
      ({ s with acq := { s.acq with lastSync := some t } } : State).syncSets sn

/-- SYNC_SET_START (R551): the set's start instant has come. -/
def execSyncSetStart (set : Nat) (s : State) : Out :=
  .next <|
    match (s.aSet set).syncAt with
    | none => s
    | some t =>
      if s.setMode' set = 3 ∧ timePast t s.cell then
        if s.setRunning set then (s.setRefused set).modASet set fun z => { z with syncAt := none } else s.setStart set none
      else s

/-- `ACQ_TB_STATUS.SYNC_SEEN`: a valid sync pulse in the last two periods. -/
def State.syncSeen (s : State) : Bool :=
  match s.acq.lastSync with
  | some t => decide (timeDiff s.cell t ≤ 2 * (s.syncPeriod : Int))
  | none => false

/-! ### Commands (R554) -/

/-- The checks that every command of the block begins with. -/
def acqChecks (c : Cmd) (n : Nat) (l : List (Nat × Nat)) (addrs : List (Nat × Nat)) : List (Bool × Verdict) :=
  check1 c .pfWc addrs ++ [(!c.onlyUses l || decide (n ≤ c.b 16), .bad)]

/-- ACQ_SET_START (R523, R554). DEDUCED: notes/assumptions/34.md. -/
def execAcqSetStart (c : Cmd) (s : State) : Out :=
  let c := { c with op := 0x0A01 }
  let k := c.b 16
  let s := if firstFail (acqChecks c 16 [(16, 1)] []) = none ∧ s.setRunning k ∧ !c.accepted then s.setRefused k else s
  .next <| s.judge c
    (acqChecks c 16 [(16, 1)] [] ++
      [(s.setMode' k != 1 && s.setMode' k != 2, .reject 15 (s.setMode' k)), (s.setRunning k, .reject 15 1)])
    fun s => s.setStart k (some c)

/-- ACQ_SET_STOP (R522, R554). -/
def execAcqSetStop (c : Cmd) (s : State) : Out :=
  let c := { c with op := 0x0A02 }
  let k := c.b 16
  .next <| s.judge c
    (acqChecks c 16 [(16, 1)] [] ++ [(!s.setRunning k || (s.aSet k).stopCmd.isSome, .reject 15 0)])
    fun s =>
      let s := s.modASet k fun z => { z with stopCmd := some c }
      if (s.aSet k).queue.isEmpty then s.setEnds k else s

/-- ACQ_ARM (R536, R539, R554). DEDUCED: notes/assumptions/34.md. -/
def execAcqArm (c : Cmd) (s : State) : Out :=
  let c := { c with op := 0x0A03 }
  let u := c.b 16
  .next <| s.judge c
    (acqChecks c 16 [(16, 1)] [] ++ [(!s.uFree u, .reject 14 (s.uState u))])
    fun s =>
      match s.armFails u with
      | some n => if n = 0x40 then s.complete c 0x40 0 else s.complete c stBad n
      | none => (s.armUnit u).complete c stOK 0

/-- ACQ_STOP (R536, R544, R554). -/
def execAcqStop (c : Cmd) (s : State) : Out :=
  let c := { c with op := 0x0A04 }
  let u := c.b 16
  .next <| s.judge c
    (acqChecks c 16 [(16, 1)] [] ++ [(!s.uActive u || (s.aU u).stopCmd.isSome, .reject 14 (s.uState u))])
    fun s =>
      let st := s.uState u
      if st = uStreaming then
        let s := s.closeChunk u 0 true
        if (s.aU u).closed.isEmpty then (s.setU u uDone).complete c stOK 0
        else s.modAU u fun z => { z with stopCmd := some c }
      else
        let s := if st = uPost then s.closeRecord u 2 0 else s
        (s.setU u uDone).complete c stOK 0

/-- ACQ_FORCE (R534, R554). -/
def execAcqForce (c : Cmd) (s : State) : Out :=
  let c := { c with op := 0x0A05 }
  let u := c.b 16
  .next <| s.judge c
    (acqChecks c 16 [(16, 1)] [] ++ [(s.uState u != uFilling && s.uState u != uReady, .reject 14 (s.uState u))])
    fun s => (s.trigger u s.cell).complete c stOK 0

/-- ACQ_COPY (R541, R554): header, then the record's frames in time order. -/
def execAcqCopy (c : Cmd) (s : State) : Out :=
  let c := { c with op := 0x0A06 }
  let u := c.b 16
  let seg := c.b 17
  let a := c.u 24 8
  let len := c.u 32 4
  .next <| s.judge c
    (acqChecks c 16 [(16, 1), (17, 1), (24, 8), (32, 4)] [(a, len)] ++ [(!sramFits a len, .bad)])
    fun s =>
      match (s.aU u).recs.find? fun r => r.1 == seg with
      | none => s.complete c 0x41 0
      | some (_, p, n) =>
        let fs := s.uFS u
        if len < 64 + n * fs then s.complete c stBad 0
        else
          let n1 := min n (s.uCap u - p)
          s.withData c (s.uBase u + 64 * seg) 64 .fail fun hdr s =>
            s.withData c (s.uPlace u seg p) (n1 * fs) .fail fun d1 s =>
              s.withData c (s.uPlace u seg 0) ((n - n1) * fs) .fail fun d2 s =>
                s.withRoom c a (hdr ++ d1 ++ d2) fun s => s.complete c stOK 0

/-- ACQ_TB_CAL (R549, R554): lines this device owns get delay 0 at once. -/
def execAcqTbCal (c : Cmd) (s : State) : Out :=
  let c := { c with op := 0x0A07 }
  .next <| s.judge c
    (check1 c .pfWc [] ++
      [ (!c.onlyUses [], .bad), (s.acq.calCmd.isSome, .reject 255 1), (!s.tbOn, .reject 255 0),
        (!s.syncSeen, .reject 255 0) ])
    fun s =>
      let s := { s with acq := { s.acq with calCmd := some c, lines := [] } }
      let s := s.put Reg.ACQ_TB_STATUS F.ACQ_TB_STATUS_CAL_OK 0
      (forEach (idxs 5 s.tbMine) s fun l s => s.calDone l 0).calCheck

/-! ### Register writes (R552) -/

/-- A unit that is active names a source of a class. -/
def State.srcInUse (s : State) (cls x : Nat) : Bool :=
  (List.range 16).any fun u => s.uActive u && s.uClass u == cls && (s.uSrcs u).contains x

/-- A write to a register of the block that R552 refuses. -/
def State.acqGuard (s : State) (o : Nat) : Bool :=
  let r := o - 0xA00000
  if 0x1000 ≤ r ∧ r < 0x2000 then s.uActive ((r - 0x1000) / 0x100)
  else if 0x400 ≤ r ∧ r < 0x500 ∧ r % 16 < 8 then s.setRunning ((r - 0x400) / 16)
  else if 0x100 ≤ r ∧ r < 0x1C0 then
    let k := s.fld o F.ACQ_AIN_CFG_SET
    decide (k < 16) && s.setRunning k
  else if 0x600 ≤ r ∧ r < 0x700 then s.srcInUse 1 ((r - 0x600) / 4)
  else if 0x800 ≤ r ∧ r < 0xA00 then s.srcInUse 2 ((r - 0x800) / 4)
  else if r = 0x10 ∨ r = 0x18 then
    s.acq.calCmd.isSome || (List.range 16).any (fun k => s.setMode' k == 3 && s.setRunning k) ||
      (List.range 16).any fun u => s.uActive u && (s.uTrig u F.ACQ_U_TRIG_TYPE == 7 || s.uTrig u F.ACQ_U_TRIG_OUT_EN == 1)
  else if 0x80000 ≤ r then
    let m := (r - 0x80000) / 0x8000
    (List.range 16).any fun u => s.uActive u && s.flag (Reg.ACQ_U_MASK u) F.ACQ_U_MASK_EN
      && s.fld (Reg.ACQ_U_MASK u) F.ACQ_U_MASK_TABLE == m
  else false

end Sys2Proof.Machine
end

