-- ==== Sys2Proof/Machine/Memory.lean ====
section
/-!
DEFINITION. Block 0x0D, shared SRAM: host accesses through BAR4 (R601, R602, R648), the scrubber (R677), bank groups
(R678–R680), the secure partition's wipe (R682).
-/
namespace Sys2Proof.Machine

/-! ### BAR4 -/

/-- What a BAR4 offset names (R601). -/
inductive Bar4 where
  | sram (o : Nat)
  | iram (c o : Nat)
  | dram (c o : Nat)
  | refused
  deriving DecidableEq, Repr

/-- The row of R601's table that holds a BAR4 offset. -/
def bar4 (o : Nat) : Bar4 :=
  if o < secureBase then .sram o
  else if o < sramSize then .refused
  else if o < 0x4400000 then
    let c := (o - 0x4000000) / 0x40000
    let x := (o - 0x4000000) % 0x40000
    if x < 0x20000 then .iram c x else .dram c (x - 0x20000)
  else .refused

/-- The refusal of a BAR4 access (R601). -/
def State.bar4Refuse (s : State) (o : Nat) : State := s.post 0x0116 (srcOf 3 0) (det [(24, 8, o)])

/-- A BAR4 read of shared SRAM whose groups are ON: an uncorrectable word makes the completion poisoned (R602). -/
def State.sramHostRead (s : State) (o n : Nat) (errs : List (Nat × Bool)) : State :=
  let s := s.foundErrors (srcOf 3 0) errs
  let bad := s.poisoned o n
  let s := match bad with
    | some w =>
      let s := if errs.any fun e => e.2 && wordOf e.1 == w then s else s.uncorrectable (srcOf 3 0) w
      s.post 0x0117 (srcOf 3 0) (det [(24, 8, w)])
    | none => s
  s.emit (.readData .pf o (s.sramRead o n) bad.isSome)

/-- The words of a range that a write covers in part only. -/
def partWords (o n : Nat) : List Nat := (wordsOf o n).filter fun w => !(decide (o ≤ w) && decide (w + 8 ≤ o + n))

/-- The octets of a write that fall into word `w`, with their first offset. -/
def wordPart (o : Nat) (data : List Byte) (w : Nat) : Nat × List Byte :=
  let lo := max o w
  let hi := min (o + data.length) (w + 8)
  (lo, slice data (lo - o) (hi - lo))

/-- A BAR4 write of shared SRAM whose groups are ON: a partial write to a poisoned word is discarded (R602). -/
def State.sramHostWrite (s : State) (o : Nat) (data : List Byte) : State :=
  forEach (wordsOf o data.length) s fun w s =>
    let (lo, x) := wordPart o data w
    if (partWords o data.length).contains w && s.mem.poison.contains w then
      (s.uncorrectable (srcOf 3 0) w).post 0x0117 (srcOf 3 0) (det [(24, 8, w)])
    else s.sramWrite lo x

/-- BAR4_READ: `errs` are the errors that the read finds in the array (word offset, uncorrectable). -/
def execBar4Read (off len : Nat) (errs : List (Nat × Bool)) (s : State) : Out :=
  .next <|
    match bar4 off with
    | .sram o =>
      if s.sramReady o len then s.sramHostRead o len errs else s.sramWait o len (.read .pf o len)
    | .iram c o => s.emit (.readData .pf off (memRead (s.core c).iram o len) false)
    | .dram c o => s.emit (.readData .pf off (memRead (s.core c).dram o len) false)
    | .refused => (s.bar4Refuse off).emit (.readData .pf off (List.replicate len 0) false)

/-- A core's local memory may be written through BAR4 (R648). -/
def State.coreWritable (s : State) (c : Nat) : Bool :=
  s.coreState c == kOff || s.coreState c == kOffline || s.coreState c == kFaulted

/-- BAR4_WRITE. -/
def execBar4Write (off : Nat) (data : List Byte) (s : State) : Out :=
  .next <|
    match bar4 off with
    | .sram o =>
      if s.sramReady o data.length then s.sramHostWrite o data
      else s.sramWait o data.length (.write .pf o data)
    | .iram c o =>
      if s.coreWritable c && decide (s.mode ≤ mConfig) then s.modCore c fun z => { z with iram := memWrite z.iram o data }
      else s.bar4Refuse off
    | .dram c o =>
      if s.coreWritable c then s.modCore c fun z => { z with dram := memWrite z.dram o data } else s.bar4Refuse off
    | .refused => s.bar4Refuse off

/-! ### ECC -/

/-- SCRUB_READ: the scrubber reads one word of every ON bank (R677); `errs` are the errors found (bank, uncorrectable).
A word that is poisoned already is found again. -/
def execScrubRead (errs : List (Nat × Bool)) (s : State) : Out :=
  let p := s.mem.scrubPos
  let banks := idxs 256 fun b => s.groupState (b / 16) == gOn
  let word (b : Nat) : Nat := b * 0x40000 + p * 8
  .next <|
    let s := forEach banks s fun b s =>
      let found := errs.find? fun e => e.1 == b
      if s.mem.poison.contains (word b) || found.any (·.2) then s.uncorrectable (srcBlock 0x0D) (word b)
      else if found.isSome then s.addSat Reg.MEM_ECC F.MEM_ECC_CORR 1 else s
    let s := { s with mem := { s.mem with scrubPos := if p = 0x7FFF then 0 else p + 1 } }
    if p = 0x7FFF then s.addWrap Reg.MEM_STATUS F.MEM_STATUS_SWEEPS else s

/-! ### Bank groups -/

/-- A capture unit outside IDLE, DONE and MASKED holds a bank of group `g` (R532, R680). -/
def State.captureIn (s : State) (g : Nat) : Bool :=
  (List.range 16).any fun u =>
    let st := s.fld (Reg.ACQ_U_STATE u) F.ACQ_U_STATE_STATE
    let b := s.fld (Reg.ACQ_U_MEM u) F.ACQ_U_MEM_FIRST_BANK
    let n := s.fld (Reg.ACQ_U_MEM u) F.ACQ_U_MEM_BANKS
    st != 0 && st != 6 && st != 7 && decide (b < 16 * g + 16) && decide (16 * g < b + n)

/-- A staging or load command that has not completed uses a bank of group `g` (R680). -/
def State.loadIn (s : State) (g : Nat) : Bool :=
  s.mem.waiting.any fun a => match a with
    | .cmd _ o n => (groupsOf o n).contains g
    | _ => false

/-- The state that MEM_GROUP_SET's parameter names. -/
def setTarget : Nat → Nat
  | 0 => gOn
  | 1 => gRetention
  | _ => gOff

/-- Group `g` cannot go to RETENTION or OFF now (R678, R680): some user of R680 holds it, or R678 has no such change from
its state. -/
def State.groupBusy (s : State) (g goal : Nat) : Bool :=
  let st := s.groupState g
  s.captureIn g || s.loadIn g || (s.mode == mBoot && decide (188 < 16 * g + 16) && decide (16 * g ≤ 251)) ||
    (if goal = gRetention then st != gOn && st != gRetention else st != gOn && st != gRetention && st != gOff)

/-- MEM_GROUP_SET (R678, R680, R697). -/
def execMemGroupSet (c : Cmd) (s : State) : Out :=
  let c := { c with op := 0x0D01 }
  let g := c.b 16
  let goal := setTarget (c.b 17)
  .next <| s.judge c
    (check1 c .pfWc [] ++
     [ (!c.onlyUses [(16, 1), (17, 1)] || decide (15 ≤ g) || decide (2 < c.b 17), .bad),
       (goal != gOn && s.groupBusy g goal, .reject 20 (s.groupState g)) ])
    fun s =>
      if goal = gOn then
        if s.groupState g = gOn then s.complete c stOK 0
        else
          let s := s.wakeGroup g
          { s with mem := { s.mem with setCmds := s.mem.setCmds ++ [c] } }
      else
        let s := if goal = gOff ∧ s.groupState g ≠ gOff then s.clearGroup g else s
        (s.setGroup g goal).complete c stOK 0

/-- A group has reached ON: MEM_GROUP_SET ON of it completes (R679). -/
def State.groupOn (s : State) (g : Nat) : State :=
  let s := s.setGroup g gOn
  let cs := s.mem.setCmds.filter fun c => c.b 16 == g
  let s := { s with mem := { s.mem with setCmds := s.mem.setCmds.filter fun c => c.b 16 != g } }
  forEach cs s fun c s => s.complete c stOK 0

/-- RETENTION_LOST: the retention monitor reports group `g` (R678). -/
def execRetentionLost (g : Nat) (s : State) : Out :=
  .next <|
    if s.groupState g = gRetention then
      ((s.clearGroup g).setGroup g gLost).postB 0x0D12 [(16, 1, g)]
    else s

/-! ### The wipe (R682) -/

/-- A wipe begins for a trigger (1 tamper, 2 life cycle). -/
def State.startWipe (s : State) (why : Nat) : State :=
  let s := s.abortAll 2
  let s := s.put Reg.MEM_SEC F.MEM_SEC_WIPING 1
  { s with mem := { s.mem with wipes := s.mem.wipes ++ [why] } }

/-- The secure partition reads 0 without error. -/
def State.clearSecure (s : State) : State :=
  { s with mem := { s.mem with
      sram := tabClear secureBase sramSize s.mem.sram
      poison := s.mem.poison.filter fun w => decide (w < secureBase) } }

/-- A tamper of a cause (1 TAMPER_N, 2 supply glitch, 3 clock): foul 0x0D17, `MEM_SEC.TAMPER`, a wipe. -/
def State.tamper (s : State) (cause : Nat) : State :=
  ((s.postB 0x0D17 [(16, 1, cause)]).put Reg.MEM_SEC F.MEM_SEC_TAMPER 1).startWipe 1

/-- TAMPER_INPUT. -/
def execTamperInput (cause : Nat) (s : State) : Out := .next (s.tamper cause)

/-- A wipe is complete: event 0x0D33; after a life-cycle change LC_ADVANCE completes and its reset is due (R684). -/
def State.wipeDone (s : State) : State :=
  match s.mem.wipes with
  | [] => s
  | why :: rest =>
    let s := s.clearSecure
    let s := { s with mem := { s.mem with wipes := rest } }
    let s := (s.put Reg.MEM_SEC F.MEM_SEC_WIPING (b2n (!rest.isEmpty))).put Reg.MEM_SEC F.MEM_SEC_WIPED 1
    let s := s.postB 0x0D33 [(17, 1, why)]
    if why = 2 then
      let s := match s.mem.lcCmd with
        | some c => s.complete c stOK 0
        | none => s
      { s with mem := { s.mem with lcCmd := none, lcResetDue := true } }
    else s

/-- WIPE_COMPLETE. -/
def execWipeComplete (s : State) : Out := .next s.wipeDone

end Sys2Proof.Machine
end

