-- ==== Sys2Proof/Machine/DMath.lean ====
section
/-!
DEFINITION. binary64 arithmetic of the planner, the optimiser and the separation monitor: vectors, transforms, the forward
kinematics of R231 and R232, and profiles of piecewise constant jerk. A binary64 datum is its 64-bit pattern.
The spec gives formulas, not the order of their operations: DESIGN CHOICE, notes/assumptions/60.md.
-/
namespace Sys2Proof.Machine

/-! ### Scalars and vectors -/

/-- 1 -/ def d1 : Nat := 0x3FF0000000000000
/-- 2 -/ def d2 : Nat := 0x4000000000000000
/-- 1/2 -/ def dHalf : Nat := 0x3FE0000000000000
/-- +∞ -/ def dInf : Nat := 0x7FF0000000000000
/-- The square. -/ def dSq (a : Nat) : Nat := dMul a a
/-- a² b. -/ def dCube (a : Nat) : Nat := dMul a (dMul a a)
/-- a < 0. -/ def dNegative (a : Nat) : Bool := dLt a 0
/-- Sum of a list, from the first element on. -/ def dSum (l : List Nat) : Nat := l.foldl dAdd 0
/-- Inner product. -/ def dDot (a b : List Nat) : Nat := dSum (List.zipWith dMul a b)
/-- Sum of vectors. -/ def vAdd (a b : List Nat) : List Nat := List.zipWith dAdd a b
/-- Difference of vectors. -/ def vSub (a b : List Nat) : List Nat := List.zipWith dSub a b
/-- A multiple of a vector. -/ def vScale (k : Nat) (a : List Nat) : List Nat := a.map (dMul k)
/-- Length of a vector. -/ def vNorm (a : List Nat) : Nat := dSqrt (dDot a a)
/-- Largest magnitude of a vector. -/ def vMaxAbs (a : List Nat) : Nat := a.foldl (fun m x => dMax m (dAbs x)) 0
/-- Clamped to ± m. -/ def dClamp (m x : Nat) : Nat := dMax (dNeg m) (dMin m x)
/-- Element `i`, 0 beyond the end. -/ def nth (l : List Nat) (i : Nat) : Nat := l.getD i 0
/-- Zero vector. -/ def zeros (n : Nat) : List Nat := List.replicate n 0
/-- The vector product. -/
def cross (a b : List Nat) : List Nat :=
  [dSub (dMul (nth a 1) (nth b 2)) (dMul (nth a 2) (nth b 1)),
   dSub (dMul (nth a 2) (nth b 0)) (dMul (nth a 0) (nth b 2)),
   dSub (dMul (nth a 0) (nth b 1)) (dMul (nth a 1) (nth b 0))]
/-- The binary64 field at an offset of a record. -/
def f64At (l : List Byte) (o : Nat) : Nat := leAt l o 8
/-- `n` binary64 fields at an offset. -/
def f64s (l : List Byte) (o n : Nat) : List Nat := (List.range n).map fun i => f64At l (o + 8 * i)
/-- A binary64 value as binary32, to nearest even (R274). -/
def to32 (a : Nat) : Word := BitVec.ofNat 32 (f64.conv f32 0 a).1
/-- A binary32 register value as binary64. -/
def of32 (w : Word) : Nat := (f32.conv f64 0 w.toNat).1
/-- Two binary64 values lie within `t` of each other. -/
def dNear (t a b : Nat) : Bool := dLe (dAbs (dSub a b)) t
/-- 10^-9 -/ def dNano : Nat := dRatio 1 1000000000
/-- Positive and finite. -/ def dPos (a : Nat) : Bool := dFinite a && dLt 0 a
/-- Finite and not negative. -/ def dNonneg (a : Nat) : Bool := dFinite a && dLe 0 a

/-! ### Transforms: 12 values, row by row (R228) -/

/-- Entry (i, j) of a 3 × 4 transform. -/
def tfAt (t : List Nat) (i j : Nat) : Nat := nth t (4 * i + j)
/-- Row `i` of the rotation. -/
def tfRow (t : List Nat) (i : Nat) : List Nat := [tfAt t i 0, tfAt t i 1, tfAt t i 2]
/-- The rotation applied to a vector. -/
def tfRot (t v : List Nat) : List Nat := [dDot (tfRow t 0) v, dDot (tfRow t 1) v, dDot (tfRow t 2) v]
/-- The translation. -/
def tfPos (t : List Nat) : List Nat := [tfAt t 0 3, tfAt t 1 3, tfAt t 2 3]
/-- A transform from its rotation's rows and its translation. -/
def tfMk (r : List (List Nat)) (p : List Nat) : List Nat :=
  (List.range 3).flatMap fun i => [nth (r.getD i []) 0, nth (r.getD i []) 1, nth (r.getD i []) 2, nth p i]
/-- A point transformed. -/
def tfPoint (t p : List Nat) : List Nat := vAdd (tfRot t p) (tfPos t)
/-- Product of transforms. -/
def tfMul (a b : List Nat) : List Nat :=
  tfMk ((List.range 3).map fun i => (List.range 3).map fun j => dDot (tfRow a i) [tfAt b 0 j, tfAt b 1 j, tfAt b 2 j])
    (tfPoint a (tfPos b))
/-- The rotation's transpose applied to a vector. -/
def tfRotT (t v : List Nat) : List Nat :=
  (List.range 3).map fun j => dDot [tfAt t 0 j, tfAt t 1 j, tfAt t 2 j] v
/-- The identity. -/
def tfId : List Nat := [d1, 0, 0, 0, 0, d1, 0, 0, 0, 0, d1, 0]

/-- e^[S]θ for a screw (ω, V) (R231): a rotation about ω, or with ω = 0 a shift along V. -/
def screwExp (w v : List Nat) (th : Nat) : List Nat :=
  if w.all fun x => dEq x 0 then tfMk [[d1, 0, 0], [0, d1, 0], [0, 0, d1]] (vScale th v)
  else
    let s := Config.sin64 th
    let c := dSub d1 (Config.cos64 th)
    let k : List (List Nat) := [[0, dNeg (nth w 2), nth w 1], [nth w 2, 0, dNeg (nth w 0)], [dNeg (nth w 1), nth w 0, 0]]
    let rot := (List.range 3).map fun i => (List.range 3).map fun j =>
      let k2 := dDot (k.getD i []) [nth (k.getD 0 []) j, nth (k.getD 1 []) j, nth (k.getD 2 []) j]
      dAdd (dAdd (if i = j then d1 else 0) (dMul s (nth (k.getD i []) j))) (dMul c k2)
    let wv := cross w v
    let p := vAdd (vSub wv (rot.map fun r => dDot r wv)) (vScale (dMul (dDot w v) th) w)
    tfMk rot p

/-- Unit quaternion w, x, y, z of a rotation. -/
def tfQuat (t : List Nat) : List Nat :=
  let m := tfAt t
  let q (a b c d : Nat) : List Nat := [a, b, c, d]
  let root (x : Nat) : Nat := dMul d2 (dSqrt (dAdd d1 x))
  let tr := dAdd (dAdd (m 0 0) (m 1 1)) (m 2 2)
  if dLt 0 tr then
    let s := root tr
    q (dDiv s 0x4010000000000000) (dDiv (dSub (m 2 1) (m 1 2)) s) (dDiv (dSub (m 0 2) (m 2 0)) s) (dDiv (dSub (m 1 0) (m 0 1)) s)
  else if dLe (m 1 1) (m 0 0) && dLe (m 2 2) (m 0 0) then
    let s := root (dSub (dSub (m 0 0) (m 1 1)) (m 2 2))
    q (dDiv (dSub (m 2 1) (m 1 2)) s) (dDiv s 0x4010000000000000) (dDiv (dAdd (m 0 1) (m 1 0)) s) (dDiv (dAdd (m 0 2) (m 2 0)) s)
  else if dLe (m 2 2) (m 1 1) then
    let s := root (dSub (dSub (m 1 1) (m 0 0)) (m 2 2))
    q (dDiv (dSub (m 0 2) (m 2 0)) s) (dDiv (dAdd (m 0 1) (m 1 0)) s) (dDiv s 0x4010000000000000) (dDiv (dAdd (m 1 2) (m 2 1)) s)
  else
    let s := root (dSub (dSub (m 2 2) (m 0 0)) (m 1 1))
    q (dDiv (dSub (m 1 0) (m 0 1)) s) (dDiv (dAdd (m 0 2) (m 2 0)) s) (dDiv (dAdd (m 1 2) (m 2 1)) s) (dDiv s 0x4010000000000000)

/-- Product of quaternions. -/
def qMul (a b : List Nat) : List Nat :=
  let v := vAdd (vAdd (vScale (nth a 0) (b.drop 1)) (vScale (nth b 0) (a.drop 1))) (cross (a.drop 1) (b.drop 1))
  dSub (dMul (nth a 0) (nth b 0)) (dDot (a.drop 1) (b.drop 1)) :: v
/-- Conjugate. -/
def qConj (a : List Nat) : List Nat := nth a 0 :: (a.drop 1).map dNeg
/-- The shorter of the two equal rotations ± a: a with w ≥ 0. -/
def qPos (a : List Nat) : List Nat := if dNegative (nth a 0) then a.map dNeg else a
/-- The angle of a rotation between two orientations. -/
def qAngle (a b : List Nat) : Nat := dMul d2 (Config.acos64 (dMin d1 (dAbs (dDot a b))))
/-- The rotation vector in the cell frame from orientation `a` to `b`. -/
def rotVec (a b : List Nat) : List Nat :=
  let d := qPos (qMul b (qConj a))
  let n := vNorm (d.drop 1)
  if dEq n 0 then zeros 3 else vScale (dDiv (dMul d2 (Config.acos64 (dMin d1 (nth d 0)))) n) (d.drop 1)
/-- Spherical interpolation (R292). -/
def slerp (a b : List Nat) (u : Nat) : List Nat :=
  let b := if dNegative (dDot a b) then b.map dNeg else b
  let th := Config.acos64 (dMin d1 (dDot a b))
  let s := Config.sin64 th
  if dEq s 0 then a
  else vAdd (vScale (dDiv (Config.sin64 (dMul (dSub d1 u) th)) s) a) (vScale (dDiv (Config.sin64 (dMul u th)) s) b)

/-! ### Forward kinematics (R231, R232) -/

/-- Frames of the joints of a chain: BASE · e^[S_0]q_0 … e^[S_j]q_j. DESIGN CHOICE: notes/assumptions/60.md. -/
def chain (base : List Nat) : List (List Nat × List Nat) → List Nat → List (List Nat)
  | (w, v) :: t, q :: qs => let f := tfMul base (screwExp w v q); f :: chain f t qs
  | _, _ => []

/-- u_i of R232 in the base frame. -/
def deltaDir (i : Nat) : List Nat :=
  let h := dMul dHalf (dSqrt 0x4008000000000000)
  match i with
  | 0 => [d1, 0, 0]
  | 1 => [dNeg dHalf, h, 0]
  | _ => [dNeg dHalf, dNeg h, 0]

/-- The elbow point E_i (R232): `d` = BASE_RADIUS, EFF_RADIUS, UPPER_LEN, FORE_LEN. -/
def deltaElbow (d : List Nat) (i th : Nat) : List Nat :=
  vAdd (vScale (dAdd (nth d 0) (dMul (nth d 2) (Config.cos64 th))) (deltaDir i)) [0, 0, dNeg (dMul (nth d 2) (Config.sin64 th))]

/-- The effector centre of R232: of the two points at distance FORE_LEN from the three centres E_i − EFF_RADIUS u_i the one
with the smaller z; none when there is no such point. -/
def deltaCentre (d : List Nat) (q : List Nat) : Option (List Nat) :=
  let c (i : Nat) : List Nat := vSub (deltaElbow d i (nth q i)) (vScale (nth d 1) (deltaDir i))
  let e1 := vSub (c 1) (c 0)
  let e2 := vSub (c 2) (c 0)
  let n := cross e1 e2
  let nn := dDot n n
  let r := vScale (dDiv d1 (dMul d2 nn)) (vSub (vScale (dDot e1 e1) (cross e2 n)) (vScale (dDot e2 e2) (cross e1 n)))
  let h2 := dDiv (dSub (dSq (nth d 3)) (dDot r r)) nn
  if !dFinite h2 || dNegative h2 then none
  else
    let m := vAdd (c 0) r
    let a := vAdd m (vScale (dSqrt h2) n)
    let b := vSub m (vScale (dSqrt h2) n)
    some (if dLe (nth a 2) (nth b 2) then a else b)

/-- Translation by `p` and rotation by an angle about z. -/
def tfZ (p : List Nat) (th : Nat) : List Nat :=
  let s := Config.sin64 th
  let c := Config.cos64 th
  tfMk [[c, dNeg s, 0], [s, c, 0], [0, 0, d1]] p

/-! ### Profiles -/

/-- A point of a one-dimensional motion: position, velocity, acceleration. -/
abbrev Pva := Nat × Nat × Nat

/-- The motion after `t` seconds of constant jerk `j`. -/
def jerkStep (x : Pva) (j t : Nat) : Pva :=
  let (p, v, a) := x
  (dAdd p (dAdd (dMul v t) (dAdd (dMul dHalf (dMul a (dSq t))) (dDiv (dMul j (dCube t)) (dOfInt 6)))),
   dAdd v (dAdd (dMul a t) (dMul dHalf (dMul j (dSq t)))),
   dAdd a (dMul j t))

/-- A profile at time `t`: segments of (jerk, duration); after the last the motion stands at its end. -/
def profAt (x : Pva) : List (Nat × Nat) → Nat → Pva
  | [], _ => (x.1, 0, 0)
  | (j, d) :: r, t => if dLt t d then jerkStep x j t else profAt (jerkStep x j d) r (dSub t d)

/-- Duration of a profile. -/
def profLen (l : List (Nat × Nat)) : Nat := dSum (l.map (·.2))

/-- A profile at time `t` that, where it reaches its target, stands there from its end on. -/
def profPoint (x : Pva) (target : Nat) (l : List (Nat × Nat)) (reach : Bool) (t : Nat) : Pva :=
  if reach && dLe (profLen l) t then (target, 0, 0) else profAt x l t

/-- The 7-segment profile from rest of R242 for distance `d` and limits `v`, `a`, `j`. -/
def restProfile (d v a j : Nat) : List (Nat × Nat) :=
  let aj := dDiv a j
  let va := dDiv v a
  let a2j := dDiv (dSq a) j
  let sv := dSqrt (dDiv v j)
  let (tj, ta, tv) : Nat × Nat × Nat :=
    if dLe a2j v && dLe (dMul v (dAdd va aj)) d then (aj, dSub va aj, dSub (dDiv d v) (dAdd va aj))
    else if dLt v a2j && dLe (dMul d2 (dMul v sv)) d then (sv, 0, dSub (dDiv d v) (dMul d2 sv))
    else if dLe (dMul d2 (dDiv (dCube a) (dSq j))) d then
      let vp := dMul dHalf (dAdd (dNeg a2j) (dSqrt (dAdd (dSq a2j) (dMul 0x4010000000000000 (dMul a d)))))
      (aj, dSub (dDiv vp a) aj, 0)
    else (Config.cbrt64 (dDiv d (dMul d2 j)), 0, 0)
  [(j, tj), (0, ta), (dNeg j, tj), (0, tv), (dNeg j, tj), (0, ta), (j, tj)]

/-! ### Time-optimal profiles (R243) -/

/-- The mirror image of a motion. -/
def pvaNeg (x : Pva) : Pva := (dNeg x.1, dNeg x.2.1, dNeg x.2.2)
/-- The mirror image of a profile. -/
def profNeg (l : List (Nat × Nat)) : List (Nat × Nat) := l.map fun e => (dNeg e.1, e.2)
/-- The motion at the end of a profile. -/
def profEnd (x : Pva) (l : List (Nat × Nat)) : Pva := l.foldl (fun x e => jerkStep x e.1 e.2) x
/-- The first `t` seconds of a profile. -/
def profTake : List (Nat × Nat) → Nat → List (Nat × Nat)
  | [], _ => []
  | (j, d) :: r, t => if dLt t d then [(j, t)] else (j, d) :: profTake r (dSub t d)

/-- From acceleration `a` to 0 with a velocity gain of `dv`, no less than what nulling `a` alone gives, as fast as limits `A` and `J`
allow: jerk up, an acceleration held at `A`, jerk down; an acceleration above `A` is first brought down to it. -/
def velUp (a dv A J : Nat) : List (Nat × Nat) :=
  let ap := dSqrt (dMax 0 (dAdd (dMul J dv) (dMul dHalf (dSq a))))
  let held (g : Nat) : Nat := dMax 0 (dDiv (dSub (dSub dv g) (dDiv (dSq A) (dMul d2 J))) A)
  if dLt A a then
    [(dNeg J, dDiv (dSub a A) J), (0, held (dDiv (dSub (dSq a) (dSq A)) (dMul d2 J))), (dNeg J, dDiv A J)]
  else if dLe ap A then [(J, dDiv (dMax 0 (dSub ap a)) J), (dNeg J, dDiv ap J)]
  else [(J, dDiv (dSub A a) J), (0, held (dDiv (dSub (dSq A) (dSq a)) (dMul d2 J))), (dNeg J, dDiv A J)]

/-- The fastest change to velocity `w` with acceleration 0. -/
def velTo (x : Pva) (w A J : Nat) : List (Nat × Nat) :=
  let (_, v, a) := x
  let gain := dDiv (dMul a (dAbs a)) (dMul d2 J)
  let dv := dSub w v
  if dLe gain dv then velUp a dv A J else profNeg (velUp (dNeg a) (dNeg dv) A J)

/-- The position at which the motion comes to rest when it stops as fast as it can. -/
def stopPos (x : Pva) (A J : Nat) : Nat := (profEnd x (velTo x 0 A J)).1

/-- The last time in [`lo`, `hi`] from which a stop still does not pass `target`, by `n` halvings, for a motion that first follows `l`. -/
def stopFrom (x : Pva) (l : List (Nat × Nat)) (target A J : Nat) : Nat → Nat → Nat → Nat
  | 0, lo, _ => lo
  | n + 1, lo, hi =>
    let m := dMul dHalf (dAdd lo hi)
    if dLe (stopPos (profEnd x (profTake l m)) A J) target then stopFrom x l target A J n m hi
    else stopFrom x l target A J n lo m

/-- The time-optimal profile to rest at a `target` not short of where a stop ends: toward velocity `V` as fast as possible, at `V`, and
a stop; when the way is shorter than that, the stop begins on the way to `V`. -/
def timeUp (x : Pva) (target V A J : Nat) : List (Nat × Nat) :=
  let l := velTo x V A J
  let y := profEnd x l
  let e := stopPos y A J
  if dLe e target then
    if dEq V 0 then l else l ++ [(0, dDiv (dSub target e) V)] ++ velTo y 0 A J
  else
    let l := profTake l (stopFrom x l target A J 128 0 (profLen l))
    l ++ velTo (profEnd x l) 0 A J

/-- The time-optimal profile of R243 from a motion to rest at `target` under limits V, A and J, of jerk +J, 0 or −J: DESIGN CHOICE for the
order of operations and the halvings, notes/assumptions/60.md. -/
def timeOptimal (x : Pva) (target V A J : Nat) : List (Nat × Nat) :=
  if dLe (stopPos x A J) target then timeUp x target V A J
  else profNeg (timeUp (pvaNeg x) (dNeg target) V A J)

/-- The largest velocity limit below `hi` at which the time-optimal profile lasts at least `T`, by `n` halvings. -/
def slowLimit (x : Pva) (target A J T : Nat) : Nat → Nat → Nat → Nat
  | 0, lo, _ => lo
  | n + 1, lo, hi =>
    let m := dMul dHalf (dAdd lo hi)
    if dLe T (profLen (timeOptimal x target m A J)) then slowLimit x target A J T n m hi else slowLimit x target A J T n lo m

/-- The profile under a velocity limit below V that lasts `T` to within `P` (R244), none when no limit gives that. Which of the limits that
serve is taken is open: a free value where it serves. DESIGN CHOICE: notes/assumptions/60.md. -/
def slowed (x : Pva) (target V A J T P : Nat) : Option (List (Nat × Nat)) :=
  let ok (w : Nat) : Bool := dLt 0 w && dLe w V && dNear P (profLen (timeOptimal x target w A J)) T
  let f := Config.slowPick [x.1, x.2.1, x.2.2, target, V, A, J, T]
  let w := slowLimit x target A J T 128 0 V
  if ok f then some (timeOptimal x target f A J) else if ok w then some (timeOptimal x target w A J) else none

end Sys2Proof.Machine
end

