-- ==== Sys2Proof/Machine/Time.lean ====
section
/-!
DEFINITION. Block 0x02, the time base: views, slew and step (R66–R76), plant-time discipline (R77–R82), scheduled
actions (R87–R97) and the commands of R105. What an action's target does stands with the target.
-/
namespace Sys2Proof.Machine

/-! ### Views -/

/-- The view 0 (cell time) or 1 (plant time). -/
def State.view (s : State) (w : Nat) : View := if w = 0 then s.time.cell else s.time.plant
/-- Sets a view. -/
def State.setView (s : State) (w : Nat) (v : View) : State :=
  if w = 0 then { s with time := { s.time with cell := v } } else { s with time := { s.time with plant := v } }
/-- The time of a view now. -/
def State.viewNow (s : State) (w : Nat) : W64 := viewAt (s.view w) s.u

/-- `TB_STATUS.CELL_OWNER`: the twin block sets cell time while the role is STANDBY or REJOINING (R73). -/
def State.cellOwner (s : State) : Nat := if 2 ≤ s.role then 1 else 0

/-- δ of R74: round(s × 32 × 10^-6 × 2^24) units of 2^-24 for a slew rate in ppm. -/
def slewStep (ppm : Nat) : Nat := (roundAway (ppm * 32 * 2 ^ 24 : Nat) 1000000).toNat

/-- The slew rate of a view, ppm (R99); of cell time under the twin block up to 500 (R708). -/
def State.slewPpm (s : State) (w : Nat) : Nat :=
  if w = 0 ∧ 2 ≤ s.role then 500
  else s.fld Reg.TB_CTRL (if w = 0 then F.TB_CTRL_CELL_SLEW else F.TB_CTRL_PLANT_SLEW)

/-- One TCLK tick of a slew: O moves toward the correction by δ, the last step taking what remains (R74). -/
def View.tick (v : View) (d : Nat) : View :=
  let m : Int := if 0 ≤ v.slew then min v.slew d else max v.slew (-(d : Int))
  { v with ofs := v.ofs + m, slew := v.slew - m }

/-- The rate becomes `r`: O is rebased so that the view does not jump (R68). -/
def View.setRate (v : View) (r : Int) (u : Nat) : View :=
  { v with ofs := v.ofs + ((u : Int) * (v.rate - r)) / 2 ^ 16, rate := r }

/-- One TCLK tick: the raw counter and both slews (R66, R74). A remainder that reaches 0 posts event 0x0222.
DESIGN CHOICE: notes/assumptions/1.md. -/
def State.tclkTick (s : State) : State :=
  let c := s.time.cell.tick (slewStep (s.slewPpm 0))
  let p := s.time.plant.tick (slewStep (s.slewPpm 1))
  let doneC := s.time.cell.slew != 0 && c.slew == 0
  let doneP := s.time.plant.slew != 0 && p.slew == 0
  let s := { s with time := { s.time with raw := s.time.raw + 1, cell := c, plant := p } }
  let s := if doneC && s.role ≤ 1 then s.postB 0x0222 [(16, 1, 0)] else s
  if doneP then s.postB 0x0222 [(16, 1, 1)] else s

/-! ### Scheduled actions: entries -/

/-- `ACT_STATUS(n).ARMED`. -/
def State.armed (s : State) (n : Nat) : Bool := s.flag (Reg.ACT_STATUS n) F.ACT_STATUS_ARMED
/-- `ACT_TIME(n)`. -/
def State.actTime (s : State) (n : Nat) : W64 := s.reg64 (Reg.ACT_TIME n)
/-- `ACT_PERIOD(n)`. -/
def State.actPeriod (s : State) (n : Nat) : Nat := (s.reg64 (Reg.ACT_PERIOD n)).toNat
/-- `ACT_CTRL(n)` fields. -/
def State.actKind (s : State) (n : Nat) : Nat := s.fld (Reg.ACT_CTRL n) F.ACT_CTRL_KIND
/-- INDEX -/ def State.actIndex (s : State) (n : Nat) : Nat := s.fld (Reg.ACT_CTRL n) F.ACT_CTRL_INDEX
/-- VIEW -/ def State.actView (s : State) (n : Nat) : Nat := s.fld (Reg.ACT_CTRL n) F.ACT_CTRL_VIEW
/-- PERIODIC -/ def State.actPeriodic (s : State) (n : Nat) : Bool := s.flag (Reg.ACT_CTRL n) F.ACT_CTRL_PERIODIC

/-- The armed entries, ascending. -/
def State.armedEntries (s : State) : List Nat :=
  (s.regs.filter fun e =>
    decide (Reg.ACT_STATUS 0 ≤ e.1) && decide (e.1 < Reg.ACT_STATUS 256) && decide (e.1 % 32 = 0x14)
      && fldOf e.2 F.ACT_STATUS_ARMED == 1).map fun e => (e.1 - Reg.ACT_STATUS 0) / 32

/-- An armed scheduled action uses a view (R76). -/
def State.viewInUse (s : State) (w : Nat) : Bool := s.armedEntries.any fun n => s.actView n == w

/-- The basic cycle of the schedule bank in use, or of the other bank when that bank is empty, in µs (R91, R783). -/
def State.entry0Us (s : State) : Nat :=
  let k := s.fld Reg.LINK_STATUS F.LINK_STATUS_BANK
  let p := s.fld (Reg.SB_CYCLE k) F.SB_CYCLE_PERIOD_US
  if p = 0 then s.fld (Reg.SB_CYCLE (1 - k)) F.SB_CYCLE_PERIOD_US else p

/-- The whole periods from `t` to the first instant after `now`, where `t` is past (R87, R93). -/
def pastCount (t now : W64) (period : Nat) : Nat :=
  if period = 0 then 1 else (timeDiff now t).toNat / period + 1

/-- INDEX lies in the range of its KIND (R88, R2). -/
def State.targetOk (s : State) (kind idx : Nat) : Bool :=
  match kind with
  | 1 => idx == 0
  | 2 => idx == 0
  | 3 => decide (idx < 16)
  | 4 => decide (idx < 16)
  | 5 => decide (idx < s.nLocal)
  | 6 => decide (idx < 20)
  | _ => false

/-- Writes an entry's registers as ACT_ARM does: target, time and period; FIRED and MISSED cleared (R103, R104). -/
def State.writeEntry (s : State) (n kind idx view : Nat) (periodic drop : Bool) (t : W64) (period : Nat) : State :=
  let s := s.setReg64 (Reg.ACT_TIME n) t
  let s := s.setReg64 (Reg.ACT_PERIOD n) (BitVec.ofNat 64 (if periodic then period else 0))
  let s := s.put (Reg.ACT_CTRL n) F.ACT_CTRL_INDEX idx
  let s := s.put (Reg.ACT_CTRL n) F.ACT_CTRL_KIND kind
  let s := s.put (Reg.ACT_CTRL n) F.ACT_CTRL_VIEW view
  let s := s.put (Reg.ACT_CTRL n) F.ACT_CTRL_PERIODIC (b2n periodic)
  let s := s.put (Reg.ACT_CTRL n) F.ACT_CTRL_LATE_POLICY (b2n drop)
  s.setReg (Reg.ACT_STATUS n) 0

/-- Sets `ACT_STATUS(n).ARMED`. -/
def State.setArmed (s : State) (n : Nat) (b : Bool) : State := s.put (Reg.ACT_STATUS n) F.ACT_STATUS_ARMED (b2n b)

/-- The entry fires at the next tick although its time is past (R97). -/
def State.fireLate (s : State) (n : Nat) : State :=
  { s with time := { s.time with fireNext := s.time.fireNext ++ [n] } }

/-! ### ACT_ARM and ACT_DISARM (R87–R97, R105) -/

/-- The period that an ACT_ARM gives entry `n`: entries 0 and 1 take theirs from the schedule bank and the planning
tick (R91, R233). -/
def State.armPeriod (s : State) (c : Cmd) : Nat :=
  let n := c.b 16
  if n = 0 then s.entry0Us * 16000
  else if n = 1 then s.fld Reg.PLAN_CTRL F.PLAN_CTRL_TICK_LEN * s.actPeriod 0
  else c.u 32 8

/-- The checks of ACT_ARM. -/
def State.armChecks (s : State) (c : Cmd) : List (Bool × Verdict) :=
  let n := c.b 16
  let kind := c.b 17
  let idx := c.b 18
  let periodic := bit (c.b 19) 1
  let p := s.armPeriod c
  let t := BitVec.ofNat 64 (c.u 24 8)
  check1 c .pfWc [] ++
  [ (!c.onlyUses [(16, 1), (17, 1), (18, 1), (19, 1), (24, 8), (32, 8)] || decide (8 ≤ c.b 19), .bad),
    (!s.targetOk kind idx, .bad),
    (n == 0 && kind != 1 || n == 1 && kind != 2 || decide (2 ≤ n) && (kind == 1 || kind == 2), .bad),
    (decide (2 ≤ n) && periodic && decide (p < 16000 ∨ 2 ^ 48 ≤ p), .bad),
    (n == 1 && s.armed 0 && decide (p < 128 * 16000 ∨ 16384 * 16000 < p), .bad),
    (n == 1 && s.armed 0 && decide (timeDiff t (s.actTime 0) % (s.actPeriod 0 : Int) ≠ 0), .bad),
    s.mirrorCheck c,
    (decide (n ≤ 1) && decide (2 ≤ s.mode), .reject 1 s.mode),
    (s.armed n, .reject 9 1),
    (n == 0 && s.entry0Us == 0, .reject 23 0),
    (n == 1 && !s.armed 0, .reject 9 0) ]

/-- ACT_ARM's effect on the entry (R97; R93 for entries 0 and 1), with its completion. -/
def State.actArm (s : State) (c : Cmd) : State :=
  let n := c.b 16
  let view := b2n (bit (c.b 19) 0)
  let periodic := decide (n ≤ 1) || bit (c.b 19) 1
  let drop := bit (c.b 19) 2
  let t := BitVec.ofNat 64 (c.u 24 8)
  let p := s.armPeriod c
  let now := s.viewNow view
  let s := s.writeEntry n (c.b 17) (c.b 18) view periodic drop t p
  let s := if n = 1 then s.put Reg.PLAN_CTRL F.PLAN_CTRL_TICK_LEN_USED (s.fld Reg.PLAN_CTRL F.PLAN_CTRL_TICK_LEN) else s
  if !timePast t now then (s.setArmed n true).complete c stOK 0
  else
    let m := pastCount t now p
    let next := t + BitVec.ofNat 64 (m * p)
    let late := (timeDiff now t).toNat
    if n ≤ 1 then
      ((s.setReg64 (Reg.ACT_TIME n) next).setArmed n true).complete c stLate 2
    else
      let m' := if periodic then m else 1
      let s := s.put (Reg.ACT_STATUS n) F.ACT_STATUS_MISSED (satU 8 m')
      let s := if periodic then (s.setReg64 (Reg.ACT_TIME n) next).setArmed n true else s
      let head : List (Nat × Nat × Nat) := [(16, 1, n), (17, 1, c.b 17), (18, 1, c.b 18)]
      if drop then
        (s.postB 0x0211 (head ++ [(20, 4, m'), (24, 8, late)])).complete c stLate 1
      else
        ((s.fireLate n).postB 0x0210 (head ++ [(20, 4, m' - 1), (24, 8, late)])).complete c stLate 0

/-- The entry is due: its view has reached its time (R89), or it fires late at this tick. -/
def State.due (s : State) (n : Nat) : Bool :=
  (s.armed n && timePast (s.actTime n) (s.viewNow (s.actView n))) || s.time.fireNext.contains n

/-- An entry whose occurrence is taken now: a late firing, or an armed one that steps on or becomes IDLE (R90, R97). -/
def State.passOccurrence (s : State) (n : Nat) : State :=
  if s.time.fireNext.contains n then
    { s with time := { s.time with fireNext := s.time.fireNext.filter (· != n) } }
  else if s.actPeriodic n then s.setReg64 (Reg.ACT_TIME n) (s.actTime n + BitVec.ofNat 64 (s.actPeriod n))
  else s.setArmed n false

/-- Entry `n` acts: FIRED, `ACT_LAST` (R89, R104). -/
def State.countFired (s : State) (n : Nat) : State :=
  ((s.passOccurrence n).addWrap (Reg.ACT_STATUS n) F.ACT_STATUS_FIRED).setReg64 (Reg.ACT_LAST n) s.cell

/-- Entry `n` loses the collision to entry `a` (R94). -/
def State.countCollision (s : State) (a n : Nat) : State :=
  let t := s.actTime n
  ((s.passOccurrence n).addSat (Reg.ACT_STATUS n) F.ACT_STATUS_MISSED 1).postB 0x0212
    [(16, 1, n), (17, 1, a), (24, 8, t.toNat)]

/-- The entries that fire now on the target of entry `n`, ascending (R94). -/
def State.rivals (s : State) (n : Nat) : List Nat :=
  (idxs 256 fun m => s.armed m || s.time.fireNext.contains m).filter fun m =>
    s.due m && s.actKind m == s.actKind n && s.actIndex m == s.actIndex n

/-- Entry `n` has fired in this TCLK cycle (R97). DEDUCED: notes/assumptions/78.md. -/
def State.firedNow (s : State) (n : Nat) : Bool :=
  s.fld (Reg.ACT_STATUS n) F.ACT_STATUS_FIRED != 0 && s.reg64 (Reg.ACT_LAST n) == s.cell

/-- Every entry becomes IDLE (R96). -/
def State.disarmAll (s : State) : State :=
  let s := forEach s.armedEntries s fun n s => s.setArmed n false
  { s with time := { s.time with fireNext := [] } }

/-! ### TIME_SLEW, TIME_SET_RATE, TIME_STEP -/

/-- The command comes from the time-discipline work item (R80): from the device's own run of it, or from the core
that runs an item bound with KIND 2. -/
def State.fromDiscipline (s : State) (c : Cmd) : Bool :=
  match c.who with
  | .dev => true
  | .wc w => s.coreBusy w && (s.bindings 2 fun _ => true).any fun b => s.fld (Reg.SCH_BIND b) F.SCH_BIND_ITEM == s.coreItem w
  | _ => false

/-- An accepted plant correction: it restarts the time-out of R81 and ends holdover with event 0x0221. -/
def State.plantAccepted (s : State) : State :=
  let now := s.plantNow
  let s := { s with time := { s.time with lastCorr := now } }
  if s.flag Reg.TB_STATUS F.TB_STATUS_PLANT_HOLDOVER then
    (s.put Reg.TB_STATUS F.TB_STATUS_PLANT_HOLDOVER 0).postB 0x0221 [(24, 8, now.toNat)]
  else s

/-- The state checks that the three commands share (R73, R80, R105). -/
def State.timeChecks (s : State) (c : Cmd) : List (Bool × Verdict) :=
  let w := c.b 16
  [ s.mirrorCheck c,
    (w == 0 && s.cellOwner == 1, .reject 2 s.role),
    (w == 1 && s.flag Reg.DISC_CTRL F.DISC_CTRL_ENABLE && !s.fromDiscipline c, .reject 255 0) ]

/-- The remaining correction of view `w` becomes `x` units (R74). -/
def State.slewTo (s : State) (w : Nat) (x : Int) : State :=
  let v := s.view w
  let s := s.setView w { v with slew := x * 2 ^ 24 }
  let s := if w = 1 then s.plantAccepted else s
  if x = 0 then s.postB 0x0222 [(16, 1, w)] else s

/-- The rate of view `w` becomes `r` (R68). -/
def State.rateTo (s : State) (w : Nat) (r : Int) : State :=
  let s := s.setView w ((s.view w).setRate r s.u)
  if w = 1 then s.plantAccepted else s

/-- The view `w` steps by `x` units (R76). -/
def State.stepBy (s : State) (w : Nat) (x : Int) : State :=
  let v := s.view w
  let s := s.setView w { v with ofs := v.ofs + x * 2 ^ 24 }
  if w = 1 then s.plantAccepted else s

/-- TIME_SLEW (R74, R75). -/
def execTimeSlew (c : Cmd) (s : State) : Out :=
  let c := { c with op := 0x0201 }
  let x := c.i 24 8
  .next <| s.judge c
    (check1 c .pfWc [] ++
     [ (!c.onlyUses [(16, 1), (24, 8)] || decide (2 ≤ c.b 16), .bad),
       (decide (160000000 < x.natAbs), .bad) ] ++ s.timeChecks c)
    fun s => (s.slewTo (c.b 16) x).complete c stOK 0

/-- TIME_SET_RATE (R68). -/
def execTimeSetRate (c : Cmd) (s : State) : Out :=
  let c := { c with op := 0x0202 }
  .next <| s.judge c
    (check1 c .pfWc [] ++
     [ (!c.onlyUses [(16, 1), (20, 4)] || decide (2 ≤ c.b 16), .bad) ] ++ s.timeChecks c)
    fun s => (s.rateTo (c.b 16) (c.i 20 4)).complete c stOK 0

/-- TIME_STEP (R76). -/
def execTimeStep (c : Cmd) (s : State) : Out :=
  let c := { c with op := 0x0203 }
  let w := c.b 16
  .next <| s.judge c
    (check1 c .pfWc [] ++
     [ (!c.onlyUses [(16, 1), (24, 8)] || decide (2 ≤ w), .bad) ] ++ s.timeChecks c ++
     [ (w == 0 && decide (2 ≤ s.mode), .reject 1 s.mode),
       (s.viewInUse w, .reject 9 1) ])
    fun s => (s.stepBy w (c.i 24 8)).complete c stOK 0

/-- A slew's remainder reaches 0 (R74): what remains is taken, and event 0x0222 is posted. -/
def execSlewComplete (view : Nat) (s : State) : Out :=
  let v := s.view view
  .next <|
    if v.slew = 0 then s
    else (s.setView view { v with ofs := v.ofs + v.slew, slew := 0 }).postB 0x0222 [(16, 1, view)]

/-! ### Plant-time discipline -/

/-- A sample is committed (R77, R79): ignored with ENABLE 0, discarded with foul 0x0214 while BUSY, else taken, and
the bindings of KIND 2 ready their items (R652). -/
def State.commitSample (s : State) (t : W64) : State :=
  if !s.flag Reg.DISC_CTRL F.DISC_CTRL_ENABLE then s
  else if s.flag Reg.DISC_STATUS F.DISC_STATUS_BUSY then
    (s.addSat Reg.DISC_STATUS F.DISC_STATUS_REJECTED 1).postB 0x0214 [(24, 8, t.toNat)]
  else
    let s := s.put Reg.DISC_STATUS F.DISC_STATUS_BUSY 1
    ({ s with time := { s.time with sample := t } }).fireBindings 2 fun _ => true

/-- The sample is accepted: counted, and its T_d kept for the next Δt (R78). -/
def State.sampleAccepted (s : State) (td : W64) : State :=
  let s := s.addWrap Reg.DISC_STATUS F.DISC_STATUS_ACCEPTED
  { s with time := { s.time with lastTd := some td } }

/-- The run of the time-discipline work item (R78). DEDUCED: notes/assumptions/11.md. -/
def State.disciplineRun (s : State) : State :=
  let td := s.plantNow
  let lat := toSigned 32 (s.reg Reg.DISC_LAT).toNat
  let e := timeDiff s.time.sample td + lat
  let s := s.setReg Reg.DISC_LAST_ERR (BitVec.ofInt 32 (satS 32 e))
  let big := decide (s.fld Reg.DISC_CTRL F.DISC_CTRL_STEP_LIMIT * 1600000 < e.natAbs)
  if big && s.flag Reg.DISC_CTRL F.DISC_CTRL_ALLOW_JUMP && !s.viewInUse 1 then
    (s.stepBy 1 e).sampleAccepted td
  else if big then
    (s.addSat Reg.DISC_STATUS F.DISC_STATUS_REJECTED 1).postB 0x0213 [(24, 8, ofSigned 64 e)]
  else
    let dt : Option Int := s.time.lastTd.map fun p => timeDiff td p
    match dt with
    | some d =>
      if d < 4000000000 then (s.slewTo 1 e).sampleAccepted td
      else
        let dr := roundAway (s.fld Reg.DISC_CTRL F.DISC_CTRL_KF * e * 2 ^ 40) (256 * d.toNat)
        let r := satS 32 (s.time.plant.rate + dr)
        ((s.rateTo 1 r).slewTo 1 e).sampleAccepted td
    | none => (s.slewTo 1 e).sampleAccepted td

/-- No accepted plant correction for TIMEOUT seconds of plant time: holdover, event 0x0220 (R81). -/
def execPlantHoldoverEnter (s : State) : Out :=
  let now := s.plantNow
  .next <|
    if s.flag Reg.TB_STATUS F.TB_STATUS_PLANT_HOLDOVER then s
    else if timeDiff now s.time.lastCorr < s.fld Reg.DISC_CTRL F.DISC_CTRL_TIMEOUT * 16000000000 then s
    else
      let s := s.put Reg.TB_STATUS F.TB_STATUS_PLANT_HOLDOVER 1
      ({ s with time := { s.time with lastTd := none } }).postB 0x0220 [(24, 8, now.toNat)]

/-! ### Register effects of the block -/

/-- The capture of `TB_CTRL.SNAP` (R72): raw, cell and plant time of one TCLK cycle. -/
def State.snap (s : State) : State :=
  ((s.setReg64 Reg.SNAP_RAW s.time.raw).setReg64 Reg.SNAP_CELL s.cell).setReg64 Reg.SNAP_PLANT s.plantNow

/-- A write of DISC_CTRL that sets ENABLE starts afresh: no sample has been accepted since enable (R78). -/
def State.discCtrlWritten (s : State) (was : Bool) : State :=
  if !was && s.flag Reg.DISC_CTRL F.DISC_CTRL_ENABLE then { s with time := { s.time with lastTd := none } } else s

end Sys2Proof.Machine
end

