-- ==== Sys2Proof/Machine/LinkFrame.lean ====
section
/-!
DEFINITION. Block 0x03, frames and schedule: the frame format (R117–R123), schedule banks as data (R139–R159), the checks
of R160 and the container of R166 and R167.
-/
namespace Sys2Proof.Machine

/-! ### Frames (R117–R123) -/

/-- Octet `i` of a list. -/
def oct (l : List Byte) (i : Nat) : Nat := (l.getD i 0).toNat

/-- The start block's octets are octets 1–7 (R118). VERSION -/
def sbVersion (st : List Byte) : Nat := oct st 0 / 16
/-- KIND -/ def sbKind (st : List Byte) : Nat := oct st 0 % 16
/-- CH -/ def sbCh (st : List Byte) : Nat := oct st 1 / 128
/-- LEN, payload blocks − 1 -/ def sbLen (st : List Byte) : Nat := oct st 1 % 32
/-- PRIO -/ def sbPrio (st : List Byte) : Nat := oct st 2
/-- SRC -/ def sbSrc (st : List Byte) : Nat := oct st 3
/-- SLOT -/ def sbSlot (st : List Byte) : Nat := leAt st 4 2 % 512
/-- SCHK is correct (R119). -/
def sbChk (st : List Byte) : Bool := crc8 (slice st 0 6) == oct st 6
/-- A defined KIND (R123). -/
def kindOk (k : Nat) : Bool := decide (1 ≤ k ∧ k ≤ 10)

end Sys2Proof.Machine

namespace Sys2Proof
open Machine

/-- The frame check's octets (R121). -/
def RawFrame.body (f : RawFrame) : List Byte := f.start ++ f.header ++ f.payload

/-- A valid copy (R122). -/
def RawFrame.valid (f : RawFrame) : Bool :=
  f.coded && f.start.length == 7 && sbVersion f.start == 1 && kindOk (sbKind f.start) && sbChk f.start
    && f.header.length == 8 && f.payload.length == 8 * (sbLen f.start + 1) && crc32c f.body == f.crc.toNat

/-- KIND -/ def RawFrame.kind (f : RawFrame) : Nat := sbKind f.start
/-- SRC -/ def RawFrame.src (f : RawFrame) : Nat := sbSrc f.start
/-- SLOT -/ def RawFrame.slot (f : RawFrame) : Nat := sbSlot f.start
/-- DST (R120) -/ def RawFrame.dst (f : RawFrame) : Nat := oct f.header 0
/-- AUX (R120) -/ def RawFrame.aux (f : RawFrame) : Nat := leAt f.header 6 2
/-- PROBATION (R120) -/ def RawFrame.probation (f : RawFrame) : Bool := bit (oct f.header 4) 3

end Sys2Proof

namespace Sys2Proof.Machine

/-- SERVE … SYNC_ANSWER (R123). -/
def kServe := 1
/-- LET -/ def kLet := 2
/-- CLAIM -/ def kClaim := 3
/-- DATA -/ def kData := 4
/-- ARB -/ def kArb := 5
/-- STREAM -/ def kStream := 6
/-- MGMT -/ def kMgmt := 7
/-- JOIN_REQ -/ def kJoinReq := 8
/-- JOIN_GRANT -/ def kJoinGrant := 9
/-- SYNC_ANSWER -/ def kSyncAnswer := 10

/-- A payload padded with zeros to whole blocks, at least one (R117, R133). -/
def padBlocks (p : List Byte) : List Byte := slice p 0 (8 * max 1 ((p.length + 7) / 8))

/-! ### Schedule banks (R139–R159) -/

/-- The schedule bank in use (R783). -/
def State.bankUsed (s : State) : Nat := s.fld Reg.LINK_STATUS F.LINK_STATUS_BANK
/-- PERIOD_US of a bank. -/
def State.bankUs (s : State) (k : Nat) : Nat := s.fld (Reg.SB_CYCLE k) F.SB_CYCLE_PERIOD_US
/-- ORBIT_LOG of a bank. -/
def State.orbitLog (s : State) (k : Nat) : Nat := s.fld (Reg.SB_CYCLE k) F.SB_CYCLE_ORBIT_LOG
/-- N block times of a period in µs (R114). -/
def blocksOf (us : Nat) : Nat := (us * 625 + 4) / 8

/-- An entry of a bank as data (R154–R157). -/
structure Ent where
  typ : Nat
  kind : Nat
  rep : Nat
  base : Nat
  slot : Nat
  len : Nat
  start : Nat
  owner : Nat
  gf : Nat
  src : Nat
  ch : Nat
  dest : Nat
  deriving DecidableEq, Repr

/-- Entry `e` of bank `k`, when it is VALID. -/
def State.ent (s : State) (k e : Nat) : Option Ent :=
  let a := s.reg (Reg.SB_ENT0 k e)
  let b := s.reg (Reg.SB_ENT1 k e)
  let c := s.reg (Reg.SB_ENT2 k e)
  let d := s.reg (Reg.SB_ENT3 k e)
  if fldOf a F.SB_ENT0_VALID = 0 then none
  else some {
    typ := fldOf a F.SB_ENT0_TYPE, kind := fldOf a F.SB_ENT0_KIND, rep := fldOf a F.SB_ENT0_REP
    base := fldOf a F.SB_ENT0_BASE, slot := fldOf a F.SB_ENT0_SLOT
    len := fldOf b F.SB_ENT1_LEN, start := fldOf b F.SB_ENT1_START
    owner := fldOf c F.SB_ENT2_OWNER, gf := fldOf c F.SB_ENT2_GUARD, src := fldOf c F.SB_ENT2_SRC
    ch := fldOf d F.SB_ENT3_CH, dest := fldOf d F.SB_ENT3_DEST }

/-- The valid entries of a bank with their indices, ascending. -/
def State.ents (s : State) (k : Nat) : List (Nat × Ent) :=
  (List.range (s.fld (Reg.SB_COUNT k) F.SB_COUNT_N_ENTRIES)).filterMap fun e => (s.ent k e).map fun x => (e, x)

/-- A device-sent exclusive entry. -/
def Ent.fromDevice (x : Ent) : Bool := decide (x.typ ≤ 1) && bit x.src 20
/-- A node-sent exclusive entry. -/
def Ent.fromNode (x : Ent) : Bool := x.typ == 1 && !bit x.src 20
/-- Active in a cycle (R145). -/
def Ent.active (x : Ent) (cycle : Nat) : Bool := cycle % 2 ^ x.rep == x.base
/-- On channel `c` (R157). -/
def Ent.onCh (x : Ent) (c : Nat) : Bool := bit x.ch c
/-- Two entries are active in a common cycle. -/
def Ent.meets (x y : Ent) : Bool := let m := 2 ^ min x.rep y.rep; x.base % m == y.base % m
/-- The guard: 7 is the link default guard `dg` (R156). -/
def Ent.guard (x : Ent) (dg : Nat) : Nat := if x.gf = 7 then dg else x.gf
/-- L_r of an arbitrating entry (R143). -/
def Ent.roundLen (x : Ent) (dg : Nat) : Nat := 11 + 2 * x.guard dg
/-- Rounds of an arbitrating entry. -/
def Ent.rounds (x : Ent) (dg : Nat) : Nat := x.len / x.roundLen dg

/-- Receive footprint [lo, hi), with ports (R145). -/
def Ent.rx (x : Ent) (dg : Nat) : Option (Int × Int) :=
  if x.fromDevice then none
  else some ((x.start : Int) - x.guard dg, x.start + x.len + x.guard dg)
/-- Transmit footprint [lo, hi) (R145). -/
def Ent.tx (x : Ent) (dg : Nat) : Int × Int :=
  let g := x.guard dg
  if x.fromDevice then (x.start, x.start + x.len)
  else if x.typ = 2 then (x.start + g + 3, x.start + x.len + g + 3)
  else ((x.start : Int) - g + 2, x.start + x.len + g + 2)

/-- Two intervals overlap. -/
def overlap (a b : Int × Int) : Bool := decide (a.1 < b.2) && decide (b.1 < a.2)

/-- Two entries' footprints collide on a port and direction (check 8). -/
def Ent.collides (x y : Ent) (dg : Nat) : Bool :=
  x.meets y && x.ch &&& y.ch != 0 &&
    ((match x.rx dg, y.rx dg with
      | some a, some b => x.src &&& y.src &&& 0xFFFFF != 0 && overlap a b
      | _, _ => false) ||
     (x.dest &&& y.dest &&& 0xFFFFF != 0 && overlap (x.tx dg) (y.tx dg)))

/-- Some two of a list satisfy `p`. -/
def anyPair {α : Type} (p : α → α → Bool) : List α → Bool
  | [] => false
  | x :: t => t.any (p x) || anyPair p t

/-- Windows of a bank: USE, TYPE, START, END (R153). -/
def State.windows (s : State) (k : Nat) : List (Nat × Nat × Nat × Nat) :=
  (List.range (min 16 (s.fld (Reg.SB_COUNT k) F.SB_COUNT_N_WINDOWS))).map fun w =>
    (s.fld (Reg.SB_WIN_S k w) F.SB_WIN_S_USE, s.fld (Reg.SB_WIN_S k w) F.SB_WIN_S_TYPE,
     s.fld (Reg.SB_WIN_S k w) F.SB_WIN_S_START, s.fld (Reg.SB_WIN_E k w) F.SB_WIN_E_END)

/-- Windows contiguous from `at_`, each ending at or after its start, the last at or before `n` (check 4). -/
def windowsOk (n : Nat) : Nat → List (Nat × Nat × Nat × Nat) → Bool
  | at_, [] => decide (at_ ≤ n)
  | at_, (_, _, st, en) :: t => st == at_ && decide (st ≤ en) && windowsOk n en t

/-- The entry lies in a window of its type (checks 5, 6). -/
def inWindow (ws : List (Nat × Nat × Nat × Nat)) (dg : Nat) (x : Ent) : Bool :=
  let tail := if x.typ = 2 then x.guard dg + 3 else 0
  ws.any fun w => w.2.1 == x.typ && decide (w.2.2.1 ≤ x.start) && decide (x.start + x.len + tail ≤ w.2.2.2)

/-- SB_NODE0 fields of node `n`: SCHEDULED, PORT. -/
def State.sched (s : State) (k n : Nat) : Bool := s.flag (Reg.SB_NODE0 k n) F.SB_NODE0_SCHEDULED
/-- PORT of a node's branch. -/
def State.nodePort (s : State) (k n : Nat) : Nat := s.fld (Reg.SB_NODE0 k n) F.SB_NODE0_PORT

/-- The budget of R30 with `a` enabled axes: cut-off, computation on 8 pipelines, and 400 ns, within the period. -/
def budgetOk (us cutoff a : Nat) : Bool :=
  let n := blocksOf us
  let p := us * 1000
  decide (cutoff * p * 12 + (96 + 64 * ceilDiv a 8) * 10 * n + 400 * 12 * n ≤ p * 12 * n)

/-- Every port bit of a mask names a present port (R4). -/
def State.portsPresent (s : State) (m : Nat) : Bool := decide (m % 2 ^ 20 < 2 ^ s.nPorts)

/-- Check 5 for the SERVE entry. -/
def serveOk (x : Ent) (ws : List (Nat × Nat × Nat × Nat)) : Bool :=
  x.slot == 0 && x.start == 0 && x.len == 8 && x.rep == 0 && x.src == 2 ^ 20 && x.gf == 0 && x.owner == 0 &&
    x.kind == 1 && decide (8 ≤ (ws.headD (0, 0, 0, 0)).2.2.2)

/-- Check 6 for one entry. -/
def State.ent6 (s : State) (k dg : Nat) (ws : List (Nat × Nat × Nat × Nat)) (x : Ent) : Bool :=
  let kindFits :=
    match x.typ with
    | 0 => x.kind == 1
    | 1 => if bit x.src 20 then x.kind == 4 || x.kind == 7 else x.kind == 4 || x.kind == 6 || x.kind == 7 || x.kind == 10
    | 2 => x.kind == 0
    | _ => false
  let lenFits := if x.typ = 2 then decide (x.roundLen dg ≤ x.len) else decide (4 ≤ x.len ∧ x.len ≤ 35)
  inWindow ws dg x && kindFits && lenFits && decide (x.rep ≤ s.orbitLog k) && decide (x.base < 2 ^ x.rep) && x.ch != 0
    && s.portsPresent x.src && s.portsPresent x.dest

/-- Check 7 for one entry. -/
def State.ent7 (s : State) (k : Nat) (x : Ent) : Bool :=
  match x.typ with
  | 2 => x.src % 2 ^ 20 != 0 && !bit x.src 20 && bit x.dest 20 && x.src &&& x.dest == x.src
  | _ =>
    popCount 21 x.src == 1 &&
      (if bit x.src 20 then x.gf == 0 && x.owner == 0
       else s.sched k x.owner && bit x.src (s.nodePort k x.owner))

/-- Check 13 for one scheduled node. -/
def State.node13 (s : State) (k : Nat) (es : List (Nat × Ent)) (n : Nat) : Bool :=
  let r := Reg.SB_NODE0 k n
  let p := s.nodePort k n
  let cs := s.fld r F.SB_NODE0_CMD_SLOT
  let fs := s.fld (Reg.SB_NODE1 k n) F.SB_NODE1_FB_SLOT
  decide (p < s.nPorts) &&
    (cs == 0 || es.any fun e => e.2.slot == cs && e.2.fromDevice && e.2.kind == kData && bit e.2.dest p
        && decide (s.fld r F.SB_NODE0_CMD_RECORD < e.2.len - 3)) &&
    (fs == 0 || es.any fun e => e.2.slot == fs && e.2.fromNode && e.2.owner == n)

/-- The axes with ACTIVE set, ascending (R338). -/
def State.activeAxes (s : State) : List Nat := idxs 224 fun a => s.flag (Reg.SRV_AX_CFG a) F.SRV_AX_CFG_ACTIVE
/-- Number of axes with ACTIVE set. -/
def State.nActive (s : State) : Nat := s.activeAxes.length

/-- The largest number of entries active in one cycle of the orbit (R152). -/
def maxActive (orbit : Nat) (es : List (Nat × Ent)) : Nat :=
  ((List.range (2 ^ orbit)).map fun c => (es.filter fun e => e.2.active c).length).foldl max 0

/-- Checks 3–13 of R160 on a bank, with default guard `dg`: the number of the first that fails, 0 when all pass. -/
def State.bankCheck (s : State) (k dg : Nat) : Nat :=
  let us := s.bankUs k
  let n := blocksOf us
  let ws := s.windows k
  let nw := s.fld (Reg.SB_COUNT k) F.SB_COUNT_N_WINDOWS
  let ne := s.fld (Reg.SB_COUNT k) F.SB_COUNT_N_ENTRIES
  let es := s.ents k
  let xs := es.map (·.2)
  let serves := xs.filter fun x => x.typ == 0
  let nodes := idxs 256 (s.sched k)
  let apply := s.fld (Reg.SB_APPLY k) F.SB_APPLY_CMD_APPLY
  let cut := s.fld (Reg.SB_CUTOFF k) F.SB_CUTOFF_FB_CUTOFF
  let fbEnd (x : Ent) : Bool := ws.any fun w => w.1 == 2 && w.2.1 == 1 && decide (w.2.2.1 ≤ x.start) && decide (x.start < w.2.2.2)
  if !(decide (8 ≤ us ∧ us ≤ 1000) && decide (s.orbitLog k ≤ 6)) then 3
  else if !(decide (1 ≤ nw ∧ nw ≤ 16) && decide (1 ≤ ne ∧ ne ≤ 2048) && (ws.headD (0, 9, 0, 0)).2.1 == 0 && windowsOk n 0 ws) then 4
  else if !(serves.length == 1 && serves.all fun x => serveOk x ws) then 5
  else if !xs.all (s.ent6 k dg ws) then 6
  else if !xs.all (s.ent7 k) then 7
  else if anyPair (fun x y => x.collides y dg) xs then 8
  else if decide (512 < maxActive (s.orbitLog k) es) || anyPair (fun x y : Ent => x.slot == y.slot && x.meets y) xs then 9
  else if !xs.all fun x => decide ((x.tx dg).2 ≤ n) && (match x.rx dg with | some r => decide (r.2 ≤ n) | none => true) then 10
  else if !(decide (apply < n) && xs.all fun x => !(x.fromDevice && x.kind == kData) || decide (x.start + x.len < apply)) then 11
  else if !(xs.all (fun x => !(x.fromNode && x.kind == kData && bit x.dest 20 && fbEnd x) ||
      decide (x.start + x.len + x.guard dg ≤ cut)) && budgetOk us cut s.nActive) then 12
  else if !(nodes.all (s.node13 k es) &&
      (List.range 20).all fun p => decide ((nodes.filter fun m => s.nodePort k m == p).length ≤ 16)) then 13
  else 0

/-- The bank is checked (R160): `SB_STATUS` and the default guard in use from this check (R215). -/
def State.checkBank (s : State) (k : Nat) : State × Nat :=
  let dg := s.fld Reg.LINK_CTRL F.LINK_CTRL_DEFAULT_GUARD
  let r := s.bankCheck k dg
  let s := { s with link := { s.link with guard := tabSet (fun _ => 2) s.link.guard k dg } }
  let s := s.put (Reg.SB_STATUS k) F.SB_STATUS_VALID (b2n (r == 0))
  let s := s.put (Reg.SB_STATUS k) F.SB_STATUS_FAILED_CHECK r
  (s.put (Reg.SB_STATUS k) F.SB_STATUS_MAX_ACTIVE (maxActive (min 6 (s.orbitLog k)) (s.ents k)), r)

/-- The link default guard of a bank. -/
def State.bankGuard (s : State) (k : Nat) : Nat := tabGet (fun _ => 2) s.link.guard k
/-- The bank is VALID. -/
def State.bankValid (s : State) (k : Nat) : Bool := s.flag (Reg.SB_STATUS k) F.SB_STATUS_VALID

/-! ### Container (R166, R167) -/

/-- 32-bit word at an offset. -/
def w32 (l : List Byte) (o : Nat) : Nat := leAt l o 4

/-- Reserved bits of a word are 0, given the mask of defined bits. -/
def onlyBits (w mask : Nat) : Bool := w &&& mask == w

/-- Check 1 of R160 on a container of `len` octets. -/
def container1 (l : List Byte) (len : Nat) : Bool :=
  let ne := leAt l 16 2
  let nn := leAt l 18 2
  let total := w32 l 32
  let ent (e : Nat) := 192 + 16 * e
  let nod (i : Nat) := 192 + 16 * ne + 12 * i
  let nw := oct l 15
  w32 l 0 == 0x43534845 && leAt l 4 2 == 1 && leAt l 6 2 == 64 && decide (1 ≤ ne ∧ ne ≤ 2048) && decide (nn ≤ 248)
    && total == 196 + 16 * ne + 12 * nn && decide (total ≤ len) && crc32c (l.take (total - 4)) == w32 l (total - 4)
    && decide (leAt l 12 2 ≤ 1023) && decide (oct l 14 ≤ 7) && decide (nw ≤ 31)
    && decide (w32 l 20 < 2 ^ 17) && decide (w32 l 24 < 2 ^ 17)
    && oct l 31 == 0 && (slice l 36 28).all (· == 0)
    && (List.range 16).all (fun w => onlyBits (w32 l (64 + 8 * w)) 0x7FFFFF && onlyBits (w32 l (68 + 8 * w)) 0x1FFFF
        && (decide (w < nw) || (slice l (64 + 8 * w) 8).all (· == 0)))
    && (List.range ne).all (fun e => onlyBits (w32 l (ent e)) 0xFFFF81FF && onlyBits (w32 l (ent e + 12)) 0xC01FFFFF)
    && (List.range nn).all (fun i => (slice l (nod i + 1) 3).all (· == 0) && onlyBits (w32 l (nod i + 4)) 0x83FFF01F
        && onlyBits (w32 l (nod i + 8)) 0x001F01FF)
    && !anyPair (fun a b : Nat => a == b) ((List.range nn).map fun i => oct l (nod i))

/-- Check 2: PART and MIN_STEP. -/
def State.container2 (s : State) (l : List Byte) : Bool :=
  leAt l 28 2 == s.mem.fuse.part && decide (oct l 30 ≤ s.mem.fuse.step)

/-- The staged bank cleared (R167). -/
def State.clearBank (s : State) (k : Nat) : State := s.clearRegs (Reg.SB_ID k) (Reg.SB_ID k + 0x8900)

/-- The bank filled from a container. -/
def State.fillBank (s : State) (k : Nat) (l : List Byte) : State :=
  let ne := leAt l 16 2
  let put (s : State) (o v : Nat) : State := s.setReg o (BitVec.ofNat 32 v)
  let s := put s (Reg.SB_ID k) (w32 l 8)
  let s := put s (Reg.SB_CYCLE k) (leAt l 12 2 + oct l 14 * 2 ^ 16)
  let s := put s (Reg.SB_COUNT k) (ne + oct l 15 * 2 ^ 16)
  let s := put s (Reg.SB_APPLY k) (w32 l 20)
  let s := put s (Reg.SB_CUTOFF k) (w32 l 24)
  let s := forEach (List.range 16) s fun w s =>
    put (put s (Reg.SB_WIN_S k w) (w32 l (64 + 8 * w))) (Reg.SB_WIN_E k w) (w32 l (68 + 8 * w))
  let s := forEach (List.range (4 * ne)) s fun i s => put s (Reg.SB_ENT0 k 0 + 4 * i) (w32 l (192 + 4 * i))
  forEach (List.range (leAt l 18 2)) s fun i s =>
    let o := 192 + 16 * ne + 12 * i
    put (put s (Reg.SB_NODE0 k (oct l o)) (w32 l (o + 4))) (Reg.SB_NODE1 k (oct l o)) (w32 l (o + 8))

end Sys2Proof.Machine
end

