-- ==== Sys2Proof/Machine/Link.lean ====
section
/-!
DEFINITION. Block 0x03, operation: link state (R168–R173), serves and lets (R174–R179), delay measurement (R184–R191), joining
and membership (R192–R197), receiving (R198, R199), enforcement (R200–R204), containment and ports (R205–R209), bank swap and
membership change (R210–R214), commands (R225).
-/
namespace Sys2Proof.Machine

/-! ### Access -/

/-- Key of a port or node on a channel. -/
def ck (c i : Nat) : Nat := c * 256 + i
/-- A port beside its registers. -/
def State.lp (s : State) (c p : Nat) : LkPort := tabGet (fun _ => {}) s.link.ports (ck c p)
/-- A port changed. -/
def State.modLp (s : State) (c p : Nat) (f : LkPort → LkPort) : State :=
  { s with link := { s.link with ports := tabSet (fun _ => {}) s.link.ports (ck c p) (f (s.lp c p)) } }
/-- A node beside its registers. -/
def State.ln (s : State) (c n : Nat) : LkNode := tabGet (fun _ => {}) s.link.nodes (ck c n)
/-- A node changed. -/
def State.modLn (s : State) (c n : Nat) (f : LkNode → LkNode) : State :=
  { s with link := { s.link with nodes := tabSet (fun _ => {}) s.link.nodes (ck c n) (f (s.ln c n)) } }
/-- The link's own fields changed. -/
def State.modLink (s : State) (f : LinkSt → LinkSt) : State := { s with link := f s.link }

/-- STOPPED -/ def lStopped := 0
/-- LISTENING -/ def lListening := 1
/-- CLAIMING -/ def lClaiming := 2
/-- RUNNING -/ def lRunning := 3
/-- FOLLOWING -/ def lFollowing := 4
/-- `LINK_STATUS.STATE`. -/
def State.linkState (s : State) : Nat := s.fld Reg.LINK_STATUS F.LINK_STATUS_STATE
/-- Sets `LINK_STATUS.STATE`. -/
def State.setLinkState (s : State) (x : Nat) : State := s.put Reg.LINK_STATUS F.LINK_STATUS_STATE x
/-- A schedule is in use (R168). -/
def State.scheduled (s : State) : Bool := decide (3 ≤ s.linkState)
/-- `LINK_ORBIT`. -/
def State.orbit (s : State) : Nat := (s.reg Reg.LINK_ORBIT).toNat
/-- The cycle count (R128). -/
def State.cycleCount (s : State) : Nat := s.orbit * 2 ^ s.orbitLog s.bankUsed + s.link.cycle
/-- The device's node ID. -/
def State.station (s : State) : Nat := s.fld Reg.LINK_STATION F.LINK_STATION_STATION_ID
/-- The admission copy in use. -/
def State.admCopy (s : State) : Nat := s.fld Reg.LINK_STATUS F.LINK_STATUS_ADM_BANK
/-- LISTED in the copy in use (R197). -/
def State.listed (s : State) (n : Nat) : Bool := s.flag (Reg.ADM_CTRL s.admCopy n) F.ADM_CTRL_LISTED

/-- CLOSED -/ def pClosed := 0
/-- LISTEN -/ def pListen := 1
/-- PROBATION -/ def pProbation := 2
/-- MEMBER -/ def pMember := 3
/-- CONTAINED -/ def pContained := 4
/-- `PORT_STATUS.STATE`. -/
def State.portState (s : State) (c p : Nat) : Nat := s.fld (Reg.PORT_STATUS c p) F.PORT_STATUS_STATE
/-- The port is open: any state but CLOSED. -/
def State.portOpen (s : State) (c p : Nat) : Bool := s.portState c p != pClosed

/-- DETAIL of a link record: slot, channel and further fields (R226). -/
def lkDet (slot ch : Nat) (l : List (Nat × Nat × Nat)) : BitVec 128 := det ([(16, 2, slot), (18, 1, ch)] ++ l)
/-- SOURCE of a node. -/
def srcNode (n : Nat) : Nat := srcOf 2 n

/-- A port changes state; entry to or exit from MEMBER or CLOSED posts event 0x0334 (R208). -/
def State.setPort (s : State) (c p st : Nat) : State :=
  let old := s.portState c p
  if old = st then s
  else
    let s := s.put (Reg.PORT_STATUS c p) F.PORT_STATUS_STATE st
    if old = pMember ∨ old = pClosed ∨ st = pMember ∨ st = pClosed then
      s.post 0x0334 (srcPort c p) (lkDet 0 c [(19, 1, old), (20, 1, st)])
    else s

/-- `NODE_STATUS` field of the channel's membership. -/
def membFld (c : Nat) : Fld := if c = 0 then F.NODE_STATUS_MEMB_A else F.NODE_STATUS_MEMB_B
/-- Membership of node `n` on channel `c`: 0 NONE, 1 GRANTED, 2 PROBATION, 3 MEMBER, 4 BARRED. -/
def State.memb (s : State) (c n : Nat) : Nat := s.fld (Reg.NODE_STATUS n) (membFld c)
/-- Port of the node's last JOIN_REQ. -/
def State.joinPort (s : State) (n : Nat) : Nat := s.fld (Reg.NODE_STATUS n) F.NODE_STATUS_PORT
/-- FAILED -/ def State.nodeFailed (s : State) (n : Nat) : Nat := s.fld (Reg.NODE_STATUS n) F.NODE_STATUS_FAILED
/-- Nodes 1–240 with a membership in PROBATION or MEMBER on a channel and port. -/
def State.portNodes (s : State) (c p st : Nat) : List Nat :=
  (List.range 241).filter fun n => s.memb c n == st && s.joinPort n == p

/-- The port's state by its nodes (R208). -/
def State.refreshPort (s : State) (c p : Nat) : State :=
  if s.portState c p = pClosed ∨ s.portState c p = pContained then s
  else s.setPort c p (if !(s.portNodes c p 3).isEmpty then pMember else if !(s.portNodes c p 2).isEmpty then pProbation else pListen)

/-- The accepted delay as `NODE_DELAY` shows it. -/
def State.setDelay (s : State) (c n : Nat) (d : Option Nat) : State :=
  (s.modLn c n fun z => { z with delay := d }).put (Reg.NODE_DELAY n)
    (if c = 0 then F.NODE_DELAY_DELAY_A else F.NODE_DELAY_DELAY_B) (d.getD 0)

/-- `NODE_STATUS.PROB_LEFT`: the larger of the two channels' counts. DEDUCED: notes/assumptions/44.md. -/
def State.showProb (s : State) (n : Nat) : State :=
  s.put (Reg.NODE_STATUS n) F.NODE_STATUS_PROB_LEFT (max (s.ln 0 n).probLeft (s.ln 1 n).probLeft)

/-- Adds to a count of members. -/
def State.countMember (s : State) (c n : Nat) (up : Bool) : State :=
  let f := if c = 0 then F.LINK_MEMBERS_MEMBERS_A else F.LINK_MEMBERS_MEMBERS_B
  let adj (x : Nat) : Nat := if up then x + 1 else x - 1
  let s := s.put Reg.LINK_MEMBERS f (adj (s.fld Reg.LINK_MEMBERS f))
  let r := Reg.PORT_STATUS c (s.joinPort n)
  s.put r F.PORT_STATUS_NODES (adj (s.fld r F.PORT_STATUS_NODES))

/-- Membership changes (R196, R784): counts, events 0x0332 and 0x0333, the delay dropped when it ends (R188), the port's state. -/
def State.setMemb (s : State) (c n st cause : Nat) (keepDelay : Bool := false) : State :=
  let old := s.memb c n
  if old = st then s
  else
    let s := s.put (Reg.NODE_STATUS n) (membFld c) st
    let s := if old = 3 then
        (s.countMember c n false).post 0x0333 (srcNode n) (lkDet 0 c [(19, 1, n), (20, 1, cause)])
      else s
    let s := if st = 3 then (s.countMember c n true).post 0x0332 (srcNode n) (lkDet 0 c [(19, 1, n)]) else s
    let s := if (st = 0 ∨ st = 4) ∧ !keepDelay then s.setDelay c n none else s
    let s := if st ≠ 2 then (s.modLn c n fun z => { z with probLeft := 0 }).showProb n else s
    s.refreshPort c (s.joinPort n)

/-- A notice for a node on a port (R204). -/
def State.notice (s : State) (c p n code : Nat) : State :=
  let l := (s.lp c p).notices
  if l.contains (n, code) then s
  else if 8 ≤ l.length then s.addSat (Reg.PORT_ERR c p) F.PORT_ERR_NOTICE_LOST 1
  else s.modLp c p fun z => { z with notices := z.notices ++ [(n, code)] }

/-- A membership ends with notice PROBATION_FAILED. -/
def State.endMemb (s : State) (c n cause : Nat) : State :=
  (s.notice c (s.joinPort n) n 7).setMemb c n 0 cause

/-- Foul 0x031A of a node. -/
def State.foul031A (s : State) (c n : Nat) : State :=
  s.post 0x031A (srcNode n) (lkDet 0 c [(19, 1, n), (20, 1, s.nodeFailed n)])

/-! ### Sending (R118–R125, R174) -/

/-- A frame of the device on a channel. -/
def State.mkFrame (s : State) (c kind slot dst aux : Nat) (payload : List Byte) : RawFrame :=
  let k := s.bankUsed
  let st := [BitVec.ofNat 8 (16 + kind), BitVec.ofNat 8 (c * 128 + (payload.length / 8 - 1)), 0,
    BitVec.ofNat 8 s.station] ++ leBytes 2 slot
  let st := st ++ [BitVec.ofNat 8 (crc8 st)]
  let h := [BitVec.ofNat 8 dst, BitVec.ofNat 8 (k * 64 + s.link.cycle % 64)] ++ leBytes 2 s.orbit
    ++ [BitVec.ofNat 8 (b2n (s.mode == mDegraded)), 0] ++ leBytes 2 aux
  ⟨st, h, payload, BitVec.ofNat 32 (crc32c (st ++ h ++ payload)), true⟩

/-- A frame of the twin lanes (R702, R703, R710). -/
def State.twinFrame (s : State) (kind slot aux o5 : Nat) (payload : List Byte) : RawFrame :=
  let st := [BitVec.ofNat 8 (16 + kind), BitVec.ofNat 8 (payload.length / 8 - 1), 0, BitVec.ofNat 8 s.station] ++ leBytes 2 slot
  let st := st ++ [BitVec.ofNat 8 (crc8 st)]
  let h := [BitVec.ofNat 8 s.twin.station, BitVec.ofNat 8 (s.bankUsed * 64 + s.link.cycle % 64)] ++ leBytes 2 s.orbit
    ++ [BitVec.ofNat 8 (b2n (s.mode == mDegraded)), BitVec.ofNat 8 o5] ++ leBytes 2 aux
  ⟨st, h, payload, BitVec.ofNat 32 (crc32c (st ++ h ++ payload)), true⟩

/-- A frame of the device for a port of channel `c`: from the unit's own star, or in a TX frame on T0 for the partner's (R710). -/
def State.starOut (s : State) (c p start : Nat) (f : RawFrame) : State :=
  if s.ownCh c then s.emit (.frame c p start f)
  else s.emit (.twinFrame 0 (s.twinFrame 2 f.slot f.aux f.dst f.payload))

/-- The name of a cycle in a frame's header: ORBIT_LO and CYCLE (R120). -/
def State.cycleKey (s : State) : Nat := s.orbit % 65536 * 64 + s.link.cycle % 64
/-- The cycle that a frame's header names. -/
def keyOf (f : RawFrame) : Nat := leAt f.header 2 2 * 64 + oct f.header 1 % 64

/-- Every port index. -/
def allPorts : List Nat := List.range 20

/-- A let of the cycle, forwarded from 2 blocks after its start for its 8 blocks, overlaps [lo, hi) on a channel (R177). -/
def State.letBlocks (s : State) (c lo hi : Nat) : Bool :=
  match s.link.letAt.find? fun x => x.1 == c with
  | some (_, at_) => overlap ((at_ + 2 : Nat), (at_ + 10 : Nat)) (lo, hi)
  | none => false

/-- The SERVE or LET payload of channel `c` on port `p` (R124). -/
def State.servePayload (s : State) (c p rank : Nat) : List Byte :=
  let k := s.bankUsed
  let swap := match s.link.commit with | some x => x.announcing | none => false
  let nt := (s.lp c p).notices.headD (0, 0)
  let nxt := match s.link.staged with | some b => (s.reg (Reg.SB_ID b)).toNat | none => 0
  leBytes 8 s.link.tk.toNat ++ leBytes 4 s.orbit ++ leBytes 2 (s.bankUs k)
    ++ [BitVec.ofNat 8 (s.orbitLog k + 8 * k + 16 * b2n swap), BitVec.ofNat 8 (s.fld Reg.LINK_STATUS F.LINK_STATUS_MASTER)]
    ++ leBytes 4 (s.fld (Reg.SB_APPLY k) F.SB_APPLY_CMD_APPLY)
    ++ leBytes 2 (satU 16 (tabGet (fun _ => 0) s.link.missPrev c)) ++ [BitVec.ofNat 8 nt.1, BitVec.ofNat 8 nt.2]
    ++ leBytes 4 (tabGet (fun _ => 0) s.link.missPortsPrev c)
    ++ leBytes 4 (s.reg (Reg.SB_ID k)).toNat ++ leBytes 4 nxt ++ [BitVec.ofNat 8 rank, 0, 0, 0]

/-- A SERVE (rank 0) or LET starts at a block on every port that the star sends on (R125, R174, R176). -/
def State.sendServe (s : State) (rank start : Nat) : State :=
  forEach [0, 1] s fun c s => forEach allPorts s fun p s =>
    if (s.lp c p).sending then
      let f := s.mkFrame c (if rank = 0 then kServe else kLet) 0 255 0 (s.servePayload c p rank)
      (s.modLp c p fun z => { z with notices := z.notices.drop 1 }).emit (.frame c p start f)
    else s

/-- The device's CLAIM at block 0 on every open port (R170, R172). -/
def State.sendClaim (s : State) : State :=
  let k := s.bankUsed
  let pay := [BitVec.ofNat 8 (s.fld Reg.LINK_STATION F.LINK_STATION_RANK), BitVec.ofNat 8 s.station] ++ leBytes 2 (s.bankUs k)
    ++ leBytes 4 (s.reg (Reg.SB_ID k)).toNat ++ leBytes 8 s.mem.fuse.serial.toNat
  forEach [0, 1] s fun c s => forEach allPorts s fun p s =>
    if (s.lp c p).sending then s.emit (.frame c p 0 (s.mkFrame c kClaim 0 255 0 pay)) else s

/-- Puts a frame among those waiting for a port's MGMT entries (R190). -/
def State.queueMsg (s : State) (c p : Nat) (m : LkMsg) : State :=
  s.modLp c p fun z => { z with queue := z.queue ++ [m] }

/-! ### Slot lists (R133, R135, R161, R210) -/

/-- A slot descriptor (R135). -/
def slotDesc (k : Nat) (x : Ent) (role record : Nat) : List Byte :=
  leBytes 8 (x.slot + role * 2 ^ 9 + k * 2 ^ 13 + x.rep * 2 ^ 14 + x.base * 2 ^ 17 + x.start * 2 ^ 23 + x.len * 2 ^ 40
    + x.gf * 2 ^ 55 + record * 2 ^ 58)

/-- The descriptors of node `n` in bank `k`, in entry order. DESIGN CHOICE: notes/assumptions/43.md. -/
def State.slotList (s : State) (k n : Nat) : List (List Byte) :=
  let p := s.nodePort k n
  let r := Reg.SB_NODE0 k n
  (s.ents k).filterMap fun e =>
    let x := e.2
    let role : Option (Nat × Nat) :=
      if x.fromDevice then
        if x.kind = kData ∧ x.slot = s.fld r F.SB_NODE0_CMD_SLOT ∧ x.slot ≠ 0 then some (0, s.fld r F.SB_NODE0_CMD_RECORD)
        else if x.kind = kMgmt ∧ bit x.dest p then some (3, 0) else none
      else if x.typ = 2 then if bit x.src p then some (5, 0) else none
      else if x.owner = n then
        if x.kind = kData then some (1, 0) else if x.kind = kStream then some (2, 0)
        else if x.kind = kMgmt then some (4, 0) else some (6, 0)
      else none
    role.map fun q => slotDesc k x q.1 q.2

/-- A MGMT payload (R133). -/
def mgmtPayload (op tag obj ofs len : Nat) (data : List Byte) : List Byte :=
  padBlocks ([BitVec.ofNat 8 op, BitVec.ofNat 8 tag] ++ leBytes 2 obj ++ leBytes 2 ofs ++ leBytes 2 len ++ data)

/-- Lists of at most `n` elements, with fuel. -/
def pieces {α : Type} (n : Nat) : Nat → List α → List (List α)
  | 0, _ => []
  | k + 1, l => if l.length ≤ n then [l] else l.take n :: pieces n k (l.drop n)

/-- SLOT_LIST of bank `k` to node `n` on a channel, 31 descriptors to a frame. DESIGN CHOICE: notes/assumptions/43.md. -/
def State.sendSlotList (s : State) (c n k : Nat) : State :=
  let s := s.modLn c n fun z => { z with acked := setBit z.acked k false }
  forEach (pieces 31 70 (s.slotList k n)) s fun l s =>
    let tag := s.link.nextTag
    let data := l.flatten
    let s := s.modLink fun z => { z with nextTag := (z.nextTag + 1) % 256, lists := z.lists ++ [(tag, c, n, k)] }
    s.queueMsg c (s.nodePort k n) ⟨1, kMgmt, n, mgmtPayload 6 tag 0 k data.length data⟩

/-! ### Stopping (R168, R196) -/

/-- Every membership ends (R168, R196 last row). -/
def State.endAll (s : State) : State :=
  let s := forEach [0, 1] s fun c s => forEach (List.range 241) s fun n s =>
    ((if s.memb c n = 0 then s else s.setMemb c n 0 7)).setDelay c n none
  forEach [0, 1] s fun c s => forEach allPorts s fun p s =>
    if s.portOpen c p then
      (s.setPort c p pListen).modLp c p fun z => { z with cur := none, meas := none, queue := [], notices := [] }
    else s

/-- The link stops. DEDUCED: notes/assumptions/45.md. -/
def State.linkHalt (s : State) : State :=
  let s := (s.setLinkState lStopped).endAll
  let s := match s.link.commit with
    | some x => (s.put Reg.LINK_STATUS F.LINK_STATUS_SWAP_PENDING 0).complete x.cmd stAborted 1
    | none => s
  let s := match s.link.member with
    | some c => s.complete c stAborted 1
    | none => s
  s.modLink fun z => { z with commit := none, member := none, lists := [], got := [], copies := [], arb := [] }

/-- LINK_START ends with ABORTED (R168). -/
def State.abortStart (s : State) (reason : Nat) : State :=
  let c := s.link.startCmd
  let s := (s.setLinkState lStopped).modLink fun z => { z with startCmd := none }
  match c with
  | some c => s.complete c stAborted reason
  | none => s

/-! ### Containment and ports (R205–R208) -/

/-- Every node of a port returns to NONE. -/
def State.portNodesNone (s : State) (c p cause : Nat) : State :=
  forEach ((List.range 241).filter fun n => s.joinPort n == p && decide (1 ≤ s.memb c n ∧ s.memb c n ≤ 3)) s fun n s =>
    s.setMemb c n 0 cause

/-- The port enters CLOSED. -/
def State.closePort (s : State) (c p : Nat) : State :=
  ((s.setPort c p pClosed).portNodesNone c p 2).modLp c p fun z => { z with cur := none, meas := none, queue := [] }

/-- A violation on a port (R205, R206). -/
def State.violation (s : State) (c p : Nat) : State :=
  let r := Reg.PORT_STATUS c p
  if s.portState c p = pContained ∨ s.portState c p = pClosed then s
  else
    let s := s.addSat (Reg.PORT_VIOL c p) ⟨0, 32⟩ 1
    let s := s.addSat r F.PORT_STATUS_VIOL_ORBIT 1
    let s := s.modLp c p fun z => { z with violated := true }
    if s.fld r F.PORT_STATUS_VIOL_ORBIT < s.fld Reg.LINK_CONTAIN F.LINK_CONTAIN_CONTAIN_LIMIT then s
    else
      let members := s.portNodes c p 3
      let s := (s.setPort c p pContained).addSat r F.PORT_STATUS_CONTAIN_COUNT 1
      let n := s.fld r F.PORT_STATUS_CONTAIN_COUNT
      let s := s.post 0x0316 (srcPort c p) (lkDet 0 c [(20, 1, n)])
      let s := forEach members s fun m s => s.notice c p m 4
      let s := forEach (s.portNodes c p 2) s fun m s => s.modLn c m fun z => { z with bad := true }
      if n < s.fld Reg.LINK_CONTAIN F.LINK_CONTAIN_CLOSE_LIMIT then s
      else
        let s := s.post 0x0317 (srcPort c p) (lkDet 0 c [])
        let s := forEach members s fun m s => s.notice c p m 5
        s.closePort c p

/-- CONTAIN_DECAY (R206): DECAY consecutive orbits without a violation. -/
def execContainDecay (ch : Nat) (port : Nat) (s : State) : Out :=
  .next <|
    let r := Reg.PORT_STATUS ch port
    if ch < 2 ∧ port < 20 ∧ s.fld Reg.LINK_CONTAIN F.LINK_CONTAIN_DECAY ≤ (s.lp ch port).clean then
      (s.put r F.PORT_STATUS_CONTAIN_COUNT (s.fld r F.PORT_STATUS_CONTAIN_COUNT - 1)).modLp ch port fun z => { z with clean := 0 }
    else s

/-- LANE_LOST (R111, R207): a lane reports block lock and hi_ber. -/
def execLaneLost (ch : Nat) (port : Nat) (lock : Bool) (hiBer : Bool) (s : State) : Out :=
  .next <|
    if 2 ≤ ch ∨ s.nPorts ≤ port then s
    else
      let r := Reg.PORT_STATUS ch port
      let s := if s.flag r F.PORT_STATUS_LOCK && !lock then s.addSat (Reg.PORT_ERR ch port) F.PORT_ERR_LOCK_LOSSES 1 else s
      let s := (s.put r F.PORT_STATUS_LOCK (b2n lock)).put r F.PORT_STATUS_HI_BER (b2n hiBer)
      if lock && !hiBer then s.modLp ch port fun z => { z with lostFor := 0, lossDone := false }
      else s.modLp ch port fun z => { z with cur := none }

/-- The lane of a port is lost. -/
def State.laneLost (s : State) (c p : Nat) : Bool :=
  !s.flag (Reg.PORT_STATUS c p) F.PORT_STATUS_LOCK || s.flag (Reg.PORT_STATUS c p) F.PORT_STATUS_HI_BER

/-- LANE_LOSS_EXPIRE (R207): lost for LOCK_LOSS consecutive cycles. -/
def execLaneLossExpire (ch : Nat) (port : Nat) (s : State) : Out :=
  .next <|
    let z := s.lp ch port
    let st := s.portState ch port
    if ch < 2 ∧ port < 20 ∧ s.laneLost ch port ∧ s.fld Reg.LINK_CTRL F.LINK_CTRL_LOCK_LOSS ≤ z.lostFor ∧ !z.lossDone
        ∧ 1 ≤ st ∧ st ≤ 3 then
      let s := s.modLp ch port fun z => { z with lossDone := true }
      let s := s.post 0x0318 (srcPort ch port) (lkDet 0 ch [])
      (s.portNodesNone ch port 3).setPort ch port pListen
    else s

/-! ### Enforcement (R200–R203) -/

/-- Distance of a block position from a nominal start. -/
def dist (pos : Nat) (n : Nat) : Nat := ((pos : Int) - n).natAbs

/-- The nominal start of an entry nearest to a position, with its round (R143, R200). -/
def Ent.nominal (x : Ent) (dg pos : Nat) : Nat × Nat :=
  if x.typ = 2 then
    (List.range (x.rounds dg)).foldl (fun best i =>
      let t := x.start + i * x.roundLen dg
      if dist pos t < dist pos best.1 then (t, i) else best) (x.start, 0)
  else (x.start, 0)

/-- The candidates of a port and channel near a position, nearest first kept (R200). -/
def State.nearest (s : State) (c p pos : Nat) : Option (Nat × Ent) :=
  let k := s.bankUsed
  let dg := s.bankGuard k
  let near := (s.ents k).filter fun e =>
    let x := e.2
    !x.fromDevice && x.active s.link.cycle && x.onCh c && bit x.src p &&
      (match x.rx dg with
        | some r => decide (r.1 - x.len ≤ pos) && decide ((pos : Int) < r.2 + x.len)
        | none => false)
  near.foldl (fun best e =>
    match best with
    | none => some e
    | some b =>
      let d := dist pos (e.2.nominal dg pos).1
      let d0 := dist pos (b.2.nominal dg pos).1
      if d < d0 ∨ (d = d0 ∧ (e.2.nominal dg pos).1 < (b.2.nominal dg pos).1) then some e else best) none

/-- A frame is cut: notice, violation, foul; a node in probation fails, and a CUT asks for a new measurement (R195, R203). -/
def State.cutFrame (s : State) (c p code nt slot src : Nat) (l : List (Nat × Nat × Nat)) : State :=
  let s := s.emit (.cut c p)
  let s := s.modLp c p fun z => { z with cur := none }
  let s := if nt = 0 then s else s.notice c p src nt
  let s := s.post code (srcPort c p) (lkDet slot c l)
  let s := if s.memb c src = 2 then s.modLn c src fun z => { z with bad := true } else s
  let s := if nt = 1 then s.modLn c src fun z => { z with remeasure := true } else s
  s.violation c p

/-- An EDGE (R200, R202): notice; in probation counted, on a member the fourth in a row asks for a new measurement. -/
def State.edge (s : State) (c p n : Nat) : State :=
  let s := s.notice c p n 2
  let now := s.cycleCount
  let z := s.ln c n
  if s.memb c n = 2 then s.modLn c n fun z => { z with edges := z.edges + 1 }
  else if s.memb c n = 3 ∧ (z.edgeRun = 0 ∨ z.edgeAt ≠ now) then
    if 3 ≤ z.edgeRun then s.modLn c n fun z => { z with edgeRun := 0, remeasure := true }
    else s.modLn c n fun z => { z with edgeRun := z.edgeRun + 1, edgeAt := now }
  else s

/-- START_BLOCK_RECEIVE (R200): a start block arrives on an open port at block position `pos` of the cycle; `start` is octets
1–7 of the block. DEDUCED: notes/assumptions/40.md. DEDUCED: notes/assumptions/46.md. -/
def execStartBlockReceive (ch : Nat) (port : Nat) (pos : Nat) (start : List Byte) (s : State) : Out :=
  .next <|
    if 2 ≤ ch ∨ 20 ≤ port ∨ !s.portOpen ch port then s
    else
      let kind := sbKind start
      let src := sbSrc start
      let k := s.bankUsed
      let dg := s.bankGuard k
      let s := s.modLp ch port fun z => { z with cur := none }
      if !s.scheduled then (if kind = kClaim then s else s.emit (.cut ch port))
      else if s.portState ch port = pContained then s
      else if sbChk start && (kind == kServe || (kind == kLet && bit s.link.letOpen ch)) then s
      else if sbChk start && kind == kSyncAnswer &&
          (match (s.lp ch port).meas with | some m => m.out.isSome && m.node == src | none => false) then
        s.modLp ch port fun z => { z with cur := some ⟨0, 0, false, false, true⟩ }
      else
        match s.nearest ch port pos with
        | none => s.cutFrame ch port 0x0315 0 0 src [(20, 2, pos)]
        | some (e, x) =>
          if !sbChk start || !kindOk kind || kind == kClaim then s.cutFrame ch port 0x0315 0 x.slot 0 [(20, 2, pos)]
          else
            let (nom, i) := x.nominal dg pos
            let g := x.guard dg
            let ofs : Int := (pos : Int) - nom
            if g < dist pos nom then s.cutFrame ch port 0x0310 1 x.slot src [(19, 1, src), (20, 1, ofSigned 8 ofs)]
            else if !(if x.typ = 2 then [kArb, kMgmt, kJoinReq, kSyncAnswer].contains kind else kind == x.kind) then
              s.cutFrame ch port 0x0311 3 x.slot src [(19, 1, src), (20, 1, kind)]
            else if (if x.typ = 2 then !(s.sched k src && s.nodePort k src == port)
                else src != x.owner || !(s.memb ch src == 2 || s.memb ch src == 3)) then
              s.cutFrame ch port 0x0312 1 x.slot src [(19, 1, src), (20, 1, x.owner)]
            else if (if x.typ = 2 then 11 else x.len) < sbLen start + 4 then
              s.cutFrame ch port 0x0313 1 x.slot src [(19, 1, src), (20, 1, sbLen start)]
            else
              let s := s.modLp ch port fun z => { z with cur := some ⟨e, i, x.typ == 2, false, false⟩ }
              let s := s.put (Reg.NODE_OFS src) (if ch = 0 then F.NODE_OFS_OFS_A else F.NODE_OFS_OFS_B) (ofSigned 8 ofs)
              let s := if x.typ = 2 then s.modLink fun z => { z with arb := z.arb ++ [(ch, e, i, sbPrio start, port)] } else s
              if ofs = 0 then
                if (s.ln ch src).edgeAt = s.cycleCount then s else s.modLn ch src fun z => { z with edgeRun := 0 }
              else s.edge ch port src

/-- FRAME_OVERRUN (R201): a forwarded frame has not ended at the end of its entry's receive footprint. -/
def execFrameOverrun (ch : Nat) (port : Nat) (s : State) : Out :=
  .next <|
    match (s.lp ch port).cur with
    | some q =>
      if ch < 2 ∧ port < 20 ∧ !q.answer ∧ s.scheduled then
        match s.ent s.bankUsed q.ent with
        | some x =>
          let n := if x.typ = 2 then 0 else x.owner
          s.cutFrame ch port 0x0314 1 x.slot n [(19, 1, n)]
        | none => s
      else s
    | none => s

/-- ARB_GRANT (R143): lowest PRIO, then lowest port, of the start blocks received in a round; the others are not forwarded. -/
def execArbGrant (ch : Nat) (e : Nat) (round : Nat) (s : State) : Out :=
  .next <|
    let mine := s.link.arb.filter fun x => x.1 == ch && x.2.1 == e && x.2.2.1 == round
    let best := mine.foldl (fun (b : Option (Nat × Nat)) x =>
      let y := (x.2.2.2.1, x.2.2.2.2)
      match b with
      | none => some y
      | some z => if y.1 < z.1 ∨ (y.1 = z.1 ∧ y.2 < z.2) then some y else b) none
    match best with
    | none => s
    | some (_, w) =>
      let s := s.modLink fun z => { z with arb := z.arb.filter fun x => !(x.1 == ch && x.2.1 == e && x.2.2.1 == round) }
      forEach mine s fun x s => s.modLp ch x.2.2.2.2 fun z =>
        { z with cur := if x.2.2.2.2 = w then z.cur.map fun q => { q with granted := true } else none }

/-! ### Receiving (R142, R143, R198, R199) -/

/-- The entry's own window is a feedback window (R141). -/
def State.inFeedback (s : State) (k : Nat) (x : Ent) : Bool :=
  (s.windows k).any fun w => w.1 == 2 && w.2.1 == 1 && decide (w.2.2.1 ≤ x.start) && decide (x.start < w.2.2.2)

/-- A standby's star forwards a valid copy for the device (R711): the records of a DATA frame with RFMT 1, or the frame whole. The copy
also stands for the unit itself, which becomes active with it (R720). -/
def State.twinQueue (s : State) (e c : Nat) (f : RawFrame) : State :=
  let s := if f.kind = kData then s.modLink fun z => { z with copies := z.copies ++ [⟨f.src, f.slot, c, f⟩] } else s
  if f.kind = kData ∧ f.aux / 32 % 8 = 1 then
    let l := (List.range (f.aux % 32)).map fun i => (f.slot, i, slice f.payload (16 * i) 16)
    { s with twin := { s.twin with fb := s.twin.fb ++ l } }
  else { s with twin := { s.twin with rx := s.twin.rx ++ [(e, s.cycleCount, f)] } }

/-- A judged frame has ended: it has been forwarded to the open ports of DEST; a valid copy is counted for its entry and compared with the
other channel's (R198). The result says whether the device takes it: a valid copy for the device, the first of the
frame. DEDUCED: notes/assumptions/40.md. -/
def State.takeFrame (s : State) (c p : Nat) (f : RawFrame) (kind : Nat) : State × Bool × Bool :=
  match (s.lp c p).cur with
  | none => (s, false, false)
  | some q =>
    if q.answer || f.kind != kind || (q.arb && !q.granted) || !s.scheduled then (s, false, false)
    else
      match s.ent s.bankUsed q.ent with
      | none => (s, false, false)
      | some x =>
        let s := s.modLp c p fun z => { z with cur := none }
        let s := forEach allPorts s fun d s => if bit x.dest d && s.portOpen c d && s.ownCh c then s.emit (.forward c d f) else s
        let late := s.link.cut && kind == kData && s.inFeedback s.bankUsed x
        if !f.valid || late then (s, false, false)
        else
          let s := s.modLink fun z => { z with got := (q.ent, c) :: z.got }
          let s := s.modLn c f.src fun z => { z with heard := true }
          if !bit x.dest 20 then (s, false, false)
          else if 2 ≤ s.role then (s.twinQueue q.ent c f, false, false)
          else
            match s.link.copies.find? fun y => y.src == f.src && y.slot == f.slot with
            | none => (s.modLink fun z => { z with copies := z.copies ++ [⟨f.src, f.slot, c, f⟩] }, true, true)
            | some y =>
              if y.ch ≠ c ∧ y.f.payload ≠ f.payload then
                (s.post 0x031D (srcNode f.src) (lkDet f.slot c [(19, 1, f.src)]), true, false)
              else (s, true, false)

/-- DATA_RECEIVE (R198): the copy is kept for the servo (R127–R129). -/
def execDataReceive (ch : Nat) (port : Nat) (f : RawFrame) (s : State) : Out :=
  .next (if 2 ≤ ch ∨ 20 ≤ port then s else (s.takeFrame ch port f kData).1)

/-- ARB_RECEIVE (R132, R143). -/
def execArbReceive (ch : Nat) (port : Nat) (f : RawFrame) (s : State) : Out :=
  .next (if 2 ≤ ch ∨ 20 ≤ port then s else (s.takeFrame ch port f kArb).1)

/-- ENTRY_MISSING (R199): no valid copy of a node-sent entry for the device by the end of its footprint or the cut-off. -/
def execEntryMissing (ch : Nat) (e : Nat) (s : State) : Out :=
  .next <|
    match s.ent s.bankUsed e with
    | none => s
    | some x =>
      if s.scheduled ∧ ch < 2 ∧ e < s.fld (Reg.SB_COUNT s.bankUsed) F.SB_COUNT_N_ENTRIES ∧ x.fromNode ∧ bit x.dest 20 ∧ x.onCh ch
          ∧ x.active s.link.cycle ∧ !s.link.got.contains (e, ch) ∧ (s.ownCh ch ∨ s.role = 1) then
        let s := s.modLink fun z => { z with got := (e, ch) :: z.got }
        let s := if 2 ≤ s.role then { s with twin := { s.twin with miss := s.twin.miss ++ [e] } } else s
        let s := s.modLink fun z => { z with
          miss := tabSet (fun _ => 0) z.miss ch (tabGet (fun _ => 0) z.miss ch + 1)
          missPorts := tabSet (fun _ => 0) z.missPorts ch (tabGet (fun _ => 0) z.missPorts ch ||| x.src % 2 ^ 20) }
        let s := s.addSat (Reg.LINK_MISS x.slot) (if ch = 0 then F.LINK_MISS_MISS_A else F.LINK_MISS_MISS_B) 1
        if s.memb ch x.owner = 2 then s.modLn ch x.owner fun z => { z with bad := true } else s
      else s

/-! ### Serves, lets, claims (R169–R179) -/

/-- Forwards a frame to every other open port of the channel. -/
def State.forwardAll (s : State) (c p : Nat) (f : RawFrame) : State :=
  forEach allPorts s fun d s => if d ≠ p ∧ s.portOpen c d ∧ s.ownCh c then s.emit (.forward c d f) else s

/-- A SERVE of another station is cut and recorded (R175, R226). -/
def State.foreignServe (s : State) (c p : Nat) (f : RawFrame) : State :=
  (s.emit (.cut c p)).post 0x031C (srcPort c p) (lkDet 0 c [(19, 1, f.src)])

/-- SERVE_RECEIVE (R168, R175). -/
def execServeReceive (ch : Nat) (port : Nat) (pos : Int) (f : RawFrame) (s : State) : Out :=
  .next <|
    if 2 ≤ ch ∨ 20 ≤ port ∨ !s.portOpen ch port ∨ f.kind ≠ kServe then s
    else if s.linkState = lListening then
      if f.valid then (s.foreignServe ch port f).abortStart 5 else s.emit (.cut ch port)
    else if !s.scheduled then s.emit (.cut ch port)
    else if s.linkState = lFollowing ∧ f.src = s.fld Reg.LINK_STATUS F.LINK_STATUS_MASTER ∧ -2 ≤ pos ∧ pos ≤ 2 then
      let s := s.forwardAll ch port f
      if !f.valid then s
      else
        let s := s.modLink fun z => { z with
          served := setBit z.served ch true
          cycle := oct f.header 1 % 64 }
        s.setReg Reg.LINK_ORBIT (BitVec.ofNat 32 (leAt f.payload 8 4))
    else s.foreignServe ch port f

/-- LET_PHASE_OPEN (R177): neither originated nor received by block 2. -/
def execLetPhaseOpen (ch : Nat) (s : State) : Out :=
  .next <|
    if ch < 2 ∧ s.linkState = lFollowing ∧ !bit s.link.served ch ∧ (s.link.letAt.find? fun x => x.1 == ch).isNone then
      s.modLink fun z => { z with letOpen := setBit z.letOpen ch true }
    else s

/-- LET_PHASE_CLOSE (R177): at block 32. -/
def execLetPhaseClose (ch : Nat) (s : State) : Out :=
  .next (if ch < 2 then s.modLink fun z => { z with letOpen := setBit z.letOpen ch false } else s)

/-- LET_RECEIVE (R168, R177, R178): the first let of the phase is forwarded and its station is the next time master; later lets
are cut. -/
def execLetReceive (ch : Nat) (port : Nat) (pos : Nat) (f : RawFrame) (s : State) : Out :=
  .next <|
    if 2 ≤ ch ∨ 20 ≤ port ∨ !s.portOpen ch port ∨ f.kind ≠ kLet then s
    else if s.linkState = lListening then
      if f.valid then (s.foreignServe ch port f).abortStart 5 else s.emit (.cut ch port)
    else if !bit s.link.letOpen ch ∨ (s.link.letAt.find? fun x => x.1 == ch).isSome ∨ !sbChk f.start then s.emit (.cut ch port)
    else
      let s := (s.forwardAll ch port f).modLink fun z => { z with letAt := (ch, pos) :: z.letAt }
      s.modLink fun z => { z with newMaster := some (z.newMaster.getD f.src) }

/-- LET_SEND (R176): a backup whose channels have brought neither serve nor let sends its LET at block 8 × LET_RANK. -/
def execLetSend (s : State) : Out :=
  .next <|
    let rank := s.fld Reg.LINK_STATION F.LINK_STATION_RANK
    if s.linkState = lFollowing ∧ 1 ≤ rank ∧ s.link.served = 0 ∧ s.link.letAt = [] ∧ s.link.letOpen % 4 = 3 then
      let s := s.sendServe rank (8 * rank)
      s.modLink fun z => { z with letAt := [(0, 8 * rank), (1, 8 * rank)], newMaster := some s.station }
    else s

/-- The time master changes at a cycle boundary (R178). -/
def State.succession (s : State) : State :=
  match s.link.newMaster with
  | none => s
  | some m =>
    let old := s.fld Reg.LINK_STATUS F.LINK_STATUS_MASTER
    let s := s.put Reg.LINK_STATUS F.LINK_STATUS_MASTER m
    let s := s.setReg Reg.LINK_SUCC (s.reg Reg.LINK_SUCC + 1)
    let s := s.post 0x0330 (srcBlock 3) (lkDet 0 0 [(19, 1, old), (20, 1, m)])
    let s := s.modLink fun z => { z with
      newMaster := none
      commit := z.commit.map fun x => if x.announcing then { x with reason := 1 } else x }
    if m = s.station then s.setLinkState lRunning else s

/-- MASTER_LOSS_EXPIRE (R168), which does not apply to a STANDBY unit (R709). -/
def execMasterLossExpire (s : State) : Out :=
  .next <|
    if s.role = 2 then s
    else if s.linkState = lFollowing ∧ s.fld Reg.LINK_CTRL F.LINK_CTRL_MASTER_LOSS ≤ s.link.lossCount then
      s.linkHalt.post 0x0320 (srcBlock 3) (lkDet 0 0 [(20, 1, satU 8 s.link.lossCount)])
    else s

/-- CLAIM_RECEIVE (R169, R171, R173). DEDUCED: notes/assumptions/41.md. -/
def execClaimReceive (ch : Nat) (port : Nat) (f : RawFrame) (s : State) : Out :=
  .next <|
    if 2 ≤ ch ∨ 20 ≤ port ∨ !s.portOpen ch port ∨ s.scheduled ∨ !f.valid ∨ f.kind ≠ kClaim then s
    else
      let s := s.forwardAll ch port f
      let st := oct f.payload 1
      let rank := oct f.payload 0
      let serial := leAt f.payload 8 8
      if s.link.claims.contains (1 - ch, st) then
        s.modLink fun z => { z with claims := z.claims.erase (1 - ch, st) }
      else
        let s := s.modLink fun z => { z with claims := z.claims ++ [(ch, st)] }
        let own := s.fld Reg.LINK_STATION F.LINK_STATION_RANK
        let mine := s.mem.fuse.serial.toNat
        let state := s.linkState
        if !(state = lListening ∨ state = lClaiming) ∨ serial = mine ∨ !(rank < own ∨ (rank = own ∧ serial < mine)) then s
        else if 8 ≤ s.link.better + 1 then
          (s.post 0x0321 (srcBlock 3) (lkDet 0 0 [(24, 8, serial)])).abortStart 6
        else (s.setLinkState lListening).modLink fun z => { z with better := z.better + 1, count := 5 }

/-- LISTEN_COUNT_EXPIRE (R168, R172). -/
def execListenCountExpire (s : State) : Out :=
  .next <|
    if s.linkState = lListening ∧ s.link.count = 0 then
      ((s.setLinkState lClaiming).modLink fun z => { z with count := 4 }).sendClaim
    else s

/-- CLAIM_COUNT_EXPIRE (R168, R172): the first SERVE, ORBIT 0, CYCLE 0. -/
def execClaimCountExpire (s : State) : Out :=
  .next <|
    if s.linkState = lClaiming ∧ s.link.count = 0 then
      let cmd := s.link.startCmd
      let s := (s.setLinkState lRunning).setReg Reg.LINK_ORBIT 0
      let s := s.put Reg.LINK_STATUS F.LINK_STATUS_MASTER s.station
      let s := s.modLink fun z => { z with
        startCmd := none, cycle := 0, claims := [], got := [], copies := [], arb := [], cut := false, miss := [], missPorts := []
        missPrev := [], missPortsPrev := [] }
      let s := s.sendServe 0 0
      match cmd with
      | some c => s.complete c stOK 0
      | none => s
    else s

/-! ### Delay measurement (R184–R191) -/

/-- The device MGMT entries of a port and channel that are active in a cycle, the one with the lowest slot (R185). -/
def State.probeEntry (s : State) (k c p cycle : Nat) : Option (Nat × Ent) :=
  ((s.ents k).filter fun e => e.2.fromDevice && e.2.kind == kMgmt && e.2.onCh c && bit e.2.dest p && e.2.active cycle).foldl
    (fun b e => match b with
      | none => some e
      | some y => if e.2.slot < y.2.slot then some e else b) none

/-- The probe interval of an entry (R185). -/
def State.probeInterval (s : State) (x : Ent) : Int × Int :=
  (x.start + 5, x.start + 17 + 2 * s.fld Reg.LINK_JOIN F.LINK_JOIN_DELAY_MAX)

/-- A cycle admits a probe of entry `x` on a port and channel (R185). -/
def State.admitsProbe (s : State) (k c p cycle : Nat) (x : Ent) : Bool :=
  let dg := s.bankGuard k
  decide (5 ≤ x.len) && (s.ents k).all fun e =>
    !(e.2.active cycle && e.2.onCh c && bit e.2.src p) ||
      (match e.2.rx dg with
        | some r => !overlap r (s.probeInterval x)
        | none => true)

/-- No cycle of the orbit admits a probe on the port (R189). -/
def State.noProbe (s : State) (k c p : Nat) : Bool :=
  (List.range (2 ^ s.orbitLog k)).all fun cy =>
    match s.probeEntry k c p cy with
    | some (_, x) => !s.admitsProbe k c p cy x
    | none => true

/-- The node to be measured next on a port (R184, R191, R202, R203). -/
def State.nextNode (s : State) (c p : Nat) : Option Nat :=
  let k := s.bankUsed
  let want (n : Nat) : Bool :=
    decide (1 ≤ n) && s.sched k n && s.nodePort k n == p &&
      ((s.ln c n).remeasure || (s.listed n && s.memb c n != 3 && (s.ln c n).delay.isNone))
  let l := (List.range 241).filter want
  match l.find? fun n => decide ((s.lp c p).cursor < n) with
  | some n => some n
  | none => l.head?

/-- The DELAY_PROBE that a port sends in entry `x` this cycle, and the measurement after it. -/
def State.sendProbe (s : State) (c p : Nat) (e : Nat) (x : Ent) : State :=
  let k := s.bankUsed
  match s.probeEntry k c p s.link.cycle with
  | none => s
  | some (e', _) =>
    if e' ≠ e then s
    else
      let m := match (s.lp c p).meas with
        | some m => some m
        | none => (s.nextNode c p).map fun n => ({ node := n } : LkMeas)
      match m with
      | none => s
      | some m =>
        if s.noProbe k c p then
          if (s.lp c p).noInterval then s
          else (s.modLp c p fun z => { z with noInterval := true }).post 0x031F (srcNode m.node)
            (lkDet x.slot c [(19, 1, m.node), (20, 1, 3)])
        else if !s.admitsProbe k c p s.link.cycle x ∨ m.out.isSome then s
        else
          let us := s.bankUs k
          let t1 := s.link.tk + BitVec.ofNat 64 ((x.start + 4) * us * 16000 / blocksOf us)
          let body (no ans d : Nat) := mgmtPayload 8 0 0 0 8 (leBytes 2 ans ++ [BitVec.ofNat 8 no, 0] ++ leBytes 4 d)
          match m.final with
          | some d =>
            let f := s.mkFrame c kMgmt x.slot m.node 0 (body 4 0x1FF d)
            (s.modLp c p fun z => { z with meas := none, cursor := m.node }).starOut c p x.start f
          | none =>
            let f := s.mkFrame c kMgmt x.slot m.node 0 (body m.ms.length x.slot 0xFFFFFFFF)
            let s := s.modLn c m.node fun z => { z with remeasure := false }
            (s.modLp c p fun z => { z with meas := some { m with out := some (t1, s.cycleCount, x.start) } }).starOut
              c p x.start f

/-- The first waiting frame that fits an entry, in the order of R190, and the others. -/
def pickMsg (len : Nat) (q : List LkMsg) : Option (LkMsg × List LkMsg) :=
  let fits (m : LkMsg) : Bool := decide (m.payload.length / 8 + 3 ≤ len)
  let best := q.foldl (fun (b : Option LkMsg) m =>
    if !fits m then b else match b with
      | none => some m
      | some y => if m.rank < y.rank then some m else b) none
  best.map fun m => (m, q.erase m)

/-- Each destination port of a device MGMT entry on channel `c` carries one frame that waits, a probe, or idle (R142, R190). -/
def State.mgmtOn (s : State) (c e : Nat) (x : Ent) : State :=
  forEach allPorts s fun p s =>
    if !(x.onCh c && bit x.dest p && ((s.lp c p).sending || !s.ownCh c) && s.portOpen c p)
        || s.letBlocks c x.start (x.start + x.len) then s
    else
      match pickMsg x.len (s.lp c p).queue with
      | some (m, rest) =>
        (s.modLp c p fun z => { z with queue := rest }).starOut c p x.start (s.mkFrame c m.kind x.slot m.dst 0 m.payload)
      | none => s.sendProbe c p e x

/-- The star sends the frames that the active has sent it for this cycle (R710, R726). -/
def State.heldOut (s : State) : Bool := (decide (2 ≤ s.role) && s.twin.out == 0) || s.twin.out == 2

/-- A frame that the star rebuilds from a TX frame (R710). -/
def State.heldFrame (s : State) (c kind : Nat) (t : TwTx) : RawFrame :=
  let len := t.payload.length / 8
  let st := [BitVec.ofNat 8 (16 + kind), BitVec.ofNat 8 (c * 128 + (len - 1)), 0,
    BitVec.ofNat 8 (s.fld Reg.LINK_STATUS F.LINK_STATUS_MASTER)] ++ leBytes 2 t.slot
  let st := st ++ [BitVec.ofNat 8 (crc8 st)]
  let h := [BitVec.ofNat 8 t.dst, BitVec.ofNat 8 (t.bank * 64 + t.cycle % 64)] ++ leBytes 2 (t.cycle / 64)
    ++ [BitVec.ofNat 8 (b2n (s.mode == mDegraded)), 0] ++ leBytes 2 t.aux
  ⟨st, h, t.payload, BitVec.ofNat 32 (crc32c (st ++ h ++ t.payload)), true⟩

/-- The TX frames held for an entry in this cycle. -/
def State.heldFor (s : State) (x : Ent) : List TwTx := s.twin.tx.filter fun t => t.slot == x.slot && t.cycle == s.cycleKey

/-- The MGMT frames held for an entry leave on the port of the node they are for; a probe's departure is noted (R710). -/
def State.mgmtHeld (s : State) (c : Nat) (x : Ent) : State :=
  forEach (s.heldFor x) s fun t s =>
    let grant := decide (t.dst = 255)
    let n := if grant then oct t.payload 0 else t.dst
    let p := s.nodePort s.bankUsed n
    if !(x.onCh c && bit x.dest p && (s.lp c p).sending && s.portOpen c p) then s
    else
      let s := s.emit (.frame c p x.start (s.heldFrame c (if grant then kJoinGrant else kMgmt) t))
      if !grant && oct t.payload 0 == 8 && leAt t.payload 8 2 != 0x1FF then
        let us := s.bankUs s.bankUsed
        let t1 := s.link.tk + BitVec.ofNat 64 ((x.start + 4) * us * 16000 / blocksOf us)
        s.modLp c p fun z => { z with meas := some { node := n, out := some (t1, s.cycleCount, x.start) } }
      else s

/-- DEVICE_MGMT_SEND (R142, R190, R710): each destination port of a device MGMT entry carries one frame that waits, or idle. -/
def execDeviceMgmtSend (e : Nat) (s : State) : Out :=
  .next <|
    match s.ent s.bankUsed e with
    | none => s
    | some x =>
      if s.scheduled ∧ e < s.fld (Reg.SB_COUNT s.bankUsed) F.SB_COUNT_N_ENTRIES ∧ x.fromDevice ∧ x.kind = kMgmt
          ∧ x.active s.link.cycle ∧ !s.link.got.contains (e, 2) then
        let s := s.modLink fun z => { z with got := (e, 2) :: z.got }
        forEach ([0, 1].filter s.ownCh) s fun c s =>
          if s.heldOut then s.mgmtHeld c x else s.mgmtOn c e x
      else s

/-- A measurement gives up on its node: foul 0x031F, next node (R188, R189). -/
def State.measFail (s : State) (c p n cause : Nat) : State :=
  (s.modLp c p fun z => { z with meas := none, cursor := n }).post 0x031F (srcNode n) (lkDet 0 c [(19, 1, n), (20, 1, cause)])

/-- Four measurements in doubled units (R188). -/
def State.delayAccept (s : State) (c p : Nat) (m : LkMeas) : State :=
  let lo := m.ms.foldl min (m.ms.headD 0)
  let hi := m.ms.foldl max (m.ms.headD 0)
  let d : Int := (m.ms.foldl (· + ·) 0 + 4) / 8
  if 64 < hi - lo then s.modLp c p fun z => { z with meas := some { m with ms := [] } }
  else if (s.fld Reg.LINK_JOIN F.LINK_JOIN_DELAY_MAX * 2048 : Nat) < 10 * d then s.measFail c p m.node 2
  else
    let n := m.node
    let d := d.toNat
    let old := (s.ln c n).delay
    let s := s.modLp c p fun z => { z with meas := some { m with final := some d, ms := [] } }
    let s := s.setDelay c n (some d)
    match old with
    | some o =>
      if s.memb c n = 3 ∧ 204 < ((o : Int) - d).natAbs then (s.foul031A c n).endMemb c n 8 else s
    | none => s

/-- SYNC_ANSWER_RECEIVE (R186–R188): `t2` is the time at which the answer's start block began to arrive. A standby's star reports
the answer (R710). -/
def execSyncAnswerReceive (ch : Nat) (port : Nat) (t2 : W64) (f : RawFrame) (s : State) : Out :=
  .next <|
    match (s.lp ch port).meas with
    | none => s
    | some m =>
      match m.out with
      | none => s
      | some (t1, seq, start) =>
        let s := s.modLp ch port fun z => { z with cur := none }
        if 2 ≤ s.role then
          let s := s.modLp ch port fun z => { z with meas := none }
          { s with twin := { s.twin with probes := s.twin.probes ++ [⟨port, t1, t2, f⟩] } }
        else
        let us := s.bankUs s.bankUsed
        let n := blocksOf us
        let p : Int := us * 16000
        let rel := timeDiff t2 s.link.tk * n
        let hi : Int := start + 17 + 2 * s.fld Reg.LINK_JOIN F.LINK_JOIN_DELAY_MAX
        if !f.valid ∨ f.kind ≠ kSyncAnswer ∨ f.src ≠ m.node ∨ leAt f.payload 4 2 ≠ seq % 65536 ∨ rel < (start + 5) * p
            ∨ hi * p < rel + (sbLen f.start + 4) * p then s
        else
          let x := timeDiff t2 t1 - leAt f.payload 0 4
          let m := { m with ms := m.ms ++ [x], silent := 0, out := none }
          if m.ms.length < 4 then s.modLp ch port fun z => { z with meas := some m } else s.delayAccept ch port m

/-- PROBE_UNANSWERED (R189). -/
def execProbeUnanswered (ch : Nat) (port : Nat) (s : State) : Out :=
  .next <|
    match (s.lp ch port).meas with
    | none => s
    | some m =>
      if m.out.isNone then s
      else if 8 ≤ m.silent + 1 then s.measFail ch port m.node 1
      else s.modLp ch port fun z => { z with meas := some { m with out := none, silent := m.silent + 1 } }

/-- REPROBE_EXPIRE (R191): REPROBE supervision ticks since the last; each member is measured again. -/
def execReprobeExpire (s : State) : Out :=
  .next <|
    let r := s.fld Reg.LINK_TIMERS F.LINK_TIMERS_REPROBE
    if r ≠ 0 ∧ r ≤ s.link.ticks then
      let s := s.modLink fun z => { z with ticks := 0 }
      forEach [0, 1] s fun c s => forEach ((List.range 241).filter fun n => s.memb c n == 3) s fun n s =>
        s.modLn c n fun z => { z with remeasure := true }
    else s

/-! ### Joining (R192–R196) -/

/-- A JOIN_GRANT (R137). -/
def State.sendGrant (s : State) (c p n result : Nat) (serial : W64) (orbit : Nat) : State :=
  s.queueMsg c p ⟨0, kJoinGrant, 255, [BitVec.ofNat 8 n, BitVec.ofNat 8 result]
    ++ leBytes 2 (s.fld Reg.LINK_JOIN F.LINK_JOIN_PROBATION) ++ leBytes 4 orbit ++ leBytes 8 serial.toNat⟩

/-- A JOIN_REQ is judged by the table of R193. -/
def State.joinReq (s : State) (c p : Nat) (f : RawFrame) : State :=
  let n := oct f.payload 12
  let serial : W64 := BitVec.ofNat 64 (leAt f.payload 0 8)
  let k := s.bankUsed
  let z := s.ln c n
  let m := s.memb c n
  let refuse (res : Nat) (answer : Bool) : State :=
    let s := s.post 0x031B (srcNode n) (lkDet f.slot c [(19, 1, n), (20, 1, res)])
    if answer then s.sendGrant c p n res serial 0 else s
  let inForce := decide (1 ≤ m ∧ m ≤ 3)
  if (inForce && z.serial != serial) || (s.sched k n && s.nodePort k n != p) then refuse 1 true
  else if !s.listed n || (s.flag (Reg.ADM_CTRL s.admCopy n) F.ADM_CTRL_CHECK_SERIAL
      && s.reg64 (Reg.ADM_SERIAL s.admCopy n) != serial) then refuse 2 true
  else if !s.sched k n then refuse 3 true
  else if z.delay.isNone then refuse 4 true
  else if m = 4 then refuse 0 false
  else if m = 1 then
    let s := s.sendGrant c p n 0 serial z.grantOrbit
    if bit z.acked k then s else s.sendSlotList c n k
  else
    let s := s.setMemb c n 0 9 true
    let orbit := (s.orbit + 2) % 2 ^ 32
    let s := s.put (Reg.NODE_STATUS n) F.NODE_STATUS_PORT p
    let s := s.modLn c n fun z => { z with serial := serial, grantOrbit := orbit, acked := 0 }
    let s := s.setMemb c n 1 0
    (s.sendGrant c p n 0 serial orbit).sendSlotList c n k

/-- JOIN_REQ_RECEIVE (R193). -/
def execJoinReqReceive (ch : Nat) (port : Nat) (f : RawFrame) (s : State) : Out :=
  .next <|
    if 2 ≤ ch ∨ 20 ≤ port then s
    else
      let (s, taken, _) := s.takeFrame ch port f kJoinReq
      if taken && decide (1 ≤ oct f.payload 12 ∧ oct f.payload 12 ≤ 240) && f.payload.length == 24 then s.joinReq ch port f else s

/-- PROBATION_END (R195, R196). DEDUCED: notes/assumptions/44.md. -/
def execProbationEnd (ch : Nat) (n : Nat) (s : State) : Out :=
  .next <|
    let z := s.ln ch n
    if 2 ≤ ch ∨ 240 < n ∨ s.memb ch n ≠ 2 ∨ 1 < z.probLeft then s
    else if !z.bad ∧ z.edges ≤ s.fld Reg.LINK_JOIN F.LINK_JOIN_EDGE_MAX then
      ((s.notice ch (s.joinPort n) n 6).put (Reg.NODE_STATUS n) F.NODE_STATUS_FAILED 0).setMemb ch n 3 0
    else
      let s := s.addSat (Reg.NODE_STATUS n) F.NODE_STATUS_FAILED 1
      let s := (s.foul031A ch n).notice ch (s.joinPort n) n 7
      s.setMemb ch n (if s.nodeFailed n < s.fld Reg.LINK_TIMERS F.LINK_TIMERS_JOIN_RETRY then 0 else 4) 0

/-- MEMBER_SILENT (R196). -/
def execMemberSilent (ch : Nat) (n : Nat) (s : State) : Out :=
  .next <|
    if ch < 2 ∧ n ≤ 240 ∧ s.memb ch n = 3 ∧ s.fld Reg.LINK_JOIN F.LINK_JOIN_SILENT ≤ (s.ln ch n).silent then
      (s.post 0x031E (srcNode n) (lkDet 0 ch [(19, 1, n)])).setMemb ch n 0 1
    else s

/-! ### MGMT from nodes (R133, R194, R225) -/

/-- SLOT_ACK: the list with that TAG has arrived; a bank is acknowledged when no list for it is open. -/
def State.slotAck (s : State) (n tag : Nat) : State :=
  match s.link.lists.find? fun x => x.1 == tag && x.2.2.1 == n with
  | none => s
  | some (_, c, _, k) =>
    let rest := s.link.lists.filter fun x => !(x.1 == tag && x.2.2.1 == n)
    let s := s.modLink fun z => { z with lists := rest }
    if rest.any fun x => x.2.1 == c && x.2.2.1 == n && x.2.2.2 == k then s
    else s.modLn c n fun z => { z with acked := setBit z.acked k true }

/-- A reply completes its LINK_MGMT. -/
def State.mgmtReply (s : State) (n : Nat) (p : List Byte) : State :=
  let op := oct p 0
  match s.link.mgmt.find? fun m => m.node == n && m.tag == oct p 1 with
  | none => s
  | some m =>
    let s := s.modLink fun z => { z with mgmt := z.mgmt.filter fun y => !(y.tag == m.tag && y.node == n) }
    if op = 5 then s.complete m.cmd 0x40 (oct p 8)
    else
      let len := min (leAt p 6 2) (m.cmd.u 22 2)
      let s := if op = 3 ∧ 0 < len then s.devWrite (m.cmd.u 24 8) (slice p 8 len) else s
      s.complete m.cmd stOK 0

/-- MGMT_RECEIVE (R133). -/
def execMgmtReceive (ch : Nat) (port : Nat) (f : RawFrame) (s : State) : Out :=
  .next <|
    if 2 ≤ ch ∨ 20 ≤ port then s
    else
      let (s, taken, first) := s.takeFrame ch port f kMgmt
      if !taken ∨ !first ∨ f.dst ≠ 0 then s
      else
        match oct f.payload 0 with
        | 7 => s.slotAck f.src (oct f.payload 1)
        | 3 => s.mgmtReply f.src f.payload
        | 4 => s.mgmtReply f.src f.payload
        | 5 => s.mgmtReply f.src f.payload
        | _ => s

/-- LINK_MGMT_TIMEOUT (R225): no reply for 4 orbits, or no schedule in use any more. DESIGN CHOICE: notes/assumptions/42.md. -/
def execLinkMgmtTimeout (tag : Nat) (s : State) : Out :=
  .next <|
    match s.link.mgmt.find? fun m => m.tag == tag && (decide (4 ≤ idxSub s.orbit m.orbit) || !s.scheduled) with
    | none => s
    | some m => (s.modLink fun z => { z with mgmt := z.mgmt.erase m }).complete m.cmd stTimeout 0

/-! ### Boundaries (R140, R194–R197, R205–R214) -/

/-- Entries 0 and 1 take `t` as their time and step with a period of `us` µs (R92, R212, R783). -/
def State.rebase (s : State) (t : W64) (us : Nat) : State :=
  let l := s.fld Reg.PLAN_CTRL F.PLAN_CTRL_TICK_LEN_USED
  let s := if s.armed 0 then (s.setReg64 (Reg.ACT_TIME 0) t).setReg64 (Reg.ACT_PERIOD 0) (BitVec.ofNat 64 (us * 16000)) else s
  if s.armed 1 then (s.setReg64 (Reg.ACT_TIME 1) t).setReg64 (Reg.ACT_PERIOD 1) (BitVec.ofNat 64 (l * us * 16000)) else s

/-- A withheld schedule commit (R42, R213). -/
def State.withhold (s : State) (reason : Nat) : State :=
  match s.link.commit with
  | none => s
  | some x =>
    let s := s.modLink fun z => { z with commit := none }
    (s.put Reg.LINK_STATUS F.LINK_STATUS_SWAP_PENDING 0).complete x.cmd stAborted reason

/-- Memberships that the bank or list in use no longer allows end (R196, R214): cause 4 not LISTED, 5 not SCHEDULED. -/
def State.endDisallowed (s : State) : State :=
  forEach [0, 1] s fun c s =>
    forEach ((List.range 241).filter fun n => decide (1 ≤ s.memb c n ∧ s.memb c n ≤ 3)) s fun n s =>
      if !s.listed n then s.endMemb c n 4 else if !s.sched s.bankUsed n then s.endMemb c n 5 else s

/-- Every member scheduled in bank `b` has acknowledged its list (R211). -/
def State.allAcked (s : State) (b : Nat) : Bool :=
  (List.range 241).all fun n =>
    !(s.sched b n && (s.memb 0 n == 3 || s.memb 1 n == 3)) || bit (s.ln 0 n).acked b || bit (s.ln 1 n).acked b

/-- An orbit that begins at the boundary `tk` ends at a planning-tick boundary (R211). -/
def State.endsAtTick (s : State) (tk : W64) : Bool :=
  let k := s.bankUsed
  let e := tk + BitVec.ofNat 64 (2 ^ s.orbitLog k * s.bankUs k * 16000)
  let p := s.actPeriod 1
  s.armed 1 && p != 0 && decide (timeDiff e (s.actTime 1) % (p : Int) = 0)

/-- The staged bank comes into use (R211, R212). -/
def State.bankSwap (s : State) (b : Nat) (c : Cmd) (tk : W64) : State :=
  let old := s.bankUs s.bankUsed
  let s := s.put Reg.LINK_STATUS F.LINK_STATUS_BANK b
  let s := (s.put Reg.LINK_STATUS F.LINK_STATUS_STAGED_VALID 0).put Reg.LINK_STATUS F.LINK_STATUS_SWAP_PENDING 0
  let s := s.modLink fun z => { z with commit := none, staged := none, cycle := 0 }
  let s := forEach [0, 1] s fun c s => forEach allPorts s fun p s => s.modLp c p fun z => { z with noInterval := false }
  let s := if s.bankUs b = old then s else s.rebase tk (s.bankUs b)
  let s := s.post 0x0331 (srcBlock 3) (lkDet 0 0 [(19, 1, b), (20, 4, (s.reg (Reg.SB_ID b)).toNat)])
  s.endDisallowed.complete c stOK 0

/-- A schedule commit at an orbit boundary (R211, R213). -/
def State.commitStep (s : State) (tk : W64) : State :=
  match s.link.commit, s.link.staged with
  | some x, some b =>
    if x.announcing then
      if x.reason ≠ 0 then s.withhold x.reason else s.bankSwap b x.cmd tk
    else if s.allAcked b then
      if s.bankUs b = s.bankUs s.bankUsed ∨ s.endsAtTick tk then
        s.modLink fun z => { z with commit := some { x with announcing := true } }
      else s
    else s.modLink fun z => { z with commit := some { x with waited := x.waited + 1 } }
  | some _, none => s.withhold 4
  | none, _ => s

/-- ACK_WAIT_EXPIRE (R211). -/
def execAckWaitExpire (s : State) : Out :=
  .next <|
    match s.link.commit with
    | some x =>
      if !x.announcing ∧ s.fld Reg.LINK_JOIN F.LINK_JOIN_ACK_WAIT ≤ x.waited ∧ !(s.allAcked (s.link.staged.getD 0)) then s.withhold 3 else s
    | none => s

/-- The grants whose orbit has come (R194, R196). -/
def State.grantBoundary (s : State) : State :=
  forEach [0, 1] s fun c s => forEach ((List.range 241).filter fun n => s.memb c n == 1 && (s.ln c n).grantOrbit == s.orbit) s fun n s =>
    if bit (s.ln c n).acked s.bankUsed then
      let s := s.modLn c n fun z => { z with
        probLeft := s.fld Reg.LINK_JOIN F.LINK_JOIN_PROBATION, bad := false, edges := 0, edgeRun := 0 }
      (s.setMemb c n 2 0).showProb n
    else (s.foul031A c n).endMemb c n 0

/-- The ports at an orbit boundary (R205–R208); those of the partner's star are as it reports them (R710). -/
def State.portBoundary (s : State) : State :=
  forEach ([0, 1].filter s.ownCh) s fun c s => forEach allPorts s fun p s =>
    let r := Reg.PORT_STATUS c p
    let s := s.modLp c p fun z => { z with violated := false, clean := if z.violated then 0 else z.clean + 1 }
    let s := s.put r F.PORT_STATUS_VIOL_ORBIT 0
    if s.portState c p = pContained then (s.put r F.PORT_STATUS_STATE pListen).refreshPort c p else s

/-- An orbit boundary (R140, R205–R208, R196). A unit in STANDBY or REJOINING holds no memberships and takes its bank from
the active (R710, R717). -/
def State.orbitBoundary (s : State) (tk : W64) : State :=
  if 2 ≤ s.role then s.portBoundary
  else
  let s := match s.link.member with
    | some c =>
      let s := s.put Reg.LINK_STATUS F.LINK_STATUS_ADM_BANK (1 - s.admCopy)
      let s := s.modLink fun z => { z with member := none }
      s.endDisallowed.complete c stOK 0
    | none => s.endDisallowed
  let s := (s.commitStep tk).portBoundary
  let s := forEach [0, 1] s fun c s => forEach ((List.range 241).filter fun n => s.memb c n == 3) s fun n s =>
    s.modLn c n fun z => { z with heard := false, silent := if z.heard then 0 else z.silent + 1 }
  s.grantBoundary

/-- The stars originate the serve: the link is RUNNING, or the unit is in STANDBY or REJOINING and FOLLOWING (R174, R709). -/
def State.servesNow (s : State) : Bool := s.linkState == lRunning || (s.linkState == lFollowing && decide (2 ≤ s.role))

/-- The link's part of a cycle boundary T_k (R27, R139, R172, R174). The count of listen or claim cycles, or the
next cycle of the schedule with its orbit boundary and serve. DEDUCED: notes/assumptions/41.md. -/
def State.linkBoundary (s : State) (tk : W64) : State :=
  let s := s.modLink fun z => { z with tk := tk, claims := [] }
  let s := forEach [0, 1] s fun c s => forEach allPorts s fun p s =>
    s.modLp c p fun z => { z with
      sending := s.portOpen c p && s.ownCh c
      lostFor := if s.laneLost c p then z.lostFor + 1 else 0 }
  let s := match s.link.stopCmd with
    | some c => (s.linkHalt.modLink fun z => { z with stopCmd := none }).complete c stOK 0
    | none => s
  let st := s.linkState
  if st = lListening then s.modLink fun z => { z with count := z.count - 1 }
  else if st = lClaiming then
    let s := s.modLink fun z => { z with count := z.count - 1 }
    if s.link.count = 0 then s else s.sendClaim
  else if !s.scheduled then s
  else
    let quiet := s.link.served == 0 && s.link.letAt == []
    let s := s.succession
    let next := (s.link.cycle + 1) % 2 ^ s.orbitLog s.bankUsed
    let s := s.modLink fun z => { z with
      cycle := next, missPrev := z.miss, missPortsPrev := z.missPorts, miss := [], missPorts := [], got := [], copies := []
      cut := false, arb := [], served := 0, letOpen := 0, letAt := []
      lossCount := if st = lFollowing && quiet && s.role ≤ 1 then z.lossCount + 1 else 0 }
    let s := forEach [0, 1] s fun c s => forEach ((List.range 241).filter fun n => s.memb c n == 2) s fun n s =>
      (s.modLn c n fun z => { z with probLeft := z.probLeft - 1 }).showProb n
    if next ≠ 0 then (if s.servesNow then s.sendServe 0 0 else s)
    else
      let s := s.setReg Reg.LINK_ORBIT (s.reg Reg.LINK_ORBIT + 1)
      let (s, bad) :=
        if s.link.recheck then
          let (s, r) := s.checkBank s.bankUsed
          (s.modLink fun z => { z with recheck := false }, r)
        else (s, 0)
      if bad ≠ 0 ∧ s.linkState = lRunning then s.linkHalt.post 0x0319 (srcBlock 3) (lkDet 0 0 [(20, 1, bad)])
      else
        let s := s.orbitBoundary tk
        if s.servesNow then s.sendServe 0 0 else s

/-- A register of bank `k` is written (R152, R210, R213). DEDUCED: notes/assumptions/45.md. -/
def State.bankWritten (s : State) (k : Nat) : State :=
  let s := s.put (Reg.SB_STATUS k) F.SB_STATUS_VALID 0
  let s := if k = s.bankUsed ∧ s.scheduled then s.modLink fun z => { z with recheck := true } else s
  if s.link.staged = some k then
    let s := (s.modLink fun z => { z with staged := none }).put Reg.LINK_STATUS F.LINK_STATUS_STAGED_VALID 0
    if s.link.commit.isSome then s.withhold 4 else s
  else s

/-- One channel has no member port and the other has one, while a schedule is in use (R209). -/
def State.channelDefect (s : State) : Bool :=
  let has (c : Nat) : Bool := allPorts.any fun p => s.portState c p == pMember
  s.scheduled && has 0 != has 1

/-- The link's part of a supervision tick (R191, R209). -/
def State.linkTick (s : State) : State :=
  let s := s.modLink fun z => { z with ticks := if s.fld Reg.LINK_TIMERS F.LINK_TIMERS_REPROBE = 0 then 0 else z.ticks + 1 }
  if s.channelDefect then s.setDefect dfLink else s

/-! ### Commands (R225) -/

/-- The mode is OPERATE, SERVICE or DEGRADED. -/
def State.inService (s : State) : Bool := decide (2 ≤ s.mode)

/-- The FB frames of a cycle (R711): records that become ready at a block, records queued, when the two lanes are free, their delays;
the block at which the last frame completes at the active. -/
def fbRun : Nat → List (Nat × Nat) → Nat → Nat × Nat → Nat × Nat → Nat
  | 0, _, _, _, _ => 0
  | fuel + 1, ev, pend, fr, dl =>
    let free := min fr.1 fr.2
    let now := if pend = 0 then max free (ev.headD (0, 0)).1 else free
    let come := ev.takeWhile fun e => decide (e.1 ≤ now)
    let pend := come.foldl (fun n e => n + e.2) pend
    if pend = 0 then 0
    else
      let r := min 14 pend
      let fin := now + 7 + 2 * r
      let first := decide (fr.1 ≤ fr.2)
      let rest := fbRun fuel (ev.drop come.length) (pend - r) (if first then (fin, fr.2) else (fr.1, fin)) dl
      max (fin + if first then dl.1 else dl.2) rest

/-- A lane delay of `TWIN_DELAY` in block times of bank `k`. -/
def State.delayBlocks (s : State) (k : Nat) (f : Fld) : Nat :=
  ceilDiv (s.fld Reg.TWIN_DELAY f * blocksOf (s.bankUs k)) (s.bankUs k * 16000)

/-- FWD_END of bank `k` (R712): over the cycles of the orbit, every feedback copy of the partner's channel present. -/
def State.fwdEnd (s : State) (k : Nat) : Nat :=
  let es := ((s.ents k).map (·.2)).filter fun x =>
    x.fromNode && x.kind == kData && bit x.dest 20 && x.onCh (1 - s.twinSide) && s.inFeedback k x
  let dl := (s.delayBlocks k F.TWIN_DELAY_T0, s.delayBlocks k F.TWIN_DELAY_T1)
  (List.range (2 ^ min 6 (s.orbitLog k))).foldl (fun m cy =>
    let ev := ((es.filter fun x => x.active cy).map fun x => (x.start + x.len + 2, (x.len - 3) / 2)).mergeSort fun a b => decide (a.1 ≤ b.1)
    let n := ev.foldl (fun n e => n + e.2) 0
    max m (fbRun (n + 1) ev 0 (0, 0) dl)) 0

/-- After a check: the staged bank, its slot lists and its SCHED_ID in the serves (R210), or the failed check. -/
def State.stageChecked (s : State) (c : Cmd) (k : Nat) : State :=
  let (s, r) := s.checkBank k
  let (s, r) := if r = 0 ∧ s.role ≠ 0 ∧ s.fld (Reg.SB_CUTOFF k) F.SB_CUTOFF_FB_CUTOFF < s.fwdEnd k then
      ((s.put (Reg.SB_STATUS k) F.SB_STATUS_VALID 0).put (Reg.SB_STATUS k) F.SB_STATUS_FAILED_CHECK 14, 14)
    else (s, r)
  if r ≠ 0 then s.complete c stBad r
  else
    let s := if k = s.bankUsed then s
      else (s.modLink fun z => { z with staged := some k }).put Reg.LINK_STATUS F.LINK_STATUS_STAGED_VALID 1
    let s :=
      if s.inService && s.scheduled then
        forEach [0, 1] s fun ch s => forEach ((List.range 241).filter fun n => s.memb ch n == 3 && s.sched k n) s fun n s =>
          s.sendSlotList ch n k
      else s
    s.complete c stOK 0

/-- LINK_STAGE (R160, R167, R210). -/
def execLinkStage (c : Cmd) (s : State) : Out :=
  let c := { c with op := 0x0301 }
  let k := c.b 16
  let a := c.u 24 8
  let len := c.u 32 4
  let cont := c.b 17 == 1
  .next <| s.judge c
    (check1 c .pfWc (if cont then [(a, len)] else []) ++
      [ (!c.onlyUses [(16, 1), (17, 1), (24, 8), (32, 4)] || decide (2 ≤ k) || decide (2 ≤ c.b 17)
          || (cont && (!isSram a || !sramFits a len)), .bad),
        s.mirrorCheck c,
        (s.inService && k == s.bankUsed, .reject 23 k) ])
    fun s =>
      if cont then
        s.withData c a len .fail fun l s =>
          let s := (s.bankWritten k).clearBank k
          if !container1 l len then (s.put (Reg.SB_STATUS k) F.SB_STATUS_FAILED_CHECK 1).complete c stBad 1
          else if !s.container2 l then (s.put (Reg.SB_STATUS k) F.SB_STATUS_FAILED_CHECK 2).complete c stBad 2
          else (s.fillBank k l).stageChecked c k
      else s.stageChecked c k

/-- LINK_START (R168, R783). -/
def execLinkStart (c : Cmd) (s : State) : Out :=
  let c := { c with op := 0x0302 }
  let k := c.b 16
  .next <| s.judge c
    (check1 c .pfWc [] ++
      [ (!c.onlyUses [(16, 1), (17, 1)] || decide (2 ≤ k) || decide (2 ≤ c.b 17), .bad),
        s.mirrorCheck c,
        (s.mode != mConfig, .reject 1 s.mode),
        (s.linkState != lStopped, .reject 6 s.linkState),
        (!s.flag Reg.LINK_STATION F.LINK_STATION_COLD_START, .reject 255 0),
        (!s.bankValid k, .reject 23 k),
        (!s.armed 0, .reject 9 0) ])
    fun s =>
      let s := (s.put Reg.LINK_STATUS F.LINK_STATUS_BANK k).put Reg.LINK_STATUS F.LINK_STATUS_ADM_BANK (c.b 17)
      let s := if s.link.staged = some k then
          (s.modLink fun z => { z with staged := none }).put Reg.LINK_STATUS F.LINK_STATUS_STAGED_VALID 0
        else s
      let s := s.rebase (s.actTime 0) (s.bankUs k)
      (s.setLinkState lListening).modLink fun z => { z with startCmd := some c, count := 5, better := 0, claims := [] }

/-- LINK_STOP (R168). -/
def execLinkStop (c : Cmd) (s : State) : Out :=
  let c := { c with op := 0x0303 }
  .next <| s.judge c
    (check1 c .pfWc [] ++
      [ (!c.onlyUses [], .bad), s.mirrorCheck c, (s.mode != mConfig, .reject 1 s.mode),
        (!s.scheduled || s.link.stopCmd.isSome, .reject 6 s.linkState) ])
    fun s => s.modLink fun z => { z with stopCmd := some c }

/-- LINK_COMMIT (R197, R211). -/
def execLinkCommit (c : Cmd) (s : State) : Out :=
  let c := { c with op := 0x0304 }
  let o := c.b 16
  .next <| s.judge c
    (check1 c .pfWc [] ++
      [ (!c.onlyUses [(16, 1)] || decide (2 ≤ o), .bad),
        (if o = 0 then s.link.commit.isSome else s.link.member.isSome, .busy),
        s.mirrorCheck c,
        (!s.inService, .reject 1 s.mode),
        (!s.scheduled, .reject 6 s.linkState),
        (o == 0 && !(match s.link.staged with | some b => s.bankValid b | none => false), .reject 23 0) ])
    fun s =>
      if o = 0 then
        (s.modLink fun z => { z with commit := some { cmd := c } }).put Reg.LINK_STATUS F.LINK_STATUS_SWAP_PENDING 1
      else s.modLink fun z => { z with member := some c }

/-- Ports of a channel mask and a port mask. -/
def maskPorts (cm pm : Nat) : List (Nat × Nat) := (idxs 2 (bit cm)).flatMap fun c => (idxs 20 (bit pm)).map fun p => (c, p)

/-- LINK_PORT_OPEN (R208, R700). -/
def execLinkPortOpen (c : Cmd) (s : State) : Out :=
  let c := { c with op := 0x0305 }
  .next <| s.judge c
    (check1 c .pfWc [] ++
      [ (!c.onlyUses [(16, 1), (20, 4)] || decide (4 ≤ c.b 16) || decide (2 ^ s.nPorts ≤ c.u 20 4), .bad),
        s.mirrorCheck c, (s.mode == mBoot, .reject 1 0),
        (s.twinOn && bit (c.b 16) (1 - s.twinSide), .reject 2 s.role) ])
    fun s =>
      let l := (maskPorts (c.b 16) (c.u 20 4)).filter fun x => !s.portOpen x.1 x.2
      let s := forEach l s fun x s =>
        ((s.setPort x.1 x.2 pListen).put (Reg.PORT_STATUS x.1 x.2) F.PORT_STATUS_CONTAIN_COUNT 0).modLp x.1 x.2 fun z =>
          { z with clean := 0, lostFor := 0, lossDone := false }
      s.complete c stOK l.length

/-- A node carries an axis of a group outside DISABLED. -/
def State.nodeCarries (s : State) (n : Nat) : Bool :=
  s.groups.any fun g => s.grpState g != 0 && (s.groupAxes g).any fun a =>
    decide (a < 192) && s.fld (Reg.SRV_AX_CFG a) F.SRV_AX_CFG_NODE == n

/-- LINK_PORT_CLOSE (R208, R225). -/
def execLinkPortClose (c : Cmd) (s : State) : Out :=
  let c := { c with op := 0x0306 }
  let l := (maskPorts (c.b 16) (c.u 20 4)).filter fun x => s.portOpen x.1 x.2
  let loses (n : Nat) : Bool :=
    let stays (ch : Nat) : Bool := s.memb ch n == 3 && !l.contains (ch, s.joinPort n)
    (s.memb 0 n == 3 || s.memb 1 n == 3) && !stays 0 && !stays 1
  .next <| s.judge c
    (check1 c .pfWc [] ++
      [ (!c.onlyUses [(16, 1), (17, 1), (20, 4)] || decide (4 ≤ c.b 16) || decide (2 ≤ c.b 17) || decide (2 ^ s.nPorts ≤ c.u 20 4), .bad),
        s.mirrorCheck c, (s.mode == mBoot, .reject 1 0),
        (c.b 17 == 0 && (List.range 241).any (fun n => loses n && s.nodeCarries n), .reject 8 3) ])
    fun s => (forEach l s fun x s => s.closePort x.1 x.2).complete c stOK l.length

/-- LINK_NODE_CTRL (R196). -/
def execLinkNodeCtrl (c : Cmd) (s : State) : Out :=
  let c := { c with op := 0x0307 }
  let n := c.b 16
  .next <| s.judge c
    (check1 c .pfWc [] ++
      [ (!c.onlyUses [(16, 1), (17, 1), (18, 1)] || n == 0 || decide (240 < n) || decide (3 ≤ c.b 17) || decide (4 ≤ c.b 18), .bad),
        s.mirrorCheck c, (!s.scheduled, .reject 6 s.linkState) ])
    fun s =>
      let s := forEach (idxs 2 (bit (c.b 18))) s fun ch s =>
        match c.b 17 with
        | 0 => if 1 ≤ s.memb ch n ∧ s.memb ch n ≤ 3 then s.endMemb ch n 6 else s
        | 1 => if s.memb ch n = 4 then (s.setMemb ch n 0 0).put (Reg.NODE_STATUS n) F.NODE_STATUS_FAILED 0 else s
        | _ => s.modLn ch n fun z => { z with remeasure := true }
      s.complete c stOK 0

/-- A frame of so many payload octets fits a device MGMT entry of the node's port (R190). -/
def State.fitsMgmt (s : State) (k n len : Nat) : Bool :=
  (s.ents k).any fun e => e.2.fromDevice && e.2.kind == kMgmt && bit e.2.dest (s.nodePort k n) && decide (len / 8 + 3 ≤ e.2.len)

/-- LINK_MGMT (R133, R190, R225). DESIGN CHOICE: notes/assumptions/42.md. -/
def execLinkMgmt (c : Cmd) (s : State) : Out :=
  let c := { c with op := 0x0308 }
  let n := c.b 16
  let op := c.b 17
  let len := c.u 22 2
  let a := c.u 24 8
  let k := s.bankUsed
  let ch := if s.memb 0 n = 3 then 0 else 1
  let pay (data : List Byte) := mgmtPayload op s.link.nextTag (c.u 18 2) (c.u 20 2) len data
  .next <| s.judge c
    (check1 c .pfWc [(a, len)] ++
      [ (!c.onlyUses [(16, 1), (17, 1), (18, 2), (20, 2), (22, 2), (24, 8)] || n == 0 || decide (240 < n)
          || !(op == 1 || op == 2) || decide (248 < len) || !isSram a || !sramFits a len, .bad),
        s.mirrorCheck c,
        (s.memb 0 n != 3 && s.memb 1 n != 3, .reject 8 (s.memb 0 n)),
        (!s.fitsMgmt k n (pay (if op = 2 then List.replicate len 0 else [])).length, .noRes) ])
    fun s =>
      let send (data : List Byte) (s : State) : State :=
        let s := s.queueMsg ch (s.nodePort k n) ⟨2, kMgmt, n, pay data⟩
        s.modLink fun z => { z with
          nextTag := (z.nextTag + 1) % 256
          mgmt := z.mgmt ++ [⟨c, n, z.nextTag, s.orbit⟩] }
      if op = 2 then s.withData c a len .fail send else send [] s

end Sys2Proof.Machine
end

