-- ==== Sys2Proof/Machine/LocalAxes.lean ====
section
/-!
DEFINITION. Block 0x09, local axes: decoding (R484–R491), feedback samples (R492), latch (R495, R496), compare
(R497–R500), step generation (R502–R505), stepper bridges (R506–R511), running and the analogue path (R512–R514).

Rows of this block are the filtered edges and comparator reports of a channel; the filters and the sample clock that
produce them are outside the model.
-/
namespace Sys2Proof.Machine

/-- A channel's state beside its registers. -/
def State.laCh (s : State) (c : Nat) : LaSt := tabGet (fun _ => {}) s.la c
/-- A channel's state changed. -/
def State.modLa (s : State) (c : Nat) (f : LaSt → LaSt) : State :=
  { s with la := tabSet (fun _ => {}) s.la c (f (s.laCh c)) }

/-- `LA_CH_CFG.RUN`. -/
def State.laRun (s : State) (c : Nat) : Bool := s.flag (Reg.LA_CH_CFG c) F.LA_CH_CFG_RUN
/-- `LA_CH_CFG.INPUT` (R484). -/
def State.laInput (s : State) (c : Nat) : Nat := s.fld (Reg.LA_CH_CFG c) F.LA_CH_CFG_INPUT
/-- `LA_CH_OUT.MODE` (R502). -/
def State.laMode (s : State) (c : Nat) : Nat := s.fld (Reg.LA_CH_OUT c) F.LA_CH_OUT_MODE
/-- W of R490. -/
def State.laW (s : State) (c : Nat) : Nat := (s.reg (Reg.LA_CH_WRAP c)).toNat + 1
/-- `LA_CH_COUNT`. -/
def State.laCount (s : State) (c : Nat) : Nat := (s.reg (Reg.LA_CH_COUNT c)).toNat
/-- The sample is valid (R492). -/
def State.laValid (s : State) (c : Nat) : Bool :=
  s.laRun c && (s.reg (Reg.LA_CH_ERR c)).toNat &&& s.fld (Reg.LA_CH_CFG c) F.LA_CH_CFG_INVAL_MASK == 0
/-- Sets an ERR flag. -/
def State.laErr (s : State) (c : Nat) (f : Fld) : State := s.put (Reg.LA_CH_ERR c) f 1
/-- The filtered D levels shown in `LA_CH_STATUS`. -/
def State.laD (s : State) (c : Nat) : Nat := s.fld (Reg.LA_CH_STATUS c) F.LA_CH_STATUS_D
/-- Sets the filtered D levels. -/
def State.setLaD (s : State) (c d : Nat) : State := s.put (Reg.LA_CH_STATUS c) F.LA_CH_STATUS_D d

/-! ### Bridges (R506–R509) -/

/-- sin(2πm/64) × 2^40 for m = 0–16. -/
def sinTab : List Nat :=
  [0, 107770985514, 214504077523, 319171378006, 420764883643, 518306193436, 610855931251, 697522792521,
   777472127994, 849933981865, 914210506869, 969682684934, 1015816288660, 1052167026225, 1078384820155,
   1094217178761, 1099511627776]

/-- round(i × sin(2πm/64)) (R507). -/
def sinMa (i m : Nat) : Int :=
  let m := m % 64
  let q := m % 32
  let k := if q ≤ 16 then q else 32 - q
  let v : Nat := (2 * i * sinTab.getD k 0 + 2 ^ 40) / 2 ^ 41
  if m < 32 then v else -(v : Int)

/-- Phase 0 (A) or 1 (B). -/
def LaSt.phase (z : LaSt) (p : Nat) : LaPhase := if p = 0 then z.phA else z.phB
/-- Sets a phase. -/
def LaSt.setPhase (z : LaSt) (p : Nat) (x : LaPhase) : LaSt := if p = 0 then { z with phA := x } else { z with phB := x }

/-- Gates H1, L1, H2, L2 (bits 0–3) of a bridge state (R506). -/
def phaseGates : Nat → Nat
  | 1 => 9 | 2 => 6 | 3 => 10 | 4 => 6 | 5 => 9 | _ => 0

/-- The bridges of a channel are driven: channels 0–15, modes 2 and 3, RUN 1. -/
def State.bridgeOn (s : State) (c : Nat) : Bool := decide (c < 16) && decide (2 ≤ s.laMode c) && s.laRun c

/-- The gate outputs follow the phases (R506). -/
def State.laGates (s : State) (c : Nat) : State :=
  let z := s.laCh c
  let g := if s.bridgeOn c then phaseGates z.phA.st + 16 * phaseGates z.phB.st else 0
  if g = z.gates then s else (s.modLa c fun z => { z with gates := g }).laEmit (.gates c g)

/-- Step 1 of R509 for a target. -/
def driveState (t : Int) : Nat := if 0 < t then 1 else if t < 0 then 2 else 0

/-- A phase gets a target: a new magnitude changes the thresholds; a change of sign or to 0 enters FAST (R509). A channel
that R511 has turned off stays off. -/
def phaseTarget (off : Bool) (x : LaPhase) (t : Int) : LaPhase :=
  if off then ⟨0, false, t⟩
  else if x.st = 0 then ⟨driveState t, false, t⟩
  else if x.rev then { x with t := t }
  else if driveState t = driveState x.t then { x with t := t }
  else ⟨if 0 < x.t then 4 else 5, true, t⟩

/-- `LA_ST_STATUS.CHOP_OFF`. -/
def State.chopOff (s : State) (c : Nat) : Bool := s.flag (Reg.LA_ST_STATUS c) F.LA_ST_STATUS_CHOP_OFF

/-- The targets of both phases for an amplitude and a microstep angle (R507). -/
def State.laTargets (s : State) (c i m : Nat) : State :=
  let off := s.chopOff c
  let s := s.modLa c fun z =>
    { z with phA := phaseTarget off z.phA (sinMa i m), phB := phaseTarget off z.phB (sinMa i (m + 16)) }
  s.laGates c

/-- Both phase targets are 0. -/
def State.laZero (s : State) (c : Nat) : State :=
  let off := s.chopOff c
  (s.modLa c fun z => { z with phA := phaseTarget off z.phA 0, phB := phaseTarget off z.phB 0 }).laGates c

/-- The microstep angle of COMMUTATED mode (R508), before the lead. -/
def State.commAngle (s : State) (c : Nat) : Nat :=
  let cpe := s.fld (Reg.LA_ST_CPE c) F.LA_ST_CPE_CPE
  let zero := toSigned 32 (s.reg (Reg.LA_ST_CZERO c)).toNat
  if cpe = 0 then 0
  else (2 * 64 * (((s.laCh c).unw - zero) % (cpe : Int)).toNat + cpe) / (2 * cpe) % 64

/-- The axis of the channel does not fit its MODE while ACTIVE (R502): MODE 0 needs OUT_KIND NONE (0), 1 and 2 STEP (2),
3 CHOPPER (3). -/
def State.laMismatch (s : State) (c : Nat) : Bool :=
  let a := Reg.SRV_AX_CFG (192 + c)
  s.flag a F.SRV_AX_CFG_ACTIVE &&
    s.fld a F.SRV_AX_CFG_OUT_KIND != (match s.laMode c with | 0 => 0 | 3 => 3 | _ => 2)

/-- The phase targets as mode, ENABLE and the last load give them. -/
def State.laDrive (s : State) (c : Nat) : State :=
  let z := s.laCh c
  if !s.bridgeOn c then s.laGates c
  else if !z.enable || s.laMismatch c then s.laZero c
  else if s.laMode c = 2 then
    s.laTargets c (s.fld (Reg.LA_ST_STATUS c) F.LA_ST_STATUS_I_RUN) (s.fld (Reg.LA_ST_STATUS c) F.LA_ST_STATUS_MSTEP)
  else
    let m := s.commAngle c
    let m := if 0 ≤ z.tau then m + 16 else m + 48
    let i := (2 * z.tau.natAbs * (z.cur.toNat / 2 ^ 16) + 2 ^ 31) / 2 ^ 32
    s.laTargets c i m

/-! ### Compare (R497–R500) -/

/-- The level of an output at its ball (R499). -/
def State.outBall (s : State) (o : Nat) : State :=
  let l := bit (s.fld Reg.LA_OUT_STATE F.LA_OUT_STATE_LEVEL) o
  let en := s.flag (Reg.LA_OUT_CFG o) F.LA_OUT_CFG_ENABLE
  s.laEmit (.ball "LA_CMP" o (b2n ((en && l) != s.flag (Reg.LA_OUT_CFG o) F.LA_OUT_CFG_INVERT)))

/-- An action on a compare output: 0 PULSE, 1 SET, 2 CLEAR, 3 TOGGLE (R499). -/
def State.outAct (s : State) (o act : Nat) : State :=
  let l := s.fld Reg.LA_OUT_STATE F.LA_OUT_STATE_LEVEL
  let v := match act with | 2 => false | 3 => !bit l o | _ => true
  let s := s.put Reg.LA_OUT_STATE F.LA_OUT_STATE_LEVEL (setBit l o v)
  let s := { s with laPulse := setBit s.laPulse o (act == 0) }
  s.outBall o

/-- COMPARE_PULSE_END: the pulse timer of output `out` ends. -/
def execComparePulseEnd (out : Nat) (s : State) : Out :=
  .next (if bit s.laPulse out then s.outAct out 2 else s)

/-- Bit `e` of a 64-bit mask register. -/
def State.maskBit (s : State) (r e : Nat) : Bool := bit (s.reg64 r).toNat e
/-- Sets bit `e` of a 64-bit mask register. -/
def State.setMask (s : State) (r e : Nat) (v : Bool) : State := s.setReg64 r (BitVec.ofNat 64 (setBit (s.reg64 r).toNat e v))

/-- `LA_CH_CMP_CTRL.ENABLED`. -/
def State.cmpOn (s : State) (c : Nat) : Bool := s.flag (Reg.LA_CH_CMP_CTRL c) F.LA_CH_CMP_CTRL_ENABLED

/-- An entry is armed afresh when it may be (R497): d of R497 decides BEHIND. -/
def State.armCmp (s : State) (c e : Nat) : State :=
  let ctrl := Reg.LA_CMP_CTRL c e
  let on := s.cmpOn c && s.flag ctrl F.LA_CMP_CTRL_VALID
  let w := s.laW c
  let x := ((s.reg (Reg.LA_CMP_POS c e)).toNat + w - s.laCount c % w) % w
  let dz := decide (x = 0)
  let neg := decide ((w + 1) / 2 ≤ x)
  let rev := match s.fld ctrl F.LA_CMP_CTRL_DIR with
    | 0 => s.flag (Reg.LA_CH_STATUS c) F.LA_CH_STATUS_DIR
    | 1 => false
    | _ => true
  let behind := dz || (!rev && neg) || (rev && !neg)
  (s.setMask (Reg.LA_CH_CMP_ARMED c) e on).setMask (Reg.LA_CH_CMP_BEHIND c) e (on && behind)

/-- Every entry of a channel is armed afresh. -/
def State.armAllCmp (s : State) (c : Nat) : State := forEach (List.range 64) s fun e s => s.armCmp c e

/-- The list is disabled (R500). -/
def State.cmpDisable (s : State) (c : Nat) : State :=
  let s := s.put (Reg.LA_CH_CMP_CTRL c) F.LA_CH_CMP_CTRL_ENABLED 0
  (s.setReg64 (Reg.LA_CH_CMP_ARMED c) 0).setReg64 (Reg.LA_CH_CMP_BEHIND c) 0

/-- The list is enabled and every entry armed. -/
def State.cmpEnable (s : State) (c : Nat) : State := (s.put (Reg.LA_CH_CMP_CTRL c) F.LA_CH_CMP_CTRL_ENABLED 1).armAllCmp c

/-- The COMPARE_ENABLE action (R95, R500); `t` is the action's time. -/
def State.cmpAction (s : State) (c : Nat) (t : W64) : State :=
  if s.laRun c then s.cmpEnable c else s.postB 0x0918 [(16, 1, c), (24, 8, t.toNat)]

/-- The count has changed to its present value in a direction: every entry at that position that accepts the direction
fires (R498); of those on one output the lowest acts (R499). -/
def State.fireCmp (s : State) (c : Nat) (rev : Bool) : State :=
  let hit := idxs 64 fun e =>
    s.maskBit (Reg.LA_CH_CMP_ARMED c) e && (s.reg (Reg.LA_CMP_POS c e)).toNat == s.laCount c &&
      (match s.fld (Reg.LA_CMP_CTRL c e) F.LA_CMP_CTRL_DIR with | 0 => true | 1 => !rev | _ => rev)
  let r := hit.foldl (fun (a : State × List Nat) e =>
    let (s, used) := a
    let ctrl := Reg.LA_CMP_CTRL c e
    let o := s.fld ctrl F.LA_CMP_CTRL_OUT
    let s := s.addWrap (Reg.LA_CH_CMP_CTRL c) F.LA_CH_CMP_CTRL_FIRED
    let s := if used.contains o then s else s.outAct o (s.fld ctrl F.LA_CMP_CTRL_ACTION)
    let s := s.setMask (Reg.LA_CH_CMP_BEHIND c) e false
    let s :=
      if s.flag ctrl F.LA_CMP_CTRL_REARM then
        let p := ((s.reg (Reg.LA_CMP_POS c e)).toNat : Int) + toSigned 32 (s.reg (Reg.LA_CMP_INC c e)).toNat
        (s.setReg (Reg.LA_CMP_POS c e) (BitVec.ofInt 32 (p % (s.laW c : Int)))).armCmp c e
      else s.setMask (Reg.LA_CH_CMP_ARMED c) e false
    (s, o :: used)) (s, [])
  r.1

/-! ### Counting (R485–R491) -/

/-- The count changes by +1 or −1, INVERT applied (R487): wrap, unwrapped count, direction, history, compare,
commutation. -/
def State.laStep (s : State) (c : Nat) (neg : Bool) : State :=
  if !s.laRun c then s
  else
    let neg := neg != s.flag (Reg.LA_CH_CFG c) F.LA_CH_CFG_INVERT
    let w := s.laW c
    let old := s.laCount c
    let new := if neg then (if old = 0 then w - 1 else old - 1) else (if old + 1 = w then 0 else old + 1)
    let now := s.u
    let s := s.setReg (Reg.LA_CH_COUNT c) (BitVec.ofNat 32 new)
    let s := s.modLa c fun z =>
      { z with unw := z.unw + (if neg then -1 else 1)
               hist := (now, old) :: z.hist.filter fun h => decide (now ≤ h.1 + 20480) }
    let s := s.put (Reg.LA_CH_STATUS c) F.LA_CH_STATUS_DIR (b2n neg)
    let s := s.fireCmp c neg
    if s.laMode c = 3 then s.laDrive c else s

/-- An illegal transition (R485, R488). -/
def State.laIllegal (s : State) (c old new : Nat) : State :=
  let s := s.addSat (Reg.LA_CH_ERRCNT c) F.LA_CH_ERRCNT_ILLEGAL 1
  (s.laErr c F.LA_CH_ERR_ILLEGAL).postB 0x0910 [(16, 1, c), (17, 1, s.laInput c), (18, 1, old), (19, 1, new)]

/-- The place of a quadrature pair AB (A × 2 + B) in the forward sequence 00, 10, 11, 01. -/
def quadPlace : Nat → Nat
  | 0 => 0 | 2 => 1 | 3 => 2 | _ => 3

/-- QUAD_TRANSITION: the filtered pair is now `ab` = A × 2 + B (R485). DEDUCED: notes/assumptions/23.md. -/
def execQuadTransition (ch : Nat) (ab : Nat) (s : State) : Out :=
  let d := s.laD ch
  let old := d % 2 * 2 + d / 2 % 2
  let ab := ab % 4
  .next <|
    let s' := s.setLaD ch (d / 4 * 4 + ab / 2 + ab % 2 * 2)
    if !s.laRun ch || s.laInput ch != 1 then s'
    else
      match (quadPlace ab + 4 - quadPlace old) % 4 with
      | 0 => s'
      | 1 => s'.laStep ch false
      | 3 => s'.laStep ch true
      | _ => s'.laIllegal ch old ab

/-- STEP_DIR_EDGE: a rising edge of filtered STEP with filtered DIR (R486). -/
def execStepDirEdge (ch : Nat) (dir : Bool) (s : State) : Out :=
  .next (if s.laInput ch = 2 then (s.setLaD ch (1 + 2 * b2n dir)).laStep ch dir else s)

/-- UP_DOWN_EDGE: rising edges of filtered UP and DOWN in one sample (R486). -/
def execUpDownEdge (ch : Nat) (up : Bool) (down : Bool) (s : State) : Out :=
  .next (if s.laInput ch = 3 ∧ up ≠ down then s.laStep ch down else s)

/-- The place of a valid hall code in the forward sequence (R488). -/
def hallPlace : Nat → Option Nat
  | 4 => some 0 | 6 => some 1 | 2 => some 2 | 3 => some 3 | 1 => some 4 | 5 => some 5 | _ => none

/-- HALL_CODE_CHANGE: the code is now U × 4 + V × 2 + W (R488). -/
def execHallCodeChange (ch : Nat) (code : Nat) (s : State) : Out :=
  let r := (s.laCh ch).hall
  .next <|
    let s' := s.setLaD ch (code / 4 % 2 + code / 2 % 2 * 2 + code % 2 * 4)
    if !s.laRun ch || s.laInput ch != 4 then s'
    else
      match hallPlace code with
      | none =>
        ((s'.laErr ch F.LA_CH_ERR_IMPOSSIBLE).addSat (Reg.LA_CH_ERRCNT ch) F.LA_CH_ERRCNT_IMPOSSIBLE 1).postB 0x0911
          [(16, 1, ch), (18, 1, code)]
      | some p =>
        let s' := s'.modLa ch fun z => { z with hall := code }
        match (p + 6 - (hallPlace r).getD 0) % 6 with
        | 0 => s'
        | 1 => s'.laStep ch false
        | 5 => s'.laStep ch true
        | _ => s'.laIllegal ch r code

/-- LA_RX_FAULT: the receiver of input `input` is below its threshold for 1 µs (R483). -/
def execLaRxFault (ch : Nat) (input : Nat) (s : State) : Out :=
  let used :=
    (match s.laInput ch with | 1 => decide (input < 2) | 2 => decide (input < 2) | 3 => decide (input < 2) | 4 => decide (input < 3) | _ => false) ||
      (input == 2 && (s.flag (Reg.LA_CH_LINES ch) F.LA_CH_LINES_LC_EN || decide (2 ≤ s.fld (Reg.LA_CH_LATCH_CFG ch) F.LA_CH_LATCH_CFG_SRC)))
  .next (if used then (s.laErr ch F.LA_CH_ERR_RX_FAULT).postB 0x0913 [(16, 1, ch), (17, 1, input)] else s)

/-- LA_INDEX: a rising edge of filtered Z (R491). -/
def execLaIndex (ch : Nat) (s : State) : Out :=
  let z := s.laCh ch
  .next <|
    let s' := s.setLaD ch (s.laD ch % 4 + 4)
    if !s.laRun ch || s.laInput ch != 1 || !s.flag (Reg.LA_CH_LINES ch) F.LA_CH_LINES_LC_EN then s'
    else
      let s' := s'.modLa ch fun x => { x with lastIdx := some z.unw }
      match z.lastIdx with
      | none => s'
      | some u =>
        let d := z.unw - u
        let n := d.natAbs
        let l := 4 * s.fld (Reg.LA_CH_LINES ch) F.LA_CH_LINES_LINES
        let t := s.fld (Reg.LA_CH_LINES ch) F.LA_CH_LINES_LC_TOL
        let s' := s'.setReg (Reg.LA_CH_IDX ch) (BitVec.ofInt 32 d)
        if l ≤ n + t ∧ n ≤ l + t then s'
        else if n ≤ t + 4 then s'
        else
          ((s'.laErr ch F.LA_CH_ERR_LINE_COUNT).addSat (Reg.LA_CH_ERRCNT ch) F.LA_CH_ERRCNT_LINE_COUNT 1).postB 0x0912
            [(16, 1, ch), (20, 4, ofSigned 32 d)]

/-! ### Samples for the servo (R492) -/

/-- Every channel latches its count and validity for the cycle. -/
def State.laSample (s : State) : State :=
  forEach (List.range s.nLocal) s fun c s =>
    let n := s.laCount c
    let v := s.laValid c
    s.modLa c fun z => { z with ck := n, ckValid := v }

/-! ### Latch (R495, R496) -/

/-- The registers that show the head of the queue. -/
def State.showLatch (s : State) (c : Nat) : State :=
  let q := (s.laCh c).latch
  let st := Reg.LA_CH_LATCH_STAT c
  let s := s.put st F.LA_CH_LATCH_STAT_LEVEL q.length
  match q with
  | [] =>
    (((s.put st F.LA_CH_LATCH_STAT_HEAD_SRC 0).put st F.LA_CH_LATCH_STAT_HEAD_EDGE 0).setReg (Reg.LA_CH_LATCH_POS c) 0).setReg64
      (Reg.LA_CH_LATCH_TIME c) 0
  | h :: _ =>
    (((s.put st F.LA_CH_LATCH_STAT_HEAD_SRC (b2n h.z)).put st F.LA_CH_LATCH_STAT_HEAD_EDGE (b2n (!h.rising))).setReg
      (Reg.LA_CH_LATCH_POS c) (BitVec.ofNat 32 h.pos)).setReg64 (Reg.LA_CH_LATCH_TIME c) h.time

/-- An edge of the kind that EDGE selects. -/
def edgeOk (sel : Nat) (rising : Bool) : Bool := if rising then bit sel 0 else bit sel 1

/-- The count `age` samples ago, from the history (R495). -/
def State.countAgo (s : State) (c age : Nat) : Nat :=
  let t := s.u - 80 * age
  match ((s.laCh c).hist.filter fun h => decide (t < h.1)).getLast? with
  | some h => h.2
  | none => s.laCount c

/-- LATCH_CAPTURE: a filtered edge of X0, X1 or Z (pin 0–2) whose raw edge was first sampled `age` samples ago; for an X
input `time` is the interpolated time of the raw edge (R83, R495). -/
def execLatchCapture (ch : Nat) (pin : Nat) (rising : Bool) (age : Nat) (time : W64) (s : State) : Out :=
  let cfg := Reg.LA_CH_LATCH_CFG ch
  let src := s.fld cfg F.LA_CH_LATCH_CFG_SRC
  let eok := edgeOk (s.fld cfg F.LA_CH_LATCH_CFG_EDGE) rising
  .next <|
    let s := if pin = 2 then s.setLaD ch (s.laD ch % 4 + 4 * b2n rising)
      else s.put (Reg.LA_CH_STATUS ch) F.LA_CH_STATUS_X (setBit (s.fld (Reg.LA_CH_STATUS ch) F.LA_CH_STATUS_X) pin rising)
    if !s.flag cfg F.LA_CH_LATCH_CFG_ARM || !s.laRun ch then s
    else if src = 3 ∧ pin = 0 ∧ eok then s.modLa ch fun z => { z with xSeen := true }
    else if (src = pin ∧ src < 3 ∧ eok) ∨ (src = 3 ∧ pin = 2 ∧ rising ∧ (s.laCh ch).xSeen) then
      let pos := s.countAgo ch age
      let t := if pin = 2 then viewAt s.time.cell (s.u - 80 * age) else time
      let s := s.modLa ch fun z => { z with xSeen := false }
      let s := if s.flag cfg F.LA_CH_LATCH_CFG_CONT then s else s.put cfg F.LA_CH_LATCH_CFG_ARM 0
      if 4 ≤ (s.laCh ch).latch.length then
        (s.addSat (Reg.LA_CH_LATCH_STAT ch) F.LA_CH_LATCH_STAT_LOST 1).postB 0x0914 [(16, 1, ch), (20, 4, pos)]
      else
        let s := (s.modLa ch fun z => { z with latch := z.latch ++ [⟨pos, t, rising, pin == 2⟩] }).showLatch ch
        if s.flag cfg F.LA_CH_LATCH_CFG_EVENT then
          s.postB 0x0930 [(16, 1, ch), (17, 1, 2 * b2n (pin == 2) + b2n (!rising)), (20, 4, pos), (24, 8, t.toNat)]
        else s
    else s

/-- The head entry of the latch queue is removed (R496). -/
def State.popLatch (s : State) (c : Nat) : State := (s.modLa c fun z => { z with latch := z.latch.drop 1 }).showLatch c

/-! ### Step generation (R503–R505) -/

/-- V_CAP (R504). -/
def vCap (w : Nat) : Nat := if w = 0 then 0 else 2 ^ 48 / (2 * w)

/-- V of R504 before the clamp, from v_cmd in Q48.16. -/
def velWord (v : Int) (kstep : Nat) : Int := roundAway (v * kstep * 2 ^ 16) 200000000

/-- A channel loads the servo's outputs of the past cycle at T_(k+1) (R503): the axis's v_cmd (Q48.16), τ_out and
ENABLE. -/
def State.laLoad (s : State) (c : Nat) (v tau : Int) (enable : Bool) : State :=
  let was := (s.laCh c).enable
  let s :=
    if s.laMismatch c then
      (s.laErr c F.LA_CH_ERR_MISMATCH).postB 0x0919
        [(16, 1, c), (17, 1, s.fld (Reg.SRV_AX_CFG (192 + c)) F.SRV_AX_CFG_OUT_KIND), (18, 1, s.laMode c)]
    else s
  let raw := if enable && !s.laMismatch c && (s.laMode c == 1 || s.laMode c == 2) then velWord v (s.reg (Reg.LA_CH_KSTEP c)).toNat else 0
  let cap : Int := vCap (s.fld (Reg.LA_CH_OUT c) F.LA_CH_OUT_STEP_W)
  let x := clampI (-cap) cap raw
  let s := if x = raw then s
    else (s.laErr c F.LA_CH_ERR_STEP_SAT).postB 0x091A [(16, 1, c), (24, 8, ofSigned 64 raw)]
  let oldV := (s.reg64 (Reg.LA_CH_VWORD c)).toInt
  let s := s.setReg64 (Reg.LA_CH_VWORD c) (BitVec.ofInt 64 x)
  let s :=
    if s.laMode c = 1 ∧ s.laRun c ∧ ((oldV < 0) ≠ (x < 0)) then
      s.laEmit (.ball "LA_DIR" c (b2n (decide (x < 0) != s.flag (Reg.LA_CH_OUT c) F.LA_CH_OUT_DIR_INV)))
    else s
  let s := s.modLa c fun z => { z with enable := enable, tau := if enable then tau else 0 }
  let s := if enable && !was then s.put (Reg.LA_ST_STATUS c) F.LA_ST_STATUS_I_RUN ((s.laCh c).cur.toNat % 2 ^ 16) else s
  s.laDrive c

/-- STEP_EMIT: a carry of the phase accumulator emits one step (R504, R505, R507). -/
def execStepEmit (ch : Nat) (s : State) : Out :=
  let v := (s.reg64 (Reg.LA_CH_VWORD ch)).toInt
  let neg := decide (v < 0)
  .next <|
    if v = 0 ∨ !s.laRun ch ∨ s.laMismatch ch then s
    else
      let s :=
        if s.laMode ch = 1 then s.laEmit (.step ch neg)
        else if s.laMode ch = 2 then
          let m := s.fld (Reg.LA_ST_STATUS ch) F.LA_ST_STATUS_MSTEP
          (s.put (Reg.LA_ST_STATUS ch) F.LA_ST_STATUS_MSTEP (if neg then m + 63 else m + 1)).laDrive ch
        else s
      if s.laInput ch = 5 ∧ (s.laMode ch = 1 ∨ s.laMode ch = 2) then s.laStep ch neg else s

/-! ### Chopper (R509–R511) -/

/-- A phase's OFS in mA (R510). -/
def State.phaseOfs (s : State) (c p : Nat) : Int :=
  toSigned 16 (s.fld (Reg.LA_ST_OFS c) (if p = 0 then F.LA_ST_OFS_OFS_A else F.LA_ST_OFS_OFS_B))

/-- The state a phase decays in (R509). -/
def decayState (decay : Nat) (t : Int) : Nat := if decay = 0 then 3 else if 0 < t then 4 else 5

/-- CHOP_COMPARATOR: outside the blanking time the comparator of phase `ph` finds the current at `i` mA (R509). -/
def execChopComparator (ch : Nat) (ph : Nat) (i : Nat) (s : State) : Out :=
  let x := (s.laCh ch).phase ph
  let hyst : Int := s.fld (Reg.LA_ST_CHOP ch) F.LA_ST_CHOP_HYST
  let base : Int := 2 * (x.t.natAbs : Int) + 2 * s.phaseOfs ch ph
  let izero := (s.laCh ch).hold.toNat / 256 % 256
  let decay := s.fld (Reg.LA_ST_CHOP ch) F.LA_ST_CHOP_DECAY
  let y : LaPhase :=
    if x.st = 0 then x
    else if x.rev then (if i ≤ izero then ⟨driveState x.t, false, x.t⟩ else x)
    else if x.st ≤ 2 then (if base + hyst ≤ 2 * (i : Int) then { x with st := decayState decay x.t } else x)
    else if 2 * (i : Int) ≤ max 0 (base - hyst) then { x with st := driveState x.t } else x
  .next (if s.bridgeOn ch then (s.modLa ch fun z => z.setPhase ph y).laGates ch else s)

/-- CHOP_FAST_END: FAST_T samples of a mixed decay have passed (R509). -/
def execChopFastEnd (ch : Nat) (ph : Nat) (s : State) : Out :=
  let x := (s.laCh ch).phase ph
  .next <|
    if 4 ≤ x.st ∧ !x.rev ∧ s.fld (Reg.LA_ST_CHOP ch) F.LA_ST_CHOP_DECAY = 2 then
      (s.modLa ch fun z => z.setPhase ph { x with st := 3 }).laGates ch
    else s

/-- The new OFS of a phase (R510, item 2). -/
def State.newOfs (s : State) (c p mt ms : Nat) (skip : Bool) : State :=
  if skip then s
  else
    let ad := (s.laCh c).adapt.toNat
    let lim : Int := ad % 2 ^ 16
    let o := clampI (-lim) lim (s.phaseOfs c p + roundAway ((ad / 2 ^ 24 : Nat) * ((mt : Int) - ms)) 256)
    s.put (Reg.LA_ST_OFS c) (if p = 0 then F.LA_ST_OFS_OFS_A else F.LA_ST_OFS_OFS_B) (ofSigned 16 o)

/-- The goal current I_G (R510, item 4). -/
def goalCurrent (cur hold load : Nat) (iv : Interval) : Nat :=
  let imin := cur % 2 ^ 16
  let imax := cur / 2 ^ 16
  let delay := hold % 256
  if delay ≠ 0 ∧ delay * 10 ≤ iv.idleMs then hold / 2 ^ 16
  else
    let n2 := 2 * iv.samples
    let lo := load / 2 ^ 16 % 256
    let hi := load / 2 ^ 24
    let den := (hi - lo) * n2
    let num := min den ((iv.driveA + iv.driveB) * 256 - lo * n2)
    if den = 0 then imin else imin + (2 * (imax - imin) * num + den) / (2 * den)

/-- ADAPT_INTERVAL: an adaptation interval ends (R510). -/
def execAdaptInterval (ch : Nat) (iv : Interval) (s : State) : Out :=
  let z := s.laCh ch
  .next <|
    if !s.bridgeOn ch then s
    else
      let s := s.put (Reg.LA_ST_MEAS ch) F.LA_ST_MEAS_MEAN_A iv.msA
      let s := s.put (Reg.LA_ST_MEAS ch) F.LA_ST_MEAS_MEAN_B iv.msB
      let s := (s.newOfs ch 0 iv.mtA iv.msA iv.skipA).newOfs ch 1 iv.mtB iv.msB iv.skipB
      let s := s.put (Reg.LA_ST_RHO ch) F.LA_ST_RHO_RHO (min 255 ((iv.driveA + iv.driveB) * 256 / (2 * iv.samples)))
      let s :=
        if s.laMode ch = 2 then
          let g := goalCurrent z.cur.toNat z.hold.toNat z.load.toNat iv
          let r := s.fld (Reg.LA_ST_STATUS ch) F.LA_ST_STATUS_I_RUN
          let slew := z.load.toNat % 2 ^ 16
          s.put (Reg.LA_ST_STATUS ch) F.LA_ST_STATUS_I_RUN (if r ≤ g then min g (r + slew) else max g (r - slew))
        else s
      let s := s.modLa ch fun z =>
        { z with cur := s.reg (Reg.LA_ST_CUR ch), hold := s.reg (Reg.LA_ST_HOLD ch)
                 load := s.reg (Reg.LA_ST_LOAD ch), adapt := s.reg (Reg.LA_ST_ADAPT ch) }
      s.laDrive ch

/-- CHOP_OVERCURRENT: two readings of phase `ph` at or above IOCP; `i` is the reading in mA (R511). -/
def execChopOvercurrent (ch : Nat) (ph : Nat) (i : Nat) (s : State) : Out :=
  .next <|
    if !s.bridgeOn ch || decide (i < s.fld (Reg.LA_ST_SENSE ch) F.LA_ST_SENSE_IOCP) then s
    else
      let s := s.modLa ch fun z => { z with phA := { z.phA with st := 0, rev := false }, phB := { z.phB with st := 0, rev := false } }
      let s := (s.laErr ch F.LA_CH_ERR_CHOP_FAULT).put (Reg.LA_ST_STATUS ch) F.LA_ST_STATUS_CHOP_OFF 1
      (s.laGates ch).postB 0x0915 [(16, 1, ch), (17, 1, ph), (18, 2, i)]

/-- The effect of writing 1 to CHOP_FAULT: the chopper restarts at step 1 (R511). -/
def State.chopRestart (s : State) (c : Nat) : State :=
  if !s.chopOff c then s
  else
    let s := s.put (Reg.LA_ST_STATUS c) F.LA_ST_STATUS_CHOP_OFF 0
    (s.modLa c fun z =>
      { z with phA := { z.phA with st := driveState z.phA.t }, phB := { z.phB with st := driveState z.phB.t } }).laGates c

/-! ### Running (R512, R513) and the analogue path (R514) -/

/-- The conditions of R512 for a value of `LA_CH_CFG` with RUN 1. -/
def State.runAllowed (s : State) (c : Nat) (v : Word) : Bool :=
  let input := fldOf v F.LA_CH_CFG_INPUT
  let mode := s.laMode c
  let w := s.fld (Reg.LA_CH_OUT c) F.LA_CH_OUT_STEP_W
  let imin := s.fld (Reg.LA_ST_CUR c) F.LA_ST_CUR_I_MIN
  let imax := s.fld (Reg.LA_ST_CUR c) F.LA_ST_CUR_I_MAX
  input != 0 && decide (20 ≤ w) && decide (w ≤ 2000) &&
    (decide (mode < 2) || (decide (c < 16) && decide (imin ≤ imax) &&
      decide (imax ≤ s.fld (Reg.LA_ST_SENSE c) F.LA_ST_SENSE_IFS) &&
      decide (s.fld (Reg.LA_ST_HOLD c) F.LA_ST_HOLD_IZERO < s.fld (Reg.LA_ST_CHOP c) F.LA_ST_CHOP_HYST))) &&
    (mode != 3 || ((input == 1 || input == 4) && decide (6 ≤ s.fld (Reg.LA_ST_CPE c) F.LA_ST_CPE_CPE)))

/-- What RUN 0 → 1 and 1 → 0 do (R512). DEDUCED: notes/assumptions/24.md. -/
def State.runChanged (s : State) (c : Nat) (was : Bool) : State :=
  let now := s.laRun c
  let s := s.put Reg.LA_STATUS ⟨0, 32⟩ (setBit (s.reg Reg.LA_STATUS).toNat c now)
  if now && !was then
    let d := s.laD c
    let code := d % 2 * 4 + d / 2 % 2 * 2 + d / 4 % 2
    (s.modLa c fun z =>
      { z with lastIdx := none, hall := if (hallPlace code).isSome then code else z.hall
               cur := s.reg (Reg.LA_ST_CUR c), hold := s.reg (Reg.LA_ST_HOLD c)
               load := s.reg (Reg.LA_ST_LOAD c), adapt := s.reg (Reg.LA_ST_ADAPT c) }).laDrive c
  else if !now && was then
    let s := s.put (Reg.LA_CH_LATCH_CFG c) F.LA_CH_LATCH_CFG_ARM 0
    let s := s.cmpDisable c
    let s := s.setReg64 (Reg.LA_CH_VWORD c) 0
    (s.modLa c fun z => { z with phA := {}, phB := {}, xSeen := false }).laGates c
  else s

/-- A write of POS or INC is held for the initiator's next write of CTRL (R498). -/
def State.holdCmp (s : State) (who : Init) (c e : Nat) (inc : Bool) (v : Word) : State :=
  s.modLa c fun z =>
    if inc then { z with heldInc := (who, e, v) :: z.heldInc.filter fun h => !(decide (h.1 = who) && h.2.1 == e) }
    else { z with heldPos := (who, e, v) :: z.heldPos.filter fun h => !(decide (h.1 = who) && h.2.1 == e) }

/-- A write of CTRL has been made: held POS and INC take effect and the entry is armed afresh (R497, R498). -/
def State.cmpCtrlWritten (s : State) (who : Init) (c e : Nat) : State :=
  let z := s.laCh c
  let mine (h : Init × Nat × Word) : Bool := decide (h.1 = who) && h.2.1 == e
  let s := match z.heldPos.find? mine with
    | some h => s.setReg (Reg.LA_CMP_POS c e) h.2.2
    | none => s
  let s := match z.heldInc.find? mine with
    | some h => s.setReg (Reg.LA_CMP_INC c e) h.2.2
    | none => s
  let s := s.modLa c fun z => { z with heldPos := z.heldPos.filter fun h => !mine h, heldInc := z.heldInc.filter fun h => !mine h }
  s.armCmp c e

/-- ANALOGUE_PATH_GAP: no valid sample word for 1 µs; `gap` samples (R514, R753). -/
def execAnaloguePathGap (gap : Nat) (s : State) : Out :=
  .next <|
    let s := forEach (idxs 32 s.laRun) s fun c s => s.laErr c F.LA_CH_ERR_PATH
    if s.clk.ana = 1 then s else (s.setDefect dfAnalogue).postB 0x0917 [(20, 4, gap)]

/-- The analogue die sets every gate to 0. -/
def State.gatesOff (s : State) : State :=
  forEach (List.range 16) s fun c s =>
    if (s.laCh c).gates = 0 then s else (s.modLa c fun z => { z with gates := 0 }).laEmit (.gates c 0)

/-- ANALOGUE_GATE_TIMEOUT: the analogue die sets every gate to 0 (R514). -/
def execAnalogueGateTimeout (s : State) : Out := .next s.gatesOff

/-! ### Commands (R519) -/

/-- The effect of LA_SET_COUNT (R494). -/
def State.setCount (s : State) (c v : Nat) : State :=
  let s := s.setReg (Reg.LA_CH_COUNT c) (BitVec.ofNat 32 v)
  let s := s.modLa c fun z => { z with unw := v, lastIdx := none, hist := [] }
  let s := forEach (idxs 64 fun e => s.maskBit (Reg.LA_CH_CMP_ARMED c) e) s fun e s => s.armCmp c e
  if s.laMode c = 3 then s.laDrive c else s

/-- LA_CMP_ENABLE (R497, R500). -/
def execLaCmpEnable (c : Cmd) (s : State) : Out :=
  let c := { c with op := 0x0902 }
  let k := c.b 16
  .next <| s.judge c
    (check1 c .pfWc [] ++
     [ (!c.onlyUses [(16, 1), (17, 1)] || decide (s.nLocal ≤ k) || decide (2 ≤ c.b 17), .bad),
       s.mirrorCheck c,
       (c.b 17 == 1 && !s.laRun k, .reject 16 0) ])
    fun s =>
      let s := if c.b 17 = 1 then s.cmpEnable k else s.cmpDisable k
      s.complete c stOK (min 64 (popCount 64 (s.reg64 (Reg.LA_CH_CMP_BEHIND k)).toNat))

end Sys2Proof.Machine
end

