-- ==== Sys2Proof/Machine/ServoLoop.lean ====
section
/-!
DEFINITION. Block 0x06, the loop of one axis: feedback (R340–R343, R350, R351), the stages of R345 with their arithmetic
(R346–R349), the output modes of R363 and the fault conditions of R365–R368.
-/
namespace Sys2Proof.Machine

/-! ### State -/

/-- The servo's state changed. -/
def State.modSrv (s : State) (f : SrvSt → SrvSt) : State := { s with srv := f s.srv }
/-- An axis's state. -/
def State.srvAx (s : State) (a : Nat) : SrvAx := tabGet (fun _ => {}) s.srv.ax a
/-- An axis's outputs. -/
def State.srvOut (s : State) (a : Nat) : SrvOut := tabGet (fun _ => {}) s.srv.out a
/-- An axis's outputs changed. -/
def State.modOut (s : State) (a : Nat) (f : SrvOut → SrvOut) : State :=
  s.modSrv fun z => { z with out := tabSet (fun _ => {}) z.out a (f (s.srvOut a)) }
/-- A group's state. -/
def State.srvGrp (s : State) (g : Nat) : SrvGrp := tabGet (fun _ => {}) s.srv.grp g
/-- A group's state changed. -/
def State.modGrp (s : State) (g : Nat) (f : SrvGrp → SrvGrp) : State :=
  s.modSrv fun z => { z with grp := tabSet (fun _ => {}) z.grp g (f (s.srvGrp g)) }

/-- OFF -/ def phOff := 0
/-- ENABLING -/ def phEnabling := 1
/-- RELEASING -/ def phReleasing := 2
/-- ON -/ def phOn := 3
/-- BRAKING -/ def phBraking := 4

/-- `SRV_GRP_STATUS.PHASE` (R361). -/
def State.phase (s : State) (g : Nat) : Nat := s.fld (Reg.SRV_GRP_STATUS g) F.SRV_GRP_STATUS_PHASE
/-- The phase that governs an axis: an axis without a group is as in OFF (R338). -/
def State.axisPhase (s : State) (a : Nat) : Nat := match s.axisGroup a with | some g => s.phase g | none => phOff

/-- OFF -/ def mdOff := 0
/-- HOLD_POS -/ def mdHold := 1
/-- FOLLOW -/ def mdFollow := 2
/-- GRAVITY -/ def mdGravity := 3

/-- `SRV_AX_CFG(a).OUT_KIND`: 0 NONE, 1 LINK, 2 STEP, 3 CHOPPER (R339). -/
def State.outKind (s : State) (a : Nat) : Nat := s.fld (Reg.SRV_AX_CFG a) F.SRV_AX_CFG_OUT_KIND
/-- `SRV_AX_CFG(a).NODE`. -/
def State.axisNode (s : State) (a : Nat) : Nat := s.fld (Reg.SRV_AX_CFG a) F.SRV_AX_CFG_NODE
/-- The coefficient bank in use of an axis at T_k (R353, R355). -/
def State.axisBank (s : State) (a : Nat) : Nat := s.fld (Reg.SRV_AX_STATE a) F.SRV_AX_STATE_BANK
/-- The output mode of an axis. -/
def State.axisMode (s : State) (a : Nat) : Nat := s.fld (Reg.SRV_AX_STATE a) F.SRV_AX_STATE_MODE
/-- `SRV_AX_CFG(a).SWAP_SET`. -/
def State.swapSet (s : State) (a : Nat) : Nat := s.fld (Reg.SRV_AX_CFG a) F.SRV_AX_CFG_SWAP_SET
/-- A register as a signed value. -/
def State.sreg (s : State) (o : Nat) : Int := (s.reg o).toInt
/-- A register pair as a signed value. -/
def State.sreg64 (s : State) (o : Nat) : Int := (s.reg64 o).toInt

/-! ### Feedback (R340–R343) -/

/-- The feedback of an axis in a cycle: its position when usable, the status bits (FB_RECORD bits as bits 8–4 of
`SRV_AX_STATE`) and TORQUE of a record that gives them, a SEQ that did not match, a channel in PROBATION. -/
structure SrvFb where
  pos : Option Int := none
  status : Option Nat := none
  torque : Int := 0
  seqBad : Option Nat := none
  prob : Bool := false

/-- The status bits of a feedback record (R129), placed as in `SRV_AX_STATE` (R383). -/
def fbStatus (w : Nat) : Nat :=
  b2n (bit w 0) * 16 + b2n (bit w 1) * 32 + b2n (bit w 6) * 64 + b2n (bit w 4) * 128 + b2n (bit w 5) * 256

/-- The feedback record of a slot with its channel: of the copy taken (R129, R198), or as the partner's star has forwarded it
(R712). -/
def State.fbRecord (s : State) (n slot i : Nat) : Option (Nat × List Byte) :=
  match s.link.copies.find? fun y => y.src == n && y.slot == slot with
  | some y =>
    if y.f.aux / 32 % 8 ≠ 1 ∨ y.f.aux % 32 ≤ i then none else some (y.ch, slice y.f.payload (16 * i) 16)
  | none => (s.twin.fwd.find? fun x => x.1 == slot && x.2.1 == i).map fun x => (1 - s.twinSide, x.2.2)

/-- Link feedback (R340–R342). -/
def State.linkFb (s : State) (a : Nat) : SrvFb :=
  let n := s.axisNode a
  let slot := s.fld (Reg.SB_NODE1 s.bankUsed n) F.SB_NODE1_FB_SLOT
  match s.fbRecord n slot (s.fld (Reg.SRV_AX_CFG a) F.SRV_AX_CFG_FB_RECORD) with
  | none => {}
  | some (ch, p) =>
    let m := s.memb ch n
    if slot = 0 ∨ !(m == 3 || (m == 2 && s.axisPhase a == phOff)) then {}
    else
      let seq := leAt p 14 2
      if seq ≠ s.cycleCount % 65536 then { seqBad := some seq }
      else
        let w := leAt p 12 2
        { pos := if bit w 2 then none else some (sleAt p 0 8)
          status := some (fbStatus w)
          torque := sleAt p 8 4
          prob := m == 2 }

/-- Δc of R343 for a wrap of `w` counts. -/
def countDelta (w c c' : Nat) : Int :=
  let d := ((c : Int) - c') % w
  if d ≤ ((w : Int) + 1) / 2 - 1 then d else d - w

/-- Local feedback (R343): the position from the count latched at T_k; the first one is c(k) × 2^16. READY reads 1 (R383).
DEDUCED: notes/assumptions/52.md. -/
def State.localFb (s : State) (a : Nat) (x : SrvAx) : SrvFb :=
  let c := a - 192
  let z := s.laCh c
  { pos := if !z.ckValid then none
      else if !x.started then some (z.ck * 65536)
      else some (x.pLast + countDelta (s.laW c) z.ck x.cnt * 65536)
    status := some 0x10 }

/-! ### Arithmetic (R345, R347, R349) -/

/-- A value saturated to `w` bits, and flag bit `b` when that changed it. -/
def satF (w b : Nat) (x : Int) : Int × Nat := let y := satS w x; (y, if y = x then 0 else 2 ^ b)
/-- A value clamped, and flag bit `b` when that changed it. -/
def clampF (lo hi : Int) (b : Nat) (x : Int) : Int × Nat := let y := clampI lo hi x; (y, if y = x then 0 else 2 ^ b)
/-- A right shift that rounds ties toward +∞ (R347). -/
def shr (a : Int) (n : Nat) : Int := roundHalf a (2 ^ n)

/-- One biquad of bank `k` (R349): the output, the new states, the flag `b`. -/
def State.biquad (s : State) (k a n b : Nat) (z : SrvBq) (x : Int) : Int × SrvBq × Nat :=
  let r := if n = 0 then Reg.SRV_CF_BQ0_B0 k a else Reg.SRV_CF_BQ1_B0 k a
  let (y, f) := satF 32 b (shr (s.sreg r * x + s.sreg (r + 4) * z.x1 + s.sreg (r + 8) * z.x2
    - s.sreg (r + 12) * z.y1 - s.sreg (r + 16) * z.y2) 30)
  (y, ⟨x, z.x1, y, z.y1⟩, f)

/-! ### Stages 1–3 (R343, R346, R350, R351) -/

/-- Position and velocity of a cycle: the axis with them, Δp, the flags. DEDUCED: notes/assumptions/52.md. -/
def axisMeasure (x : SrvAx) (us : Nat) (fb : SrvFb) (cnt : Nat) : SrvAx × Int × Nat :=
  let m := min 65535 (x.m + 1)
  let dt := x.dt + us
  match fb.pos with
  | some q =>
    let (p, f0) := satF 64 0 q
    if !x.started then
      ({ x with started := true, p := p, pLast := p, pPrev := p, m := 0, mp := 1, dt := 0, vfb := 0, cnt := cnt }, 0, f0)
    else
      let (dp, f1) := satF 64 1 (p - x.pLast)
      let (v, f2) := satF 64 2 (roundHalf (dp * 1000000) dt)
      ({ x with p := p, pLast := p, pPrev := x.pLast, m := 0, mp := m, dt := 0, vfb := v, cnt := cnt }, dp, f0 + f1 + f2)
  | none =>
    let (p, f0) := satF 64 0 (x.pLast + roundHalf ((x.pLast - x.pPrev) * m) x.mp)
    ({ x with p := p, m := m, dt := dt }, 0, f0)

/-! ### Stages 4–14 -/

/-- The set-points that an axis uses in its mode (R363): SP_POS for T_k, SP_VEL, SP_ACC and SP_TRQ for T_(k+1).
DEDUCED: notes/assumptions/50.md. -/
def State.axisSp (s : State) (a : Nat) : Int × Int × Int × Int :=
  let t := s.sreg (Reg.SRV_SP_TRQ a)
  if s.axisMode a = mdHold then ((s.srvOut a).held, 0, 0, t)
  else ((s.srvOut a).sp0, s.sreg64 (Reg.SRV_SP_VEL a), s.sreg64 (Reg.SRV_SP_ACC a), t)

/-- The integrator of a cycle (R348, R350, R363): the new value (Q1.47) and flag 7. -/
def State.integrate (s : State) (a : Nat) (x : SrvAx) (tp : Int) (usable : Bool) : Int × Nat :=
  let k := s.axisBank a
  let mode := s.axisMode a
  if mode = mdOff then (0, 0)
  else if mode = mdGravity ∨ s.axisPhase a = phEnabling then (x.integ, 0)
  else
    let d := if usable then roundHalf (tp * s.sreg (Reg.SRV_CF_KI k a) * s.bankUs s.bankUsed) 1000000 else 0
    let stop := s.flag (Reg.SRV_CF_SHIFT k a) F.SRV_CF_SHIFT_AW_COND &&
      ((x.tau == s.sreg (Reg.SRV_CF_TLIM_POS k a) && decide (0 < d)) ||
       (x.tau == -s.sreg (Reg.SRV_CF_TLIM_NEG k a) && decide (d < 0)))
    let lim := s.sreg (Reg.SRV_CF_ILIM k a) * 65536
    clampF (-lim) lim 7 (x.integ + if stop then 0 else d)

/-- Stages 4–14 of a cycle (R345, R363) on the axis with its p(k) and v_fb; `f` are the flags so far.
DEDUCED: notes/assumptions/50.md. -/
def State.axisStages (s : State) (a : Nat) (x : SrvAx) (usable : Bool) (f : Nat) : SrvAx :=
  let k := s.axisBank a
  let mode := s.axisMode a
  let (spP, spV, spA, spT) := s.axisSp a
  let (ep, f3) := satF 64 3 (spP - x.p)
  let (v, f4) := satF 64 4 (shr (s.sreg (Reg.SRV_CF_KP k a) * ep + s.sreg (Reg.SRV_CF_KVFF k a) * spV) 16)
  let vl : Int := (s.reg (Reg.SRV_CF_VLIM k a)).toNat * 65536
  let (vc, f4') := clampF (-vl) vl 4 v
  let sp := [spP, spV, spA, spT]
  if s.outKind a = 2 then
    { x with vcmd := vc, tau := 0, sat := f + f3 + max f4 f4', vals := [x.p, x.vfb, ep, vc, 0, 0, 0, 0, 0, 0, 0] ++ sp }
  else
    let (ev, f5) := satF 64 5 (vc - x.vfb)
    let (tp, f6) := satF 32 6 (shr (s.sreg (Reg.SRV_CF_KV k a) * ev) (1 + s.fld (Reg.SRV_CF_SHIFT k a) F.SRV_CF_SHIFT_SV))
    let (i, f7) := s.integrate a x tp usable
    let i31 := satS 32 (shr i 16)
    let (ta, f8) := satF 32 8 (shr (s.sreg (Reg.SRV_CF_KAFF k a) * spA) (1 + s.fld (Reg.SRV_CF_SHIFT k a) F.SRV_CF_SHIFT_SA))
    let (tt, f9) := satF 32 9 (shr (s.sreg (Reg.SRV_CF_KTFF k a) * spT) 16)
    let (sum, f10) := satF 32 10 (tp + i31 + ta + tt)
    let grav := decide (mode = mdGravity)
    let (y0, b0, f11) :=
      if grav then (sum, x.bq0, 0)
      else if s.flag (Reg.SRV_CF_SHIFT k a) F.SRV_CF_SHIFT_BQ0_EN then s.biquad k a 0 11 x.bq0 sum else (sum, {}, 0)
    let (y1, b1, f12) :=
      if grav then (y0, x.bq1, 0)
      else if s.flag (Reg.SRV_CF_SHIFT k a) F.SRV_CF_SHIFT_BQ1_EN then s.biquad k a 1 12 x.bq1 y0 else (y0, {}, 0)
    let (tau, f13) := clampF (-s.sreg (Reg.SRV_CF_TLIM_NEG k a)) (s.sreg (Reg.SRV_CF_TLIM_POS k a)) 13 (if grav then tt else y1)
    { x with
      vcmd := vc, integ := i, bq0 := b0, bq1 := b1, tau := tau
      sat := f + f3 + max f4 f4' + f5 + f6 + f7 + f8 + f9 + f10 + f11 + f12 + f13
      vals := [x.p, x.vfb, ep, vc, ev, tp, i31, satS 32 (ta + tt), sum, y0, tau] ++ sp }

/-! ### Fault conditions (R365–R368) -/

/-- Cause codes of R369: FB_LOST. -/
def fcLost := 1
/-- FB_FROZEN -/ def fcFrozen := 2
/-- FOLLOWING_ERROR -/ def fcFollow := 3
/-- DRIVE_FAULT -/ def fcDrive := 4
/-- DRIVE_DROP -/ def fcDrop := 5
/-- ENABLE_TIMEOUT -/ def fcTimeout := 6
/-- OVERRUN -/ def fcOverrun := 7

/-- The feedback counts, state and fault causes of an axis for a cycle, after its stages. `was` is the axis before.
DEDUCED: notes/assumptions/51.md. -/
def State.axisFaults (s : State) (a : Nat) (was x : SrvAx) (dp : Int) (fb : SrvFb) : SrvAx :=
  let ph := s.axisPhase a
  let run := ph == phReleasing || ph == phOn
  let usable := fb.pos.isSome
  let det := Reg.SRV_AX_DET a
  let miss := if usable then 0 else min 255 (was.miss + 1)
  let lostN := s.fld det F.SRV_AX_DET_LOST_N
  let lost := decide (lostN ≤ miss) && !usable
  let frzV := (s.reg (Reg.SRV_AX_FRZ_V a)).toNat
  let frozen := ph == phOn && usable && was.started && frzV != 0
    && decide (dp.natAbs ≤ s.fld det F.SRV_AX_DET_FRZ_TOL * 65536) && decide (frzV * 65536 ≤ x.vcmd.natAbs)
    && decide ((s.reg (Reg.SRV_AX_FRZ_T a)).toNat ≤ was.tau.natAbs)
  let frz := if !usable then was.frz else if frozen then min 255 (was.frz + 1) else 0
  let newFrz := frozen && decide (s.fld det F.SRV_AX_DET_FRZ_N ≤ frz)
  let fbSt := if newFrz || (was.fb == 3 && ph != phOff) then 3 else if usable then 0 else if lost then 2 else 1
  let ep := x.vals.getD 2 0
  let exceeds := decide ((s.reg (Reg.SRV_CF_FE_LIMIT (s.axisBank a) a)).toNat * 65536 < ep.natAbs)
  let fe := if run && usable && x.started then (if exceeds then was.fe + s.bankUs s.bankUsed else 0) else was.fe
  let node := s.axisNode a
  let status := fb.status.getD x.status
  let flt :=
    (if lost && (run || (ph == phBraking && miss == lostN)) then [(fcLost, miss, 0)] else []) ++
    (if newFrz then [(fcFrozen, frz, ofSigned 64 x.p)] else []) ++
    (if run && usable && x.started && exceeds && decide (s.fld (Reg.SRV_AX_FE_TIME a) F.SRV_AX_FE_TIME_FE_TIME ≤ fe) then
      [(fcFollow, 0, ofSigned 64 ep)] else []) ++
    (if a < 192 && run && fb.status.isSome then
      (if bit status 5 then [(fcDrive, node, 0)] else []) ++
      (if !bit status 6 && !bit status 7 then [(fcDrop, node, 0)] else [])
     else [])
  { x with
    miss := miss, frz := frz, fb := fbSt, fe := fe, extrap := !usable && x.started, missing := !usable
    probFb := if usable then fb.prob else x.probFb
    status := status
    torque := if fb.status.isSome then fb.torque else x.torque
    seqBad := fb.seqBad, flt := flt }

/-- The computation of cycle k for one ACTIVE axis (R345–R351, R363–R368): its state after the cycle. -/
def State.axisCompute (s : State) (a : Nat) : SrvAx :=
  let x := s.srvAx a
  let fb := if a < 192 then s.linkFb a else s.localFb a x
  if !x.started && fb.pos.isNone then
    s.axisFaults a x { x with vals := [], sat := 0 } 0 fb
  else
    let (y, dp, f) := axisMeasure x s.srv.prevUs fb (s.laCh (a - 192)).ck
    s.axisFaults a x (s.axisStages a y fb.pos.isSome f) dp fb

end Sys2Proof.Machine
end

