-- ==== Sys2Proof/Machine/Servo.lean ====
section
/-!
DEFINITION. Block 0x06, the servo engine around the loop: pipelines (R371–R373), the computation of a cycle and its
results (R353, R354, R374), group servo phases, faults and request lines (R361–R370), swap sets (R355–R360), outputs (R344).
-/
namespace Sys2Proof.Machine

/-! ### Pipelines (R371–R373) -/

/-- Bit `i` of a field of `SRV_STATUS`. -/
def State.pipeBit (s : State) (f : Fld) (i : Nat) : Bool := bit (s.fld Reg.SRV_STATUS f) i
/-- Sets bit `i` of a field of `SRV_STATUS`. -/
def State.setPipe (s : State) (f : Fld) (i : Nat) (v : Bool) : State :=
  s.put Reg.SRV_STATUS f (setBit (s.fld Reg.SRV_STATUS f) i v)
/-- The active pipelines, ascending. -/
def State.activePipes (s : State) : List Nat := idxs 9 (s.pipeBit F.SRV_STATUS_ACTIVE)

/-- Event 0x0632: 0 lent, 1 returned, 2 out of use. -/
def State.pipeEvent (s : State) (i what : Nat) : State := s.postB 0x0632 [(19, 1, i), (20, 1, what)]

/-- A pipeline that failed its residue check is out of use, and the spare takes its place (R373). -/
def State.pipeFailed (s : State) (i : Nat) : State :=
  if !s.pipeBit F.SRV_STATUS_ACTIVE i then s
  else
    let s := ((s.setPipe F.SRV_STATUS_ACTIVE i false).setPipe F.SRV_STATUS_RETIRED i true).pipeEvent i 2
    let s := s.startOutOfUse (0x18 + i)
    let sp := s.fld Reg.SRV_STATUS F.SRV_STATUS_SPARE
    let lent := s.fld Reg.SRV_STATUS F.SRV_STATUS_LENT
    if sp ≠ 15 then (s.setPipe F.SRV_STATUS_ACTIVE sp true).put Reg.SRV_STATUS F.SRV_STATUS_SPARE 15
    else if lent ≠ 15 then s.mstDemand (0x18 + lent)
    else s

/-- The next pipeline in turn after `i`, counting up modulo 9, that is active (R372). -/
def State.nextSpare (s : State) (i : Nat) : Option Nat :=
  ((List.range 8).map fun d => (i + 1 + d) % 9).find? (s.pipeBit F.SRV_STATUS_ACTIVE)

/-- A pipeline comes back from self-test at a cycle boundary: it becomes active and the next in turn the spare (R372). -/
def State.pipeReturned (s : State) (i : Nat) : State :=
  let s := s.modRegion (0x18 + i) fun x => { x with returning := false }
  let s := if s.fld Reg.SRV_STATUS F.SRV_STATUS_LENT = i then s.put Reg.SRV_STATUS F.SRV_STATUS_LENT 15 else s
  let s := ((s.setPipe F.SRV_STATUS_RETIRED i false).pipeEvent i 1).setPipe F.SRV_STATUS_ACTIVE i true
  if s.activePipes.length ≤ 8 then s
  else
    match s.nextSpare i with
    | some j => (s.setPipe F.SRV_STATUS_ACTIVE j false).put Reg.SRV_STATUS F.SRV_STATUS_SPARE j
    | none => s

/-- The pipelines at a cycle boundary. -/
def State.pipeBoundary (s : State) : State :=
  let s := forEach s.srv.failed s fun i s => s.pipeFailed i
  let s := s.modSrv fun z => { z with failed := [] }
  let s := forEach (idxs 9 fun i => (s.region (0x18 + i)).returning) s fun i s => s.pipeReturned i
  let lent := s.fld Reg.SRV_STATUS F.SRV_STATUS_LENT
  if lent < 9 ∧ s.regionState (0x18 + lent) = 3 then s.put Reg.SRV_STATUS F.SRV_STATUS_LENT 15 else s

/-! ### The computation of a cycle -/

/-- Foul 0x0616: an axis's result is discarded, by cause 1 overrun or 2 residue check (R354, R373). -/
def State.discardFoul (s : State) (a cause pipe : Nat) : State :=
  s.postB 0x0616 [(16, 2, a), (18, 1, (s.axisGroup a).getD 0), (19, 1, cause), (20, 1, pipe)]

/-- The pipeline that axis number `i` of the ACTIVE axes is dealt to (R371). -/
def State.pipeOf (s : State) (i : Nat) : Nat := let l := s.activePipes; l.getD (i % l.length) 15

/-- The servo computes cycle k at the feedback cut-off (R353): each ACTIVE axis on its pipeline; `failed` pipelines fail
their residue check, and their axes' results are discarded (R373). -/
def State.srvCompute (s : State) (failed : List Nat) : State :=
  let axes := s.activeAxes.zipIdx.map fun x => (x.1, s.pipeOf x.2)
  let failed := failed.filter s.activePipes.contains
  let bad := axes.filter fun x => failed.contains x.2 || decide (9 ≤ x.2)
  let good := axes.filter fun x => !(failed.contains x.2 || decide (9 ≤ x.2))
  let s := s.modSrv fun z => { z with
    busy := true, failed := failed, lost := bad.map (·.1), nx := good.map fun x => (x.1, s.axisCompute x.1) }
  forEach bad s fun x s => s.discardFoul x.1 (if x.2 < 9 then 2 else 1) x.2

/-- The word of `SRV_AX_STATE` for an axis (R383). -/
def State.axisWord (s : State) (a : Nat) (x : SrvAx) : Word :=
  BitVec.ofNat 32 (x.miss * 2 ^ 24 + x.frz * 2 ^ 16 + s.axisMode a * 2 ^ 12 + s.axisBank a * 2 ^ 11 + b2n x.extrap * 2 ^ 10
    + b2n x.probFb * 2 ^ 9 + x.status + x.fb * 4)

/-- The registers that show an axis (R379, R383, R384). -/
def State.showAxis (s : State) (a : Nat) (x : SrvAx) : State :=
  let v (i : Nat) : Int := x.vals.getD i 0
  let s := s.setReg (Reg.SRV_AX_STATE a) (s.axisWord a x)
  let s := s.setReg (Reg.SRV_AX_SAT a) (s.reg (Reg.SRV_AX_SAT a) ||| BitVec.ofNat 32 x.sat)
  let s := s.setReg64 (Reg.SRV_AX_POS a) (BitVec.ofInt 64 (v 0))
  let s := s.setReg64 (Reg.SRV_AX_VEL a) (BitVec.ofInt 64 (v 1))
  let s := s.setReg (Reg.SRV_AX_FERR a) (BitVec.ofInt 32 (satS 32 (shr (v 2) 16)))
  let s := s.setReg (Reg.SRV_AX_TRQ a) (BitVec.ofInt 32 (v 10))
  s.setReg (Reg.SRV_AX_INT a) (BitVec.ofInt 32 (v 6))

/-- The result of an axis counts: its state, its outputs for T_(k+1), its counters and faults.
DEDUCED: notes/assumptions/55.md. -/
def State.axisDone (s : State) (a : Nat) (x : SrvAx) : State :=
  let g := s.axisGroup a
  let s := s.modSrv fun z => { z with
    ax := tabSet (fun _ => {}) z.ax a { x with flt := [], seqBad := none }
    faults := z.faults ++ (match g with | some g => x.flt.map fun e => (g, a, e.1, e.2.1, e.2.2) | none => []) }
  let s := s.showAxis a x
  let s := if x.missing then s.addSat (Reg.SRV_AX_MISS a) F.SRV_AX_MISS_MISSING 1 else s
  let s := match x.seqBad with
    | some q =>
      (s.addSat (Reg.SRV_AX_MISS a) F.SRV_AX_MISS_SEQ_ERR 1).post 0x0617 (srcNode (s.axisNode a))
        (det [(16, 2, a), (18, 1, g.getD 0), (19, 1, q), (20, 2, s.cycleCount)])
    | none => s
  let off := s.axisMode a == mdOff || !x.started
  s.modOut a fun o => { o with
    cmd := if off then 0 else x.tau, vcmd := if off then 0 else x.vcmd, hold := false, discards := 0 }

/-- The result of an axis is discarded: the output repeats the previous one with HOLD 1; two in a row fault the group (R354). -/
def State.axisDiscard (s : State) (a : Nat) : State :=
  let n := (s.srvOut a).discards + 1
  let s := s.modOut a fun o => { o with hold := true, discards := n }
  if n < 2 then s
  else match s.axisGroup a with
    | some g => s.modSrv fun z => { z with faults := z.faults ++ [(g, a, fcOverrun, 0, 0)] }
    | none => s

/-- Cycles of MCLK that a computation lasts (R29). -/
def State.computeCycles (s : State) : Nat := 96 + 64 * ceilDiv s.nActive s.activePipes.length

/-- The value of a probe code for an axis (R374). -/
def State.probeValue (s : State) (a code : Nat) : Option Int :=
  if !s.flag (Reg.SRV_AX_CFG a) F.SRV_AX_CFG_ACTIVE then none
  else
    let x := s.srvAx a
    if code < 15 then some (x.vals.getD code 0)
    else if code = 15 then some x.torque
    else some (s.sreg (Reg.SRV_AX_STATE a))

/-- The end of the computation of cycle k: every result but those of the axes in `s.srv.lost` counts, and the probes
get theirs, stamped T_k (R31, R374). -/
def State.srvFinish (s : State) : State :=
  if !s.srv.busy then s
  else
    let lost := s.srv.lost
    let nx := s.srv.nx
    let s := s.modSrv fun z => { z with busy := false, nx := [], lost := [] }
    let s := forEach nx s fun x s => if lost.contains x.1 then s else s.axisDone x.1 x.2
    let s := forEach lost s fun a s => s.axisDiscard a
    let n := s.computeCycles
    let s := s.put Reg.SRV_COMPUTE F.SRV_COMPUTE_LAST n
    let s := s.put Reg.SRV_COMPUTE F.SRV_COMPUTE_MAX (max n (s.fld Reg.SRV_COMPUTE F.SRV_COMPUTE_MAX))
    s.acqProbes s.link.tk s.probeValue

/-- SERVO_OVERRUN_CHECK (R354): 400 ns before T_(k+1) the computation of the axes `late` is not complete; the results of
the others count. -/
def execServoOverrunCheck (late : List Nat) (s : State) : Out :=
  .next <|
    let t1 := s.link.tk + BitVec.ofNat 64 (s.bankUs s.bankUsed * 16000)
    if !s.srv.busy ∨ !timePast (t1 - 6400) s.cell then s
    else
      let l := late.filter fun a => s.activeAxes.contains a && !s.srv.lost.contains a
      let s := forEach l s fun a s => s.discardFoul a 1 (s.pipeOf (s.activeAxes.idxOf a))
      (s.modSrv fun z => { z with lost := z.lost ++ l }).srvFinish

/-! ### Phases (R361–R364) -/

/-- Event 0x0631 and the new phase, entered at `tk`. -/
def State.setPhase (s : State) (g ph : Nat) (tk : W64) : State :=
  let r := Reg.SRV_GRP_STATUS g
  let old := s.phase g
  let s := s.put r F.SRV_GRP_STATUS_PHASE ph
  let s := s.modGrp g fun z => { z with age := 0, entered := tk, readyRun := 0, due := false }
  if old = ph then s
  else s.postB 0x0631 [(18, 1, g), (19, 1, old), (20, 1, ph), (21, 1, s.fld r F.SRV_GRP_STATUS_CAUSE)]

/-- The held set-points of a group's axes are taken (R363). -/
def State.takeHeld (s : State) (g : Nat) : State :=
  forEach (s.groupAxes g) s fun a s => s.modOut a fun o => { o with held := (s.srvAx a).p, taken := true }

/-- Whole cycles of a time in ms (R361). -/
def State.cyclesOf (s : State) (ms : Nat) : Nat := ceilDiv (ms * 1000) (s.bankUs s.bankUsed)

/-- BRAKE_TIME of a group in cycles. -/
def State.brakeCycles (s : State) (g : Nat) : Nat := s.cyclesOf (s.fld (Reg.SRV_GRP_SAFE g) F.SRV_GRP_SAFE_BRAKE_TIME)

/-- Phase ON (R361): held set-points go to the records, and the planner is told. -/
def State.enterOn (s : State) (g : Nat) (tk : W64) : State :=
  let s := forEach (s.groupAxes g) s fun a s =>
    let s := s.setReg64 (Reg.SRV_SP_POS a) (BitVec.ofInt 64 (s.srvOut a).held)
    (s.setReg64 (Reg.SRV_SP_VEL a) 0).setReg64 (Reg.SRV_SP_ACC a) 0
  (s.setPhase g phOn tk).modGrp g fun z => { z with tellOn := true }

/-- Phase OFF; fault braking ends with the STO request (R361). -/
def State.enterOff (s : State) (g : Nat) (tk : W64) : State :=
  let r := Reg.SRV_GRP_STATUS g
  let s := if s.flag r F.SRV_GRP_STATUS_FAULT_BRAKING then s.put r F.SRV_GRP_STATUS_STO_REQ 1 else s
  let s := (s.put r F.SRV_GRP_STATUS_BRAKE_REQ 1).put r F.SRV_GRP_STATUS_FAULT_BRAKING 0
  s.setPhase g phOff tk

/-- Phase BRAKING; a BRAKE_TIME of 0 makes it last no cycle. -/
def State.enterBraking (s : State) (g : Nat) (fault : Bool) (tk : W64) : State :=
  let r := Reg.SRV_GRP_STATUS g
  let s := (s.put r F.SRV_GRP_STATUS_BRAKE_REQ 1).put r F.SRV_GRP_STATUS_FAULT_BRAKING (b2n fault)
  let s := (s.takeHeld g).setPhase g phBraking tk
  if s.brakeCycles g = 0 then s.enterOff g tk else s

/-- Phase RELEASING; a BRAKE_TIME of 0 makes it last no cycle. -/
def State.enterReleasing (s : State) (g : Nat) (tk : W64) : State :=
  let s := (s.put (Reg.SRV_GRP_STATUS g) F.SRV_GRP_STATUS_BRAKE_REQ 0).setPhase g phReleasing tk
  if s.brakeCycles g = 0 then s.enterOn g tk else s

/-- Phase ENABLING: the STO request is withdrawn, integrators and biquad states are zeroed, held set-points are taken. -/
def State.enterEnabling (s : State) (g : Nat) (tk : W64) : State :=
  let s := s.put (Reg.SRV_GRP_STATUS g) F.SRV_GRP_STATUS_STO_REQ 0
  let s := forEach (s.groupAxes g) s fun a s => s.modSrv fun z => { z with
    ax := tabSet (fun _ => {}) z.ax a { s.srvAx a with integ := 0, bq0 := {}, bq1 := {} } }
  (s.takeHeld g).setPhase g phEnabling tk

/-- A phase between OFF and BRAKING. -/
def State.phaseLive (s : State) (g : Nat) : Bool := decide (1 ≤ s.phase g ∧ s.phase g ≤ 3)

/-- The foul of a cause (R369); OVERRUN's was recorded with the discard. -/
def faultCode (cause : Nat) : Nat := 0x060F + cause

/-- A servo fault acts at the boundary (R361, R369, R370). DEDUCED: notes/assumptions/54.md. -/
def State.servoFault (s : State) (tk : W64) (e : Nat × Nat × Nat × Nat × Nat) : State :=
  let (g, a, cause, x, y) := e
  let r := Reg.SRV_GRP_STATUS g
  let d := [(16, 2, a), (18, 1, g), (19, 1, x), (24, 8, y)]
  let s := if cause = fcOverrun then s else s.postB (faultCode cause) d
  let first (s : State) : State :=
    let s := if s.fld r F.SRV_GRP_STATUS_CAUSE = 0 then
        (s.put r F.SRV_GRP_STATUS_CAUSE cause).put r F.SRV_GRP_STATUS_FAULT_AXIS a
      else s
    s.modGrp g fun z => { z with tellFault := true }
  if s.phaseLive g then (first s).enterBraking g true tk
  else if s.phase g = phBraking then
    let fresh := !s.flag r F.SRV_GRP_STATUS_FAULT_BRAKING
    let s := if fresh || cause = fcLost || cause = fcFrozen then s.postB 0x0618 [(16, 2, a), (18, 1, g), (19, 1, cause)] else s
    if fresh then first (s.put r F.SRV_GRP_STATUS_FAULT_BRAKING 1) else s
  else s

/-- The first axis of a group that is not ready (R361), for foul 0x0615. -/
def State.axisReady (s : State) (a : Nat) : Bool :=
  let x := s.srvAx a
  s.flag (Reg.SRV_AX_CFG a) F.SRV_AX_CFG_ACTIVE && x.started && !x.missing && x.fb == 0 &&
    (decide (192 ≤ a) || (bit x.status 4 && bit x.status 6 && !bit x.status 5))

/-- A group's request acts: 2 the disable sequence, 3 that of a category 0 stop, 1 the enable sequence.
DESIGN CHOICE: notes/assumptions/53.md. -/
def State.phaseRequest (s : State) (g : Nat) (tk : W64) : State :=
  let q := (s.srvGrp g).req
  let s := s.modGrp g fun z => { z with req := 0 }
  if q = 1 ∧ s.phase g = phOff then s.enterEnabling g tk
  else if q = 2 ∧ s.phaseLive g then s.enterBraking g false tk
  else if q = 3 ∧ s.phaseLive g then
    (s.put (Reg.SRV_GRP_STATUS g) F.SRV_GRP_STATUS_FAULT_BRAKING 0).enterOff g tk
  else s

/-- The times of a group's phase at a boundary: two ready cycles, EN_TIMEOUT, BRAKE_TIME. -/
def State.phaseTimes (s : State) (g : Nat) (tk : W64) : State :=
  let z := s.srvGrp g
  let ph := s.phase g
  if ph = phEnabling then
    if 2 ≤ z.readyRun then s.enterReleasing g tk
    else if z.due then
      let a := ((s.groupAxes g).mergeSort (fun a b => decide (a ≤ b))).find? fun a => !s.axisReady a
      s.servoFault tk (g, a.getD 0, fcTimeout, a.getD 0, 0)
    else s
  else if ph = phReleasing ∧ z.due then s.enterOn g tk
  else if ph = phBraking ∧ z.due then s.enterOff g tk
  else s

/-- `SRV_REQ` (R364). DEDUCED: notes/assumptions/54.md. -/
def State.showReq (s : State) : State :=
  let line (f m : Fld) : Nat :=
    s.groups.foldl (fun x g => if s.flag (Reg.SRV_GRP_STATUS g) f then x ||| s.fld (Reg.SRV_GRP_SAFE g) m else x) 0
  (s.put Reg.SRV_REQ F.SRV_REQ_BRAKE (line F.SRV_GRP_STATUS_BRAKE_REQ F.SRV_GRP_SAFE_BRAKE_MASK)).put Reg.SRV_REQ
    F.SRV_REQ_STO (line F.SRV_GRP_STATUS_STO_REQ F.SRV_GRP_SAFE_STO_MASK)

/-! ### Swap sets (R355–R360) -/

/-- The axes of a swap set. -/
def State.setAxes (s : State) (q : Nat) : List Nat := idxs 224 fun a => s.axisPresent a && s.swapSet a == q
/-- The bank in use of a swap set. -/
def State.setBank (s : State) (q : Nat) : Nat := b2n (bit (s.reg Reg.SRV_SWAP_BANK).toNat q)

/-- The swap: the set's axes use the other bank; BQ_CLEAR of the new one zeroes the biquad states (R356, R360). -/
def State.swapNow (s : State) (q : Nat) (c : Cmd) : State :=
  let b := 1 - s.setBank q
  let s := s.setReg Reg.SRV_SWAP_BANK (BitVec.ofNat 32 (setBit (s.reg Reg.SRV_SWAP_BANK).toNat q (b == 1)))
  let s := forEach (s.setAxes q) s fun a s =>
    let s := s.put (Reg.SRV_AX_STATE a) F.SRV_AX_STATE_BANK b
    if s.flag (Reg.SRV_CF_SHIFT b a) F.SRV_CF_SHIFT_BQ_CLEAR then
      s.modSrv fun z => { z with ax := tabSet (fun _ => {}) z.ax a { s.srvAx a with bq0 := {}, bq1 := {} } }
    else s
  (s.postB 0x0630 [(19, 1, q), (20, 1, b)]).complete c stOK b

/-- A commit no longer waits. -/
def State.dropCommit (s : State) (q : Nat) : State :=
  let s := s.modSrv fun z => { z with commits := z.commits.filter fun x => x.1 != q }
  s.setReg Reg.SRV_SWAP_PEND (BitVec.ofNat 32 (setBit (s.reg Reg.SRV_SWAP_PEND).toNat q false))

/-- Why a commit is withheld at its boundary (R359), 0 for not. -/
def State.withheldBy (s : State) (q : Nat) : Nat :=
  let axes := (s.setAxes q).filter fun a => s.flag (Reg.SRV_AX_CFG a) F.SRV_AX_CFG_ACTIVE
  let owners := s.groups.filter fun g => (s.groupAxes g).any fun a => s.swapSet a == q
  if axes.any fun a => decide (2 ≤ (s.srvAx a).fb) then 1
  else if s.srv.faults.any fun e => e.2.2.1 == fcFollow && axes.contains e.2.1 then 2
  else if owners.any fun g => s.grpState g == 5 || s.srv.faults.any fun e => e.1 == g then 3
  else 0

/-- The commits at a boundary. -/
def State.swapBoundary (s : State) : State :=
  forEach s.srv.commits s fun x s =>
    let why := s.withheldBy x.1
    let s := s.dropCommit x.1
    if why = 0 then s.swapNow x.1 x.2 else s.complete x.2 stAborted why

/-- Every commit that waits is withheld, as at a twin switch-over (reason 4). -/
def State.withholdSwaps (s : State) (reason : Nat) : State :=
  forEach s.srv.commits s fun x s => (s.dropCommit x.1).complete x.2 stAborted reason

/-- Exact condition of check 4 of R358 on a biquad. -/
def State.bqStable (s : State) (k a n : Nat) : Bool :=
  let r := if n = 0 then Reg.SRV_CF_BQ0_B0 k a else Reg.SRV_CF_BQ1_B0 k a
  let a1 := s.sreg (r + 12)
  let a2 := s.sreg (r + 16)
  decide (a2.natAbs < 2 ^ 30) && decide ((a1.natAbs : Int) < 2 ^ 30 + a2)

/-- Check `n` of R358 on bank `k` of an axis. -/
def State.coefCheck (s : State) (k a n : Nat) : Bool :=
  let sh := Reg.SRV_CF_SHIFT k a
  match n with
  | 1 => decide (s.fld sh F.SRV_CF_SHIFT_SV ≤ 47) && decide (s.fld sh F.SRV_CF_SHIFT_SA ≤ 47)
  | 2 => decide (0 ≤ s.sreg (Reg.SRV_CF_ILIM k a)) && decide (0 ≤ s.sreg (Reg.SRV_CF_TLIM_POS k a))
          && decide (0 ≤ s.sreg (Reg.SRV_CF_TLIM_NEG k a))
  | 3 => s.reg (Reg.SRV_CF_VLIM k a) != 0 && s.reg (Reg.SRV_CF_FE_LIMIT k a) != 0
  | _ => (!s.flag sh F.SRV_CF_SHIFT_BQ0_EN || s.bqStable k a 0) && (!s.flag sh F.SRV_CF_SHIFT_BQ1_EN || s.bqStable k a 1)

/-- The first check that fails, with the lowest axis that fails it (R358). -/
def State.coefFail (s : State) (q k : Nat) : Option (Nat × Nat) :=
  let axes := (s.setAxes q).filter fun a => s.flag (Reg.SRV_AX_CFG a) F.SRV_AX_CFG_ACTIVE
  ([1, 2, 3, 4].flatMap fun n => axes.map fun a => (n, a)).find? fun x => !s.coefCheck k x.2 x.1

/-- SRV_COMMIT (R356, R358, R388). -/
def execSrvCommit (c : Cmd) (s : State) : Out :=
  let c := { c with op := 0x0601 }
  let q := c.b 16
  .next <| s.judge c
    (check1 c .pfWc [] ++
      [ (!c.onlyUses [(16, 1)] || decide (32 ≤ q), .bad),
        (s.srv.commits.any fun x => x.1 == q, .busy),
        s.mirrorCheck c,
        (s.mode == mBoot, .reject 1 s.mode) ])
    fun s =>
      match s.coefFail q (1 - s.setBank q) with
      | some (n, a) =>
        ((s.put Reg.SRV_CHECK F.SRV_CHECK_AXIS a).put Reg.SRV_CHECK F.SRV_CHECK_FAILED_CHECK n).complete c stBad n
      | none =>
        let s := s.setReg Reg.SRV_CHECK 0
        if s.mode = mConfig ∧ s.role ≤ 1 then s.swapNow q c
        else
          (s.modSrv fun z => { z with commits := z.commits ++ [(q, c)] }).setReg Reg.SRV_SWAP_PEND
            (BitVec.ofNat 32 (setBit (s.reg Reg.SRV_SWAP_PEND).toNat q true))

/-- SRV_COPY (R388). -/
def execSrvCopy (c : Cmd) (s : State) : Out :=
  let c := { c with op := 0x0602 }
  let q := c.b 16
  .next <| s.judge c
    (check1 c .pfWc [] ++
      [ (!c.onlyUses [(16, 1)] || decide (32 ≤ q), .bad),
        s.mirrorCheck c,
        (s.srv.commits.any fun x => x.1 == q, .reject 23 (1 - s.setBank q)) ])
    fun s =>
      let k := s.setBank q
      let s := forEach (s.setAxes q) s fun a s => forEach (List.range 22) s fun i s =>
        s.setReg (Reg.SRV_CF_KP (1 - k) a + 4 * i) (s.reg (Reg.SRV_CF_KP k a + 4 * i))
      s.complete c stOK 0

/-! ### Outputs (R344, R363) -/

/-- ENABLE of an axis's output. -/
def State.axisEnable (s : State) (a : Nat) : Bool := s.axisPhase a != phOff
/-- An axis is driven: it belongs to a group, is ACTIVE and its group is not OFF. -/
def State.axisDriven (s : State) (a : Nat) : Bool := s.axisEnable a && s.flag (Reg.SRV_AX_CFG a) F.SRV_AX_CFG_ACTIVE

/-- The outputs of cycle k are issued at T_(k+1): local channels load them, link records take them. -/
def State.issueOutputs (s : State) : State :=
  let s := forEach (idxs 224 s.axisPresent) s fun a s =>
    let off := !s.axisDriven a
    s.modOut a fun o => { o with
      cmdNow := if off then 0 else if o.hold then o.cmdNow else o.cmd
      vcmdNow := if off then 0 else if o.hold then o.vcmdNow else o.vcmd
      holdNow := o.hold }
  forEach (List.range s.nLocal) s fun ch s =>
    let o := s.srvOut (192 + ch)
    s.laLoad ch o.vcmdNow o.cmdNow (s.axisDriven (192 + ch))

/-- The mode of an axis for the computations that follow a boundary (R363). -/
def State.modeFor (s : State) (a : Nat) : Nat :=
  let ph := s.axisPhase a
  if ph = phOff then mdOff
  else if 2 ≤ (s.srvAx a).fb then mdGravity
  else if ph = phOn then mdFollow
  else mdHold

/-- Modes, coefficient banks and SP_POS(T_k) of every ACTIVE axis for cycle k (R353, R355, R363).
DEDUCED: notes/assumptions/51.md. -/
def State.axisBoundary (s : State) : State :=
  forEach s.activeAxes s fun a s =>
    let r := Reg.SRV_AX_STATE a
    let s := if s.axisPhase a = phOff ∧ (s.srvAx a).fb = 3 then
        (s.modSrv fun z => { z with ax := tabSet (fun _ => {}) z.ax a { s.srvAx a with fb := 0, frz := 0 } }).put r F.SRV_AX_STATE_FB 0
      else s
    let s := (s.put r F.SRV_AX_STATE_MODE (s.modeFor a)).put r F.SRV_AX_STATE_BANK (s.setBank (s.swapSet a))
    s.modOut a fun o => { o with sp0 := s.sreg64 (Reg.SRV_SP_POS a) }

/-- The groups' ready runs after the computation of a cycle. -/
def State.readyRuns (s : State) : State :=
  forEach (s.groups.filter fun g => s.phase g == phEnabling) s fun g s =>
    let ok := (s.groupAxes g).all s.axisReady
    s.modGrp g fun z => { z with readyRun := if ok then z.readyRun + 1 else 0 }

/-- The servo's part of a cycle boundary T_k (R27, R356, R361, R369, R372). While the twin role is STANDBY or REJOINING the servo computes
nothing and drives no output (R375). DESIGN CHOICE: notes/assumptions/53.md. -/
def State.servoBoundary (s : State) (tk : W64) : State :=
  if 2 ≤ s.role then s.laSample.modSrv fun z => { z with prevUs := z.curUs, curUs := s.bankUs s.bankUsed }
  else
    let s := s.srvFinish.readyRuns
    let s := forEach s.activeAxes s fun a s => if (s.srvOut a).taken then s.modOut a fun o => { o with taken := false } else s
    let s := forEach s.groups s fun g s => s.modGrp g fun z => { z with age := z.age + 1 }
    let s := s.swapBoundary.pipeBoundary
    let s := forEach (s.groups.filter fun g => (s.srvGrp g).req == 3) s fun g s => s.phaseRequest g tk
    let faults := s.srv.faults
    let s := s.modSrv fun z => { z with faults := [] }
    let s := forEach faults s fun e s => s.servoFault tk e
    let s := forEach s.groups s fun g s =>
      if (s.srvGrp g).req ≠ 0 then s.phaseRequest g tk else s.phaseTimes g tk
    let s := s.showReq.issueOutputs.axisBoundary.laSample
    s.modSrv fun z => { z with prevUs := z.curUs, curUs := s.bankUs s.bankUsed }

/-- ENABLE_TIMEOUT: EN_TIMEOUT has elapsed since group `g` entered ENABLING (R361); the phase changes at the next cycle
boundary. DEDUCED: notes/assumptions/54.md. -/
def execEnableTimeout (g : Nat) (s : State) : Out :=
  .next <|
    let t := (s.srvGrp g).entered + BitVec.ofNat 64 (s.fld Reg.SRV_CTRL F.SRV_CTRL_EN_TIMEOUT * 16000000)
    if g < s.nGroups ∧ s.phase g = phEnabling ∧ timePast t s.cell then s.modGrp g fun z => { z with due := true } else s

/-- BRAKE_TIME_EXPIRE: with the next cycle boundary BRAKE_TIME has elapsed since group `g` entered RELEASING or BRAKING
(R361); the phase changes at that boundary. DEDUCED: notes/assumptions/54.md. -/
def execBrakeTimeExpire (g : Nat) (s : State) : Out :=
  .next <|
    if g < s.nGroups ∧ (s.phase g = phReleasing ∨ s.phase g = phBraking) ∧ s.brakeCycles g ≤ (s.srvGrp g).age + 1 then
      s.modGrp g fun z => { z with due := true }
    else s

/-! ### Command records (R127, R128, R344) -/

/-- The LINK axis that drives a node. -/
def State.nodeAxis (s : State) (n : Nat) : Option Nat :=
  (List.range 192).find? fun a => s.flag (Reg.SRV_AX_CFG a) F.SRV_AX_CFG_ACTIVE && s.outKind a == 1 && s.axisNode a == n

/-- A node's command record; `ahead`: with the results that wait for the next boundary (R710). -/
def State.cmdRecord (s : State) (ahead : Bool) (n : Nat) : List Byte :=
  let (cmd, w) : Int × Nat := match s.nodeAxis n with
    | none => (0, 0)
    | some a =>
      let o := s.srvOut a
      let clear := s.axisPhase a == phEnabling && bit (s.srvAx a).status 5
      let cmd := if !ahead then o.cmdNow else if !s.axisDriven a then 0 else if o.hold then o.cmdNow else o.cmd
      let hold := if ahead then o.hold else o.holdNow
      (cmd, b2n (s.axisDriven a) + 2 * b2n (hold && s.axisDriven a) + 4 * b2n clear)
  leBytes 4 (ofSigned 32 cmd) ++ leBytes 2 w ++ leBytes 2 s.cycleCount

/-- The payload of a device DATA entry of `len` blocks: the records of the nodes whose CMD_SLOT names it, and their number.
DEDUCED: notes/assumptions/55.md. -/
def State.cmdPayload (s : State) (ahead : Bool) (k : Nat) (x : Ent) : List Byte × Nat :=
  let r (n : Nat) := Reg.SB_NODE0 k n
  let nodes := idxs 241 fun n => s.sched k n && s.fld (r n) F.SB_NODE0_CMD_SLOT == x.slot
  let at_ (n : Nat) := s.fld (r n) F.SB_NODE0_CMD_RECORD
  let cnt := nodes.foldl (fun m n => max m (at_ n + 1)) 0
  let recs := (List.range cnt).flatMap fun i => match nodes.find? fun n => at_ n == i with
    | some n => s.cmdRecord ahead n
    | none => List.replicate 8 0
  (slice recs 0 (8 * (x.len - 3)), cnt)

/-- DEVICE_DATA_SEND (R127, R142, R144, R710): the star starts the frame of a device DATA entry on every open port in DEST.
DEDUCED: notes/assumptions/55.md. -/
def execDeviceDataSend (e : Nat) (s : State) : Out :=
  .next <|
    let k := s.bankUsed
    match s.ent k e with
    | none => s
    | some x =>
      if s.scheduled ∧ e < s.fld (Reg.SB_COUNT k) F.SB_COUNT_N_ENTRIES ∧ x.fromDevice ∧ x.kind = kData
          ∧ x.active s.link.cycle ∧ !s.link.got.contains (e, 2) then
        let s := s.modLink fun z => { z with got := (e, 2) :: z.got }
        let (p, n) := s.cmdPayload false k x
        let frame (c : Nat) : Option RawFrame :=
          if s.heldOut then (s.heldFor x).head?.map (s.heldFrame c kData)
          else if s.twin.out = 3 then none else some (s.mkFrame c kData x.slot 255 n p)
        forEach ([0, 1].filter s.ownCh) s fun c s =>
          match frame c with
          | none => s
          | some f => forEach allPorts s fun d s =>
            if !(x.onCh c && bit x.dest d && (s.lp c d).sending && s.portOpen c d) || s.letBlocks c x.start (x.start + x.len) then s
            else s.emit (.frame c d x.start f)
      else s

end Sys2Proof.Machine
end

