-- ==== Sys2Proof/Machine/Kin.lean ====
section
/-!
DEFINITION. Block 0x04, models and places: the kinematic model table and its checks (R228–R230), frames and tool pose (R231,
R232), capsules (R400) and workspace zones (R261), conversions to counts (R268), plans as functions of time.
-/
namespace Sys2Proof.Machine

/-! ### State -/

/-- The planner's state changed. -/
def State.modPl (s : State) (f : PlSt → PlSt) : State := { s with pl := f s.pl }
/-- A group's planner state. -/
def State.pg (s : State) (g : Nat) : PlGrp := tabGet (fun _ => {}) s.pl.grp g
/-- A group's planner state changed. -/
def State.modPg (s : State) (g : Nat) (f : PlGrp → PlGrp) : State :=
  s.modPl fun z => { z with grp := tabSet (fun _ => {}) z.grp g (f (s.pg g)) }
/-- A zone's state. -/
def State.pz (s : State) (z : Nat) : PlZone := tabGet (fun _ => {}) s.pl.zones z
/-- A zone's state changed. -/
def State.modPz (s : State) (z : Nat) (f : PlZone → PlZone) : State :=
  s.modPl fun x => { x with zones := tabSet (fun _ => {}) x.zones z (f (s.pz z)) }

/-- The optimiser's state changed. -/
def State.modOpt (s : State) (f : OptSt → OptSt) : State := { s with opt := f s.opt }
/-- A group's optimiser state. -/
def State.og (s : State) (g : Nat) : OptGrp := tabGet (fun _ => {}) s.opt.grp g
/-- A group's optimiser state changed. -/
def State.modOg (s : State) (g : Nat) (f : OptGrp → OptGrp) : State :=
  s.modOpt fun z => { z with grp := tabSet (fun _ => {}) z.grp g (f (s.og g)) }

/-! ### The model table (R228–R230) -/

/-- A joint record (R229) at an offset. -/
def jointOf (l : List Byte) (o : Nat) : PlJoint where
  typ := leAt l o 1
  axis := leAt l (o + 4) 2
  w := f64s l (o + 8) 3
  v := f64s l (o + 32) 3
  pmin := f64At l (o + 56)
  pmax := f64At l (o + 64)
  vmax := f64At l (o + 72)
  amax := f64At l (o + 80)
  jmax := f64At l (o + 88)
  cpu := f64At l (o + 96)
  zero := f64At l (o + 104)
  trq := f64At l (o + 112)

/-- The model of a table (R228). -/
def modelOf (l : List Byte) : PlModel where
  kind := leAt l 6 1
  base := f64s l 16 12
  home := f64s l 112 12
  tool := f64s l 208 12
  delta := f64s l 304 4
  joints := (List.range (leAt l 7 1)).map fun j => jointOf l (356 + 128 * j)

/-- Octets that are all 0. -/
def zeroAt (l : List Byte) (o n : Nat) : Bool := (slice l o n).all (· == 0)

/-- Check 1 of R230 for a table in `len` octets. -/
def model1 (l : List Byte) (len : Nat) : Bool :=
  let n := leAt l 7 1
  let t := 360 + 128 * n
  leAt l 0 4 == 0x4B4E4D47 && leAt l 4 2 == 1 && leAt l 8 4 == t && decide (t ≤ len) && crc32c (l.take (t - 4)) == leAt l (t - 4) 4
    && zeroAt l 12 4 && zeroAt l 336 20
    && (List.range n).all fun j => let o := 356 + 128 * j; zeroAt l (o + 1) 3 && zeroAt l (o + 6) 2 && zeroAt l (o + 120) 8

/-- Checks 2–6 of R230 on a model: the first that fails, 0 when none does. -/
def State.modelCheck (s : State) (m : PlModel) : Nat :=
  let js := m.joints
  let n := js.length
  let dot1 (a b : PlJoint) : Nat := dAbs (dDot a.v b.v)
  let par (a b : List Nat) : Bool := dNear dNano (dAbs (dDot a b)) d1
  let dir (j : PlJoint) : List Nat := if j.typ = 0 then j.w else j.v
  let lead := (js.takeWhile fun j => j.typ == 1).length
  if !(decide (m.kind ≤ 3) && (if m.kind = 3 then decide (n = 3 ∨ n = 4) else decide (1 ≤ n ∧ n ≤ 16))
      && js.all (fun j => decide (j.typ ≤ 1) && s.axisPresent j.axis) && !anyPair (fun a b : PlJoint => a.axis == b.axis) js) then 2
  else if !js.all fun j =>
      if j.typ = 0 then dNear dNano (vNorm j.w) d1 && dNear dNano (dDot j.w j.v) 0
      else j.w.all (fun x => dEq x 0) && dNear dNano (vNorm j.v) d1 then 3
  else if !(js.all fun j => dFinite j.pmin && dFinite j.pmax && dLt j.pmin j.pmax && dPos j.vmax && dPos j.amax && dPos j.jmax
      && dPos j.trq && dFinite j.cpu && !dEq j.cpu 0 && dFinite j.zero) || !(m.base ++ m.home ++ m.tool).all dFinite then 4
  else if !(match m.kind with
      | 1 => decide (1 ≤ lead ∧ lead ≤ 3) && (js.drop lead).all (fun j => j.typ == 0)
              && !anyPair (fun a b => !dLe (dot1 a b) dNano) (js.take lead)
      | 2 => js.map (·.typ) == [0, 0, 1, 0] && !anyPair (fun a b => !par (dir a) (dir b)) js
      | _ => true) then 5
  else if !(if m.kind = 3 then m.delta.all dPos && js.all (fun j => j.typ == 0) else m.delta.all fun x => dEq x 0) then 6
  else 0

/-! ### Frames (R231, R232) -/

/-- Link frames of joint positions (R231). -/
def PlModel.frames (m : PlModel) (q : List Nat) : List (List Nat) := chain m.base (m.joints.map fun j => (j.w, j.v)) q

/-- The tool pose (R231, R232); none when R232 has no solution. -/
def PlModel.toolPose (m : PlModel) (q : List Nat) : Option (List Nat) :=
  if m.kind = 3 then
    (deltaCentre m.delta q).map fun c => tfMul (tfMul m.base (tfZ c (nth q 3))) m.tool
  else some (tfMul (tfMul ((m.frames q).getLastD m.base) m.home) m.tool)

/-- The segment of capsule `c` of a model at joint positions `q` (R400): `p0`, `p1` in metres in the frame of ATTACH. -/
def PlModel.segment (m : PlModel) (q : List Nat) (attach : Nat) (p0 p1 : List Nat) : Option (List Nat × List Nat) :=
  let place (t : List Nat) : Option (List Nat × List Nat) := some (tfPoint t p0, tfPoint t p1)
  if attach < 16 then (m.frames q)[attach]?.bind place
  else if attach = 16 then place m.base
  else if attach = 17 then (m.toolPose q).bind place
  else
    let i := attach % 4
    let e := deltaElbow m.delta i (nth q i)
    if attach < 35 then some (tfPoint m.base (vScale (nth m.delta 0) (deltaDir i)), tfPoint m.base e)
    else (deltaCentre m.delta q).map fun c => (tfPoint m.base e, tfPoint m.base (vAdd c (vScale (nth m.delta 1) (deltaDir i))))

/-- ATTACH suits a model (R400). -/
def PlModel.attachOk (m : PlModel) (attach : Nat) : Bool :=
  if attach < 16 then decide (m.kind < 3) && decide (attach < m.joints.length)
  else attach == 16 || attach == 17 || (m.kind == 3 && (decide (32 ≤ attach ∧ attach ≤ 34) || decide (36 ≤ attach ∧ attach ≤ 38)))

/-- A register coordinate in µm as metres. -/
def State.microns (s : State) (o : Nat) : Nat := dRatio (s.sreg o) 1000000
/-- Millimetres as metres. -/
def dMm (n : Nat) : Nat := dRatio n 1000
/-- End points of a capsule in its frame. -/
def State.capP (s : State) (c e : Nat) : List Nat :=
  let r := if e = 0 then Reg.SEP_CAP_P0X c else Reg.SEP_CAP_P1X c
  [s.microns r, s.microns (r + 4), s.microns (r + 8)]
/-- RADIUS of a capsule, mm. -/
def State.capRadius (s : State) (c : Nat) : Nat := s.fld (Reg.SEP_CAP_CTRL c) F.SEP_CAP_CTRL_RADIUS
/-- The enabled capsules of a group. -/
def State.capsOn (s : State) (g : Nat) : List Nat :=
  ((List.range 16).map fun i => 16 * g + i).filter fun c => s.flag (Reg.SEP_CAP_CTRL c) F.SEP_CAP_CTRL_ENABLE
/-- A capsule's segment at joint positions. -/
def State.capSeg (s : State) (m : PlModel) (c : Nat) (q : List Nat) : Option (List Nat × List Nat) :=
  m.segment q (s.fld (Reg.SEP_CAP_CTRL c) F.SEP_CAP_CTRL_ATTACH) (s.capP c 0) (s.capP c 1)

/-! ### Workspace zones (R261) -/

/-- Plane `i` of zone `z`: normal and offset. -/
def State.zonePlane (s : State) (z i : Nat) : List Nat × Nat :=
  ([of32 (s.reg (Reg.ZONE_NX z i)), of32 (s.reg (Reg.ZONE_NY z i)), of32 (s.reg (Reg.ZONE_NZ z i))], of32 (s.reg (Reg.ZONE_D z i)))

/-- A capsule of radius `r` mm along a segment enters zone `z` (R261). -/
def State.capEnters (s : State) (z r : Nat) (seg : List Nat × List Nat) : Bool :=
  let t := dMm (r + s.fld (Reg.ZONE_CTRL z) F.ZONE_CTRL_MARGIN)
  (List.range (s.fld (Reg.ZONE_CTRL z) F.ZONE_CTRL_N_PLANES)).all fun i =>
    let (n, d) := s.zonePlane z i
    !(dLt t (dSub (dDot n seg.1) d) && dLt t (dSub (dDot n seg.2) d))

/-- A group whose model is loaded and whose axes are all ACTIVE is placed (R401). -/
def State.placed (s : State) (g : Nat) : Bool :=
  (s.pg g).model.isSome && (s.groupAxes g).all fun a => s.flag (Reg.SRV_AX_CFG a) F.SRV_AX_CFG_ACTIVE

/-- The group enters zone `z` at joint positions `q`. -/
def State.groupEnters (s : State) (g z : Nat) (q : List Nat) : Bool :=
  match (s.pg g).model with
  | none => false
  | some m =>
    s.placed g && (s.capsOn g).any fun c => match s.capSeg m c q with
      | some seg => s.capEnters z (s.capRadius c) seg
      | none => false

/-! ### Counts (R268) -/

/-- Measured joint value from counts in Q48.16: (p − ZERO_COUNTS) / COUNTS_PER_UNIT (R401). -/
def PlJoint.ofCounts (j : PlJoint) (p : Int) : Nat := dDiv (dSub (dRatio p 65536) j.zero) j.cpu
/-- Measured joint velocity. -/
def PlJoint.velOf (j : PlJoint) (v : Int) : Nat := dDiv (dRatio v 65536) j.cpu
/-- A value in a field of `w` bits with `f` fraction bits: (value, 0 in range), or 1 saturated, 2 not finite (R268). -/
def toField (w f x : Nat) : Int × Nat :=
  if !dFinite x then (0, 2)
  else
    let i := dRound (dMul x (dOfInt (2 ^ f)))
    let y := satS w i
    (y, if y = i then 0 else 1)

/-! ### Plans as functions of time (R242, R244, R251, R258) -/

/-- The velocity at knot `i` of a PATH plan (R251). -/
def knotVel (q0 v0 : List Nat) (ks : List (List Nat)) (h i : Nat) : List Nat :=
  let all := q0 :: ks
  if i = 0 then v0
  else if i + 1 < all.length then (vSub (all.getD (i + 1) []) (all.getD (i - 1) [])).map fun x => dDiv x (dMul d2 h)
  else List.zipWith (fun a b => Config.endVel a b h) (all.getD (i - 1) []) (all.getD i [])

/-- The cubic of one joint on an interval of length `h` at time `t` from its start. -/
def cubic (p0 v0 p1 v1 h t : Nat) : Nat × Nat × Nat :=
  let d := dSub p1 p0
  let c2 := dDiv (dSub (dMul (dOfInt 3) d) (dMul h (dAdd (dMul d2 v0) v1))) (dSq h)
  let c3 := dDiv (dSub (dMul h (dAdd v0 v1)) (dMul d2 d)) (dCube h)
  (dAdd p0 (dMul t (dAdd v0 (dMul t (dAdd c2 (dMul t c3))))),
   dAdd v0 (dMul t (dAdd (dMul d2 c2) (dMul (dOfInt 3) (dMul t c3)))),
   dAdd (dMul d2 c2) (dMul (dOfInt 6) (dMul t c3)))

/-- The knot interval of a time and the time within it, for `n` intervals; the end beyond the last. -/
def knotAt (h : Nat) : Nat → Nat → Nat → Nat × Nat
  | 0, i, _ => (i, 0)
  | n + 1, i, t => if dLt t h then (i, t) else knotAt h n (i + 1) (dSub t h)

/-- A plan at plan time `t`: position, velocity and acceleration of every joint, and the torques of a PATH plan. `q` is the
group's set-point, at which `rest` stands and from which a TRACK move goes on. -/
def PlPlan.at (p : PlPlan) (q : List Nat) (t : Nat) : List Pva × Option (List Nat) :=
  match p with
  | .rest => (q.map fun x => (x, 0, 0), none)
  | .track _ => (q.map fun x => (x, 0, 0), none)
  | .sigma q0 dq st prof reach _ =>
    let x := profPoint st d1 prof reach t
    (List.zipWith (fun a d => (dAdd a (dMul d x.1), dMul d x.2.1, dMul d x.2.2)) q0 dq, none)
  | .joints l reach => (l.map fun x => profPoint x.1 x.2.1 x.2.2.1 reach t, none)
  | .path q0 v0 ks ts h =>
    let (i, r) := knotAt h ks.length 0 t
    let n := q0.length
    let last := ks.getLastD q0
    if i = ks.length then (last.map fun x => (x, 0, 0), ts.getLast?)
    else
      let a := (q0 :: ks).getD i []
      let b := (q0 :: ks).getD (i + 1) []
      let va := knotVel q0 v0 ks h i
      let vb := knotVel q0 v0 ks h (i + 1)
      let ta := ts.getD i []
      let tb := ts.getD (i + 1) ta
      ((List.range n).map fun j => cubic (nth a j) (nth va j) (nth b j) (nth vb j) h r,
       some ((List.range n).map fun j => dAdd (nth ta j) (dMul (dDiv r h) (dSub (nth tb j) (nth ta j)))))

/-- Positions of a plan. -/
def PlPlan.posAt (p : PlPlan) (q : List Nat) (t : Nat) : List Nat := (p.at q t).1.map (·.1)

/-- A JOINT plan has reached its target at plan time `t`. -/
def PlPlan.past (p : PlPlan) (t : Nat) : Bool :=
  match p with
  | .sigma _ _ _ prof reach _ => reach && dLe (profLen prof) t
  | .joints l reach => reach && l.all fun x => dLe (profLen x.2.2.1) t
  | _ => false

/-- Seconds of a difference of times in units of 62.5 ps. -/
def dSecs (i : Int) : Nat := dRatio i 16000000000
/-- A time in ms as seconds. -/
def dMs (n : Nat) : Nat := dRatio n 1000
/-- P in seconds. -/
def State.dP (s : State) : Nat := dRatio (s.bankUs s.bankUsed) 1000000
/-- Δ of R404: the planning tick in seconds. -/
def State.dTick (s : State) : Nat := dRatio (s.fld Reg.PLAN_CTRL F.PLAN_CTRL_TICK_LEN_USED * s.bankUs s.bankUsed) 1000000

end Sys2Proof.Machine
end

