-- ==== Sys2Proof/Machine/Planner.lean ====
section
/-!
DEFINITION. Block 0x04, group states, the queue and set-points: the table of R235–R238, moves (R239–R257), stops and holds
(R258–R260), the set-points of each cycle (R267–R269). Zones and commands stand in PlanCmd.lean.
-/
namespace Sys2Proof.Machine

/-! ### Group states (R235, R236) -/

/-- DISABLED -/ def gsDisabled := 0
/-- STANDSTILL -/ def gsStandstill := 1
/-- MOVING -/ def gsMoving := 2
/-- HOLDING -/ def gsHolding := 3
/-- STOPPING -/ def gsStopping := 4
/-- FAULTED -/ def gsFaulted := 5
/-- End states of STOP_END, in order of severity (R236): HOLDING. -/
def seHolding := 1
/-- STANDSTILL -/ def seStandstill := 2
/-- FAULTED -/ def seFaulted := 3
/-- DISABLED -/ def seDisabled := 4

/-- `GRP_STATE.STOP_END`. -/
def State.stopEnd (s : State) (g : Nat) : Nat := s.fld (Reg.GRP_STATE g) F.GRP_STATE_STOP_END
/-- `GRP_STATE.HOLD_CAUSE`. -/
def State.holdCause (s : State) (g : Nat) : Nat := s.fld (Reg.GRP_STATE g) F.GRP_STATE_HOLD_CAUSE
/-- The separation monitor's STOP_REQUEST is present. -/
def State.stopReq (s : State) (g : Nat) : Bool := s.flag (Reg.GRP_STATE g) F.GRP_STATE_STOP_REQ

/-- A group changes state, with the causes and end state that go with it: event 0x0431, `PLAN_STATUS`. A change of state is a demand for
the planner while it is lent (R691). -/
def State.setGrp (s : State) (g st hold fin : Nat) : State :=
  let r := Reg.GRP_STATE g
  let old := s.grpState g
  let s := if old = st then s else s.mstDemand 0x30
  let s := ((s.put r F.GRP_STATE_HOLD_CAUSE hold).put r F.GRP_STATE_STOP_END fin).put r F.GRP_STATE_STATE st
  let s := s.put Reg.PLAN_STATUS F.PLAN_STATUS_MOVING
    (setBit (s.fld Reg.PLAN_STATUS F.PLAN_STATUS_MOVING) g (st == gsMoving || st == gsStopping))
  let s := s.put Reg.PLAN_STATUS F.PLAN_STATUS_ENABLED (setBit (s.fld Reg.PLAN_STATUS F.PLAN_STATUS_ENABLED) g (st != gsDisabled))
  if old = st then s else s.postB 0x0431 [(16, 1, g), (18, 1, old), (19, 1, st), (20, 1, hold), (21, 1, fin)]

/-- A state in which stops act: STANDSTILL, MOVING, HOLDING or STOPPING. -/
def State.grpLive (s : State) (g : Nat) : Bool := decide (1 ≤ s.grpState g ∧ s.grpState g ≤ 4)

/-! ### The queue (R239) -/

/-- The registers that show the queue and the active move. -/
def State.showQueue (s : State) (g : Nat) : State :=
  let z := s.pg g
  let s := s.setReg (Reg.GRP_QUEUE g) (BitVec.ofNat 32 ((16 - z.queue.length) * 256 + z.queue.length))
  match z.queue, z.active with
  | m :: _, true => (s.setReg (Reg.GRP_ACTIVE_TAG g) m.cmd.tag).put (Reg.GRP_STATE g) F.GRP_STATE_KIND m.kind
  | _, _ => (s.setReg (Reg.GRP_ACTIVE_TAG g) 0).put (Reg.GRP_STATE g) F.GRP_STATE_KIND 3

/-- Every queued move ends with ABORTED and an end byte, 3 flushed by a stop or 4 group faulted or disabled. -/
def State.flushQueue (s : State) (g fin : Nat) : State :=
  let q := (s.pg g).queue
  let s := s.modPg g fun z => { z with queue := [], active := false, blendDue := false, next := none, missed := 0 }
  let s := s.modOg g fun o => { o with started := false, blendFrom := none }
  let s := forEach q s fun m s => s.complete m.cmd stAborted fin
  s.showQueue g

/-- The group's changes that wait complete with ABORTED. -/
def State.dropEnable (s : State) (g : Nat) : State :=
  match (s.pg g).enable with
  | some c => (s.modPg g fun z => { z with enable := none }).complete c stAborted 0
  | none => s

/-- GRP_HOLD commands that wait end with ABORTED. -/
def State.dropHolds (s : State) (g : Nat) : State :=
  let l := (s.pg g).holds
  forEach l (s.modPg g fun z => { z with holds := [] }) fun c s => s.complete c stAborted 0

/-- Zone requests of a group that are commands end with ABORTED (R279). -/
def State.dropAcquires (s : State) (g : Nat) : State :=
  forEach (List.range 64) s fun z s =>
    let mine := (s.pz z).reqs.filter fun r => r.2.1 == g && r.2.2.isSome
    if mine.isEmpty then s
    else
      let s := s.modPz z fun x => { x with reqs := x.reqs.filter fun r => !(r.2.1 == g && r.2.2.isSome) }
      let s := s.setReg64 (Reg.GRP_WAIT g) (BitVec.ofNat 64 (setBit (s.reg64 (Reg.GRP_WAIT g)).toNat z false))
      forEach mine s fun r s => match r.2.2 with | some c => s.complete c stAborted 0 | none => s

/-- GRP_STOP commands that wait complete with the state reached. -/
def State.doneStops (s : State) (g : Nat) : State :=
  let l := (s.pg g).stops
  forEach l (s.modPg g fun z => { z with stops := [] }) fun c s => s.complete c stOK (s.grpState g)

/-- The group stands at its set-point with λ = 1. -/
def State.atRest (s : State) (g : Nat) : State :=
  s.modPg g fun z => { z with
    plan := .rest, tau := 0, v := zeros z.q.length, a := zeros z.q.length, trq := none, u := 0, dir := 0, fresh := false
    rHold := none, holdAt := none, zoneWait := [] }

/-- The group becomes DISABLED at once; `fin` as in R239, `req` the servo's disable sequence (2, or 3 for category 0). -/
def State.toDisabled (s : State) (g fin req : Nat) : State :=
  let s := ((((s.flushQueue g fin).dropEnable g).dropHolds g).atRest g).modPg g fun z => { z with ready := false }
  let s := s.modGrp g fun z => { z with req := req }
  (s.setGrp g gsDisabled 0 0).doneStops g

/-- A stop toward `fin` (R235, R236). -/
def State.beginStop (s : State) (g fin : Nat) : State :=
  if !s.grpLive g then s
  else
    let s := if fin = seHolding then s else s.dropHolds g
    if s.grpState g = gsStopping then
      if s.stopEnd g < fin then s.setGrp g gsStopping (if fin = seHolding then s.holdCause g else 0) fin else s
    else
      (s.modPg g fun z => { z with dir := 1, fresh := true }).setGrp g gsStopping (if fin = seHolding then s.holdCause g else 0) fin

/-- Causes of HOLD_CAUSE: bit 0 HOLD, 1 ZONE, 2 SEPARATION. -/
def hcHold := 0
/-- ZONE -/ def hcZone := 1
/-- SEPARATION -/ def hcSep := 2

/-- The ramp of a hold starts when the group is MOVING. -/
def State.beginHold (s : State) (g : Nat) : State := if s.grpState g = gsMoving then s.beginStop g seHolding else s

/-- A hold with a cause (R235). -/
def State.hold (s : State) (g cause : Nat) : State :=
  let h := setBit (s.holdCause g) cause true
  if s.grpState g = gsMoving ∨ s.grpState g = gsHolding ∨ (s.grpState g = gsStopping ∧ s.stopEnd g = seHolding) then
    (s.put (Reg.GRP_STATE g) F.GRP_STATE_HOLD_CAUSE h).beginHold g
  else s

/-- A hold cause clears; with the last one the ramp reverses (R235). -/
def State.unhold (s : State) (g cause : Nat) : State :=
  let h := setBit (s.holdCause g) cause false
  let inHold := s.grpState g == gsHolding || (s.grpState g == gsStopping && s.stopEnd g == seHolding)
  if !inHold then s
  else if h ≠ 0 then s.put (Reg.GRP_STATE g) F.GRP_STATE_HOLD_CAUSE h
  else ((s.modPg g fun z => { z with dir := 2, fresh := true, zoneWait := [] }).dropHolds g).setGrp g gsMoving 0 0

/-- A planner fault (R260): the `GRP_FAULT` bit, the foul, the queue flushed, a category 2 stop toward FAULTED. -/
def State.planFault (s : State) (g : Nat) (f : Fld) (code : Nat) (d : List (Nat × Nat × Nat)) : State :=
  if s.flag (Reg.GRP_FAULT g) f || !s.grpLive g then s
  else
    let s := (s.put (Reg.GRP_FAULT g) f 1).postB code ((16, 1, g) :: d)
    ((s.flushQueue g 4).dropAcquires g).beginStop g seFaulted

/-- RAMP_END: the stop ramp of group `g` has reached λ = 0 (R235, R258). -/
def execRampEnd (g : Nat) (s : State) : Out :=
  .next <|
    let z := s.pg g
    if g < s.nGroups ∧ s.grpState g = gsStopping ∧ z.dir = 1 ∧ z.u = d1 then
      let fin := s.stopEnd g
      if fin = seHolding then
        let s := (s.modPg g fun z => { z with dir := 0, holds := [] }).setGrp g gsHolding (s.holdCause g) 0
        forEach z.holds s fun c s => s.complete c stOK 0
      else if fin = seDisabled then s.toDisabled g 3 2
      else
        let s := (s.atRest g).setGrp g (if fin = seFaulted then gsFaulted else gsStandstill) 0 0
        s.doneStops g
    else s

/-! ### JOINT profiles (R241–R247) -/

/-- A value of a move's record. -/
def PlMove.f (m : PlMove) (o : Nat) : Nat := f64At m.data o
/-- The move is SHAPE ARC. -/
def PlMove.arc (m : PlMove) : Bool := leAt m.data 1 1 == 1

/-- ov_eff (R248), from the override frozen at the freeze and the factor in use. -/
def State.ovEff (s : State) (g : Nat) : Nat :=
  dMul (s.pg g).ov (dRatio (s.fld (Reg.GRP_SPEED_FACTOR g) F.GRP_SPEED_FACTOR_FACTOR) 65536)

/-- The velocity limit of joint `j` (R249): the limit in use, scaled in SERVICE. -/
def State.vLimit (s : State) (g j : Nat) : Nat :=
  let v := ((s.pg g).lims.getD j (0, 0, 0)).1
  if s.mode = mService then dDiv (dMul v (dOfInt (s.fld Reg.PLAN_SERVICE F.PLAN_SERVICE_SCALE))) (dOfInt 100) else v

/-- The limits V, A, J of joint `j` scaled by a JOINT move (R241, R244). -/
def State.jointLim (s : State) (g : Nat) (m : PlMove) (j : Nat) : List Nat :=
  let l := (s.pg g).lims.getD j (0, 0, 0)
  [dMul (dMul (s.vLimit g j) (m.f 8)) (s.ovEff g), dMul l.2.1 (m.f 16), dMul l.2.2 (m.f 24)]

/-- The limits of σ (R241): none when every Δq is 0. -/
def State.sigmaLim (s : State) (g : Nat) (m : PlMove) (dq : List Nat) : Option (List Nat) :=
  let js := idxs dq.length fun j => !dEq (nth dq j) 0
  if js.isEmpty then none
  else some ((List.range 3).map fun i =>
    js.foldl (fun x j => dMin x (dDiv (nth (s.jointLim g m j) i) (dAbs (nth dq j)))) dInf)

/-- The profile from a state to a target under limits V, A, J: segments, whether it reaches the target, whether the larger of old and new
limits served (R242, R243, R247). From rest it is that of R242; with V = 0 a state at rest stays and another comes to rest. `old` gives the
limits of the plan that a change of limits replaces; a stop that ends within 10^-9 of the target does not pass it.
DESIGN CHOICE: notes/assumptions/60.md. -/
def profileTo (x : Pva) (target : Nat) (lim : List Nat) (old : Option (List Nat)) : List (Nat × Nat) × Bool × Bool :=
  let (p, v, a) := x
  let V := nth lim 0
  let A := nth lim 1
  let J := nth lim 2
  let still := dEq v 0 && dEq a 0
  let d := dSub target p
  let passes : Bool :=
    let e := dSub (stopPos x A J) target
    dLt dNano (if dNegative d then dNeg e else e)
  if still && dEq d 0 then ([], true, false)
  else if still && dEq V 0 then ([], false, false)
  else if still then
    let r := restProfile (dAbs d) V A J
    (if dNegative d then profNeg r else r, true, false)
  else
    match old, passes with
    | some o, true =>
      let A' := dMax A (nth o 1)
      let J' := dMax J (nth o 2)
      (if dEq V 0 then velTo x 0 A' J' else timeOptimal x target V A' J', !dEq V 0, true)
    | _, _ => (if dEq V 0 then velTo x 0 A J else timeOptimal x target V A J, !dEq V 0, false)

/-- The per-joint plan of R244 from the set-point state; `old` gives the limits of the plan that a change of limits replaces. -/
def State.jointsPlan (s : State) (g : Nat) (m : PlMove) (xs : List Pva) (old : Option (List (List Nat))) : PlPlan × Bool :=
  let rows := xs.zipIdx.map fun x =>
    let t := m.f (64 + 8 * x.2)
    let lim := s.jointLim g m x.2
    (x.1, t, lim, profileTo x.1 t lim (old.map fun l => l.getD x.2 lim))
  let T := rows.foldl (fun t r => dMax t (profLen r.2.2.2.1)) 0
  let reach := rows.all fun r => r.2.2.2.2.1
  (.joints (rows.map fun r =>
      let (x, t, lim, own, _, kept) := r
      let l := if reach && !kept && dLt (profLen own) T then
          (slowed x t (nth lim 0) (nth lim 1) (nth lim 2) T s.dP).getD own
        else own
      (x, t, l, lim)) reach,
   rows.any fun r => r.2.2.2.2.2)

/-- The plan of a σ move from a state of σ under its limits (R241–R243). -/
def sigmaPlan (q0 dq : List Nat) (x : Pva) (lim : List Nat) (old : Option (List Nat)) : PlPlan × Bool :=
  let (prof, reach, kept) := profileTo x d1 lim old
  (.sigma q0 dq x prof reach lim, kept)

/-- A new plan starts at plan time 0. -/
def State.setPlan (s : State) (g : Nat) (p : PlPlan) : State := s.modPg g fun z => { z with plan := p, tau := 0 }

/-- Event 0x0434: old limits kept for deceleration (R247). -/
def State.noteKept (s : State) (g : Nat) (m : PlMove) (kept : Bool) : State :=
  if kept then s.postB 0x0434 [(16, 1, g), (20, 4, m.cmd.tag.toNat)] else s

/-- The set-point state as a list of points. -/
def PlGrp.pva (z : PlGrp) : List Pva := (List.range z.q.length).map fun j => (nth z.q j, nth z.v j, nth z.a j)
/-- Some joint moves. -/
def PlGrp.moving (z : PlGrp) : Bool := (z.v ++ z.a).any fun x => !dEq x 0

/-- The head move ends with an end byte 0–2 (R239). With an empty queue the group stands still (R235). -/
def State.endMove (s : State) (g fin : Nat) : State :=
  match (s.pg g).queue with
  | [] => s
  | m :: t =>
    let s := s.modPg g fun z => { z with queue := t, active := false, blendDue := false, next := none, missed := 0 }
    let s := s.modOg g fun o => { o with started := false, blendFrom := none }
    let s := (s.complete m.cmd stOK fin).showQueue g
    if t.isEmpty && s.grpState g == gsMoving then (s.atRest g).setGrp g gsStandstill 0 0 else s

/-- The head of the queue becomes the active move at a tick boundary (R235, R241, R244): event 0x0430. A JOINT move from rest follows one
line, one from a motion per-joint profiles; a TRACK move begins its source history; a PATH move takes its first solution. -/
def State.startMove (s : State) (g : Nat) (tk : W64) : State :=
  match (s.pg g).queue with
  | [] => s
  | m :: _ =>
    let s := s.modPg g fun z => { z with active := true, began := tk, blendDue := false, rHold := none }
    let s := (s.showQueue g).setGrp g gsMoving 0 0
    let s := s.postB 0x0430 [(16, 1, g), (18, 1, m.kind), (20, 4, m.cmd.tag.toNat)]
    let s := if m.kind = 1 then s else s.modOg g fun o => { o with returned := false }
    let z := s.pg g
    if m.kind = 2 then s.setPlan g (.track [])
    else if m.kind = 1 then s
    else if z.moving then
      let (p, k) := s.jointsPlan g m z.pva none
      (s.setPlan g p).noteKept g m k
    else
      let dq := z.q.zipIdx.map fun x => dSub (m.f (64 + 8 * x.2)) x.1
      match s.sigmaLim g m dq with
      | none => s.endMove g 0
      | some lim => s.setPlan g (sigmaPlan z.q dq (0, 0, 0) lim none).1

/-- The active JOINT move's profile is computed anew when its limits have changed (R241, R246, R247). -/
def State.reprofile (s : State) (g : Nat) : State :=
  let z := s.pg g
  match z.queue, z.active with
  | m :: _, true =>
    match z.plan with
    | .sigma q0 dq st prof reach lim =>
      match s.sigmaLim g m dq with
      | some l => if l = lim then s else
          let (p, k) := sigmaPlan q0 dq (profPoint st d1 prof reach z.tau) l (some lim)
          (s.setPlan g p).noteKept g m k
      | none => s
    | .joints l reach =>
      if (l.zipIdx.all fun x => x.1.2.2.2 == s.jointLim g m x.2) then s
      else
        let (p, k) := s.jointsPlan g m (l.map fun x => profPoint x.1 x.2.1 x.2.2.1 reach z.tau) (some (l.map fun x => x.2.2.2))
        (s.setPlan g p).noteKept g m k
    | _ => s
  | _, _ => s

/-! ### The ramp (R258) -/

/-- λ of u. -/
def lambdaOf (u : Nat) : Nat := dAdd (dSub d1 (dMul (dOfInt 3) (dSq u))) (dMul d2 (dCube u))
/-- dλ/du. -/
def lambdaDu (u : Nat) : Nat := dMul (dOfInt 6) (dSub (dSq u) u)
/-- ∫ λ du from 0. DEDUCED: notes/assumptions/61.md. -/
def lambdaInt (u : Nat) : Nat := dAdd (dSub u (dCube u)) (dMul dHalf (dSq (dSq u)))

/-- The ramp advances by one period P (s): u, and the plan time gained (R258, R259). TSTOP is read where the ramp starts or reverses. -/
def State.rampStep (s : State) (g : Nat) : State × Nat :=
  let z := s.pg g
  let p := s.dP
  if z.dir = 0 then (s, if z.u = d1 then 0 else p)
  else
    let ts := if z.fresh then s.fld (Reg.GRP_CTRL g) F.GRP_CTRL_TSTOP else z.tstop
    let t := dMs ts
    let du := dDiv p t
    let u' := if z.dir = 1 then dMin d1 (dAdd z.u du) else dMax 0 (dSub z.u du)
    let part := dMul t (dAbs (dSub (lambdaInt u') (lambdaInt z.u)))
    let rest := dSub p (dMul t (dAbs (dSub u' z.u)))
    let gain := if z.dir = 2 ∧ dLt 0 rest then dAdd part rest else part
    (s.modPg g fun z => { z with u := u', tstop := ts, fresh := false, dir := if z.dir = 2 ∧ dEq u' 0 then 0 else z.dir }, gain)

/-- λ and λ̇ after the step. -/
def State.lambdas (s : State) (g : Nat) : Nat × Nat :=
  let z := s.pg g
  let rate := if z.dir = 0 ∨ z.u = d1 then 0 else let r := dDiv d1 (dMs z.tstop); if z.dir = 1 then r else dNeg r
  (lambdaOf z.u, dMul (lambdaDu z.u) rate)

/-! ### TRACK (R254–R257) -/

/-- The source value of a TRACK move at T_k (R254), none when the source reports an error (R256). -/
def State.trackSource (s : State) (m : PlMove) : Option Int :=
  let i := leAt m.data 2 1
  if leAt m.data 1 1 = 0 then
    let bad := s.flag (Reg.LA_CH_ERR i) F.LA_CH_ERR_ILLEGAL || s.flag (Reg.LA_CH_ERR i) F.LA_CH_ERR_IMPOSSIBLE
      || s.flag (Reg.LA_CH_ERR i) F.LA_CH_ERR_LINE_COUNT
    if !s.laRun i || !(s.laCh i).ckValid || bad then none else some ((s.laCh i).ck : Int)
  else if s.ainError i then none
  else some (toSigned 16 (s.fld (Reg.ACQ_AIN_STATUS i) F.ACQ_AIN_STATUS_LAST))

/-- r_k and ṙ_k of a tracking joint (R254). -/
def State.trackTarget (s : State) (m : PlMove) (hist : List Int) (j : Nat) : Nat × Nat :=
  let sc := m.f (64 + 16 * j)
  let s0 := hist.headD 0
  let w := min (leAt m.data 4 2) (hist.length - 1)
  let d := s0 - hist.getD w s0
  let d := if leAt m.data 1 1 = 0 then toSigned 32 (ofSigned 32 d) else d
  let rd := if w = 0 then 0 else dDiv (dMul sc (dOfInt d)) (dMul (dOfInt w) s.dP)
  (dAdd (dAdd (m.f (72 + 16 * j)) (dMul sc (dOfInt s0))) (dMul rd s.dP), rd)

/-- One step of the follower of joint `j` (R255): (x', v', a') and e. `lam` scales v_d under a stop (R259). -/
def State.follow (s : State) (g : Nat) (m : PlMove) (j : Nat) (x : Pva) (r rd lam : Nat) : Pva × Nat :=
  let l := (s.pg g).lims.getD j (0, 0, 0)
  let p := s.dP
  let e := dSub r x.1
  let vd := dMul lam (dClamp (dMul (s.vLimit g j) (s.ovEff g)) (dAdd rd (dMul (m.f 8) e)))
  let dv := dSub vd x.2.1
  let mag := dMin l.2.1 (dSqrt (dMul d2 (dMul l.2.2 (dAbs dv))))
  let ad := if dEq dv 0 then 0 else if dNegative dv then dNeg mag else mag
  let jp := dMul l.2.2 p
  let a' := dMax (dSub x.2.2 jp) (dMin (dAdd x.2.2 jp) ad)
  let v' := dAdd x.2.1 (dMul a' p)
  ((dAdd x.1 (dMul (dAdd x.2.1 v') (dMul dHalf p)), v', a'), e)

/-- A TRACK cycle (R255, R256): the follower of each tracking joint, `GRP_LAG`, the faults. -/
def State.trackCycle (s : State) (g : Nat) (m : PlMove) (hist : List Int) : State :=
  match (s.pg g).model with
  | none => s
  | some md =>
    match s.trackSource m with
    | none => s.planFault g F.GRP_FAULT_TRACK_SOURCE 0x0411 [(18, 1, leAt m.data 1 1), (19, 1, leAt m.data 2 1)]
    | some v =>
      let hist := (v :: hist).take (leAt m.data 4 2 + 1)
      let z := s.pg g
      let n := md.joints.length
      let live := (List.range n).map fun j => s.trackTarget m hist j
      let stopped := decide (z.dir = 1) || z.u == d1
      let held := if stopped then some (z.rHold.getD (live.map (·.1))) else none
      let lam := (s.lambdas g).1
      let out := z.pva.zipIdx.map fun x =>
        if bit (leAt m.data 6 2) x.2 then
          let (r, rd) := match held with
            | some h => (nth h x.2, 0)
            | none => live.getD x.2 (0, 0)
          let (y, e) := s.follow g m x.2 x.1 r rd lam
          (y, some e)
        else ((x.1.1, 0, 0), none)
      let s := s.modPg g fun z => { z with
        plan := .track hist, rHold := held
        q := out.map (·.1.1), v := out.map (·.1.2.1), a := out.map (·.1.2.2) }
      let worst := out.zipIdx.foldl (fun (b : Option (Nat × Nat)) x => match x.1.2, b with
        | some e, none => some (x.2, e)
        | some e, some y => if dLt (dAbs y.2) (dAbs e) then some (x.2, e) else b
        | none, _ => b) none
      match worst with
      | none => s
      | some (j, e) =>
        let cpu := ((md.joints[j]?).map (·.cpu)).getD 0
        let lag := satS 28 (dRound (dMul e cpu))
        let s := s.setReg (Reg.GRP_LAG g) (BitVec.ofNat 32 (j * 2 ^ 28 + ofSigned 28 lag))
        if dLt (m.f 16) (dAbs e) then s.planFault g F.GRP_FAULT_TRACK_LAG 0x0410 [(17, 1, j), (24, 8, e)] else s

/-! ### Set-points (R249, R260, R267–R269) -/

/-- One field of a set-point record: written, and `SETPOINT_SAT` when it does not fit (R268). -/
def State.putSp (s : State) (g j field reg w f x : Nat) : State :=
  let (v, bad) := toField w f x
  let s := if bad = 2 then s
    else if w = 64 then s.setReg64 reg (BitVec.ofInt 64 v) else s.setReg reg (BitVec.ofInt 32 v)
  if bad = 0 then s
  else s.planFault g F.GRP_FAULT_SETPOINT_SAT 0x0418 [(17, 1, j), (18, 1, field), (19, 1, bad - 1)]

/-- The set-point records of a group for T_(k+1), with the torque when there is one. -/
def State.writeSp (s : State) (g : Nat) (md : PlModel) (v a : List Nat) (trq : Option (List Nat)) : State :=
  let q := (s.pg g).q
  forEach md.joints.zipIdx s fun x s =>
    let j := x.1
    let i := x.2
    let s := s.putSp g i 0 (Reg.SRV_SP_POS j.axis) 64 16 (dAdd (dMul (nth q i) j.cpu) j.zero)
    let s := s.putSp g i 1 (Reg.SRV_SP_VEL j.axis) 64 16 (dMul (nth v i) j.cpu)
    let s := s.putSp g i 2 (Reg.SRV_SP_ACC j.axis) 64 16 (dMul (nth a i) j.cpu)
    match trq with
    | some t => s.putSp g i 3 (Reg.SRV_SP_TRQ j.axis) 32 31 (dDiv (nth t i) j.trq)
    | none => s

/-- The checks on a new set-point (R249, R260): limits, R232, the tool-point speed in SERVICE. `was` is the one before. -/
def State.checkSp (s : State) (g : Nat) (md : PlModel) (was : List Nat) : State :=
  let q := (s.pg g).q
  let off := md.joints.zipIdx.find? fun x => dLt (nth q x.2) x.1.pmin || dLt x.1.pmax (nth q x.2)
  let s := match off with
    | some x => s.planFault g F.GRP_FAULT_FK_FAIL 0x0415 [(17, 1, x.2), (18, 1, 1)]
    | none => s
  match md.toolPose q, md.toolPose was with
  | none, _ => s.planFault g F.GRP_FAULT_FK_FAIL 0x0415 [(18, 1, 0)]
  | some a, some b =>
    let mm := dMul (dDiv (vNorm (vSub (tfPos a) (tfPos b))) s.dP) (dOfInt 1000)
    if s.mode = mService && dLt (dOfInt (s.fld Reg.PLAN_SERVICE F.PLAN_SERVICE_TCP_LIMIT)) mm then
      s.planFault g F.GRP_FAULT_SERVICE_SPEED 0x0414 [(20, 4, (dRound mm).toNat)]
    else s
  | _, _ => s

/-- SETPOINT_INTERPOLATE for one group at T_k (R267): its set-point for T_(k+1). -/
def State.interpolate (s : State) (g : Nat) : State :=
  let st := s.grpState g
  if st = gsDisabled ∨ st = gsFaulted ∨ s.plannerLent then s
  else
    let (s, gain) := s.rampStep g
    let z := s.pg g
    match z.model with
    | none => s
    | some md =>
      if !z.ready then s
      else
        match z.plan, z.queue, z.active with
        | .track hist, m :: _, true =>
          let s := s.trackCycle g m hist
          let z' := s.pg g
          (s.writeSp g md z'.v z'.a z.grav).checkSp g md z.q
        | p, _, _ =>
          let t := dAdd z.tau gain
          let (xs, trq) := p.at z.q t
          let (lam, lamD) := s.lambdas g
          let s := s.modPg g fun z => { z with
            tau := t, q := xs.map (·.1), v := xs.map (·.2.1), a := xs.map (·.2.2), trq := trq }
          let v := xs.map fun x => dMul lam x.2.1
          let a := xs.map fun x => dAdd (dMul (dSq lam) x.2.2) (dMul lamD x.2.1)
          let s := (s.writeSp g md v a (trq.orElse fun _ => z.grav)).checkSp g md z.q
          if z.active && s.grpState g == gsMoving && p.past t then (s.setPlan g .rest).endMove g 0 else s

/-- What the servo has reported to the planner (R235, R361). -/
def State.servoTold (s : State) (g : Nat) : State :=
  let x := s.srvGrp g
  let s := s.modGrp g fun z => { z with tellOn := false, tellFault := false }
  let s :=
    if x.tellFault && s.grpState g != gsDisabled then
      let s := (((((s.flushQueue g 4).dropAcquires g).dropEnable g).dropHolds g).atRest g).modPg g fun z => { z with ready := false }
      ((s.put (Reg.GRP_FAULT g) F.GRP_FAULT_SERVO 1).setGrp g gsFaulted 0 0).doneStops g
    else s
  if x.tellOn && s.grpState g != gsDisabled && s.grpState g != gsFaulted then
    match (s.pg g).model with
    | none => s
    | some md =>
      let q := md.joints.map fun j => j.ofCounts (s.srvOut j.axis).held
      let c := (s.pg g).enable
      let s := s.modPg g fun z => { z with
        ready := true, enable := none, plan := .rest, tau := 0, q := q, v := zeros q.length, a := zeros q.length }
      match c with
      | some c => s.complete c stOK 0
      | none => s
  else s

/-- A safety zone has left ARMED with a stop category (R48, R235). -/
def State.zoneTrip (s : State) (g cat : Nat) : State :=
  if !s.grpLive g then s
  else if cat = 0 then s.toDisabled g 3 3
  else (s.flushQueue g 3).beginStop g seDisabled

/-- The planner's part of a cycle boundary T_k, after the servo's (R34, R48, R258, R267). -/
def State.planBoundary (s : State) (tk : W64) : State :=
  if 2 ≤ s.role then s
  else
    forEach s.groups s fun g s =>
      let s := s.servoTold g
      let trips := (s.pg g).trips
      let s := s.modPg g fun z => { z with trips := [] }
      let s := forEach trips s fun c s => s.zoneTrip g c
      let s :=
        if s.stopReq g then
          if s.grpState g = gsMoving ∨ s.grpState g = gsHolding ∨ s.grpState g = gsStopping then s.hold g hcSep else s
        else if bit (s.holdCause g) hcSep then
          if s.flag (Reg.GRP_CTRL g) F.GRP_CTRL_AUTO_RESUME then s.unhold g hcSep
          else (s.put (Reg.GRP_STATE g) F.GRP_STATE_HOLD_CAUSE (setBit (s.holdCause g) hcHold true)).unhold g hcSep
        else s
      let s := match (s.pg g).holdAt with
        | some t => if timePast t tk then (s.modPg g fun z => { z with holdAt := none }).hold g hcZone else s
        | none => s
      s.interpolate g

end Sys2Proof.Machine
end

