-- ==== Sys2Proof/Machine/OptProg.lean ====
section
/-!
DEFINITION. Block 0x05, clusters and solver programs: placement and finish times (R282–R284), the container and its checks
(R302–R305), what a PATH move needs of the program in use (R306).
-/
namespace Sys2Proof.Machine

/-! ### State -/

/-- The container of a bank. -/
def State.optBank (s : State) (b : Nat) : List Byte := tabGet (fun _ => []) s.opt.banks b
/-- The bank in use. -/
def State.optUsed (s : State) : Nat := s.fld Reg.OPT_STATUS F.OPT_STATUS_BANK
/-- The program in use. -/
def State.optProg (s : State) : List Byte := s.optBank s.optUsed
/-- The staged program. -/
def State.optStaged (s : State) : List Byte := s.optBank (1 - s.optUsed)
/-- `OPT_STATUS.STAGED_VALID`. -/
def State.optStagedOk (s : State) : Bool := s.flag Reg.OPT_STATUS F.OPT_STATUS_STAGED_VALID
/-- A dynamic table is loaded for a group. -/
def State.hasDyn (s : State) (g : Nat) : Bool := (s.og g).dyn.isSome

/-! ### Clusters (R281, R282) -/

/-- The active clusters in ascending physical order; their place is their logical number. -/
def State.activeClu (s : State) : List Nat := idxs 8 (bit (s.fld Reg.OPT_STATUS F.OPT_STATUS_ACTIVE))
/-- The lent clusters. -/
def State.lentClu (s : State) : List Nat := idxs 8 (bit (s.fld Reg.OPT_STATUS F.OPT_STATUS_LENT))
/-- The clusters out of use. -/
def State.retiredClu (s : State) : List Nat := idxs 8 (bit (s.fld Reg.OPT_STATUS F.OPT_STATUS_RETIRED))
/-- Bit `c` of a field of `OPT_STATUS`. -/
def State.setClu (s : State) (f : Fld) (c : Nat) (v : Bool) : State :=
  s.put Reg.OPT_STATUS f (setBit (s.fld Reg.OPT_STATUS f) c v)

/-- A mask has the form of R303. -/
def maskForm (m : Nat) : Bool :=
  m == 0 || (List.range 8).any (fun i => m == 2 ^ i) || (List.range 4).any (fun i => m == 3 * 4 ^ i)
    || (List.range 2).any fun i => m == 15 * 16 ^ i

/-- The placement for N active clusters: 0 full, 1 lent, none when N matches neither (R282). -/
def State.placement (s : State) : Option Nat :=
  let n := s.activeClu.length
  if n = s.nClu then some 0 else if n + 1 = s.nClu then some 1 else none

/-! ### Containers (R302–R304) -/

/-- Mask of group `g` in placement `pl` (0 FULL_MASK, 1 LENT_MASK). -/
def progMask (p : List Byte) (g pl : Nat) : Nat := leAt p (32 + 8 * g + pl) 1
/-- TEMPLATES of group `g`. -/
def progTemplates (p : List Byte) (g : Nat) : Nat := leAt p (36 + 8 * g) 4
/-- Offset of a template's section; 0 when it is absent. -/
def tmOfs (p : List Byte) (t : Nat) : Nat := leAt p (160 + 4 * t) 4
/-- The field of `n` octets at `o` of a template's header. -/
def tm (p : List Byte) (t o n : Nat) : Nat := leAt p (tmOfs p t + o) n
/-- N_JOINTS -/ def tmN (p : List Byte) (t : Nat) : Nat := tm p t 5 1
/-- K_STEPS -/ def tmK (p : List Byte) (t : Nat) : Nat := tm p t 7 1
/-- H_STEP -/ def tmH (p : List Byte) (t : Nat) : Nat := tm p t 8 2
/-- ITER_MAX -/ def tmIter (p : List Byte) (t : Nat) : Nat := tm p t 10 1
/-- TERMS -/ def tmTerms (p : List Byte) (t : Nat) : Nat := tm p t 11 1
/-- FLAGS -/ def tmFlags (p : List Byte) (t : Nat) : Nat := tm p t 12 1
/-- log2 of a width. -/
def widthLog (w : Nat) : Nat := if w = 4 then 2 else if w = 2 then 1 else 0
/-- The template is compiled for a width. -/
def tmWidth (p : List Byte) (t w : Nat) : Bool := bit (tm p t 13 1) (widthLog w)
/-- CYC_ASM -/ def tmAsm (p : List Byte) (t : Nat) : Nat := tm p t 28 4
/-- CYC_ITER of a width. -/
def tmCyc (p : List Byte) (t w : Nat) : Nat := tm p t (32 + 4 * widthLog w) 4
/-- The binary64 field at `o`. -/
def tmReal (p : List Byte) (t o : Nat) : Nat := tm p t o 8
/-- The templates of the container. -/
def progList (p : List Byte) : List Nat := idxs 32 fun t => tmOfs p t != 0

/-! ### Times (R283, R284) -/

/-- Cycles of a gravity job. -/
def gravCycles : Nat := 2800

/-- B of R284 in XCLK cycles at `mhz` for a deadline of `pct` percent. -/
def State.tickBudget (s : State) (pct mhz : Nat) : Nat :=
  let us := s.bankUs s.bankUsed
  let n := blocksOf us
  let tick := s.fld Reg.PLAN_CTRL F.PLAN_CTRL_TICK_LEN_USED
  let cut := s.fld (Reg.SB_CUTOFF s.bankUsed) F.SB_CUTOFF_FB_CUTOFF
  if n = 0 then 0 else (floorDiv (us * mhz * ((pct * tick * n : Nat) - (100 * cut : Nat) : Int)) (100 * n)).toNat

/-- CYC_ASM + ITER_MAX × CYC_ITER of the worst template a group may use at width `w`. -/
def worstSolve (p : List Byte) (g w : Nat) : Nat :=
  (idxs 32 (bit (progTemplates p g))).foldl (fun x t => max x (tmAsm p t + tmIter p t * tmCyc p t w)) 0

/-- One item of the lists of R283: it starts when every cluster of its mask has finished its earlier items. -/
def startItem (t : List Nat) (mask : List Nat) : Nat := mask.foldl (fun x c => max x (t.getD c 0)) 0
/-- Clusters `mask` are busy until `e`. -/
def endItem (t : List Nat) (mask : List Nat) (e : Nat) : List Nat := t.zipIdx.map fun x => if mask.contains x.2 then e else x.1

/-- The times at which `n` logical clusters have finished their gravity jobs. -/
def State.gravTimes (s : State) (n : Nat) : List Nat :=
  (List.range n).map fun c => gravCycles * (idxs 16 fun g => g % n == c && s.hasDyn g).length

/-- The latest finish time of placement `pl` of a program (R284). -/
def State.placeFinish (s : State) (p : List Byte) (pl : Nat) : Nat :=
  let n := s.nClu - pl
  let t := (List.range 16).foldl (fun t g =>
    let m := idxs 8 (bit (progMask p g pl))
    if m.isEmpty then t else endItem t m (startItem t m + worstSolve p g m.length)) (s.gravTimes n)
  t.foldl max 0

/-- A placement of a program meets its deadline (R284). -/
def State.meets (s : State) (p : List Byte) (pl pct : Nat) : Bool :=
  !p.isEmpty && decide (s.placeFinish p pl ≤ s.tickBudget pct 1400)

/-- `OPT_CTRL.DEADLINE_PCT`. -/
def State.deadlinePct (s : State) : Nat := s.fld Reg.OPT_CTRL F.OPT_CTRL_DEADLINE_PCT
/-- `OPT_STATUS.MEETS_LENT`. -/
def State.meetsLent (s : State) : Bool := s.meets s.optProg 1 s.deadlinePct

/-! ### OPT_STAGE (R305) -/

/-- Check 1. -/
def prog1 (p : List Byte) (len : Nat) : Bool :=
  let t := leAt p 16 4
  leAt p 0 4 == 0x53504C56 && leAt p 4 2 == 1 && leAt p 6 2 == 288 && decide (292 ≤ t) && decide (t ≤ len)
    && crc32c (p.take (t - 4)) == leAt p (t - 4) 4

/-- Check 2. -/
def State.prog2 (s : State) (p : List Byte) : Bool := leAt p 12 2 == s.mem.fuse.part && decide (leAt p 14 1 ≤ s.mem.fuse.step)

/-- Check 3. -/
def prog3 (p : List Byte) : Bool :=
  let l := progList p
  leAt p 15 1 == l.length && decide (1 ≤ l.length) && l.all fun t =>
    let o := tmOfs p t
    decide (288 ≤ o) && decide (160 ≤ tm p t 0 4) && decide (o + tm p t 0 4 + 4 ≤ leAt p 16 4) && tm p t 4 1 == t

/-- Check 4. -/
def State.prog4 (s : State) (p : List Byte) : Bool :=
  (List.range 16).all fun g =>
    let f := progMask p g 0
    let l := progMask p g 1
    let ts := idxs 32 (bit (progTemplates p g))
    maskForm f && maskForm l && decide (f < 2 ^ s.nClu) && decide (l < 2 ^ (s.nClu - 1)) && (ts.isEmpty || f != 0)
      && ts.all fun t => tmOfs p t != 0 && (f == 0 || tmWidth p t (popCount 8 f)) && (l == 0 || tmWidth p t (popCount 8 l))

/-- M_INEQ of R288. -/
def mIneq (n k terms : Nat) : Nat := n * k * popCount 4 (terms % 16) + 3 * k * popCount 2 (terms / 16 % 4)

/-- Check 5 for a template. -/
def prog5 (p : List Byte) (t : Nat) : Bool :=
  let n := tmN p t
  let k := tmK p t
  let terms := tmTerms p t
  decide (1 ≤ n ∧ n ≤ 16) && decide (1 ≤ k ∧ k ≤ 32) && decide (1 ≤ tmH p t) && decide (1 ≤ tmIter p t ∧ tmIter p t ≤ 64)
    && tm p t 14 2 == 2 * n * k && tm p t 16 2 == n * k && tm p t 18 2 == mIneq n k terms
    && decide (2 * n * k ≤ 512) && decide (n * k + mIneq n k terms ≤ 1024) && decide (tm p t 24 4 ≤ 65536) && decide (terms < 64)
    && (bit terms 0 || dLt 0 (tmReal p t 64)) && (bit terms 3 || dLt 0 (tmReal p t 72))
    && [48, 56, 64, 72].all (fun o => dNonneg (tmReal p t o)) && [80, 88].all (fun o => dFinite (tmReal p t o))
    && [96, 104, 112, 120].all fun o => dPos (tmReal p t o)

/-- ORDER of a template: for each elimination position the canonical index. -/
def tmOrder (p : List Byte) (t : Nat) : List Nat :=
  (List.range (3 * tmN p t * tmK p t)).map fun i => tm p t (tm p t 128 4 + 2 * i) 2

/-- The variables of equality row `r` (R288): joints of q_(i+1), q_i and q_(i−1), and its torque. -/
def eqVars (n k r : Nat) : List Nat :=
  let i := r / n
  ((List.range n).flatMap fun j =>
    (n * i + j) :: (if 1 ≤ i then [n * (i - 1) + j] else []) ++ (if 2 ≤ i then [n * (i - 2) + j] else [])) ++ [n * k + r]

/-- The supernodes cover positions `at` to `n` one after the other. -/
def coversFrom (n : Nat) : Nat → List (Nat × Nat) → Bool
  | a, [] => a == n
  | a, (o, w) :: t => o == a && decide (1 ≤ w) && coversFrom n (a + w) t

/-- Check 6 for a template. -/
def prog6 (p : List Byte) (t : Nat) : Bool :=
  let n := tmN p t
  let k := tmK p t
  let l := tmOrder p t
  let m := 3 * n * k
  let sn := (List.range (tm p t 148 2)).map fun i =>
    let o := tm p t 132 4 + 8 * i
    (tm p t o 2, tm p t (o + 2) 2)
  decide (tm p t 128 4 + 2 * m ≤ tm p t 0 4) && decide (tm p t 132 4 + 8 * tm p t 148 2 ≤ tm p t 0 4)
    && (List.range m).all (fun c => l.contains c)
    && (List.range (n * k)).all (fun r =>
        let at' := l.idxOf (2 * n * k + r)
        (eqVars n k r).all fun v => decide (l.idxOf v < at'))
    && coversFrom m 0 (sn.mergeSort fun a b => decide (a.1 ≤ b.1))

/-- Check 7 for a template: each stream lies in its section, and with L and K it fits the local memory (notes/assumptions/62.md). -/
def prog7 (p : List Byte) (t : Nat) : Bool :=
  [1, 2, 4].all fun w =>
    !tmWidth p t w ||
      (let o := tm p t (136 + 4 * widthLog w) 4
       let n := tm p t o 4
       decide (160 ≤ o) && decide (o + 4 ≤ tm p t 0 4) && decide (o + n ≤ tm p t 0 4)
         && decide (n + 8 * (tm p t 20 4 + tm p t 24 4) ≤ 0x100000))

/-- The first failed check of R305, 0 when all pass. DEDUCED: notes/assumptions/62.md. -/
def State.progCheck (s : State) (p : List Byte) (len : Nat) : Nat :=
  if !prog1 p len then 1
  else if !s.prog2 p then 2
  else if !prog3 p then 3
  else if !s.prog4 p then 4
  else if !(progList p).all (prog5 p) then 5
  else if !(progList p).all (prog6 p) then 6
  else if !(progList p).all (prog7 p) then 7
  else 0

/-- `OPT_CHECK.STAGED_MEETS_FULL` and `STAGED_MEETS_LENT` (`pl` 0 and 1). -/
def State.stagedMeets (s : State) (pl : Nat) : Bool := s.optStagedOk && s.meets s.optStaged pl s.deadlinePct

/-- OPT_STAGE (R305, R335). -/
def execOptStage (c : Cmd) (dma : Dma) (s : State) : Out :=
  let c := { c with op := 0x0501 }
  let b := c.b 16
  let addr := c.u 24 8
  let len := c.u 32 4
  .next <| s.judge c
    (check1 c .pf [(addr, len)] ++
      [ (!c.onlyUses [(16, 1), (24, 8), (32, 4)] || decide (2 ≤ b) || !sramFits addr len, .bad),
        s.mirrorCheck c,
        (s.opt.commit.isSome, .reject 23 1),
        (decide (2 ≤ s.mode) && b == s.optUsed, .reject 1 s.mode) ])
    fun s => s.withData c addr len dma fun data s =>
      let p := data.take (leAt data 16 4)
      let f := s.progCheck data len
      let s := s.put Reg.OPT_CHECK F.OPT_CHECK_FAILED_CHECK f
      let s := s.modOpt fun z => { z with banks := tabSet (fun _ => []) z.banks b (if f = 0 then p else []) }
      let s := s.setReg (Reg.OPT_PROG_ID b) (BitVec.ofNat 32 (if f = 0 then leAt p 8 4 else 0))
      let s := if b = s.optUsed then s else s.put Reg.OPT_STATUS F.OPT_STATUS_STAGED_VALID (b2n (f == 0))
      s.complete c (if f = 0 then stOK else stBad) f

/-! ### What a PATH move needs (R306, R307) -/

/-- The clusters of group `g` for its next solve, physical numbers: none when it is not placed. -/
def State.groupClu (s : State) (g : Nat) : List Nat :=
  match s.placement with
  | some pl => (idxs 8 (bit (progMask s.optProg g pl))).filterMap fun i => s.activeClu[i]?
  | none => []

/-- A program offers template `t` to group `g`. -/
def offers (p : List Byte) (g t : Nat) : Bool := decide (t < 32) && bit (progTemplates p g) t && tmOfs p t != 0

/-- The record's template suits the group: BAD_PARAM unless it does (R306). -/
def State.pathOk (s : State) (g t : Nat) : Bool :=
  match (s.pg g).model with
  | none => false
  | some m =>
    let p := s.optProg
    let us := s.bankUs s.bankUsed
    let span := tmK p t * tmH p t * us
    let need := s.fld Reg.PLAN_CTRL F.PLAN_CTRL_TICK_LEN_USED * us
    s.hasDyn g && offers p g t && (s.opt.commit.isNone || offers s.optStaged g t)
      && tmN p t == m.joints.length && bit (tm p t 6 1) m.kind
      && decide (2 * need + s.fld (Reg.GRP_CTRL g) F.GRP_CTRL_TSTOP * 1000 ≤ 2 * span)

/-- The group is placed in neither placement of the bank in use: NO_RESOURCE (R306). -/
def State.unplacedGroup (s : State) (g : Nat) : Bool := progMask s.optProg g 0 == 0 && progMask s.optProg g 1 == 0

end Sys2Proof.Machine
end

