-- ==== Sys2Proof/Machine/PlanCmd.lean ====
section
/-!
DEFINITION. Block 0x04, commands (R237, R239, R240, R250, R253, R279) and the tokens of workspace zones (R263, R264, R266).
-/
namespace Sys2Proof.Machine

/-! ### Measured state -/

/-- Measured joint positions of a group now (R401). -/
def State.measNow (s : State) (g : Nat) : List Nat :=
  match (s.pg g).model with
  | none => []
  | some m => m.joints.map fun j => j.ofCounts (s.srvAx j.axis).p

/-- The plan that takes effect at the next tick boundary, with its plan time there, and the seconds from the set-point
last formed to that boundary (R234, R245, R251). -/
def State.planNext (s : State) (g : Nat) : PlPlan × Nat :=
  let z := s.pg g
  let left := dMax 0 (dSub (dSecs (timeDiff (s.actTime 1) s.link.tk)) s.dP)
  match z.next with
  | some p => (p, 0)
  | none =>
    let t := dAdd z.tau left
    match z.blendDue, z.queue with
    | true, _ :: m :: _ => ((s.jointsPlan g m (z.plan.at z.q t).1 none).1, 0)
    | _, _ => (z.plan, t)

/-- Joint positions `d` seconds after the next tick boundary under that plan with λ = 1; a TRACK move goes on at its velocity
within the position limits (R262, R407). -/
def State.aheadQ (s : State) (g d : Nat) : List Nat :=
  let z := s.pg g
  let (p, t) := s.planNext g
  match p, z.model, z.queue with
  | .track _, some md, m :: _ =>
    md.joints.zipIdx.map fun x =>
      if bit (leAt m.data 6 2) x.2 then dMax x.1.pmin (dMin x.1.pmax (dAdd (nth z.q x.2) (dMul (nth z.v x.2) d)))
      else nth z.q x.2
  | _, _, _ => p.posAt z.q (dAdd t d)

/-- T_STOP of a group, ms. -/
def State.tstop (s : State) (g : Nat) : Nat := s.fld (Reg.GRP_CTRL g) F.GRP_CTRL_TSTOP

/-- The servo instants of R262's window, counted from the next tick boundary. -/
def State.windowInstants (s : State) (g : Nat) : List Nat :=
  List.range (s.fld Reg.PLAN_CTRL F.PLAN_CTRL_TICK_LEN_USED + s.tstop g * 500 / max 1 (s.bankUs s.bankUsed) + 1)

/-- The group enters zone `z` by its plan within the window of R262. -/
def State.planEnters (s : State) (g z : Nat) : Bool :=
  (s.windowInstants g).any fun i => s.groupEnters g z (s.aheadQ g (dMul (dOfInt i) s.dP))

/-! ### Tokens (R263, R264) -/

/-- The zone is enabled. -/
def State.zoneOn (s : State) (z : Nat) : Bool := s.flag (Reg.ZONE_CTRL z) F.ZONE_CTRL_ENABLE
/-- The zone's token is held. -/
def State.zoneOwned (s : State) (z : Nat) : Bool := s.flag (Reg.ZONE_CTRL z) F.ZONE_CTRL_OWNED
/-- Its holder. -/
def State.zoneOwner (s : State) (z : Nat) : Nat := s.fld (Reg.ZONE_CTRL z) F.ZONE_CTRL_OWNER
/-- Group `g` holds zone `z`'s token. -/
def State.holdsZone (s : State) (g z : Nat) : Bool := s.zoneOwned z && s.zoneOwner z == g
/-- Bit `z` of `GRP_TOKENS` or `GRP_WAIT` of a group. -/
def State.setZoneBit (s : State) (r z : Nat) (v : Bool) : State :=
  s.setReg64 r (BitVec.ofNat 64 (setBit (s.reg64 r).toNat z v))

/-- A group requests a token (R262, R263). -/
def State.requestZone (s : State) (g z : Nat) (c : Option Cmd) : State :=
  let s := s.modPz z fun x => { x with reqs := x.reqs ++ [(s.pl.tick, g, c)] }
  s.setZoneBit (Reg.GRP_WAIT g) z true

/-- A token is granted: event 0x0433. -/
def State.grantZone (s : State) (g z : Nat) : State :=
  let mine := (s.pz z).reqs.filter fun r => r.2.1 == g
  let s := s.modPz z fun x => { x with reqs := x.reqs.filter (fun r => r.2.1 != g), clear := 0 }
  let r := Reg.ZONE_CTRL z
  let s := ((s.put r F.ZONE_CTRL_OWNED 1).put r F.ZONE_CTRL_OWNER g).put r F.ZONE_CTRL_ACQUIRED (b2n (mine.any fun r => r.2.2.isSome))
  let s := (s.setZoneBit (Reg.GRP_WAIT g) z false).setZoneBit (Reg.GRP_TOKENS g) z true
  let s := s.postB 0x0433 [(16, 1, g), (17, 1, z), (18, 1, 0)]
  let s := if s.grpState g = gsMoving ∧ (s.pg g).zoneWait.contains z then
      s.modPg g fun x => { x with holdAt := none, zoneWait := [] } else s
  forEach mine s fun r s => match r.2.2 with | some c => s.complete c stOK 0 | none => s

/-- A token is released: event 0x0433. -/
def State.releaseZone (s : State) (z : Nat) : State :=
  let g := s.zoneOwner z
  let r := Reg.ZONE_CTRL z
  let s := ((s.put r F.ZONE_CTRL_OWNED 0).put r F.ZONE_CTRL_OWNER 0).put r F.ZONE_CTRL_ACQUIRED 0
  (s.setZoneBit (Reg.GRP_TOKENS g) z false).postB 0x0433 [(16, 1, g), (17, 1, z), (18, 1, 1)]

/-- Each free enabled zone's token goes to the request of the earliest tick and lowest group (R263). -/
def State.grantZones (s : State) : State :=
  forEach (List.range 64) s fun z s =>
    if !s.zoneOn z || s.zoneOwned z then s
    else
      match (s.pz z).reqs with
      | [] => s
      | r :: t =>
        let b := t.foldl (fun b r => if r.1 < b.1 ∨ (r.1 = b.1 ∧ r.2.1 < b.2.1) then r else b) r
        s.grantZone b.2.1 z

/-! ### Legality -/

/-- Parameter and group checks that every command of the block makes: `st` are the legal group states (R237). -/
def State.grpChecks (s : State) (c : Cmd) (st : List Nat) : List (Bool × Verdict) :=
  let g := c.group
  [ (decide (s.nGroups ≤ g), .bad), s.mirrorCheck c, (!st.contains (s.grpState g), .reject 4 (s.grpState g)) ]

/-- While the planner is lent, the commands that would change a group's state are answered by R50 (R687).
DEDUCED: notes/assumptions/61.md. -/
def State.lentCheck (s : State) : Bool × Verdict := (s.plannerLent, .reject 21 (s.regionState 0x30))

/-- Safety zones that hold one of a group's STO groups. -/
def State.zonesOf (s : State) (g : Nat) : List Nat :=
  idxs 16 fun z => (leAt (tabGet (fun _ => []) s.sf.recs z) 4 2) &&& s.fld (Reg.SRV_GRP_SAFE g) F.SRV_GRP_SAFE_STO_MASK != 0

/-- A safety zone of the group that is not ARMED (R47). -/
def State.zoneNotArmed (s : State) (g : Nat) : Option Nat :=
  (s.zonesOf g).find? fun z => s.fld (Reg.SF_ZONE z) F.SF_ZONE_STATE != 0

/-- A node that carries an axis of the group and is a member on neither channel (R47). -/
def State.lostNode (s : State) (g : Nat) : Option Nat :=
  (s.groupAxes g).find? fun a => decide (a < 192) && s.memb 0 (s.axisNode a) != 3 && s.memb 1 (s.axisNode a) != 3

/-! ### Models and limits -/

/-- The limits in use as the registers show them (R274). -/
def State.showLims (s : State) (g : Nat) : State :=
  forEach (s.pg g).lims.zipIdx s fun x s =>
    ((s.setReg (Reg.JNT_VMAX g x.2) (to32 x.1.1)).setReg (Reg.JNT_AMAX g x.2) (to32 x.1.2.1)).setReg (Reg.JNT_JMAX g x.2) (to32 x.1.2.2)

/-- A model becomes the group's (R230); a change of N_JOINTS unloads its dynamic table (R297). -/
def State.loadModel (s : State) (g : Nat) (m : PlModel) : State :=
  let n := m.joints.length
  let old := s.fld (Reg.GRP_MODEL g) F.GRP_MODEL_N_JOINTS
  let s := if old = n then s else (s.modOg g fun z => { z with dyn := none }).setReg (Reg.OPT_GRP_DYN g) 0
  let s := s.clearRegs (Reg.JNT_VMAX g 0) (Reg.JNT_VMAX g 0 + 0x100)
  let s := s.modPg g fun z => { z with
    model := some m, lims := m.joints.map fun j => (j.vmax, j.amax, j.jmax)
    q := zeros n, v := zeros n, a := zeros n, plan := .rest, gravNext := none, grav := none }
  let s := (s.setReg (Reg.GRP_MODEL g) (BitVec.ofNat 32 (2 ^ 31 + m.kind * 256 + n))).showLims g
  forEach m.joints.zipIdx s fun x s => s.setReg (Reg.JNT_AXIS g x.2) (BitVec.ofNat 32 x.1.axis)

/-- GRP_LOAD_MODEL (R230, R279). -/
def execGrpLoadModel (c : Cmd) (dma : Dma) (s : State) : Out :=
  let c := { c with op := 0x0401 }
  let g := c.group
  let addr := c.u 24 8
  let len := c.u 32 4
  let n := min len 2408
  .next <| s.judge c
    (check1 c .pf [(addr, n)] ++ [(!c.onlyUses [(24, 8), (32, 4)] || !sramFits addr n, .bad)] ++ s.grpChecks c [gsDisabled])
    fun s => s.withData c addr n dma fun data s =>
      let m := modelOf data
      let f := if !model1 data n then 1 else s.modelCheck m
      if f ≠ 0 then s.complete c stBad f
      else if m.joints.any fun j => (s.axisGroup j.axis).any (· != g) then s.complete c stNoRes 0
      else (s.loadModel g m).complete c stOK 0

/-- A limit operand: 0 leaves the limit as it is, else it is positive and at most the model's (R279). -/
def limitOk (x most : Nat) : Bool := dEq x 0 || (dPos x && dLe x most)

/-- GRP_SET_LIMITS (R246, R279): it waits for its tick. DEDUCED: notes/assumptions/61.md. -/
def execGrpSetLimits (c : Cmd) (s : State) : Out :=
  let c := { c with op := 0x0408 }
  let g := c.group
  let j := c.b 16
  let js : List PlJoint := match (s.pg g).model with
    | some m => (m.joints.zipIdx.filter fun x => j == 255 || x.2 == j).map (·.1)
    | none => []
  .next <| s.judge c
    (check1 c .any [] ++
      [ (!c.onlyUses [(16, 1), (24, 8), (32, 8), (40, 8)] || decide (16 ≤ j ∧ j ≠ 255), .bad),
        ((s.pg g).model.isSome && js.isEmpty, .bad),
        (js.any fun m => !(limitOk (c.u 24 8) m.vmax && limitOk (c.u 32 8) m.amax && limitOk (c.u 40 8) m.jmax), .bad) ]
      ++ s.grpChecks c [0, 1, 2, 3, 4, 5] ++ [((s.pg g).model.isNone, .reject 255 0)])
    fun s => s.modPg g fun z => { z with changes := z.changes ++ [⟨c, [], false⟩] }

/-! ### States -/

/-- GRP_ENABLE (R47, R235): STANDSTILL, with the servo's enable sequence. DEDUCED: notes/assumptions/61.md. -/
def execGrpEnable (c : Cmd) (s : State) : Out :=
  let c := { c with op := 0x0402 }
  let g := c.group
  let n := s.lostNode g
  let z := s.zoneNotArmed g
  .next <| s.judge c
    (check1 c .any [] ++ [(!c.onlyUses [], .bad)] ++ s.grpChecks c [gsDisabled] ++
      [ s.lentCheck, (decide (s.mode < mOperate), .reject 1 s.mode),
        ((s.pg g).model.isNone, .reject 255 0),
        (s.phase g != phOff, .reject 5 (s.phase g)),
        (z.isSome, .reject 10 (s.fld (Reg.SF_ZONE (z.getD 0)) F.SF_ZONE_STATE)),
        (n.isSome, .reject 8 (s.memb 0 (s.axisNode (n.getD 0)))) ])
    fun s =>
      let s := (s.atRest g).modPg g fun z => { z with enable := some c, ready := false }
      (s.modGrp g fun x => { x with req := 1, tellOn := false, tellFault := false }).setGrp g gsStandstill 0 0

/-- GRP_DISABLE (R235). -/
def execGrpDisable (c : Cmd) (s : State) : Out :=
  let c := { c with op := 0x0403 }
  .next <| s.judge c
    (check1 c .any [] ++ [(!c.onlyUses [], .bad)] ++ s.grpChecks c [gsStandstill, gsHolding, gsFaulted] ++ [s.lentCheck])
    fun s => (s.toDisabled c.group 4 2).complete c stOK 0

/-- GRP_STOP (R235, R236). -/
def execGrpStop (c : Cmd) (s : State) : Out :=
  let c := { c with op := 0x0409 }
  let g := c.group
  let cat := c.b 16
  .next <| s.judge c
    (check1 c .any [] ++ [(!c.onlyUses [(16, 1)] || decide (3 ≤ cat), .bad)] ++ s.grpChecks c [1, 2, 3, 4] ++ [s.lentCheck])
    fun s =>
      if cat = 0 then (s.toDisabled g 3 3).complete c stOK gsDisabled
      else
        let s := s.modPg g fun z => { z with stops := z.stops ++ [c] }
        (s.flushQueue g 3).beginStop g (if cat = 1 then seDisabled else seStandstill)

/-- The group holds, or stops toward HOLDING. -/
def State.inHold (s : State) (g : Nat) : Bool :=
  s.grpState g == gsHolding || (s.grpState g == gsStopping && s.stopEnd g == seHolding)

/-- GRP_HOLD (R235, R279). -/
def execGrpHold (c : Cmd) (s : State) : Out :=
  let c := { c with op := 0x040A }
  let g := c.group
  .next <| s.judge c
    (check1 c .any [] ++ [(!c.onlyUses [], .bad)] ++ s.grpChecks c [2, 3, 4] ++
      [(s.grpState g == gsStopping && !s.inHold g, .reject 4 gsStopping)])
    fun s =>
      let s := s.hold g hcHold
      if s.grpState g = gsHolding then s.complete c stOK 0 else s.modPg g fun z => { z with holds := z.holds ++ [c] }

/-- GRP_RESUME (R237, R279): the HOLD cause clears. -/
def execGrpResume (c : Cmd) (s : State) : Out :=
  let c := { c with op := 0x040B }
  let g := c.group
  .next <| s.judge c
    (check1 c .any [] ++ [(!c.onlyUses [], .bad)] ++ s.grpChecks c [3, 4] ++
      [(!s.inHold g, .reject 4 (s.grpState g))])
    fun s => ((s.dropHolds g).unhold g hcHold).complete c stOK 0

/-- GRP_CLEAR_FAULT (R235, R278): the faults clear, in the servo too. DEDUCED: notes/assumptions/61.md. -/
def execGrpClearFault (c : Cmd) (s : State) : Out :=
  let c := { c with op := 0x040C }
  let g := c.group
  let ph := s.phase g
  let z := if ph = phOn then s.zoneNotArmed g else none
  .next <| s.judge c
    (check1 c .any [] ++ [(!c.onlyUses [], .bad)] ++ s.grpChecks c [gsFaulted] ++
      [ s.lentCheck, (ph != phOn && ph != phOff, .reject 5 ph),
        (z.isSome, .reject 10 (s.fld (Reg.SF_ZONE (z.getD 0)) F.SF_ZONE_STATE)) ])
    fun s =>
      let s := (s.setReg (Reg.GRP_FAULT g) 0).put (Reg.SRV_GRP_STATUS g) F.SRV_GRP_STATUS_CAUSE 0
      let st := if ph = phOn then gsStandstill else gsDisabled
      ((s.atRest g).setGrp g st 0 0).complete c stOK st

/-! ### Moves (R239, R240, R250, R253) -/

/-- A fraction in (0, 1]. -/
def fractionOk (x : Nat) : Bool := dPos x && dLe x d1

/-- TARGET of a JOINT record lies within the limits. -/
def targetsOk (l : List Byte) (m : PlModel) : Bool :=
  m.joints.zipIdx.all fun x =>
    let t := f64At l (64 + 8 * x.2)
    dFinite t && dLe x.1.pmin t && dLe t x.1.pmax

/-- A JOINT record (R240). -/
def jointRecOk (l : List Byte) (m : PlModel) : Bool :=
  leAt l 0 1 == 0 && zeroAt l 1 1 && leAt l 2 1 == m.joints.length && zeroAt l 3 5 && zeroAt l 40 24
    && [8, 16, 24].all (fun o => fractionOk (f64At l o)) && dNonneg (f64At l 32) && targetsOk l m

/-- A PATH record (R250). -/
def pathRecOk (l : List Byte) : Bool :=
  leAt l 0 1 == 1 && decide (leAt l 1 1 ≤ 1) && zeroAt l 3 5 && (f64s l 8 15).all dFinite
    && [8, 16, 24, 32, 120].all (fun o => dNonneg (f64At l o)) && (leAt l 1 1 == 1 || (f64s l 96 3).all fun x => dEq x 0)

/-- A TRACK record (R253). -/
def State.trackRecOk (s : State) (l : List Byte) (m : PlModel) : Bool :=
  let n := m.joints.length
  let w := leAt l 4 2
  leAt l 0 1 == 2 && decide (leAt l 1 1 ≤ 1) && decide (leAt l 2 1 < if leAt l 1 1 = 0 then s.nLocal else s.nAin) && zeroAt l 3 1
    && (List.range 13).any (fun i => w == 2 ^ i) && decide (leAt l 6 2 < 2 ^ n) && zeroAt l 32 32
    && dNonneg (f64At l 8) && dLe (f64At l 8) (dOfInt 1000) && dPos (f64At l 16)
    && (List.range n).all fun j => !bit (leAt l 6 2) j || (dFinite (f64At l (64 + 16 * j)) && dFinite (f64At l (72 + 16 * j)))

/-- Octets of a record of a kind for `n` joints. -/
def recLen (kind n : Nat) : Nat := if kind = 0 then 64 + 8 * n else if kind = 1 then 128 else 64 + 16 * n

/-- A move command: the record is read, judged and put in the queue (R239). DEDUCED: notes/assumptions/61.md. -/
def State.moveCmd (s : State) (c : Cmd) (dma : Dma) (kind : Nat) : State :=
  let g := c.group
  let mode := c.b 16
  let addr := c.u 24 8
  let len := c.u 32 4
  s.judge c
    (check1 c .any [(addr, len)] ++
      [(!c.onlyUses [(16, 1), (24, 8), (32, 4)] || decide (2 ≤ mode) || (kind == 2 && mode != 0) || decide (320 < len) || !sramFits addr len, .bad)]
      ++ s.grpChecks c [1, 2, 3] ++ [s.lentCheck, (kind != 0 && s.mode == mService, .reject 1 s.mode)])
    fun s => s.withData c addr len dma fun data s =>
      match (s.pg g).model with
      | none => s.complete c stAborted 4
      | some m =>
        let good := len == recLen kind m.joints.length &&
          (match kind with
            | 0 => jointRecOk data m
            | 1 => pathRecOk data && s.pathOk g (leAt data 2 1)
            | _ => s.trackRecOk data m)
        if !good then s.complete c stBad 0
        else if (kind = 1 ∧ s.unplacedGroup g) ∨ 16 ≤ (s.pg g).queue.length then s.complete c stNoRes 0
        else if !([1, 2, 3].contains (s.grpState g)) then s.complete c stAborted (if s.grpState g = gsStopping then 3 else 4)
        else (s.modPg g fun z => { z with queue := z.queue ++ [⟨c, kind, mode == 1, data, false⟩] }).showQueue g

/-- MOVE_JOINT (R240). -/
def execMoveJoint (c : Cmd) (dma : Dma) (s : State) : Out := .next (s.moveCmd { c with op := 0x0404 } dma 0)
/-- MOVE_PATH (R250, R306). -/
def execMovePath (c : Cmd) (dma : Dma) (s : State) : Out := .next (s.moveCmd { c with op := 0x0405 } dma 1)
/-- MOVE_TRACK (R253). -/
def execMoveTrack (c : Cmd) (dma : Dma) (s : State) : Out := .next (s.moveCmd { c with op := 0x0406 } dma 2)

/-- The queued move with a tag. -/
def PlGrp.moveOf (z : PlGrp) (tag : Nat) : Option PlMove := z.queue.find? fun m => m.cmd.tag.toNat == tag
/-- The move with a tag is the active one. -/
def PlGrp.isActive (z : PlGrp) (tag : Nat) : Bool := z.active && (z.queue.head?.any fun m => m.cmd.tag.toNat == tag)

/-- The record suits a move as its new target. -/
def State.newTargetOk (s : State) (l : List Byte) (kind : Nat) (m : PlModel) : Bool :=
  match kind with
  | 0 => leAt l 0 1 == 0 && leAt l 2 1 == m.joints.length && targetsOk l m
  | 1 => pathRecOk l
  | _ => s.trackRecOk l m

/-- MOVE_MODIFY (R246, R247, R279): it waits for its tick. DEDUCED: notes/assumptions/61.md. -/
def execMoveModify (c : Cmd) (dma : Dma) (s : State) : Out :=
  let c := { c with op := 0x0407 }
  let g := c.group
  let tag := c.u 20 4
  let tv := bit (c.b 16) 0
  let addr := c.u 48 8
  let kind := (((s.pg g).moveOf tag).map (·.kind)).getD 0
  let len := if tv then recLen kind (s.groupAxes g).length else 0
  .next <| s.judge c
    (check1 c .any (if tv then [(addr, len)] else []) ++
      [(!c.onlyUses [(16, 1), (20, 4), (24, 8), (32, 8), (40, 8), (48, 8)] || decide (2 ≤ c.b 16)
          || [24, 32, 40].any (fun o => !(dEq (c.u o 8) 0 || fractionOk (c.u o 8))) || (tv && !sramFits addr len), .bad)]
      ++ s.grpChecks c [1, 2, 3] ++ [(tv && (s.pg g).isActive tag, .reject 4 (s.grpState g))])
    fun s =>
      let wait (data : List Byte) (s : State) : State := s.modPg g fun z => { z with changes := z.changes ++ [⟨c, data, false⟩] }
      match (s.pg g).moveOf tag, (s.pg g).model with
      | some mv, some m =>
        if tv then s.withData c addr len dma fun data s =>
          if s.newTargetOk data mv.kind m then wait data s else s.complete c stBad 0
        else wait [] s
      | _, _ => s.complete c 0x40 0

/-! ### Zone commands (R263–R266) -/

/-- The state that a refused zone command shows (R781). -/
def State.zoneDim (s : State) (z : Nat) : Nat :=
  if !s.zoneOn z then 0 else if s.zoneOwned z || !(s.pz z).reqs.isEmpty then 2 else 1

/-- ZONE_ACQUIRE. DEDUCED: notes/assumptions/61.md. -/
def execZoneAcquire (c : Cmd) (s : State) : Out :=
  let c := { c with op := 0x040D }
  let g := c.group
  let z := c.b 16
  .next <| s.judge c
    (check1 c .any [] ++ [(!c.onlyUses [(16, 1)] || decide (64 ≤ z), .bad)] ++ s.grpChecks c [0, 1, 2, 3, 4])
    fun s =>
      if s.holdsZone g z then (s.put (Reg.ZONE_CTRL z) F.ZONE_CTRL_ACQUIRED 1).complete c stOK 0
      else s.requestZone g z (some c)

/-- ZONE_RELEASE; with FORCE it is the PF's and records foul 0x0417. -/
def execZoneRelease (c : Cmd) (s : State) : Out :=
  let c := { c with op := 0x040E }
  let g := c.group
  let z := c.b 16
  let force := bit (c.b 17) 0
  .next <| s.judge c
    (check1 c .any [] ++
      [ (force && !c.who.isPf, .priv),
        (!c.onlyUses [(16, 1), (17, 1)] || decide (64 ≤ z) || decide (2 ≤ c.b 17), .bad) ]
      ++ s.grpChecks c [0, 1, 2, 3, 4, 5] ++
      [ (!force && !s.holdsZone g z, .reject 13 (s.zoneDim z)),
        (!force && (s.groupEnters g z (s.measNow g) || s.planEnters g z), .reject 13 (s.zoneDim z)) ])
    fun s =>
      let s := if force then s.post 0x0417 (srcBlock 4) (det [(16, 1, g), (17, 1, z), (18, 1, fnOf c.who)]) else s
      let s := if s.zoneOwned z then s.releaseZone z else s
      s.complete c stOK 0

/-- The planes in use suit a zone that is to be enabled (R266). -/
def State.planesOk (s : State) (z : Nat) : Bool :=
  let n := s.fld (Reg.ZONE_CTRL z) F.ZONE_CTRL_N_PLANES
  decide (1 ≤ n ∧ n ≤ 16) && (List.range n).all fun i =>
    let (v, d) := s.zonePlane z i
    v.all dFinite && dFinite d && dNear (dRatio 1 1000000) (vNorm v) d1

/-- ZONE_SET (R266). -/
def execZoneSet (c : Cmd) (s : State) : Out :=
  let c := { c with op := 0x040F }
  let z := c.b 16
  let on := bit (c.b 17) 0
  .next <| s.judge c
    (check1 c .pf [] ++
      [ (!c.onlyUses [(16, 1), (17, 1)] || decide (64 ≤ z) || decide (2 ≤ c.b 17), .bad), s.mirrorCheck c,
        (!on && (s.zoneOwned z || !(s.pz z).reqs.isEmpty), .reject 13 2),
        (on && (!s.planesOk z || s.groups.any fun g => s.groupEnters g z (s.measNow g)), .reject 13 (s.zoneDim z)) ])
    fun s => (s.put (Reg.ZONE_CTRL z) F.ZONE_CTRL_ENABLE (b2n on)).complete c stOK 0

end Sys2Proof.Machine
end

