-- ==== Sys2Proof/Machine/SafetyDie.lean ====
section
/-!
DEFINITION. The safety die (R431–R456, R462–R473): input pairs, couples, zones, outputs and their tests, configuration records, sessions,
change log. Rows are the die's filtered edges and the ends of its timers, which run on its own oscillator (R456); between two rows the die
scans until nothing more changes.
-/
namespace Sys2Proof.Machine

/-! ### Records (R463) -/

/-- Octets of a record: kind 0 zone, 1 pair, 2 brake, 3 source. -/
def sfSize : Nat → Nat | 0 => 16 | 3 => 4 | _ => 8
/-- Records of a kind. -/
def sfCount : Nat → Nat | 0 => 16 | 1 => 32 | 2 => 8 | _ => 16
/-- Key of a record. -/
def sfKey (kind i : Nat) : Nat := kind * 32 + i
/-- A record in use. -/
def State.sfRec (s : State) (kind i : Nat) : List Byte := slice (tabGet (fun _ => []) s.sf.recs (sfKey kind i)) 0 (sfSize kind)
/-- A staged record; the one in use where none is staged. -/
def State.sfStg (s : State) (kind i : Nat) : List Byte :=
  match tabGet (fun _ => none) s.sf.staged (sfKey kind i) with
  | some r => r
  | none => s.sfRec kind i
/-- Changes the island's state. -/
def State.modSf (s : State) (f : SfSt → SfSt) : State := { s with sf := f s.sf }

/-- INPUTS -/ def zIn (r : List Byte) : Nat := leAt r 0 4
/-- STO groups (bits 0–15) and brake channels (bits 16–23) -/ def zOut (r : List Byte) : Nat := leAt r 4 3
/-- STOP_CAT -/ def zCat (r : List Byte) : Nat := leAt r 7 1 % 4
/-- AUTO_RESET -/ def zAuto (r : List Byte) : Bool := bit (leAt r 7 1) 2
/-- HOLD_TO_RUN -/ def zHold (r : List Byte) : Bool := bit (leAt r 7 1) 3
/-- ENABLE -/ def zEn (r : List Byte) : Bool := bit (leAt r 7 1) 7
/-- KIND of a pair: 0 UNUSED, 1 ESTOP, 2 GUARD, 3 TWO_HAND, 4 CURTAIN. -/
def pKind (r : List Byte) : Nat := leAt r 0 1
/-- LOGIC -/ def pLogic (r : List Byte) : Bool := bit (leAt r 1 1) 0
/-- STARTUP_TEST -/ def pStartup (r : List Byte) : Bool := bit (leAt r 1 1) 1
/-- The source that a channel (0 or 1) of a pair names. -/
def pSrc (r : List Byte) (ch : Nat) : Option Nat := let t := leAt r (6 + ch) 1; if bit t 7 then some (t % 16) else none

/-- A pair. -/
def State.sfPair (s : State) (p : Nat) : SfPair := tabGet (fun _ => {}) s.sf.pairs p
/-- Sets a pair. -/
def State.setPair (s : State) (p : Nat) (x : SfPair) : State := s.modSf fun z => { z with pairs := tabSet (fun _ => {}) z.pairs p x }
/-- A couple. -/
def State.sfCouple (s : State) (m : Nat) : SfCouple := tabGet (fun _ => {}) s.sf.couples m
/-- Sets a couple. -/
def State.setCouple (s : State) (m : Nat) (x : SfCouple) : State := s.modSf fun z => { z with couples := tabSet (fun _ => {}) z.couples m x }
/-- A zone of the die. -/
def State.sfZone (s : State) (n : Nat) : SfZone := tabGet (fun _ => {}) s.sf.zones n
/-- Sets a zone of the die. -/
def State.setZone (s : State) (n : Nat) (x : SfZone) : State := s.modSf fun z => { z with zones := tabSet (fun _ => {}) z.zones n x }
/-- An output. -/
def State.sfOut (s : State) (i : Nat) : SfOutput := tabGet (fun _ => {}) s.sf.outs i

/-- The switches of an output as commanded: high side, low side (R449–R451). -/
def SfOutput.sw (o : SfOutput) : Bool × Bool :=
  ((o.step == 2 || o.step == 4) && o.onTest != 1, (o.step == 3 || o.step == 4) && o.onTest != 2)

/-- Sets an output; a switch that changes drives its ball. -/
def State.setOutput (s : State) (i : Nat) (o : SfOutput) : State :=
  let old := (s.sfOut i).sw
  let s := s.modSf fun z => { z with outs := tabSet (fun _ => {}) z.outs i o }
  let n := if i < 16 then ("STO_HSG", "STO_LSG", i) else ("BRK_HSG", "BRK_LSG", i - 16)
  let s := if old.1 = o.sw.1 then s else s.emit (.ball n.1 n.2.2 (b2n o.sw.1))
  if old.2 = o.sw.2 then s else s.emit (.ball n.2.1 n.2.2 (b2n o.sw.2))

/-- The readback expected of a switch command: X, Y (R449). -/
def rbOf (sw : Bool × Bool) : Bool × Bool := (sw.1, sw.1 && !sw.2)

/-- The readbacks of an output become known. -/
def State.setReadback (s : State) (i : Nat) (x y : Bool) : State :=
  s.modSf fun z => { z with rbX := setBit z.rbX i x, rbY := setBit z.rbY i y }
/-- Coil current of a brake channel, mA. -/
def State.coil (s : State) (c : Nat) : Nat := tabGet (fun _ => 0) s.sf.rbMa c
/-- The coil current of a channel becomes known. -/
def State.setCoil (s : State) (c ma : Nat) : State := s.modSf fun z => { z with rbMa := tabSet (fun _ => 0) z.rbMa c ma }

/-- An output reads back off (R469). -/
def State.outOff (s : State) (i : Nat) : Bool :=
  !bit s.sf.rbX i && !bit s.sf.rbY i && (decide (i < 16) || decide (s.coil (i - 16) ≤ leAt (s.sfRec 2 (i - 16)) 4 2))

/-- The enabled zone that holds an output (R443). -/
def State.outZone (s : State) (i : Nat) : Option Nat := (List.range 16).find? fun z => zEn (s.sfRec 0 z) && bit (zOut (s.sfRec 0 z)) i
/-- The outputs of a mask. -/
def outsOf (m : Nat) : List Nat := idxs 24 (bit m)
/-- The pairs of a mask. -/
def pairsOf (m : Nat) : List Nat := idxs 32 (bit m)

/-! ### Pairs and couples -/

/-- A channel is at its ON level (R436). -/
def State.chOn (s : State) (p ch : Nat) : Bool :=
  let x := s.sfPair p
  if ch = 0 then x.f1 else x.f2 != pLogic (s.sfRec 1 p)

/-- A pair takes one row of R437, the timer apart. -/
def pairStep (x : SfPair) (a b : Bool) : SfPair :=
  let y : SfPair :=
    match x.st with
    | 0 => if a && b then { x with st := 2 } else if a then { x with st := 1, first := 0 } else if b then { x with st := 1, first := 1 } else x
    | 1 => if a && b then { x with st := 2 } else if (if x.first = 0 then a else b) then x else { x with st := 0 }
    | 2 => if a && b then x else { x with st := 3 }
    | 3 => if !a && !b then { x with st := 0 } else x
    | _ => if !a && !b then { x with st := 0, cause := 0 } else x
  let y := if y.st = 0 ∧ x.st ≠ 0 then { y with offSeen := true } else y
  if x.st = 4 then { y with tpFail := false }
  else if y.tpFail then { y with st := 4, cause := 2, tpFail := false }
  else y

/-- The pairs in one scan; an UNUSED pair has no state. -/
def State.scanPairs (s : State) : State :=
  forEach (List.range 32) s fun p s =>
    let x := s.sfPair p
    if pKind (s.sfRec 1 p) = 0 then s.setPair p { x with st := 0, cause := 0, tpFail := false }
    else s.setPair p (pairStep x (s.chOn p 0) (s.chOn p 1))

/-- STARTUP_DONE (R440). DEDUCED: notes/assumptions/68.md. -/
def State.startupDone (s : State) (p : Nat) : Bool :=
  let r := s.sfRec 1 p
  if pKind r = 0 then false else !(pKind r == 2 && pStartup r) || (s.sfPair p).offSeen

/-- A couple takes one row of R441, the timer apart. -/
def coupleStep (x : SfCouple) (a b : Bool) : SfCouple :=
  match x.st with
  | 0 => if a && b then { x with st := 2 } else if a then ⟨1, 0⟩ else if b then ⟨1, 1⟩ else x
  | 1 => if a && b then { x with st := 2 } else if (if x.first = 0 then a else b) then x else { x with st := 0 }
  | 2 => if a && b then x else { x with st := 3 }
  | _ => if !a && !b then { x with st := 0 } else x

/-- Pairs 2m and 2m + 1 form a couple. -/
def State.isCouple (s : State) (m : Nat) : Bool := pKind (s.sfRec 1 (2 * m)) == 3 && pKind (s.sfRec 1 (2 * m + 1)) == 3

/-- The couples in one scan. -/
def State.scanCouples (s : State) : State :=
  forEach (List.range 16) s fun m s =>
    if s.isCouple m then s.setCouple m (coupleStep (s.sfCouple m) ((s.sfPair (2 * m)).st == 2) ((s.sfPair (2 * m + 1)).st == 2))
    else s.setCouple m {}

/-! ### Zones -/

/-- The demand of a zone (R444). -/
def State.zoneDemand (s : State) (z : Nat) : Bool :=
  let r := s.sfRec 0 z
  let ps := pairsOf (zIn r)
  let on (p : Nat) : Bool := (s.sfPair p).st == 2
  let kind (p : Nat) : Nat := pKind (s.sfRec 1 p)
  let stops := ps.all fun p => !(kind p == 1 || kind p == 4 || kind p == 0) || on p
  let guards := ps.all fun p => kind p != 2 || on p
  let hands := ps.all fun p => kind p != 3 || (s.sfCouple (p / 2)).st == 2
  stops && (if zHold r then guards || (hands && ps.any fun p => kind p == 3) else guards && hands)

/-- The number of the first condition of R447 that fails; 0 when the zone may arm. -/
def State.armFail (s : State) (z : Nat) : Nat :=
  let ps := pairsOf (zIn (s.sfRec 0 z))
  if !s.zoneDemand z then 1
  else if ps.any fun p => (s.sfPair p).st == 4 then 2
  else if ps.any fun p => !s.startupDone p then 3
  else if bit s.sf.seen 31 then 4
  else if (s.sfZone z).delay then 5
  else 0

/-- A zone trips with a cause (R445, R446). -/
def State.tripZone (s : State) (z cause : Nat) : State :=
  let x := s.sfZone z
  let cat := zCat (s.sfRec 0 z)
  s.setZone z { x with st := 1, trip := cause, run := x.run && cat != 0, delay := cat == 1 }

/-- A zone arms. -/
def State.armZone (s : State) (z : Nat) : State := s.setZone z { s.sfZone z with st := 0, run := true }

/-- A zone enters LOCKED_OUT; `keep` stores the lockout in non-volatile memory (R445). -/
def State.lockZone (s : State) (z cause : Nat) (keep : Bool) : State :=
  let s := s.setZone z { s.sfZone z with st := 2, lock := cause, run := false, delay := false }
  if keep then s.modSf fun x => { x with locks := tabSet (fun _ => 0) x.locks z cause } else s

/-- The zones in one scan. -/
def State.scanZones (s : State) : State :=
  forEach (List.range 16) s fun z s =>
    let x := s.sfZone z
    let d := s.zoneDemand z
    let s :=
      if x.st = 0 ∧ !d then s.tripZone z 1
      else if x.st = 0 ∧ bit s.sf.seen 31 then s.tripZone z 2
      else if x.st = 1 ∧ zAuto (s.sfRec 0 z) ∧ d ∧ !x.demand ∧ s.armFail z = 0 then s.armZone z
      else s
    s.setZone z { s.sfZone z with demand := d }

/-! ### Outputs -/

/-- An output is to be closed, or to close (R446, R450, R453, R457). -/
def State.outWanted (s : State) (i : Nat) : Bool :=
  match s.outZone i with
  | none => false
  | some z => s.sf.dieFault == 0 && (s.sfZone z).run && !bit s.sf.seen i && ((s.sfOut i).step == 4 || (s.sfZone z).st == 0)

/-- The outputs in one scan: a closing test begins, or the switches open and a test ends without a fault. -/
def State.scanOutputs (s : State) : State :=
  forEach (List.range 24) s fun i s =>
    let o := s.sfOut i
    if o.unlock then s
    else if s.outWanted i then (if o.step = 0 then s.setOutput i { o with step := 1, fault := false } else s)
    else if o.step = 0 then s
    else s.setOutput i { o with step := 0, onTest := 0 }

/-- One scan (R455). -/
def State.sfScan (s : State) : State := s.scanPairs.scanCouples.scanZones.scanOutputs

/-- The die scans until nothing more changes: a pair or couple passes through at most three states. -/
def State.sfSettle (s : State) : State :=
  if s.sf.started && s.sf.dieFault == 0 then s.sfScan.sfScan.sfScan else s

/-- An output fault (R445, R450–R454): kind 1 readback, 2 closing test, 3 ON test, 4 current. -/
def State.outFault (s : State) (i kind : Nat) : State :=
  let o := s.sfOut i
  if o.fault then s
  else
    let s := s.setOutput i { o with step := 0, onTest := 0, fault := true }
    let s := s.modSf fun z => { z with outFaults := z.outFaults ++ [(if i < 16 then 1 else 2, i % 16, kind)] }
    let cause := if kind = 2 then 4 else if i < 16 then 2 else 3
    let s := match s.outZone i with
      | some z => if (s.sfZone z).st ≤ 1 then s.lockZone z cause true else s
      | none => s
    s.sfSettle

/-- The die works. -/
def State.dieRuns (s : State) : Bool := s.sf.started && s.sf.dieFault == 0

/-! ### Rows of inputs -/

/-- A channel's filtered level is held: its source is low, or ended its pulse less than 100 µs ago (R439). -/
def State.chHeld (s : State) (p ch : Nat) : Bool :=
  match pSrc (s.sfRec 1 p) ch with
  | some t => s.sf.tpLow == some t || decide (s.u < tabGet (fun _ => 0) s.sf.tpHold t)
  | none => false

/-- SF_INPUT_EDGE: the filtered level of channel `ch` (0 or 1) of a pair changes (R435–R448). -/
def execSfInputEdge (pair ch : Nat) (high : Bool) (s : State) : Out :=
  .next <|
    if !s.dieRuns || decide (32 ≤ pair ∨ 2 ≤ ch) || s.chHeld pair ch || pKind (s.sfRec 1 pair) == 0 then s
    else
      let x := s.sfPair pair
      (s.setPair pair (if ch = 0 then { x with f1 := high } else { x with f2 := high })).sfSettle

/-- DISCREPANCY_TIMEOUT: a pair's timer reaches DISC_T (R437). -/
def execDiscrepancyTimeout (pair : Nat) (s : State) : Out :=
  .next <|
    let x := s.sfPair pair
    if !s.dieRuns || decide (32 ≤ pair) then s
    else if x.st = 1 then (s.setPair pair { x with st := 4, cause := 1, chan := 2 - x.first }).sfSettle
    else if x.st = 3 then (s.setPair pair { x with st := 4, cause := 1, chan := if s.chOn pair 0 then 1 else 2 }).sfSettle
    else s

/-- TWO_HAND_TIMEOUT: a couple's timer passes 500 ms in ARMING (R441). -/
def execTwoHandTimeout (couple : Nat) (s : State) : Out :=
  .next <|
    if s.dieRuns ∧ couple < 16 ∧ (s.sfCouple couple).st = 1 then (s.setCouple couple { s.sfCouple couple with st := 3 }).sfSettle else s

/-- TEST_PULSE_START: an enabled source goes low; no two are low together (R438). DEDUCED: notes/assumptions/68.md. -/
def execTestPulseStart (src : Nat) (s : State) : Out :=
  .next <|
    if s.dieRuns ∧ src < 16 ∧ bit (leAt (s.sfRec 3 src) 3 1) 0 ∧ s.sf.tpLow = none then
      (s.modSf fun z => { z with tpLow := some src }).emit (.ball "SF_TP" src 0)
    else s

/-- TEST_PULSE_CHECK: the level of a channel 10 µs before the end of the pulse of the source it names (R439). -/
def execTestPulseCheck (pair ch : Nat) (high : Bool) (s : State) : Out :=
  .next <|
    let x := s.sfPair pair
    if s.dieRuns && decide (pair < 32 ∧ ch < 2) && high && pKind (s.sfRec 1 pair) != 0 && s.sf.tpLow.isSome
        && s.sf.tpLow == pSrc (s.sfRec 1 pair) ch && x.st != 4 then
      (s.setPair pair { x with tpFail := true, chan := ch + 1 }).sfSettle
    else s

/-- TEST_PULSE_END: the source drives its ball high; filtered levels stay held for 100 µs more (R439). -/
def execTestPulseEnd (src : Nat) (s : State) : Out :=
  .next <|
    if s.sf.tpLow = some src then
      (s.modSf fun z => { z with tpLow := none, tpHold := tabSet (fun _ => 0) z.tpHold src (s.u + 1600000) }).emit (.ball "SF_TP" src 1)
    else s

/-! ### Rows of zones and outputs -/

/-- STOP_DELAY_EXPIRE: the stop delay of a zone is over (R446). -/
def execStopDelayExpire (zone : Nat) (s : State) : Out :=
  .next <|
    let x := s.sfZone zone
    if s.dieRuns && decide (zone < 16) && x.delay then (s.setZone zone { x with delay := false, run := false }).sfSettle else s

/-- The unlock test of a zone ends (R473): the lockout goes, or the zone stays LOCKED_OUT, with cause 4 when a step failed
(notes/assumptions/68.md). -/
def State.unlockDone (s : State) (z : Nat) (ok failed : Bool) : State :=
  let s := forEach (List.range 24) s fun i s =>
    let o := s.sfOut i
    if o.unlock then s.setOutput i { o with step := 0, unlock := false, fault := o.fault && !ok } else s
  let s := s.modSf fun x => { x with unlock := none }
  if ok then (s.setZone z { s.sfZone z with st := 1, lock := 0 }).modSf fun x => { x with locks := tabSet (fun _ => 0) x.locks z 0 }
  else if failed then s.lockZone z 4 true
  else s

/-- The step of a closing test ends; its readback agrees (R450). -/
def State.stepPassed (s : State) (i : Nat) : State :=
  let o := s.sfOut i
  if o.unlock ∧ 3 ≤ o.step then s.setOutput i { o with step := 0, unlock := true } else s.setOutput i { o with step := o.step + 1 }

/-- An output of an unlock test still has steps to do. -/
def State.unlocking (s : State) : Bool := (List.range 24).any fun i => (s.sfOut i).unlock && (s.sfOut i).step != 0

/-! ### Change log and check values -/

/-- The sources that a zone's pairs name, ascending. -/
def zoneSrcs (rec : Nat → Nat → List Byte) (z : Nat) : List Nat :=
  idxs 16 fun t => (pairsOf (zIn (rec 0 z))).any fun p => pSrc (rec 1 p) 0 == some t || pSrc (rec 1 p) 1 == some t

/-- The keys (kind, index) of a zone's records, in the order of R471. -/
def zoneKeys (rec : Nat → Nat → List Byte) (z : Nat) : List (Nat × Nat) :=
  [(0, z)] ++ (pairsOf (zIn (rec 0 z))).map (fun p => (1, p)) ++ (idxs 8 fun c => bit (zOut (rec 0 z)) (16 + c)).map (fun c => (2, c)) ++
    (zoneSrcs rec z).map fun t => (3, t)

/-- ZONE_CRC (R471). -/
def State.zoneCrc (s : State) (z : Nat) : Nat := crc32c ((zoneKeys s.sfRec z).flatMap fun k => s.sfRec k.1 k.2)

/-- A change-log entry is written (R470). -/
def State.sfLog (s : State) (stamp : W64) (zone action : Nat) : State :=
  let n := (s.sf.logSeq + 1) % 2 ^ 32
  let e := leBytes 8 stamp.toNat ++ leBytes 2 (s.sf.session.getD 0xFFFF) ++ leBytes 1 zone ++ leBytes 1 action ++ leBytes 4 n ++
    leBytes 4 (if zone < 16 then s.zoneCrc zone else 0) ++ List.replicate 8 0
  s.modSf fun x => { x with logSeq := n, log := (((e ++ leBytes 4 (crc32c e)) :: x.log).take 64) }

/-! ### Commands in the die -/

/-- A refusal by the state of a zone (R781). -/
def State.zoneReject (s : State) (z blk : Nat) : SfAns := { status := stReject, blk := blk, dim := 10, val := (s.sfZone z).st }

/-- An answer without more. -/
def okAns : SfAns := { status := stOK }

/-- SF_AUTH (R464, R466). -/
def State.dieAuth (s : State) (c : Cmd) (stamp : W64) : State × SfAns :=
  let user := c.u 16 2
  if s.sf.session.isSome then (s, { status := stBusy })
  else if s.sf.blocked then (s, { status := 0x42 })
  else
    let pw := leBytes (c.b 18) (c.u 24 32)
    if s.sf.hash = some (sha256 (s.sf.salt ++ pw)) then
      (s.modSf fun x => { x with session := some user, fails := 0 }, okAns)
    else
      let n := satU 8 (s.sf.fails + 1)
      let s := s.modSf fun x => { x with fails := n }
      let p := (0x0810, det [(16, 2, user), (18, 1, n)])
      if n < 5 then (s, { status := 0x40, posts := [p] })
      else ((s.modSf fun x => { x with blocked := true }).sfLog stamp 0xFF 4, { status := 0x40, posts := [p, (0x0811, det [(16, 2, user)])] })

/-- SF_SET_PASSWORD (R465): a new salt from the die's entropy source. -/
def State.dieSetPassword (s : State) (c : Cmd) (stamp : W64) : State × SfAns :=
  let (a, s) := s.takeFree
  let (b, s) := s.takeFree
  let salt := leBytes 8 a.toNat ++ leBytes 8 b.toNat
  let s := s.modSf fun x => { x with salt := salt, hash := some (sha256 (salt ++ leBytes (c.b 18) (c.u 24 32))) }
  (s.sfLog stamp 0xFF 1, okAns)

/-- SF_ZONE_BEGIN (R445). DEDUCED: notes/assumptions/68.md. -/
def State.dieBegin (s : State) (z : Nat) : State × SfAns :=
  let x := s.sfZone z
  if !(x.st == 1 || x.st == 2 && x.lock != 5 && x.lock != 6) || (outsOf (zOut (s.sfRec 0 z))).any fun i => !s.outOff i then (s, s.zoneReject z 0)
  else
    let s := s.setZone z { x with st := 3, back := (x.st, x.lock), run := false, delay := false }
    let s := s.modSf fun y => { y with staged := tabSet (fun _ => none) y.staged (sfKey 0 z) (some (s.sfRec 0 z)) }
    (s.sfSettle, okAns)

/-- A record is staged. -/
def State.stage (s : State) (kind i : Nat) (r : List Byte) : State × SfAns :=
  (s.modSf fun y => { y with staged := tabSet (fun _ => none) y.staged (sfKey kind i) (some r) }, okAns)

/-- The zones that a predicate on their record, in use or staged, selects. -/
def State.zonesWith (s : State) (p : (Nat → Nat → List Byte) → Nat → Bool) : List Nat := idxs 16 fun z => p s.sfRec z || p s.sfStg z

/-- The first zone of a list that is not CONFIGURING. -/
def State.notConfiguring (s : State) (l : List Nat) : Option Nat := l.find? fun z => (s.sfZone z).st != 3

/-- The zones that hold pair `p`. -/
def State.pairZones (s : State) (p : Nat) : List Nat := s.zonesWith fun rec z => bit (zIn (rec 0 z)) p
/-- The zones that own brake channel `c`. -/
def State.brakeZones (s : State) (c : Nat) : List Nat := s.zonesWith fun rec z => bit (zOut (rec 0 z)) (16 + c)
/-- The zones with a pair that names source `t`. -/
def State.srcZones (s : State) (t : Nat) : List Nat := idxs 16 fun z =>
  [s.sfRec, s.sfStg].any fun r1 => [s.sfRec, s.sfStg].any fun r2 =>
    (pairsOf (zIn (r1 0 z))).any fun p => pSrc (r2 1 p) 0 == some t || pSrc (r2 1 p) 1 == some t

/-- SF_ZONE_WRITE (R467). -/
def State.dieZoneWrite (s : State) (z : Nat) (r : List Byte) : State × SfAns :=
  let outs := outsOf (zOut (s.sfStg 0 z) ||| zOut r)
  let other := (List.range 16).find? fun k => k != z && zEn (s.sfRec 0 k) && (s.sfZone k).st != 3 && outs.any fun i => bit (zOut (s.sfRec 0 k)) i
  if (s.sfZone z).st ≠ 3 then (s, s.zoneReject z 0)
  else match other with
    | some k => (s, s.zoneReject k 0)
    | none => s.stage 0 z r

/-- SF_PAIR_WRITE, SF_TP_WRITE and SF_BRK_WRITE (R467): `l` are the zones concerned. -/
def State.dieWrite (s : State) (z kind i : Nat) (l : List Nat) (r : List Byte) : State × SfAns :=
  match s.notConfiguring l with
  | some k => (s, s.zoneReject k 0)
  | none => if kind = 2 ∧ l.isEmpty then (s, s.zoneReject z 0) else s.stage kind i r

/-- The checks of R468 on a zone's staged records: the number of the first that fails, 0 when all pass. -/
def State.commitCheck (s : State) (z : Nat) : Nat :=
  let r := s.sfStg 0 z
  let ps := pairsOf (zIn r)
  let pr := s.sfStg 1
  let brks := idxs 8 fun c => bit (zOut r) (16 + c)
  let between (lo hi x : Nat) : Bool := decide (lo ≤ x) && decide (x ≤ hi)
  let zoneOk := zCat r != 3 && leAt r 7 1 / 16 % 8 == 0 && between 0 10000 (leAt r 8 2) && between 0 3600 (leAt r 10 2) &&
    between 10 50 (leAt r 12 1) && between 10 100 (leAt r 13 1) && leAt r 14 2 == 0
  let pairOk (q : List Byte) : Bool := between 0 4 (pKind q) && decide (leAt q 1 1 < 4) && (!pStartup q || pKind q == 2) &&
    between 0 10000 (leAt q 2 2) && between 1 100 (leAt q 4 1) && between 0 100 (leAt q 5 1) && leAt q 6 1 / 16 % 8 == 0 && leAt q 7 1 / 16 % 8 == 0
  let srcOk (q : List Byte) : Bool := between 32 60000 (leAt q 0 2) && between 10 100 (leAt q 2 1) && decide (leAt q 3 1 < 2)
  let brkOk (q : List Byte) : Bool := between 1 250 (leAt q 6 1) && between 1 250 (leAt q 7 1)
  let couples := idxs 16 fun m => bit (zIn r) (2 * m) && pKind (pr (2 * m)) == 3
  let named (q : List Byte) : List Nat := [0, 1].filterMap fun ch => pSrc q ch
  if !(zoneOk && ps.all (fun p => pairOk (pr p)) && (zoneSrcs s.sfStg z).all (fun t => srcOk (s.sfStg 3 t)) && brks.all fun c => brkOk (s.sfStg 2 c)) then 1
  else if zEn r && (zIn r == 0 || zOut r == 0) then 2
  else if (List.range 16).any fun k => k != z && zEn (s.sfRec 0 k) && zOut (s.sfRec 0 k) &&& zOut r != 0 then 3
  else if ps.any fun p => pKind (pr p) == 0 || (pKind (pr p) == 3 && !(bit (zIn r) (p ^^^ 1) && pKind (pr (p ^^^ 1)) == 3)) then 4
  else if ps.any fun p => let q := pr p
      (pLogic q && pKind q != 2 && pKind q != 3) || (leAt q 5 1 != 0 && pKind q != 4) || (pKind q == 4 && !(named q).isEmpty) then 5
  else if ps.any fun p => let q := pr p
      (pLogic q && (pSrc q 1).isSome) || ((pSrc q 0).isSome && pSrc q 0 == pSrc q 1) || (named q).any fun t => !bit (leAt (s.sfStg 3 t) 3 1) 0 then 6
  else if zHold r && !(ps.any (fun p => pKind (pr p) == 2) && couples.length == 1) then 7
  else if !(if zCat r = 1 then decide (1 ≤ leAt r 8 2) else leAt r 8 2 == 0) then 8
  else if brks.any fun c => let q := s.sfStg 2 c; !(decide (leAt q 4 2 < leAt q 0 2) && decide (leAt q 0 2 < leAt q 2 2)) then 9
  else 0

/-- SF_ZONE_COMMIT up to the non-volatile write (R468, R469); none when that is to come. -/
def State.dieCommit (s : State) (z : Nat) : Option SfAns :=
  if (s.sfZone z).st ≠ 3 then some (s.zoneReject z 0)
  else
    let n := s.commitCheck z
    if n ≠ 0 then some { status := stBad, blk := n }
    else if (outsOf (zOut (s.sfRec 0 z) ||| zOut (s.sfStg 0 z))).any fun i => !s.outOff i then some { status := stAborted, blk := 1 }
    else none

/-- Staged records of a zone are no longer staged, those that another CONFIGURING zone shares apart. -/
def State.unstage (s : State) (z : Nat) : State :=
  let keep := (idxs 16 fun k => k != z && (s.sfZone k).st == 3).flatMap fun k => zoneKeys s.sfStg k
  let ks := (zoneKeys s.sfStg z).filter fun k => !keep.contains k
  s.modSf fun x => { x with staged := ks.foldl (fun t k => tabSet (fun _ => none) t (sfKey k.1 k.2) none) x.staged }

/-- The commit's write is done (R462, R469, R470). -/
def State.dieCommitted (s : State) (z : Nat) (stamp : W64) : State × SfAns :=
  let ks := zoneKeys s.sfStg z
  let recs := ks.foldl (fun t k => tabSet (fun _ => []) t (sfKey k.1 k.2) (s.sfStg k.1 k.2)) s.sf.recs
  let s := (s.modSf fun x => { x with recs := recs }).unstage z
  let a := s.sf.nvmA
  let b := s.sf.nvmB
  let n : SfNvm := ⟨true, max a.seq b.seq + 1, recs⟩
  let s := if !a.valid || (b.valid && decide (a.seq ≤ b.seq)) then s.modSf fun x => { x with nvmA := n } else s.modSf fun x => { x with nvmB := n }
  let s := if zEn (s.sfRec 0 z) then s.setZone z { s.sfZone z with st := 1, lock := 0 } else s.lockZone z 1 false
  let s := (s.sfLog stamp z 2).sfSettle
  (s, { status := stOK, posts := [(0x0833, det [(16, 1, z), (20, 4, s.zoneCrc z), (24, 4, s.sf.logSeq)])] })

/-- SF_ZONE_ABORT (R445). -/
def State.dieAbort (s : State) (z : Nat) : State × SfAns :=
  let x := s.sfZone z
  if x.st ≠ 3 then (s, s.zoneReject z 0)
  else ((s.unstage z).setZone z { x with st := x.back.1, lock := x.back.2 }, okAns)

/-- SF_ZONE_RESET (R447). -/
def State.dieReset (s : State) (mask : Nat) : State × SfAns :=
  let zs := idxs 16 (bit mask)
  let why (z : Nat) : Nat := if (s.sfZone z).st ≠ 1 then 6 else s.armFail z
  match zs.find? fun z => why z != 0 with
  | some z => (s, s.zoneReject z (why z))
  | none => ((forEach zs s fun z s => s.armZone z).sfSettle, okAns)

/-- SF_ZONE_UNLOCK (R445, R473): the test begins, or the answer. -/
def State.dieUnlock (s : State) (z : Nat) : State × Option SfAns :=
  let x := s.sfZone z
  if !(x.st == 2 && zEn (s.sfRec 0 z) && x.lock != 5 && x.lock != 6) then (s, some (s.zoneReject z 0))
  else
    let s := forEach (outsOf (zOut (s.sfRec 0 z))) s fun i s => s.setOutput i { s.sfOut i with step := 1, unlock := true, onTest := 0 }
    (s.modSf fun y => { y with unlock := some z }, none)

/-- SF_LOG_READ: 32 octets; an entry that was never written holds what the memory holds (notes/assumptions/5.md).
DEDUCED: notes/assumptions/68.md. -/
def State.dieLogRead (s : State) (n : Nat) : State × SfAns :=
  match s.sf.log[n]? with
  | some e => (s, { status := stOK, data := e })
  | none =>
    let (a, s) := s.takeFree
    let (b, s) := s.takeFree
    let (c, s) := s.takeFree
    let (d, s) := s.takeFree
    (s, { status := stOK, data := [a, b, c, d].flatMap fun w => leBytes 8 w.toNat })

/-- SF_READ_CFG (R477). -/
def State.dieReadCfg (s : State) (kind i copy : Nat) : SfAns :=
  if copy = 0 then { status := stOK, data := s.sfRec kind i }
  else
    let zs := match kind with | 0 => [i] | 1 => s.pairZones i | 2 => s.brakeZones i | _ => s.srcZones i
    if zs.any fun z => (s.sfZone z).st == 3 then { status := stOK, data := s.sfStg kind i } else s.zoneReject (zs.headD i) 0

/-- SF_LOCK_RETURNED (R472). -/
def State.dieLockReturned (s : State) (stamp : W64) : State × SfAns :=
  let s := forEach (List.range 16) s fun z s => s.lockZone z 6 true
  ((s.sfLog stamp 0xFF 5).sfSettle, okAns)

/-- Octets of a command's record. -/
def recAt (c : Cmd) (n : Nat) : List Byte := leBytes n (c.u 24 n)

/-- A command that needs a session. -/
def sessionOps : List Nat := [0x0802, 0x0803, 0x0804, 0x0805, 0x0806, 0x0807, 0x0808, 0x0809, 0x080A, 0x080C]

/-- The die takes a command: its answer, or none while a commit or an unlock test goes on. -/
def State.dieTake (s : State) (c : Cmd) (stamp : W64) : State × Option SfAns :=
  let z := c.b 16
  let ans (x : State × SfAns) : State × Option SfAns := (x.1, some x.2)
  if sessionOps.contains c.op ∧ s.sf.session.isNone ∧ !(c.op = 0x0803 ∧ s.sf.hash.isNone) then (s, some { status := 0x41 })
  else match c.op with
    | 0x0801 => ans (s.dieAuth c stamp)
    | 0x0802 => (s.modSf fun x => { x with session := none }, some okAns)
    | 0x0803 => ans (s.dieSetPassword c stamp)
    | 0x0804 => ans (s.dieBegin z)
    | 0x0805 => ans (s.dieZoneWrite z (recAt c 16))
    | 0x0806 => ans (s.dieWrite z 1 (c.b 17) (s.pairZones (c.b 17)) (recAt c 8))
    | 0x0807 => ans (s.dieWrite z 2 (c.b 17) (s.brakeZones (c.b 17)) (recAt c 8))
    | 0x0808 => ans (s.dieWrite z 3 (c.b 17) (s.srcZones (c.b 17)) (recAt c 4))
    | 0x0809 => (s, s.dieCommit z)
    | 0x080A => ans (s.dieAbort z)
    | 0x080B => ans (s.dieReset (c.u 16 2))
    | 0x080C => s.dieUnlock z
    | 0x080D => ans (s.dieLogRead z)
    | _ => (s, some (s.dieReadCfg z (c.b 17) (c.b 18)))

/-! ### The configuration port -/

/-- The message at the front of the port changes. -/
def State.modFront (s : State) (f : SfMsg → SfMsg) : State :=
  s.modSf fun x => { x with port := match x.port with | m :: t => f m :: t | [] => [] }

/-- The die takes the message at the front, when it works. -/
def State.takeFront (s : State) : State :=
  match s.sf.port with
  | [] => s
  | m :: _ =>
    let s := s.modFront fun m => { m with sent := s.u }
    if !s.sf.started then s
    else match m.cmd with
      | none => let (s, a) := s.dieLockReturned m.stamp; s.modFront fun m => { m with ans := some a }
      | some c =>
        let (s, a) := s.dieTake c m.stamp
        s.modFront fun m => { m with ans := a, commit := a.isNone && c.op == 0x0809 }

/-- Block 0x08 sends a message; it waits behind those before it. -/
def State.portSend (s : State) (c : Option Cmd) : State :=
  let first := s.sf.port.isEmpty
  let s := s.modSf fun x => { x with port := x.port ++ [{ cmd := c, stamp := s.cell, sent := s.u }] }
  if first then s.takeFront else s

/-- The message at the front is done. DEDUCED: notes/assumptions/68.md. -/
def State.portNext (s : State) : State := (s.modSf fun x => { x with port := x.port.drop 1 }).takeFront

/-- The unlock test has an outcome: the zone, and the answer to the command that began it. -/
def State.unlockEnd (s : State) (z : Nat) (ok : Bool) (reason : Nat) : State :=
  let s := s.unlockDone z ok (reason == 4)
  match s.sf.port with
  | m :: _ =>
    match m.cmd with
    | some c =>
      if c.op = 0x080C ∧ c.b 16 = z ∧ m.ans.isNone then
        let s := if ok then s.sfLog m.stamp z 3 else s
        s.modFront fun m => { m with ans := some (if ok then okAns else { status := stAborted, blk := reason }) }
      else s
    | none => s
  | [] => s

/-- CLOSING_TEST_STEP: a step of a closing or unlock test has lasted OT_DWELL; X and Y at its end (R450, R473). -/
def execClosingTestStep (out : Nat) (x y : Bool) (s : State) : Out :=
  .next <|
    let o := s.sfOut out
    if !(s.dieRuns && decide (out < 24 ∧ 1 ≤ o.step ∧ o.step ≤ 3)) then s
    else
      let s := s.setReadback out x y
      if rbOf o.sw = (x, y) then
        let s := s.stepPassed out
        match s.sf.unlock with
        | some z => if o.unlock && !s.unlocking then s.unlockEnd z true 0 else s
        | none => s
      else
        match s.sf.unlock with
        | some z => if o.unlock then s.unlockEnd z false 4 else s.outFault out 2
        | none => s.outFault out 2

/-- ON_TEST_START: ON_TEST_S has passed for a closed STO group (R451). -/
def execOnTestStart (group : Nat) (s : State) : Out :=
  .next <|
    let o := s.sfOut group
    match s.outZone group with
    | some z =>
      if s.dieRuns ∧ group < 16 ∧ o.step = 4 ∧ o.onTest = 0 ∧ leAt (s.sfRec 0 z) 10 2 ≠ 0 then
        s.setOutput group { o with onTest := if o.onLow then 2 else 1, onLow := !o.onLow }
      else s
    | none => s

/-- ON_TEST_END: OT_PULSE is over; X and Y at its end (R451). -/
def execOnTestEnd (group : Nat) (x y : Bool) (s : State) : Out :=
  .next <|
    let o := s.sfOut group
    if !(s.dieRuns && decide (group < 16 ∧ o.onTest ≠ 0)) then s
    else
      let s := s.setReadback group x y
      if (o.onTest == 1 && !x) || (o.onTest == 2 && y) then s.setOutput group { o with onTest := 0 } else s.outFault group 3

/-- READBACK_FAULT: outside the tests, X and Y have differed from R449 for more than 50 µs (R452). -/
def execReadbackFault (out : Nat) (x y : Bool) (s : State) : Out :=
  .next <|
    let o := s.sfOut out
    if s.dieRuns && decide (out < 24) && (o.step == 0 || o.step == 4) && o.onTest == 0 && !o.unlock && rbOf o.sw != (x, y) then
      (s.setReadback out x y).outFault out 1
    else s

/-- BRAKE_CURRENT_FAULT: the coil current of a channel after T_RISE, or after T_FALL (R454). -/
def execBrakeCurrentFault (brake ma : Nat) (s : State) : Out :=
  .next <|
    let o := s.sfOut (16 + brake)
    let r := s.sfRec 2 brake
    if !s.dieRuns || decide (8 ≤ brake) then s
    else
      let s := s.setCoil brake ma
      if (o.step = 4 ∧ (ma < leAt r 0 2 ∨ leAt r 2 2 < ma)) ∨ (o.step = 0 ∧ leAt r 4 2 < ma) then s.outFault (16 + brake) 4 else s

/-- The block drives a request line as asserted: every line in BOOT, CONFIG and life cycle RETURNED, in a reset of PD1 and on the standby
after a snapshot loss; else those that the servo requests (R44, R364, R458, R729). Layout of `SF_REQ`. -/
def State.reqLines (s : State) : Nat :=
  if s.mode ≤ 1 ∨ s.lifeCycle = 3 ∨ s.sf.forced then 0x80FFFFFF
  else s.fld Reg.SRV_REQ F.SRV_REQ_STO + s.fld Reg.SRV_REQ F.SRV_REQ_BRAKE * 65536

/-- REQUEST_LINE_CHANGE: the die sees line `line` (bit of `SF_REQ`) asserted, or released; only a line that block 0x08 does not assert
carries the square wave (R457). -/
def execRequestLineChange (line : Nat) (asserted : Bool) (s : State) : Out :=
  .next <|
    if !(line < 24 ∨ line = 31) || (!asserted && bit s.reqLines line) then s
    else (s.modSf fun x => { x with seen := setBit x.seen line asserted }).sfSettle

/-- The die enters DIE_FAULT: 1 clock, 2 channel disagreement, 3 supply, 4 temperature, 5 self-test (R433, R466). -/
def State.dieFails (s : State) (cause : Nat) : State :=
    if !s.dieRuns || decide (cause = 0 ∨ 5 < cause) then s
    else
      let z := s.sf.unlock
      let s := match z with | some z => s.unlockEnd z false 3 | none => s
      let s := s.modFront fun m => if m.commit then { m with commit := false, ans := some { status := stAborted, blk := 3 } } else m
      let s := s.modSf fun x => { x with dieFault := cause, session := none }
      let s := forEach (List.range 16) s fun z s => s.lockZone z 5 false
      forEach (List.range 24) s fun i s => s.setOutput i { s.sfOut i with step := 0, onTest := 0, unlock := false }

/-- DIE_FAULT. -/
def execDieFault (cause : Nat) (s : State) : Out := .next (s.dieFails cause)

/-- The configuration copy that the die uses at power-up (R462). DEDUCED: notes/assumptions/68.md. -/
def SfSt.nvm (x : SfSt) : Option SfNvm :=
  if x.nvmA.valid && x.nvmB.valid then some (if x.nvmA.seq < x.nvmB.seq then x.nvmB else x.nvmA)
  else if x.nvmA.valid then some x.nvmA
  else if x.nvmB.valid then some x.nvmB
  else none

/-- SF_POWER_UP: the die's power-on reset, self-test and start (R434, R462, R464, R466). -/
def execSfPowerUp (selfTestOk : Bool) (s : State) : Out :=
  .next <|
    let s := forEach (List.range 24) s fun i s => s.setOutput i {}
    let s := s.modSf fun x => { x with
      started := true, dieFault := if selfTestOk then 0 else 5, pairs := [], couples := [], zones := [], outs := [], staged := []
      recs := (x.nvm.map (·.recs)).getD [], session := none, tpLow := none, tpHold := [], outFaults := [], unlock := none }
    let s := forEach (List.range 16) s fun z s =>
      let held := tabGet (fun _ => 0) s.sf.locks z
      if !selfTestOk then s.lockZone z 5 false
      else if s.sf.nvm.isNone then s.lockZone z 7 false
      else if held ≠ 0 then s.lockZone z held true
      else if !zEn (s.sfRec 0 z) then s.lockZone z 1 false
      else s.setZone z {}
    let s := s.modFront fun m => { m with commit := false }
    let s := forEach (idxs 16 fun t => bit (leAt (s.sfRec 3 t) 3 1) 0) s fun t s => s.emit (.ball "SF_TP" t 1)
    s.sfSettle

/-- SF_SESSION_TIMEOUT: 600 s without a command that needs the session (R466). -/
def execSfSessionTimeout (s : State) : Out := .next (s.modSf fun x => { x with session := none })

/-- SF_AUTH_BLOCK_END: the 60 s of a block are over (R464). -/
def execSfAuthBlockEnd (s : State) : Out := .next (s.modSf fun x => { x with blocked := false })

end Sys2Proof.Machine
end

