-- ==== Sys2Proof/Machine/SafetyWin.lean ====
section
/-!
DEFINITION. Block 0x08, the safety island window (R457–R461, R474–R478): status frames, loss of the path, the commands that it passes to the
die over the configuration port.
-/
namespace Sys2Proof.Machine

/-! ### The window -/

/-- A zone's reported state changes: event 0x0830, and the groups on its STO groups react when it leaves ARMED (R48, R459). -/
def State.reportZone (s : State) (z new cause : Nat) : State :=
  let r := Reg.SF_ZONE z
  let old := s.fld r F.SF_ZONE_STATE
  if old = new then s
  else
    let s := (s.put r F.SF_ZONE_STATE new).postB 0x0830 [(16, 1, z), (17, 1, old), (18, 1, new), (19, 1, cause)]
    if old ≠ 0 then s
    else
      let cat := s.fld r F.SF_ZONE_STOP_CAT
      forEach (s.groups.filter fun g => (s.zonesOf g).contains z) s fun g s => s.modPg g fun x => { x with trips := x.trips ++ [cat] }

/-- The word of `SF_ZONE(z)`, STATE as reported so far. -/
def State.showZone (s : State) (z : Nat) : State :=
  let x := s.sfZone z
  let r := s.sfRec 0 z
  let pend := (pairsOf (zIn r)).any fun p => !s.startupDone p
  let w := x.lock * 2 ^ 24 + x.trip * 2 ^ 20 + zCat r * 2 ^ 18 + b2n x.delay * 2 ^ 17 + b2n pend * 2 ^ 16 + b2n (s.zoneDemand z) * 2 ^ 15 +
    s.fld (Reg.SF_ZONE z) F.SF_ZONE_STATE
  let s := s.setReg (Reg.SF_ZONE z) (BitVec.ofNat 32 w)
  let s := s.reportZone z x.st (if x.st = 2 then x.lock else x.trip)
  s.setReg (Reg.SF_ZONE_CRC z) (BitVec.ofNat 32 (s.zoneCrc z))

/-- A pair's fault is set or cleared: event 0x0831. -/
def State.showPairFault (s : State) (p : Nat) : State :=
  let x := s.sfPair p
  let now := x.st == 4 && pKind (s.sfRec 1 p) != 0
  let was := bit (s.reg Reg.SF_PAIR_FAULT).toNat p
  if now = was then s
  else
    let cause := if now then x.cause else tabGet (fun _ => 0) s.sf.repCause p
    let s := s.modSf fun y => { y with repCause := tabSet (fun _ => 0) y.repCause p (if now then x.cause else 0) }
    let s := s.setReg Reg.SF_PAIR_FAULT (BitVec.ofNat 32 (setBit (s.reg Reg.SF_PAIR_FAULT).toNat p now))
    s.postB 0x0831 [(16, 1, p), (17, 1, b2n was), (18, 1, cause), (19, 1, x.chan)]

/-- A mask of the outputs that satisfy a predicate, from output `lo`, `n` of them. -/
def State.outMask (s : State) (lo n : Nat) (p : SfOutput → Bool) : Nat :=
  (List.range n).foldl (fun m i => m + b2n (p (s.sfOut (lo + i))) * 2 ^ i) 0

/-- The fields of `SF_STO_OUT` to `SF_BRK_I`. -/
def State.showOutputs (s : State) : State :=
  let seen := s.sf.seen
  let shut (o : SfOutput) : Bool := o.sw.1 && o.sw.2
  let testing (o : SfOutput) : Bool := decide (1 ≤ o.step ∧ o.step ≤ 3)
  let sto := seen % 65536 * 65536 + s.outMask 0 16 shut
  let brk := s.outMask 16 8 (·.fault) * 2 ^ 24 + s.outMask 16 8 testing * 2 ^ 16 + seen / 65536 % 256 * 256 + s.outMask 16 8 shut
  let pair (p : Nat) : Nat := (if pKind (s.sfRec 1 p) = 0 then 7 else (s.sfPair p).st) + 8 * b2n (s.startupDone p)
  let couples := (List.range 16).foldl (fun m i => m + (s.sfCouple i).st * 4 ^ i) 0
  let s := s.setReg Reg.SF_REQ_SEEN (BitVec.ofNat 32 seen)
  let s := s.setReg Reg.SF_STO_OUT (BitVec.ofNat 32 sto)
  let s := s.setReg Reg.SF_STO_RB (BitVec.ofNat 32 (s.sf.rbY % 65536 * 65536 + s.sf.rbX % 65536))
  let s := s.setReg Reg.SF_BRK (BitVec.ofNat 32 brk)
  let s := s.setReg Reg.SF_COUPLE (BitVec.ofNat 32 couples)
  let s := forEach (List.range 4) s fun r s =>
    s.setReg (Reg.SF_PAIR_STATE r) (BitVec.ofNat 32 ((List.range 8).foldl (fun m i => m + pair (8 * r + i) * 16 ^ i) 0))
  let s := s.setReg Reg.SF_LOG_SEQ (BitVec.ofNat 32 s.sf.logSeq)
  forEach (List.range 8) s fun c s => s.setReg (Reg.SF_BRK_I c) (BitVec.ofNat 32 (min (s.coil c) 0xFFFF))

/-- The fields of `SF_STATUS`, and event 0x0834. -/
def State.showStatus (s : State) : State :=
  let r := Reg.SF_STATUS
  let x := s.sf
  let s := (s.put r F.SF_STATUS_PATH_OK 1).addWrap r F.SF_STATUS_FRAMES
  let s := (s.put r F.SF_STATUS_SESSION (b2n x.session.isSome)).put r F.SF_STATUS_AUTH_BLOCKED (b2n x.blocked)
  let s := (s.put r F.SF_STATUS_FRESH (b2n x.hash.isNone)).put r F.SF_STATUS_RETURNED_LOCK (b2n (x.locks.any fun e => e.2 == 6))
  let bad := x.dieFault != 0
  let s := s.put r F.SF_STATUS_DIE_FAULT (b2n bad)
  let s := s.modSf fun y => { y with repDie := bad }
  if bad && !x.repDie then s.postB 0x0834 [(16, 1, x.dieFault)] else s

/-- SF_STATUS_FRAME: a status frame arrives, its CRC right or wrong; `rb` is what the die reads back (R459, R460, R474–R476). -/
def execSfStatusFrame (crcOk : Bool) (rb : Readback) (s : State) : Out :=
  .next <|
    if !s.sf.started then s
    else if !crcOk then (s.addSat Reg.SF_PATH F.SF_PATH_CRC_ERR 1).modSf fun x => { x with crcBad := true }
    else
      let s := s.modSf fun x => { x with
        rbX := rb.x % 2 ^ 24, rbY := rb.y % 2 ^ 24, lastFrame := s.u, crcBad := false, lost := false }
      let s := forEach (List.range 8) s fun c s => s.setCoil c (rb.ma.getD c 0)
      let fs := s.sf.outFaults
      let s := (s.modSf fun x => { x with outFaults := [] }).showStatus
      let s := forEach fs s fun f s => s.postB 0x0832 [(16, 1, f.1), (17, 1, f.2.1), (18, 1, f.2.2)]
      let s := forEach (List.range 32) s fun p s => s.showPairFault p
      forEach (List.range 16) s.showOutputs fun z s => s.showZone z

/-- SF_PATH_LOSS: no valid frame for 30 µs (R460). DEDUCED: notes/assumptions/68.md. -/
def execSfPathLoss (s : State) : Out :=
  .next <|
    if s.sf.lost || decide (s.u < s.sf.lastFrame + 480000) then s
    else
      let cause := if s.sf.crcBad then 1 else 2
      let s := s.modSf fun x => { x with lost := true }
      let s := (s.put Reg.SF_STATUS F.SF_STATUS_PATH_OK 0).addSat Reg.SF_PATH F.SF_PATH_GAPS 1
      let s := forEach (List.range 16) s fun z s =>
        let s := s.put (Reg.SF_ZONE z) F.SF_ZONE_STALE 1
        if s.fld (Reg.SF_ZONE z) F.SF_ZONE_STATE = 0 then s.reportZone z 1 (s.fld (Reg.SF_ZONE z) F.SF_ZONE_TRIP_CAUSE) else s
      (s.setDefect dfSafety).postB 0x0812 [(16, 1, cause)]

/-! ### Commands (R461, R477) -/

/-- A command of block 0x08 that passes the checks goes to the die. -/
def State.sfCommand (s : State) (c : Cmd) (checks : List (Bool × Verdict)) : State :=
  s.judge c checks fun s => s.portSend (some c)

/-- A group with an axis on one of the zone's STO groups that is not DISABLED (R461). -/
def State.zoneBusy (s : State) (z : Nat) : Option Nat := s.groups.find? fun g => (s.zonesOf g).contains z && s.grpState g != 0

/-- SF_AUTH (R464). DEDUCED: notes/assumptions/68.md. -/
def execSfAuth (c : Cmd) (s : State) : Out :=
  let c := { c with op := 0x0801 }
  .next (s.sfCommand c (check1 c .pf [] ++ [(!c.onlyUses [(16, 2), (18, 1), (24, 32)] || decide (c.b 18 < 8 ∨ 32 < c.b 18), .bad)]))

/-- SF_LOGOUT (R466). -/
def execSfLogout (c : Cmd) (s : State) : Out :=
  let c := { c with op := 0x0802 }
  .next (s.sfCommand c (check1 c .pf [] ++ [(!c.onlyUses [], .bad)]))

/-- SF_SET_PASSWORD (R465). -/
def execSfSetPassword (c : Cmd) (s : State) : Out :=
  let c := { c with op := 0x0803 }
  .next (s.sfCommand c (check1 c .pf [] ++ [(!c.onlyUses [(18, 1), (24, 32)] || decide (c.b 18 < 8 ∨ 32 < c.b 18), .bad)]))

/-- SF_ZONE_BEGIN (R445, R461). -/
def execSfZoneBegin (c : Cmd) (s : State) : Out :=
  let c := { c with op := 0x0804 }
  let g := s.zoneBusy (c.b 16)
  .next (s.sfCommand c (check1 c .pf [] ++
    [ (!c.onlyUses [(16, 1)] || decide (16 ≤ c.b 16), .bad),
      (s.mode == mBoot, .reject 1 s.mode),
      (g.isSome, .reject 4 (s.grpState (g.getD 0))) ]))

/-- SF_ZONE_WRITE (R467). -/
def execSfZoneWrite (c : Cmd) (s : State) : Out :=
  let c := { c with op := 0x0805 }
  .next (s.sfCommand c (check1 c .pf [] ++ [(!c.onlyUses [(16, 1), (24, 16)] || decide (16 ≤ c.b 16), .bad)]))

/-- SF_PAIR_WRITE (R467). -/
def execSfPairWrite (c : Cmd) (s : State) : Out :=
  let c := { c with op := 0x0806 }
  .next (s.sfCommand c (check1 c .pf [] ++ [(!c.onlyUses [(16, 1), (17, 1), (24, 8)] || decide (16 ≤ c.b 16 ∨ 32 ≤ c.b 17), .bad)]))

/-- SF_BRK_WRITE (R467). -/
def execSfBrkWrite (c : Cmd) (s : State) : Out :=
  let c := { c with op := 0x0807 }
  .next (s.sfCommand c (check1 c .pf [] ++ [(!c.onlyUses [(16, 1), (17, 1), (24, 8)] || decide (16 ≤ c.b 16 ∨ 8 ≤ c.b 17), .bad)]))

/-- SF_TP_WRITE (R467). -/
def execSfTpWrite (c : Cmd) (s : State) : Out :=
  let c := { c with op := 0x0808 }
  .next (s.sfCommand c (check1 c .pf [] ++ [(!c.onlyUses [(16, 1), (17, 1), (24, 4)] || decide (16 ≤ c.b 16 ∨ 16 ≤ c.b 17), .bad)]))

/-- SF_ZONE_COMMIT (R468–R471); the commit ends with the die's answer. -/
def execSfZoneCommit (c : Cmd) (s : State) : Out :=
  let c := { c with op := 0x0809 }
  .next (s.sfCommand c (check1 c .pf [] ++
    [ (!c.onlyUses [(16, 1)] || decide (16 ≤ c.b 16), .bad),
      (s.sf.port.any fun m => match m.cmd with | some d => d.op == 0x0809 && d.b 16 == c.b 16 | none => false, .busy) ]))

/-- SF_ZONE_ABORT (R445). -/
def execSfZoneAbort (c : Cmd) (s : State) : Out :=
  let c := { c with op := 0x080A }
  .next (s.sfCommand c (check1 c .pf [] ++ [(!c.onlyUses [(16, 1)] || decide (16 ≤ c.b 16), .bad)]))

/-- SF_ZONE_RESET (R447). -/
def execSfZoneReset (c : Cmd) (s : State) : Out :=
  let c := { c with op := 0x080B }
  .next (s.sfCommand c (check1 c .pf [] ++ [(!c.onlyUses [(16, 2)], .bad)]))

/-- SF_ZONE_UNLOCK (R473). -/
def execSfZoneUnlock (c : Cmd) (s : State) : Out :=
  let c := { c with op := 0x080C }
  .next (s.sfCommand c (check1 c .pf [] ++ [(!c.onlyUses [(16, 1)] || decide (16 ≤ c.b 16), .bad)]))

/-- SF_LOG_READ (R470). -/
def execSfLogRead (c : Cmd) (s : State) : Out :=
  let c := { c with op := 0x080D }
  .next (s.sfCommand c (check1 c .pf [(c.u 24 8, 32)] ++
    [(!c.onlyUses [(16, 1), (24, 8)] || decide (64 ≤ c.b 16) || !sramFits (c.u 24 8) 32, .bad)]))

/-- SF_READ_CFG (R477). -/
def execSfReadCfg (c : Cmd) (s : State) : Out :=
  let c := { c with op := 0x080E }
  let k := c.b 16
  .next (s.sfCommand c (check1 c .pf [(c.u 24 8, sfSize k)] ++
    [(!c.onlyUses [(16, 1), (17, 1), (18, 1), (24, 8)] || decide (4 ≤ k ∨ sfCount k ≤ c.b 17 ∨ 2 ≤ c.b 18) || !sramFits (c.u 24 8) (sfSize k), .bad)]))

/-! ### Answers -/

/-- Data of an answer written where the command's address points (R279). -/
def State.answerData (s : State) (c : Cmd) (data : List Byte) : State :=
  if data.isEmpty then s
  else if isSram (c.u 24 8) then s.devWrite (c.u 24 8) data
  else s.hostWrite (fnOf c.who) (hostAddr (c.u 24 8)) data

/-- A command completes with the die's answer; SOURCE of the authentication fouls is the configuration port (R478). -/
def State.sfAnswered (s : State) (c : Cmd) (a : SfAns) : State :=
  let s := forEach a.posts s fun p s => s.post p.1 (if p.1 < 0x0812 then srcOf 8 0 else srcBlock 8) p.2
  let s := if a.status = stReject then s.post 0x0801 (srcInit 8 c.who) (refuseDet c a.dim a.val) else s
  (s.answerData c a.data).complete c a.status a.blk

/-- The die's answer to the message at the front, a commit's write included; `nvmFailed`: that write failed (R469). -/
def State.frontAnswer (s : State) (nvmFailed : Bool) : State × Option (SfMsg × SfAns) :=
  match s.sf.port with
  | [] => (s, none)
  | m :: _ =>
    if m.commit then
      if nvmFailed then (s, some (m, { status := stAborted, blk := 2 }))
      else
        match m.cmd with
        | some c => let (s, a) := s.dieCommitted (c.b 16) m.stamp; (s, some (m, a))
        | none => (s, none)
    else (s, m.ans.map fun a => (m, a))

/-- 500 ms have passed since the message at the front was sent. -/
def State.portSilent (s : State) : Option SfMsg :=
  match s.sf.port with
  | [] => none
  | m :: _ => if m.sent + 8000000000 ≤ s.u then some m else none

end Sys2Proof.Machine
end

