-- ==== Sys2Proof/Machine/LifeCycle.lean ====
section
/-!
DEFINITION. The life cycle (R683–R686): LC_ADVANCE, its record, the fuses; and the answers of the safety die, one of which a transition to
RETURNED waits for (R472, R477).
-/
namespace Sys2Proof.Machine

/-- Octets of a key hash in the fuses (0: none). -/
def State.fusedKey (s : State) (k : Nat) : Nat := tabGet (fun _ => 0) s.mem.fuse.keyHash k

/-- Key slot `k` is fused and not revoked, and its hash is that of a key of 96 octets (R632 check 3, R686 check 4). -/
def State.keyTrusted (s : State) (k : Nat) (key : List Byte) : Bool :=
  decide (k < 4) && s.fusedKey k != 0 && !bit s.mem.fuse.revoked k && ofBe (sha384 key) == s.fusedKey k

/-- The checks of R686 on a record: the number of the first that fails, 0 when all pass. DEDUCED: notes/assumptions/68.md. -/
def State.lcCheck (s : State) (target len : Nat) (r : List Byte) : Nat :=
  let hash (k : Nat) : Nat := ofBe (slice r (24 + 48 * k) 48)
  let key := slice r 216 96
  let signed := ecdsaOk key (slice r 312 96) (r.take 312)
  if !(leAt r 0 4 == 0x4359434C && leAt r 4 1 == target && leAt r 6 2 == 0 && leAt r 18 6 == 0 && len == 408) then 1
  else if leAt r 8 8 ≠ s.mem.fuse.serial.toNat then 2
  else if s.lifeCycle = 0 then (if (List.range 4).any (fun k => hash k != 0) && signed then 0 else 3)
  else if s.keyTrusted (leAt r 5 1) key && signed then 0
  else 4

/-- The fuses are burned and the secure partition's wipe begins (R684). -/
def State.lcBurn (s : State) (target : Nat) (r : List Byte) : State :=
  let f := s.mem.fuse
  let f := if target = 1 then { f with
    keyHash := (List.range 4).foldl (fun t k => tabSet (fun _ => 0) t k (ofBe (slice r (24 + 48 * k) 48))) f.keyHash
    svnMin := leAt r 16 2 } else f
  ({ s with mem := { s.mem with fuse := { f with lifeCycle := target }, lcFrom := some s.lifeCycle } }).startWipe 2

/-- The record has been read. -/
def State.lcRecord (s : State) (c : Cmd) (r : List Byte) : State :=
  let target := c.b 16
  let n := s.lcCheck target (c.u 32 4) r
  if n ≠ 0 then s.complete c 0x40 n
  else
    let s := { s with mem := { s.mem with lcCmd := some c } }
    if target = 3 then s.portSend none else s.lcBurn target r

/-- LC_ADVANCE (R684, R686). -/
def execLcAdvance (c : Cmd) (s : State) : Out :=
  let c := { c with op := 0x0D04 }
  let t := c.b 16
  let a := c.u 24 8
  let g := s.groups.find? fun g => s.grpState g != 0
  .next <| s.judge c
    (check1 c .pf [(a, 408)] ++
      [ (!c.onlyUses [(16, 1), (24, 8), (32, 4)] || decide (t = 0 ∨ 3 < t) || decide (sramSize < a + 408), .bad),
        (s.mode != mConfig, .reject 1 s.mode),
        (s.role != 0, .reject 2 s.role),
        (g.isSome, .reject 4 (s.grpState (g.getD 0))),
        (!(s.lifeCycle == 0 && t == 1 || s.lifeCycle == 1 && decide (2 ≤ t) || s.lifeCycle == 2 && t == 3)
          || s.mem.lcCmd.isSome || s.mem.lcResetDue, .reject 3 s.lifeCycle) ])
    fun s => s.withData c a 408 .pending fun r s => s.lcRecord c r

/-- The answer to SF_LOCK_RETURNED, or its absence: the transition to RETURNED goes on, or ends (R684). -/
def State.lockAnswered (s : State) (ok : Bool) : State :=
  match s.mem.lcCmd with
  | none => s
  | some c =>
    if ok then s.lcBurn 3 [] else ({ s with mem := { s.mem with lcCmd := none } }).complete c stAborted 1

/-- SF_CONFIG_ANSWER: the die's answer to the oldest message arrives (R477); `nvmFailed` says that a commit's non-volatile write
failed (R469). -/
def execSfConfigAnswer (nvmFailed : Bool) (s : State) : Out :=
  .next <|
    match s.frontAnswer nvmFailed with
    | (s, none) => s
    | (s, some (m, a)) =>
      let s := match m.cmd with
        | some c => s.sfAnswered c a
        | none => s.lockAnswered (a.status == stOK)
      s.portNext

/-- SF_CONFIG_TIMEOUT: no answer within 500 ms: TIMEOUT and foul 0x0813 (R477). -/
def execSfConfigTimeout (s : State) : Out :=
  .next <|
    match s.portSilent with
    | none => s
    | some m =>
      let op := match m.cmd with | some c => c.op | none => 0
      let s := s.post 0x0813 (srcBlock 8) (det [(16, 2, op)])
      let s := match m.cmd with
        | some c => s.complete c stTimeout 0
        | none => s.lockAnswered false
      s.portNext

end Sys2Proof.Machine
end

