-- ==== Sys2Proof/Machine/OptDyn.lean ====
section
/-!
DEFINITION. Block 0x05, mechanics: the dynamic table (R294–R298), recursive Newton-Euler and mass matrix (R299, R300), the
lumped DELTA model (R296), Jacobians, and the reference of a PATH move (R292, R293).
-/
namespace Sys2Proof.Machine

/-! ### The dynamic table (R294, R295, R297) -/

/-- A link record at an offset. -/
def linkOf (l : List Byte) (o : Nat) : OptLink where
  mass := f64At l o
  com := f64s l (o + 8) 3
  iner := f64s l (o + 32) 6
  arm := f64At l (o + 80)
  visc := f64At l (o + 88)
  coul := f64At l (o + 96)
  fore := f64At l (o + 104)

/-- The model of a table. -/
def dynOf (l : List Byte) : OptDyn where
  grav := f64s l 16 3
  pmass := f64At l 40
  pcom := f64s l 48 3
  piner := f64s l 72 6
  eff := f64At l 120
  links := (List.range (leAt l 6 1)).map fun j => linkOf l (128 + 128 * j)

/-- The checks of R297 on a table in `len` octets for `n` joints: the first that fails, 0 when none does. -/
def dynCheck (l : List Byte) (len n : Nat) : Nat :=
  let t := 132 + 128 * leAt l 6 1
  let d := dynOf l
  if !(leAt l 0 4 == 0x44594E47 && leAt l 4 2 == 1 && leAt l 8 4 == t && decide (t ≤ len) && crc32c (l.take (t - 4)) == leAt l (t - 4) 4) then 1
  else if leAt l 6 1 != n then 2
  else if !((d.grav ++ d.pcom ++ d.piner ++ [d.eff]).all dFinite && dNonneg d.pmass && d.links.all fun k =>
      dNonneg k.mass && (k.com ++ k.iner).all dFinite && [k.arm, k.visc, k.coul, k.fore].all dNonneg) then 3
  else 0

/-! ### Rigid bodies -/

/-- A twist or wrench about the cell's origin: angular part (or moment), linear part (or force). -/
abbrev Six := List Nat × List Nat

/-- Sum. -/ def sixAdd (a b : Six) : Six := (vAdd a.1 b.1, vAdd a.2 b.2)
/-- A multiple. -/ def sixScale (k : Nat) (a : Six) : Six := (vScale k a.1, vScale k a.2)
/-- The rate of a screw carried by a twist. -/
def sixCross (a s : Six) : Six := (cross a.1 s.1, vAdd (cross a.1 s.2) (cross a.2 s.1))
/-- Power of a wrench along a screw. -/
def sixDot (s f : Six) : Nat := dAdd (dDot s.1 f.1) (dDot s.2 f.2)
/-- A screw of the base frame moved by a transform. -/
def sixMove (t w v : List Nat) : Six :=
  let a := tfRot t w
  (a, vAdd (tfRot t v) (cross (tfPos t) a))

/-- A symmetric matrix Ixx, Iyy, Izz, Ixy, Ixz, Iyz applied to a vector. -/
def symMul (i x : List Nat) : List Nat :=
  [dDot [nth i 0, nth i 3, nth i 4] x, dDot [nth i 3, nth i 1, nth i 5] x, dDot [nth i 4, nth i 5, nth i 2] x]

/-- Screws of the joints in the cell frame at positions `q` (R231). -/
def PlModel.screws (m : PlModel) (q : List Nat) : List Six :=
  List.zipWith (fun t (j : PlJoint) => sixMove t j.w j.v) (m.base :: m.frames q) m.joints

/-- The wrench that a body needs: frame, mass, centre of mass and inertia in the frame, twist, rate of twist. -/
def bodyWrench (t : List Nat) (mass : Nat) (com iner : List Nat) (v a : Six) : Six :=
  let c := tfPoint t com
  let vc := vAdd v.2 (cross v.1 c)
  let ac := vAdd (vAdd a.2 (cross a.1 c)) (cross v.1 vc)
  let f := vScale mass ac
  let iw (x : List Nat) : List Nat := tfRot t (symMul iner (tfRotT t x))
  (vAdd (cross c f) (vAdd (iw a.1) (cross v.1 (iw v.1))), f)

/-- Twists and rates of the links from those of the base. -/
def linkRates : Six → Six → List (Six × Nat × Nat) → List (Six × Six)
  | _, _, [] => []
  | v, a, (s, qd, qdd) :: t =>
    let v' := sixAdd v (sixScale qd s)
    let a' := sixAdd (sixAdd a (sixScale qdd s)) (sixScale qd (sixCross v s))
    (v', a') :: linkRates v' a' t

/-- Torques from the tip: each joint carries the wrenches of its own link and of all later ones. -/
def tipSum : List Six → List Six
  | [] => []
  | w :: t => let r := tipSum t; sixAdd w (r.headD (zeros 3, zeros 3)) :: r

/-- Recursive Newton-Euler inverse dynamics of a serial model with its payload, gravity `g` (R299).
DESIGN CHOICE: notes/assumptions/60.md. -/
def rneSerial (m : PlModel) (d : OptDyn) (g q qd qdd : List Nat) : List Nat :=
  let ss := m.screws q
  let fs := m.frames q
  let rates := linkRates (zeros 3, zeros 3) (zeros 3, g.map dNeg) (ss.zipIdx.map fun x => (x.1, nth qd x.2, nth qdd x.2))
  let own := rates.zipIdx.map fun x =>
    let k := d.links.getD x.2 ⟨0, zeros 3, zeros 6, 0, 0, 0, 0⟩
    bodyWrench (fs.getD x.2 tfId) k.mass k.com k.iner x.1.1 x.1.2
  let last := rates.length - 1
  let pay := match rates.getLast?, m.toolPose q with
    | some r, some t => bodyWrench t d.pmass d.pcom d.piner r.1 r.2
    | _, _ => (zeros 3, zeros 3)
  let own := own.zipIdx.map fun x => if x.2 = last then sixAdd x.1 pay else x.1
  List.zipWith sixDot ss (tipSum own)

/-! ### The lumped DELTA model (R296), in the base frame -/

/-- Vectors s_i = c + EFF_RADIUS u_i − E_i. -/
def deltaFore (d q c : List Nat) : List (List Nat) :=
  (List.range 3).map fun i => vSub (vAdd c (vScale (nth d 1) (deltaDir i))) (deltaElbow d i (nth q i))
/-- dE_i/dθ_i. -/
def deltaElbowRate (d q : List Nat) (i : Nat) : List Nat :=
  vAdd (vScale (dNeg (dMul (nth d 2) (Config.sin64 (nth q i)))) (deltaDir i)) [0, 0, dNeg (dMul (nth d 2) (Config.cos64 (nth q i)))]
/-- x with s_i · x = r_i. -/
def solve3 (s : List (List Nat)) (r : List Nat) : List Nat :=
  let a := s.getD 0 []
  let b := s.getD 1 []
  let c := s.getD 2 []
  let bc := cross b c
  let det := dDot a bc
  vScale (dDiv d1 det) (vAdd (vAdd (vScale (nth r 0) bc) (vScale (nth r 1) (cross c a))) (vScale (nth r 2) (cross a b)))
/-- The columns of J_c. DEDUCED: notes/assumptions/64.md. -/
def deltaJac (d q c : List Nat) : List (List Nat) :=
  let s := deltaFore d q c
  (List.range 3).map fun i =>
    solve3 s ((List.range 3).map fun k => if k = i then dDot (s.getD i []) (deltaElbowRate d q i) else 0)
/-- m_E. DEDUCED: notes/assumptions/64.md. -/
def deltaMass (d : OptDyn) : Nat :=
  dAdd (dAdd d.eff d.pmass) (dMul dHalf (dSum ((d.links.take 3).map (·.fore))))
/-- Axis of arm `i`: ẑ × u_i. -/
def deltaAxis (i : Nat) : List Nat := cross [0, 0, d1] (deltaDir i)
/-- Centre of mass of arm `i` from its joint, at position `th`. -/
def deltaArm (g : List Nat) (k : OptLink) (i th : Nat) : List Nat :=
  tfRot (screwExp (deltaAxis i) (zeros 3) th) (vSub k.com (vScale (nth g 0) (deltaDir i)))

/-- Bias torques of a DELTA model for gravity `gr` in the cell frame (R296). DEDUCED: notes/assumptions/64.md. -/
def biasDelta (m : PlModel) (d : OptDyn) (gr q qd : List Nat) : Option (List Nat) :=
  (deltaCentre m.delta q).map fun c =>
    let g := tfRotT m.base gr
    let j := deltaJac m.delta q c
    let s := deltaFore m.delta q c
    let er (i : Nat) : List Nat := deltaElbowRate m.delta q i
    let cd := (List.range 3).foldl (fun x i => vAdd x (vScale (nth qd i) (j.getD i []))) (zeros 3)
    let acc := solve3 s ((List.range 3).map fun i =>
      let ed2 := vScale (dNeg (dSq (nth qd i))) (vSub (deltaElbow m.delta i (nth q i)) (vScale (nth m.delta 0) (deltaDir i)))
      let sd := vSub cd (vScale (nth qd i) (er i))
      dSub (dDot (s.getD i []) ed2) (dDot sd sd))
    let f := vScale (deltaMass d) (vSub acc g)
    (List.range m.joints.length).map fun i =>
      if i = 3 then 0
      else
        let k := d.links.getD i ⟨0, zeros 3, zeros 6, 0, 0, 0, 0⟩
        dSub (dSub (dDot (j.getD i []) f) (dMul k.mass (dDot g (cross (deltaAxis i) (deltaArm m.delta k i (nth q i))))))
          (dMul (dMul dHalf k.fore) (dDot g (er i)))

/-- I_i of R296. -/
def deltaInertia (m : PlModel) (k : OptLink) (i : Nat) : Nat :=
  let n := deltaAxis i
  let r := vSub k.com (vScale (nth m.delta 0) (deltaDir i))
  let own := dAdd (dDot n (symMul k.iner n)) (dMul k.mass (dSub (dDot r r) (dSq (dDot n r))))
  dAdd (dAdd k.arm own) (dMul (dMul dHalf k.fore) (dSq (nth m.delta 2)))

/-! ### Bias, mass matrix, pose and Jacobian (R299) -/

/-- RNE(q, q̇, 0) with gravity; none when R232 has no solution. -/
def biasOf (m : PlModel) (d : OptDyn) (q qd : List Nat) : Option (List Nat) :=
  if m.kind = 3 then biasDelta m d d.grav q qd else some (rneSerial m d d.grav q qd (zeros q.length))

/-- Sign, with sgn(0) = 0. -/
def dSgn (x : Nat) : Nat := if dLt 0 x then d1 else if dLt x 0 then dNeg d1 else 0

/-- b_i of R299: the bias with friction. -/
def fullBias (m : PlModel) (d : OptDyn) (q qd : List Nat) : Option (List Nat) :=
  (biasOf m d q qd).map fun b => b.zipIdx.map fun x =>
    let v := nth qd x.2
    match d.links[x.2]? with
    | some k => dAdd (dAdd x.1 (dMul k.visc v)) (dMul k.coul (dSgn v))
    | none => x.1

/-- The mass matrix with ARMATURE on its diagonal, by rows (notes/assumptions/60.md on its order of operations). -/
def massOf (m : PlModel) (d : OptDyn) (q : List Nat) : Option (List (List Nat)) :=
  let n := m.joints.length
  let arm (i : Nat) : Nat := ((d.links[i]?).map (·.arm)).getD 0
  if m.kind = 3 then
    (deltaCentre m.delta q).map fun c =>
      let j := deltaJac m.delta q c
      (List.range n).map fun r => (List.range n).map fun k =>
        if r = 3 ∨ k = 3 then (if r = k then arm 3 else 0)
        else
          let x := dMul (deltaMass d) (dDot (j.getD r []) (j.getD k []))
          match d.links[r]? with
          | some l => if r = k then dAdd (deltaInertia m l r) x else x
          | none => x
  else
    let cols := (List.range n).map fun k =>
      rneSerial m d (zeros 3) q (zeros n) ((List.range n).map fun i => if i = k then d1 else 0)
    some ((List.range n).map fun r => (List.range n).map fun k =>
      let x := nth (cols.getD k []) r
      if r = k then dAdd x (arm r) else x)

/-- The tool pose and the columns of J_p and J_o at `q`. -/
def jacOf (m : PlModel) (q : List Nat) : Option (List Nat × List (List Nat) × List (List Nat)) :=
  (m.toolPose q).bind fun t =>
    let p := tfPos t
    if m.kind = 3 then
      (deltaCentre m.delta q).map fun c =>
        let z := tfRot m.base [0, 0, d1]
        let jp := (deltaJac m.delta q c).map (tfRot m.base)
        let k := m.joints.length
        (t, if k = 4 then jp ++ [cross z (vSub p (tfPoint m.base c))] else jp,
          if k = 4 then List.replicate 3 (zeros 3) ++ [z] else List.replicate 3 (zeros 3))
    else
      let ss := m.screws q
      some (t, ss.map fun s => vAdd s.2 (cross s.1 p), ss.map (·.1))

/-! ### The reference of a PATH move (R292, R293) -/

/-- A reference path: start pose and the record. -/
structure RefPath where
  p : List Nat
  q : List Nat
  data : List Byte

/-- TARGET_P -/ def RefPath.tp (r : RefPath) : List Nat := f64s r.data 40 3
/-- TARGET_Q -/ def RefPath.tq (r : RefPath) : List Nat := f64s r.data 64 4

/-- Centre, first radius, second radius and angle of the arc through VIA; none for LINE, or when the points lie on one line. -/
def RefPath.arcOf (r : RefPath) : Option (List Nat × List Nat × List Nat × Nat) :=
  if leAt r.data 1 1 = 0 then none
  else
    let a := vSub (f64s r.data 96 3) r.p
    let b := vSub r.tp r.p
    let n := cross a b
    let nn := dDot n n
    if dEq nn 0 then none
    else
      let o := vScale (dDiv d1 (dMul d2 nn)) (vSub (vScale (dDot a a) (cross b n)) (vScale (dDot b b) (cross a n)))
      let e := o.map dNeg
      let f := cross (vScale (dDiv d1 (dSqrt nn)) n) e
      let t := vSub b o
      let ang := Config.acos64 (dClamp d1 (dDiv (dDot e t) (dDot e e)))
      some (vAdd r.p o, e, f, if dNegative (dDot f t) then dSub (dMul d2 (Config.acos64 (dNeg d1))) ang else ang)

/-- L -/
def RefPath.len (r : RefPath) : Nat :=
  match r.arcOf with
  | some (_, e, _, a) => dMul (vNorm e) a
  | none => vNorm (vSub r.tp r.p)
/-- Θ -/
def RefPath.angle (r : RefPath) : Nat := qAngle r.q r.tq

/-- The reference at progress `u`: position and orientation. -/
def RefPath.at (r : RefPath) (u : Nat) : List Nat × List Nat :=
  (match r.arcOf with
    | some (c, e, f, a) => vAdd c (vAdd (vScale (Config.cos64 (dMul u a)) e) (vScale (Config.sin64 (dMul u a)) f))
    | none => vAdd r.p (vScale u (vSub r.tp r.p)),
   slerp r.q r.tq u)

/-- ρ of R292; none when L and Θ are both 0. -/
def RefPath.rate (r : RefPath) : Option Nat :=
  let l := r.len
  let a := r.angle
  let v := dDiv (f64At r.data 8) l
  let w := dDiv (f64At r.data 16) a
  if dEq l 0 then (if dEq a 0 then none else some w) else if dEq a 0 then some v else some (dMin v w)

/-- The path of the next move: its start pose is this one's target. -/
def RefPath.next (r : RefPath) (data : List Byte) : RefPath := ⟨r.tp, r.tq, data⟩

/-- Blend radius of two paths. -/
def blendRadius (a b : RefPath) : Nat := dMin (f64At a.data 120) (dMin (dMul dHalf a.len) (dMul dHalf b.len))

/-- The reference at distance `d` from the start of `a` along the pair of paths, blended within `r` of the corner (R293). -/
def pairAt (a b : RefPath) (r d : Nat) : List Nat × List Nat :=
  let la := a.len
  if dLe d (dSub la r) then a.at (dDiv d la)
  else if dLe (dAdd la r) d then b.at (dMin d1 (dDiv (dSub d la) b.len))
  else
    let t := dDiv (dSub d (dSub la r)) (dMul d2 r)
    let e := a.at (dDiv (dSub la r) la)
    let x := b.at (dDiv r b.len)
    let s := dSub d1 t
    (vAdd (vScale (dSq s) e.1) (vAdd (vScale (dMul d2 (dMul t s)) a.tp) (vScale (dSq t) x.1)), slerp e.2 x.2 t)

/-- The reference at progress `u` of a path with the path before it while its blend lasts, and the one after it when it is to be
blended in. -/
def refAt (before : Option RefPath) (cur : RefPath) (after : Option RefPath) (u : Nat) : List Nat × List Nat :=
  let l := cur.len
  let r0 := match before with | some a => blendRadius a cur | none => 0
  match before, after with
  | some a, _ =>
    if dLt (dMul u l) r0 then pairAt a cur r0 (dAdd a.len (dMul u l))
    else match after with
      | some b => pairAt cur b (blendRadius cur b) (dMul u l)
      | none => cur.at (dMin d1 u)
  | none, some b => if dEq l 0 then cur.at (dMin d1 u) else pairAt cur b (blendRadius cur b) (dMul u l)
  | none, none => cur.at (dMin d1 u)

end Sys2Proof.Machine
end

