-- ==== Sys2Proof/Machine/OptSolve.lean ====
section
/-!
DEFINITION. Block 0x05, the solver: assembly of the quadratic program (R286–R289, R299) and the interior-point iteration
(R309–R317). The order of operations within an iteration is the compiled stream's, which the spec does not give:
DESIGN CHOICE, notes/assumptions/60.md. Entries that are exactly 0 count as structural zeros.
-/
namespace Sys2Proof.Machine

/-! ### Arithmetic (R314) -/

/-- FTZ: a subnormal datum becomes zero of the same sign. -/
def ftz (z : Bool) (x : Nat) : Nat := if z && x / 2 ^ 52 % 2048 == 0 then x / 2 ^ 63 * 2 ^ 63 else x
/-- Sum. -/ def qa (z : Bool) (a b : Nat) : Nat := ftz z (dAdd a b)
/-- Difference. -/ def qs (z : Bool) (a b : Nat) : Nat := ftz z (dSub a b)
/-- Product. -/ def qm (z : Bool) (a b : Nat) : Nat := ftz z (dMul a b)
/-- Quotient. -/ def qd (z : Bool) (a b : Nat) : Nat := ftz z (dDiv a b)
/-- Fused a × b + c, which rounds once. -/ def qf (z : Bool) (a b c : Nat) : Nat := ftz z (f64.fma 0 a b c).1
/-- a × b + c where a is a matrix entry. -/
def qe (z : Bool) (a b c : Nat) : Nat := if dEq a 0 then c else qf z a b c
/-- A row times a vector. -/
def rowDot (z : Bool) (r x : List Nat) : Nat := (List.zip r x).foldl (fun s p => qe z p.1 p.2 s) 0
/-- A matrix times a vector. -/
def matVec (z : Bool) (m : List (List Nat)) (x : List Nat) : List Nat := m.map fun r => rowDot z r x
/-- `acc` + mᵀ y. -/
def matTVec (z : Bool) (m : List (List Nat)) (y acc : List Nat) : List Nat :=
  (List.zip m y).foldl (fun s p => List.zipWith (fun a c => qe z a p.2 c) p.1 s) acc
/-- acc + k r rᵀ. -/
def addOuter (z : Bool) (h : List (List Nat)) (k : Nat) (r : List Nat) : List (List Nat) :=
  List.zipWith (fun ri row => if dEq ri 0 then row else let c := qm z k ri; List.zipWith (fun rj x => qe z rj c x) r row) r h
/-- The largest magnitude. -/
def normInf (v : List Nat) : Nat := vMaxAbs v

/-! ### Assembly (R287–R289) -/

/-- A linear expression of the variables: terms (index, coefficient) and a constant. -/
abbrev LinExp := List (Nat × Nat) × Nat

/-- k q_(i),j: a variable for i ≥ 1, else the constant of knot 0 or −1. -/
def qTerm (n : Nat) (q0 qm1 : List Nat) (k : Nat) (i : Int) (j : Nat) : LinExp :=
  if 1 ≤ i then ([(n * (i.toNat - 1) + j, k)], 0)
  else ([], dMul k (nth (if i = 0 then q0 else qm1) j))
/-- Sum of expressions. -/
def linSum (l : List LinExp) : LinExp := (l.flatMap (·.1), dSum (l.map (·.2)))
/-- A multiple. -/
def linScale (k : Nat) (e : LinExp) : LinExp := (e.1.map fun x => (x.1, dMul k x.2), dMul k e.2)
/-- The row of an expression over `nv` variables. -/
def denseRow (nv : Nat) (e : LinExp) : List Nat :=
  e.1.foldl (fun r t => r.set t.1 (dAdd (r.getD t.1 0) t.2)) (zeros nv)

/-- What a solve starts from: model, dynamics, limits V and A per joint, knot 0, the linearisation points q̄, v̄ of
knots 0 … K, the references of knots 1 … K. -/
structure OptInput where
  m : PlModel
  d : OptDyn
  lims : List (Nat × Nat × Nat)
  q0 : List Nat
  v0 : List Nat
  qb : List (List Nat)
  vb : List (List Nat)
  refs : List (List Nat × List Nat)

/-- Assembly at the knots: M_i and b_i for i = 0 … K−1, pose and Jacobian for i = 1 … K; none, with the knot, when a value
is not finite or R232 has no solution (R301). -/
def asmKnots (x : OptInput) (k : Nat) :
    Except Nat (List (List (List Nat) × List Nat) × List (List Nat × List (List Nat) × List (List Nat))) :=
  let dyn := (List.range k).map fun i =>
    match massOf x.m x.d (x.qb.getD i []), fullBias x.m x.d (x.qb.getD i []) (x.vb.getD i []) with
    | some a, some b => if a.all (·.all dFinite) && b.all dFinite then some (a, b) else none
    | _, _ => none
  let jac := (List.range k).map fun i =>
    match jacOf x.m (x.qb.getD (i + 1) []) with
    | some j => if j.1.all dFinite && j.2.1.all (·.all dFinite) && j.2.2.all (·.all dFinite) then some j else none
    | none => none
  match (dyn.findIdx? Option.isNone), (jac.findIdx? Option.isNone) with
  | some i, some j => .error (min i (j + 1))
  | some i, none => .error i
  | none, some j => .error (j + 1)
  | none, none => .ok (dyn.filterMap id, jac.filterMap id)

/-- −∞ and +∞ of a bound (R289). -/
def boundInf (x : Nat) : Bool := dLe (dOfInt (10 ^ 300)) (dAbs x)

/-- The quadratic program of template `t` (R288). -/
def assemble (p : List Byte) (t : Nat) (h : Nat) (x : OptInput) : Except Nat OptProb :=
  let n := tmN p t
  let k := tmK p t
  let nv := 2 * n * k
  let terms := tmTerms p t
  let z := bit (tmFlags p t) 0
  match asmKnots x k with
  | .error i => .error i
  | .ok (dyn, jac) =>
    let qm1 := vSub x.q0 (vScale h x.v0)
    let Q (c : Nat) (i : Int) (j : Nat) : LinExp := qTerm n x.q0 qm1 c i j
    let h2 := dDiv d1 (dSq h)
    let acc (i j : Nat) : LinExp :=
      linSum [Q h2 (i + 1) j, Q (dNeg (dMul d2 h2)) i j, Q h2 ((i : Int) - 1) j]
    let tau (i j c : Nat) : LinExp := ([(n * k + n * i + j, c)], 0)
    let js := List.range n
    let ks := List.range k
    let eqs := ks.flatMap fun i => js.map fun r =>
      let M := (dyn.getD i ([], [])).1
      let e := linSum ((js.map fun j => linScale (nth (M.getD r []) j) (acc i j)) ++ [tau i r (dNeg d1)])
      (denseRow nv e, dSub (dNeg (nth (dyn.getD i ([], [])).2 r)) e.2)
    -- deviations of the pose from the reference at knot i + 1
    let dev (lin : Bool) (i a : Nat) : LinExp :=
      let J := jac.getD i ([], [], [])
      let cols := if lin then J.2.1 else J.2.2
      let ref := x.refs.getD i ([], [])
      let c0 := if lin then dSub (nth (tfPos J.1) a) (nth ref.1 a) else nth (rotVec (tfQuat J.1) ref.2) a
      let qb := x.qb.getD (i + 1) []
      linSum ((js.map fun j =>
        let c := nth (cols.getD j []) a
        (([(n * i + j, c)], dNeg (dMul c (nth qb j))) : LinExp)) ++ [([], c0)])
    let axes (lin : Bool) : List LinExp := ks.flatMap fun i => (List.range 3).map fun a => dev lin i a
    let cost (w : Nat) (l : List LinExp) : List (Nat × LinExp) := if dLt 0 w then l.map fun e => (w, e) else []
    let costs := cost (tmReal p t 48) (axes true) ++ cost (tmReal p t 56) (axes false)
      ++ cost (tmReal p t 64) (ks.flatMap fun i => js.map fun j => acc i j)
      ++ cost (tmReal p t 72) (ks.flatMap fun i => js.map fun j =>
          linSum [tau i j d1, ([], dNeg (nth (dyn.getD i ([], [])).2 j))])
    let H := costs.foldl (fun H c => addOuter z H c.1 (denseRow nv c.2)) (List.replicate nv (zeros nv))
    let g := costs.foldl (fun g c => List.zipWith (fun r y => qe z r (qm z c.1 c.2.2) y) (denseRow nv c.2) g) (zeros nv)
    let lim (j : Nat) := x.lims.getD j (0, 0, 0)
    let jt (j : Nat) : PlJoint := x.m.joints.getD j ⟨0, 0, [], [], 0, 0, 0, 0, 0, 0, 0, 0⟩
    let sym (e : LinExp) (b : Nat) : LinExp × Nat × Nat := (e, dNeg b, b)
    let fam (on : Nat) (l : List (LinExp × Nat × Nat)) : List (LinExp × Nat × Nat) := if bit terms on then l else []
    let rows := fam 0 (ks.flatMap fun (i : Nat) => js.map fun j => (Q d1 ((i : Int) + 1) j, (jt j).pmin, (jt j).pmax))
      ++ fam 1 (ks.flatMap fun (i : Nat) => js.map fun j =>
          let c := dDiv d1 h
          sym (linSum [Q c ((i : Int) + 1) j, Q (dNeg c) i j]) (lim j).1)
      ++ fam 2 (ks.flatMap fun i => js.map fun j => sym (acc i j) (lim j).2.1)
      ++ fam 3 (ks.flatMap fun i => js.map fun j => sym (tau i j d1) (jt j).trq)
      ++ fam 4 ((axes true).map fun e => sym e (tmReal p t 80))
      ++ fam 5 ((axes false).map fun e => sym e (tmReal p t 88))
    let shift (b c : Nat) : Nat := if boundInf b then b else dSub b c
    let o : OptProb := {
      H := H, g := g, A := eqs.map (·.1), b := eqs.map (·.2), C := rows.map fun r => denseRow nv r.1
      l := rows.map fun r => shift r.2.1 r.1.2, u := rows.map fun r => shift r.2.2 r.1.2 }
    if (o.H ++ o.A ++ o.C ++ [o.g, o.b, o.l, o.u]).all (·.all dFinite) then .ok o
    else .error 0

/-! ### LDLᵀ in the template's order (R310, R315) -/

/-- A column of the factor: D, 1/D, and L below the diagonal. -/
abbrev LCol := Nat × Nat × List Nat

/-- Factorises a symmetric matrix given by rows, with fuel its size. DESIGN CHOICE: notes/assumptions/60.md. -/
def factor (z : Bool) : Nat → List (List Nat) → List LCol
  | 0, _ => []
  | f + 1, rows =>
    match rows with
    | [] => []
    | r :: rest =>
      let d := r.headD 0
      let inv := qd z d1 d
      let k := r.drop 1
      let l := k.map fun x => if dEq x 0 then 0 else qm z x inv
      let sub := List.zipWith (fun row li => List.zipWith (fun x kj => if dEq li 0 || dEq kj 0 then x else qf z (dNeg li) kj x) (row.drop 1) k) rest l
      (d, inv, l) :: factor z f sub

/-- L w = r. -/
def forwardSub (z : Bool) : List LCol → List Nat → List Nat
  | (_, _, l) :: t, x :: xs => x :: forwardSub z t (List.zipWith (fun li y => if dEq li 0 then y else qf z (dNeg li) x y) l xs)
  | _, _ => []

/-- Lᵀ x = y / D. -/
def backSub (z : Bool) : List LCol → List Nat → List Nat
  | (_, inv, l) :: t, y :: ys =>
    let xs := backSub z t ys
    qs z (qm z y inv) (rowDot z l xs) :: xs
  | _, _ => []

/-- Solves K x = r for a factor in `order` (canonical index of each elimination position); x in canonical order. -/
def factorSolve (z : Bool) (cols : List LCol) (order r : List Nat) : List Nat :=
  let w := backSub z cols (forwardSub z cols (order.map fun c => nth r c))
  (List.range r.length).map fun c => nth w (order.idxOf c)

/-! ### The iteration (R309–R312) -/

/-- Rows of one side with a finite bound. -/
def sideOn (b : List Nat) : List Bool := b.map fun x => !boundInf x

/-- Values on the sides in use, 0 elsewhere. -/
def onSide (on : List Bool) (v : List Nat) : List Nat := List.zipWith (fun o x => if o then x else 0) on v

/-- The residuals and μ of a point (R310, step 1): r_d, r_p, r_l, r_u, μ. -/
def residuals (z : Bool) (p : OptProb) (it : OptIter) : List Nat × List Nat × List Nat × List Nat × Nat :=
  let lo := sideOn p.l
  let hi := sideOn p.u
  let cx := matVec z p.C it.x
  let zz := List.zipWith (qs z) (onSide hi it.zu) (onSide lo it.zl)
  let rd := matTVec z p.C zz (matTVec z p.A it.y (List.zipWith (qa z) (matVec z p.H it.x) p.g))
  let rp := List.zipWith (qs z) (matVec z p.A it.x) p.b
  let rl := onSide lo (List.zipWith (qs z) (List.zipWith (qs z) cx it.sl) p.l)
  let ru := onSide hi (List.zipWith (qs z) (List.zipWith (qa z) cx it.su) p.u)
  let mc := lo.countP id + hi.countP id
  let sum := rowDot z (onSide hi it.su) it.zu
  let sum := (List.zip (onSide lo it.sl) it.zl).foldl (fun s q => qe z q.1 q.2 s) sum
  (rd, rp, rl, ru, if mc = 0 then 0 else qd z sum (dOfInt mc))

/-- Steps of the slacks and duals of both sides. -/
abbrev SideSteps := List Nat × List Nat × List Nat × List Nat

/-- Step 3 of R310 for given t_l, t_u: Δx, Δy and the steps of the sides. -/
def newton (z : Bool) (p : OptProb) (it : OptIter) (cols : List LCol) (order : List Nat)
    (rd rp rl ru tl tu : List Nat) : List Nat × List Nat × SideSteps :=
  let lo := sideOn p.l
  let hi := sideOn p.u
  let z2 (f : Nat → Nat → Nat) := List.zipWith f
  let rhoL := onSide lo (z2 (qd z) (z2 (qs z) tl (z2 (qm z) it.zl rl)) it.sl)
  let rhoU := onSide hi (z2 (qd z) (z2 (qa z) tu (z2 (qm z) it.zu ru)) it.su)
  let top := matTVec z p.C (z2 (qs z) rhoL rhoU) (rd.map dNeg)
  let s := factorSolve z cols order (top ++ rp.map dNeg)
  let dx := s.take rd.length
  let cdx := matVec z p.C dx
  let dsl := onSide lo (z2 (qa z) cdx rl)
  let dsu := onSide hi (z2 (qs z) (cdx.map dNeg) ru)
  let dzl := onSide lo (z2 (qd z) (z2 (qs z) tl (z2 (qm z) it.zl dsl)) it.sl)
  let dzu := onSide hi (z2 (qd z) (z2 (qs z) tu (z2 (qm z) it.zu dsu)) it.su)
  (dx, s.drop rd.length, dsl, dsu, dzl, dzu)

/-- The largest step that keeps every value ≥ 0; +∞ when none falls. -/
def maxStep (z : Bool) (v d : List Nat) : Nat :=
  (List.zip v d).foldl (fun a p => if dNegative p.2 then dMin a (qd z (dNeg p.1) p.2) else a) dInf

/-- What an iteration gives: the new point, α_p, α_d, its norms (r_p with r_l and r_u, r_d, μ), or the first non-finite value
(phase, canonical index, elimination position). -/
inductive IterOut where
  | ok (it : OptIter) (ap ad : Nat) (norms : List Nat)
  | bad (nf : Nat × Nat × Nat)

/-- The norms of a point (R312, R328). -/
def iterNorms (z : Bool) (p : OptProb) (it : OptIter) : List Nat :=
  let (rd, rp, rl, ru, mu) := residuals z p it
  [dMax (normInf rp) (dMax (normInf rl) (normInf ru)), normInf rd, mu]

/-- K of R310 by rows in canonical order. -/
def kkt (z : Bool) (p : OptProb) (it : OptIter) : List (List Nat) :=
  let sig := List.zipWith (qa z) (onSide (sideOn p.l) (List.zipWith (qd z) it.zl it.sl)) (onSide (sideOn p.u) (List.zipWith (qd z) it.zu it.su))
  let h := (List.zip p.C sig).foldl (fun h r => if dEq r.2 0 then h else addOuter z h r.2 r.1) p.H
  let me := p.A.length
  (h.zipIdx.map fun r => r.1 ++ p.A.map fun a => nth a r.2) ++ p.A.map fun a => a ++ zeros me

/-- One iteration (R310, R317). DEDUCED: notes/assumptions/63.md. -/
def iterate (z : Bool) (order : List Nat) (p : OptProb) (it : OptIter) : IterOut :=
  let (rd, rp, rl, ru, mu) := residuals z p it
  let K := kkt z p it
  let perm := order.map fun r => let row := K.getD r []; order.map fun c => nth row c
  let cols := factor z order.length perm
  match cols.findIdx? fun c => !(dFinite c.1 && c.2.2.all dFinite) with
  | some k => .bad (3, nth order k, k)
  | none =>
    let lo := sideOn p.l
    let hi := sideOn p.u
    let neg (a b : List Nat) : List Nat := List.zipWith (fun x y => dNeg (qm z x y)) a b
    let tl := onSide lo (neg it.sl it.zl)
    let tu := onSide hi (neg it.su it.zu)
    let (ax, ay, al, au, bl, bu) := newton z p it cols order rd rp rl ru tl tu
    let s := it.sl ++ it.su
    let zd := it.zl ++ it.zu
    let sa := dMin d1 (maxStep z s (al ++ au))
    let za := dMin d1 (maxStep z zd (bl ++ bu))
    let mc := lo.countP id + hi.countP id
    let gap := (List.zip (List.zip s (al ++ au)) (List.zip zd (bl ++ bu))).foldl (fun x q =>
      qe z (qf z sa q.1.2 q.1.1) (qf z za q.2.2 q.2.1) x) 0
    let muA := if mc = 0 then 0 else qd z gap (dOfInt mc)
    let sig := if mc = 0 then 0 else let r := qd z muA mu; qm z r (qm z r r)
    let cen := qm z sig mu
    let cor (t a b : List Nat) : List Nat := List.zipWith (fun t ab => qs z (qa z cen t) ab) t (List.zipWith (qm z) a b)
    let (dx, dy, dl, du, el, eu) := newton z p it cols order rd rp rl ru (onSide lo (cor tl al bl)) (onSide hi (cor tu au bu))
    let both := ax ++ ay
    let both2 := dx ++ dy
    match both.findIdx? (fun v => !dFinite v), both2.findIdx? (fun v => !dFinite v) with
    | some k, _ => .bad (4, k, 0x7FF)
    | none, some k => .bad (4, k, 0x7FF)
    | none, none =>
      let lim := dRatio 995 1000
      let ap := dMin d1 (qm z lim (maxStep z s (dl ++ du)))
      let ad := dMin d1 (qm z lim (maxStep z zd (el ++ eu)))
      let upd (k : Nat) (v d : List Nat) : List Nat := List.zipWith (fun x y => qf z k y x) v d
      let n : OptIter := ⟨upd ap it.x dx, upd ad it.y dy, upd ap it.sl dl, upd ap it.su du, upd ad it.zl el, upd ad it.zu eu⟩
      match (n.x ++ n.y).findIdx? (fun v => !dFinite v) with
      | some k => .bad (5, k, 0x7FF)
      | none =>
        if (n.sl ++ n.su ++ n.zl ++ n.zu).all dFinite then .ok n ap ad (iterNorms z p n) else .bad (5, 0, 0x7FF)

/-- The initial point (R309): x0, then slacks from the rows' distances and INIT. -/
def initPoint (z : Bool) (p : OptProb) (x0 : List Nat) (init : Nat) : OptIter :=
  let cx := matVec z p.C x0
  let side (on : List Bool) (d : List Nat) : List Nat := onSide on (d.map fun v => dMax v init)
  let lo := sideOn p.l
  let hi := sideOn p.u
  { x := x0, y := zeros p.A.length
    sl := side lo (List.zipWith (qs z) cx p.l), su := side hi (List.zipWith (qs z) p.u cx)
    zl := lo.map fun o => if o then init else 0, zu := hi.map fun o => if o then init else 0 }

/-- Knots and torques of a point: q_1 … q_K and τ_0 … τ_(K−1). -/
def knotsOf (n k : Nat) (x : List Nat) : List (List Nat) × List (List Nat) :=
  ((List.range k).map fun i => (x.drop (n * i)).take n, (List.range k).map fun i => (x.drop (n * k + n * i)).take n)

end Sys2Proof.Machine
end

