-- ==== Sys2Proof/Machine/Optimiser.lean ====
section
/-!
DEFINITION. Block 0x05, the optimiser in a planning tick: freeze (R285, R290–R293, R298), gravity jobs and iterations (R300, R312),
deadline (R320–R322), tick boundary (R307, R308, R323–R325) and commands (R335).
-/
namespace Sys2Proof.Machine

/-! ### Freeze -/

/-- The PATH move that group `g` is to be solved for at a freeze (R285). -/
def State.pathHead (s : State) (g : Nat) : Option PlMove :=
  let z := s.pg g
  match z.queue with
  | m :: _ =>
    let st := s.grpState g
    if m.kind = 1 ∧ m.frozen ∧ (st = gsMoving ∨ (st = gsStandstill ∧ z.ready ∧ !s.stopReq g)) then some m else none
  | [] => none

/-- The PATH move queued with BLEND behind the head, when its blend radius is not 0 (R293). -/
def State.blendAfter (s : State) (g : Nat) (r : RefPath) : Option RefPath :=
  match (s.pg g).queue with
  | _ :: m :: _ =>
    let n := r.next m.data
    if m.kind = 1 ∧ m.blend ∧ m.frozen ∧ dLt 0 (blendRadius r n) then some n else none
  | _ => none

/-- The path that the head blends out of, while it does. -/
def OptGrp.before (o : OptGrp) : Option RefPath := o.blendFrom.map fun x => ⟨x.1, x.2.1, x.2.2⟩

/-- The payload commands that wait take effect (R298): event 0x0533. -/
def State.payloadFreeze (s : State) (g : Nat) : State :=
  let l := (s.og g).payload
  forEach l (s.modOg g fun o => { o with payload := [] }) fun c s =>
    let s := s.modOg g fun o => { o with dyn := o.dyn.map fun d => { d with
      pmass := c.u 16 8, pcom := [c.u 24 8, c.u 32 8, c.u 40 8]
      piner := [of32 (BitVec.ofNat 32 (c.u 48 4)), of32 (BitVec.ofNat 32 (c.u 52 4)), of32 (BitVec.ofNat 32 (c.u 56 4)), 0, 0, 0] } }
    (s.postB 0x0533 [(16, 1, g), (24, 8, c.u 16 8)]).complete c stOK 0

/-- The active move ends blended into the next (R293): end 1, event 0x0430. -/
def State.pathBlend (s : State) (g : Nat) (r n : RefPath) (u : Nat) : State :=
  match (s.pg g).queue with
  | a :: b :: t =>
    let s := (s.modPg g fun z => { z with queue := b :: t, active := true, missed := 0 }).complete a.cmd stOK 1
    let s := (s.showQueue g).postB 0x0430 [(16, 1, g), (18, 1, b.kind), (20, 4, b.cmd.tag.toNat)]
    s.modOg g fun o => { o with
      blendFrom := some (r.p, r.q, r.data), startP := n.p, startQ := n.q, returned := false
      u := dDiv (dMul (dSub u d1) r.len) n.len }
  | _ => s

/-- Knot times: a previous solution as a plan, and a knot's time in it. -/
def OptSol.plan (o : OptSol) : PlPlan := .path o.q0 o.v0 o.knots o.taus o.h

/-- The solve of a tick starts with its assembly (R290–R292, R299, R309). DEDUCED: notes/assumptions/63.md. -/
def State.beginSolve (s : State) (g : Nat) : State :=
  match s.pathHead g, (s.pg g).model, (s.og g).dyn with
  | some m0, some md, some dy =>
    let mask := s.groupClu g
    if mask.isEmpty then
      (s.modOg g fun o => { o with early := 0x0A }).postB 0x0514 [(16, 1, g), (17, 1, s.activeClu.length)]
    else
      let z := s.pg g
      let o := s.og g
      let first := !o.started
      let (p, t) := s.planNext g
      let kn := (p.at z.q t).1
      let q0 := if first then z.measQ else kn.map (·.1)
      let v0 := if first then z.measV else kn.map (·.2.1)
      let start := md.toolPose z.measQ
      let ov := s.ovEff g
      -- progress at knot 0
      let r : RefPath := if first then ⟨tfPos (start.getD tfId), tfQuat (start.getD tfId), m0.data⟩ else ⟨o.startP, o.startQ, m0.data⟩
      let after := s.blendAfter g r
      let rho := r.rate
      let lim (x : Nat) : Nat := if after.isSome then x else dMin d1 x
      let u0 := if first then 0 else match rho with
        | some k => lim (dAdd o.u (dMul (dMul ov s.dTick) k))
        | none => d1
      let s := s.modOg g fun o => { o with
        started := true, startP := r.p, startQ := r.q, u := u0, returned := o.returned && !first
        blendFrom := match o.before with
          | some a => if dLt (dMul u0 r.len) (blendRadius a r) then o.blendFrom else none
          | none => none }
      let switch := match after with
        | some n => !first && dLt (dSub r.len (blendRadius r n)) (dMul u0 r.len)
        | none => false
      let s := match after, switch with
        | some n, true => s.pathBlend g r n u0
        | _, _ => s
      -- the head after a blend
      let o := s.og g
      let mv := (s.pg g).queue.headD m0
      let t := leAt mv.data 2 1
      let prog := s.optProg
      let K := tmK prog t
      let h := dRatio (tmH prog t * s.bankUs s.bankUsed : Nat) 1000000
      let r : RefPath := ⟨o.startP, o.startQ, mv.data⟩
      let after := s.blendAfter g r
      let us := (List.range K).foldl (fun l _ =>
        let x := l.getLastD o.u
        l ++ [match r.rate with
          | some k => let y := dAdd x (dMul (dMul ov h) k); if after.isSome then y else dMin d1 y
          | none => d1]) [o.u]
      let sol := if first then none else o.sol
      let at0 := match sol with
        | some x => dSecs (timeDiff (s.actTime 1) x.time)
        | none => 0
      let prev (i : Nat) : List Pva × Option (List Nat) := match sol with
        | some x => x.plan.at q0 (dAdd at0 (dMul (dOfInt i) h))
        | none => (q0.map fun x => (x, 0, 0), none)
      let inp : OptInput := {
        m := md, d := dy, lims := z.lims, q0 := q0, v0 := v0
        qb := q0 :: (List.range K).map fun i => (prev (i + 1)).1.map (·.1)
        vb := v0 :: (List.range K).map fun i => (prev (i + 1)).1.map (·.2.1)
        refs := (us.drop 1).map fun u => refAt o.before r after u }
      let fail (knot : Nat) : State :=
        (s.modOg g fun o => { o with early := 0x09 }).postB 0x0513 [(16, 1, g), (17, 1, knot), (18, 1, 0)]
      if start.isNone ∧ first then fail 0
      else match assemble prog t h inp with
        | .error i => fail i
        | .ok pr =>
          let z := bit (tmFlags prog t) 0
          let pr := if z then { pr with
            H := pr.H.map (·.map (ftz z)), g := pr.g.map (ftz z), A := pr.A.map (·.map (ftz z)), b := pr.b.map (ftz z)
            C := pr.C.map (·.map (ftz z)), l := pr.l.map (ftz z), u := pr.u.map (ftz z) } else pr
          let warm := bit (tmFlags prog t) 1 && sol.isSome
          let b0 := (fullBias md dy q0 v0).getD []
          let x0 := ((List.range K).flatMap fun i => if warm then (prev (i + 1)).1.map (·.1) else q0)
            ++ (List.range K).flatMap fun i => if warm then ((prev i).2).getD b0 else b0
          let it := initPoint z pr x0 (tmReal prog t 120)
          s.modOg g fun o => { o with solve := some ⟨t, mask, q0, v0, h, pr, it, false, 0, 0, [0, 0, 0], (0, 0, 0)⟩ }
  | _, _, _ => s

/-- The optimiser's part of a freeze (R285, R298). DEDUCED: notes/assumptions/63.md. -/
def State.optFreeze (s : State) : State :=
  if 2 ≤ s.role then s
  else
    forEach s.groups s fun g s =>
      let s := s.payloadFreeze g
      let s := s.modOg g fun o => { o with solve := none, early := 0, gravDue := o.dyn.isSome && s.grpState g != gsFaulted }
      s.beginSolve g

/-! ### Work of the tick -/

/-- The cluster of a group's gravity job (R283). -/
def State.gravClu (s : State) (g : Nat) : Option Nat :=
  let n := s.activeClu.length
  if n = 0 then none else s.activeClu[g % n]?

/-- A gravity job comes to an end in this tick: due, no earlier one on its cluster, the cluster works. -/
def State.gravTurn (s : State) (g : Nat) : Bool :=
  (s.og g).gravDue && (match s.gravClu g with
    | some c => !s.opt.faulted.contains c && s.groups.all fun k => !(decide (k < g) && s.gravClu k == some c && (s.og k).gravDue)
    | none => false)

/-- GRAVITY_JOB_DONE (R300, R301). -/
def execGravityJobDone (g : Nat) (s : State) : Out :=
  .next <|
    if s.groups.contains g && s.gravTurn g then
      let s := s.modOg g fun o => { o with gravDue := false }
      match (s.pg g).model, (s.og g).dyn with
      | some m, some d =>
        let r := biasOf m d (s.pg g).measQ (zeros m.joints.length)
        match r with
        | some v => if v.all dFinite then s.modPg g fun z => { z with gravNext := some v }
            else s.postB 0x0513 [(16, 1, g), (17, 1, 0), (18, 1, 1)]
        | none => s.postB 0x0513 [(16, 1, g), (17, 1, 0), (18, 1, 1)]
      | _, _ => s
    else s

/-- Every cluster of the group's solve has finished its earlier items (R283). -/
def State.solveTurn (s : State) (g : Nat) (sv : OptSolve) : Bool :=
  (s.groups.all fun k => !((s.og k).gravDue && (s.gravClu k).any sv.mask.contains)) &&
  s.groups.all fun k => !(decide (k < g) && (match (s.og k).solve with
    | some x => x.status == 0 && x.mask.any sv.mask.contains
    | none => false))

/-- SOLVE_ITERATION_DONE (R312, R317, R318, R330): the exception flags are the compiled stream's (free values); `corr` has a bit for each
cluster that corrected an error of its memory. -/
def execSolveIterationDone (g corr : Nat) (s : State) : Out :=
  .next <|
    match (s.og g).solve with
    | none => s
    | some sv =>
      if sv.status ≠ 0 ∨ !s.solveTurn g sv then s
      else
        let p := s.optProg
        let t := sv.tmpl
        let (fl, s) := s.takeFree
        let s := forEach sv.mask s fun c s =>
          s.setReg (Reg.OPT_CLU_FLAGS c) (s.reg (Reg.OPT_CLU_FLAGS c) ||| BitVec.ofNat 32 (fl.toNat % 16))
        let s := forEach (sv.mask.filter (bit corr)) s fun c s => s.addSat (Reg.OPT_CLU_STATUS c) F.OPT_CLU_STATUS_ECC_CORR 1
        let put (x : OptSolve) (s : State) : State := s.modOg g fun o => { o with solve := some x }
        match iterate (bit (tmFlags p t) 0) (tmOrder p t) sv.prob sv.it with
        | .bad (ph, canon, elim) =>
          (put { sv with status := 5, nf := (ph, canon, elim) } s).postB 0x0510
            [(16, 1, g), (17, 1, ph), (18, 2, elim), (20, 2, canon), (22, 1, sv.iters + 1)]
        | .ok it ap ad norms =>
          let n := sv.iters + 1
          let small := dRatio 1 10000000000
          let st :=
            if dLe (nth norms 0) (tmReal p t 96) && dLe (nth norms 1) (tmReal p t 104) && dLe (nth norms 2) (tmReal p t 112) then 1
            else if dLt ap small && dLt ad small then 3
            else if n = tmIter p t then 2
            else 0
          put { sv with it := it, whole := true, iters := n, norms := norms, status := st } s

/-- CLUSTER_FAULT (R325): cause 1 uncorrectable error, 2 schedule overrun. -/
def execClusterFault (clu : Nat) (cause : Nat) (s : State) : Out :=
  .next <|
    if s.activeClu.contains clu && !s.opt.faulted.contains clu && decide (cause = 1 ∨ cause = 2) then
      let s := s.modOpt fun z => { z with faulted := z.faulted ++ [clu] }
      let s := forEach s.groups s fun g s => s.modOg g fun o => { o with
        solve := o.solve.map fun x => if x.mask.contains clu then { x with status := 0x0B } else x }
      s.postB 0x0515 [(16, 1, clu), (17, 1, cause)]
    else s

/-! ### Deadline (R313, R320–R322, R332) -/

/-- Start and end in cycles from the freeze of each solve of the tick (R283), by group. DEDUCED: notes/assumptions/63.md. -/
def State.solveTimes (s : State) : List (Nat × List Nat × Nat × Nat) :=
  let act := s.activeClu
  let B := s.tickBudget s.opt.pct 1400
  let t0 := (List.range 8).map fun c => (s.gravTimes act.length).getD (act.idxOf c) 0
  (s.groups.foldl (fun (a : List (Nat × List Nat × Nat × Nat) × List Nat) g =>
    match (s.og g).solve with
    | none => a
    | some x =>
      let st := startItem a.2 x.mask
      let n := x.iters + (if x.status = 5 then 1 else 0)
      let e := if x.status = 0 then max st B else st + tmAsm s.optProg x.tmpl + n * tmCyc s.optProg x.tmpl x.mask.length
      (a.1 ++ [(g, x.mask, st, e)], endItem a.2 x.mask e)) ([], t0)).1

/-- A status returns the last complete iterate (R313). -/
def returnsSolution (status iters : Nat) : Bool := (decide (1 ≤ status ∧ status ≤ 4)) || (status == 5 && decide (1 ≤ iters))

/-- The end of one group's solve at the deadline; `phase` says where it stands: 0 between iterations, else a phase of R333. -/
def State.endSolve (s : State) (g phase : Nat) (times : List (Nat × List Nat × Nat × Nat)) : State :=
  let o := s.og g
  let r := Reg.OPT_GRP_STATUS g
  match o.solve with
  | none =>
    let s := s.put r F.OPT_GRP_STATUS_STATUS o.early
    if o.early = 0 then s
    else
      let s := (s.put r F.OPT_GRP_STATUS_SOLUTION 0).put r F.OPT_GRP_STATUS_ITER 0
      if o.early = 9 then s.setReg (Reg.OPT_GRP_NFCOL g) (BitVec.ofNat 32 (2 ^ 28 + 0x7FF)) else s
  | some x =>
    let tm := (times.find? fun e => e.1 == g).getD (g, [], 0, 0)
    let turn := s.solveTurn g x
    let st := if x.status ≠ 0 then x.status else if x.iters = 0 ∨ !turn then 8 else 4
    let mid := decide (st = 4 ∧ phase = 3)
    let s :=
      if x.status ≠ 0 then s
      else if st = 8 then
        s.postB 0x0511 [(16, 1, g), (17, 1, if turn then (if phase = 0 then 1 else phase) else 0), (24, 8, tm.2.2.2 - tm.2.2.1)]
      else s.postB 0x0512 [(16, 1, g), (17, 1, x.iters), (18, 1, b2n mid)]
    let good := returnsSolution st x.iters
    let s := s.setReg r (BitVec.ofNat 32 (widthLog x.mask.length * 2 ^ 26 + b2n mid * 2 ^ 25 + b2n good * 2 ^ 24 + x.tmpl * 2 ^ 16 + x.iters * 2 ^ 8 + st))
    let s := s.setReg (Reg.OPT_GRP_NFCOL g) (BitVec.ofNat 32 (x.nf.1 * 2 ^ 28 + x.nf.2.1 * 2 ^ 16 + x.nf.2.2))
    let s := s.setReg (Reg.OPT_GRP_CYC g) (BitVec.ofNat 32 tm.2.2.2)
    if !good then s
    else
      let s := ((s.setReg (Reg.OPT_GRP_RP g) (to32 (nth x.norms 0))).setReg (Reg.OPT_GRP_RD g) (to32 (nth x.norms 1))).setReg
        (Reg.OPT_GRP_MU g) (to32 (nth x.norms 2))
      let n := x.q0.length
      let (ks, ts) := knotsOf n (x.it.x.length / (2 * max 1 n)) x.it.x
      let s := s.modOg g fun o => { o with
        sol := some ⟨s.actTime 1, s.pl.tick, st, x.iters, x.tmpl, x.q0, x.v0, ks, ts, x.h⟩, returned := true }
      s.modPg g fun z => { z with next := some (.path x.q0 x.v0 ks ts x.h) }

/-- Every cluster stops; solutions and statuses are taken (R321, R322). `stands`: group and phase. -/
def State.optDeadline (s : State) (stands : List (Nat × Nat)) : State :=
  let times := s.solveTimes
  let B := s.tickBudget s.opt.pct 1400
  let act := s.activeClu
  let s := forEach act s fun c s =>
    let g := (s.gravTimes act.length).getD (act.idxOf c) 0
    let w := times.foldl (fun a e => if e.2.1.contains c then a + (min B e.2.2.2 - min B e.2.2.1) else a) (min B g)
    s.setReg (Reg.OPT_CLU_BUSY c) (BitVec.ofNat 32 w)
  let s := forEach s.groups s fun g s =>
    s.endSolve g (((stands.find? fun x => x.1 == g).map (·.2)).getD 0) times
  let s := s.setReg Reg.OPT_TICK (BitVec.ofNat 32 s.pl.tick)
  s

/-- After the planner has taken them. -/
def State.optIdle (s : State) : State :=
  forEach s.groups s fun g s => s.modOg g fun o => { o with solve := none, gravDue := false, early := 0 }

/-- What a cluster is doing (R330): STATE and GROUP. -/
def State.cluState (s : State) (c : Nat) : Nat × Nat :=
  if (s.lentClu).contains c then (4, 0)
  else if (s.retiredClu).contains c then (5, 0)
  else
    match s.groups.find? fun g => (s.og g).gravDue && s.gravClu g == some c with
    | some g => (1, g)
    | none =>
      match s.groups.find? fun g => (match (s.og g).solve with | some x => x.status == 0 && x.mask.contains c | none => false) with
      | some g =>
        let x := (s.og g).solve.map (·.iters)
        let tm := (s.solveTimes.find? fun e => e.1 == g).getD (g, [], 0, 0)
        let us := s.bankUs s.bankUsed
        let cut := floorDiv (timeDiff s.cell (s.actTime 1 - BitVec.ofNat 64 (s.actPeriod 1)) * 1400 * blocksOf us
          - (s.fld (Reg.SB_CUTOFF s.bankUsed) F.SB_CUTOFF_FB_CUTOFF * us * 16000 * 1400 : Nat)) (16000 * max 1 (blocksOf us))
        if x = some 0 ∧ cut < tm.2.2.1 + tmAsm s.optProg (((s.og g).solve.map (·.tmpl)).getD 0) then (2, g) else (3, g)
      | none => (0, 0)

/-! ### Tick boundary (R307, R308, R323–R325) -/

/-- The staged program comes into use: event 0x0530. -/
def State.optSwap (s : State) (c : Cmd) : State :=
  let b := 1 - s.optUsed
  let s := (s.put Reg.OPT_STATUS F.OPT_STATUS_BANK b).put Reg.OPT_STATUS F.OPT_STATUS_COMMIT_PENDING 0
  let s := (s.put Reg.OPT_STATUS F.OPT_STATUS_STAGED_VALID (b2n !(s.optBank (1 - b)).isEmpty)).modOpt fun z => { z with commit := none }
  (s.postB 0x0530 [(16, 1, b), (20, 4, (s.reg (Reg.OPT_PROG_ID b)).toNat)]).complete c stOK 0

/-- A commit is withheld with a reason (R308). -/
def State.optWithhold (s : State) (reason : Nat) : State :=
  match s.opt.commit with
  | some c =>
    ((s.put Reg.OPT_STATUS F.OPT_STATUS_COMMIT_PENDING 0).modOpt fun z => { z with commit := none }).complete c stAborted reason
  | none => s

/-- A returned cluster becomes active: event 0x0532 (R324). -/
def State.cluReturned (s : State) (c : Nat) : State :=
  let s := s.modRegion (0x28 + c) fun x => { x with returning := false }
  let s := ((s.setClu F.OPT_STATUS_LENT c false).setClu F.OPT_STATUS_RETIRED c false).setClu F.OPT_STATUS_ACTIVE c true
  s.postB 0x0532 [(16, 1, c)]

/-- Clusters at a tick boundary: faulted ones go out of use, returned ones become active, retired ones are no longer lent. -/
def State.cluBoundary (s : State) : State :=
  let s := forEach s.opt.faulted s fun c s =>
    ((s.setClu F.OPT_STATUS_ACTIVE c false).setClu F.OPT_STATUS_RETIRED c true).startOutOfUse (0x28 + c)
  let s := s.modOpt fun z => { z with faulted := [] }
  let s := forEach (idxs 8 fun c => (s.region (0x28 + c)).returning) s fun c s => s.cluReturned c
  forEach (idxs 8 fun c => s.lentClu.contains c && s.regionState (0x28 + c) == 3) s fun c s =>
    (s.setClu F.OPT_STATUS_LENT c false).setClu F.OPT_STATUS_RETIRED c true

/-- Why a commit is withheld at its boundary (R308); 0 for not. -/
def State.optWhy (s : State) : Nat :=
  if !s.retiredClu.isEmpty then
    match s.placement with
    | some pl => if s.meets s.optStaged pl s.deadlinePct then 0 else 2
    | none => 2
  else if !s.lentClu.isEmpty && !s.meets s.optStaged 1 s.deadlinePct then 1
  else 0

/-- The optimiser's part of a tick boundary. A standby takes its bank from the tick parts (R717). -/
def State.optTick (s : State) : State :=
  let s := s.cluBoundary
  let s := s.modOpt fun z => { z with pct := s.deadlinePct }
  match s.opt.commit with
  | none => s
  | some c => if 2 ≤ s.role then s else let why := s.optWhy; if why = 0 then s.optSwap c else s.optWithhold why

/-- A new tick length at a link bank swap: a lent cluster is asked for when the lent placement misses (R324). -/
def State.optTickLen (s : State) : State :=
  if s.lentClu.isEmpty || s.meetsLent then s else forEach s.lentClu s fun c s => s.mstDemand (0x28 + c)

/-! ### DEADLINE_PCT and commands -/

/-- A write of DEADLINE_PCT in its range (R320): refused while it would make the lent placement miss, with foul 0x0517. -/
def State.pctWrite (s : State) (v : Word) : State :=
  let pct := v.toNat % 256
  if !s.lentClu.isEmpty && !s.meets s.optProg 1 pct then s.postB 0x0517 [(17, 1, pct)]
  else
    let s := s.put Reg.OPT_CTRL F.OPT_CTRL_DEADLINE_PCT pct
    match s.placement with
    | some pl =>
      if s.optProg.isEmpty || s.meets s.optProg pl pct then s
      else s.postB 0x0516 [(17, 1, pl), (20, 4, s.placeFinish s.optProg pl), (24, 4, s.tickBudget pct 1400)]
    | none => s

/-- A queued PATH move names a template that the staged bank lacks or has not compiled for its group's width (R307). -/
def State.commitLacks (s : State) : Bool :=
  let p := s.optStaged
  s.groups.any fun g => (s.pg g).queue.any fun m =>
    m.kind == 1 &&
      (let t := leAt m.data 2 1
       !(offers p g t && [0, 1].all fun pl => progMask p g pl == 0 || tmWidth p t (popCount 8 (progMask p g pl))))

/-- OPT_COMMIT (R307, R335). -/
def execOptCommit (c : Cmd) (s : State) : Out :=
  let c := { c with op := 0x0502 }
  .next <| s.judge c
    (check1 c .pf [] ++
      [ (!c.onlyUses [], .bad), (s.opt.commit.isSome, .busy), s.mirrorCheck c,
        (!s.optStagedOk, .reject 23 0), (s.commitLacks, .reject 23 1) ])
    fun s =>
      if s.mode < mOperate then s.optSwap c
      else (s.put Reg.OPT_STATUS F.OPT_STATUS_COMMIT_PENDING 1).modOpt fun z => { z with commit := some c }

/-- OPT_LOAD_DYN (R297, R335). -/
def execOptLoadDyn (c : Cmd) (dma : Dma) (s : State) : Out :=
  let c := { c with op := 0x0503 }
  let g := c.group
  let addr := c.u 24 8
  let len := c.u 32 4
  let n := min len 2180
  .next <| s.judge c
    (check1 c .pf [(addr, n)] ++
      [ (!c.onlyUses [(24, 8), (32, 4)] || !sramFits addr n, .bad) ] ++ s.grpChecks c [gsDisabled] ++
      [ ((s.pg g).model.isNone, .reject 255 0) ])
    fun s => s.withData c addr n dma fun data s =>
      let f := dynCheck data n (s.groupAxes g).length
      if f ≠ 0 then s.complete c stBad f
      else
        let s := s.modOg g fun o => { o with dyn := some (dynOf data) }
        (s.setReg (Reg.OPT_GRP_DYN g) (BitVec.ofNat 32 (2 ^ 31 + leAt data 6 1))).complete c stOK 0

/-- OPT_SET_PAYLOAD (R298, R335): it waits for the next freeze. -/
def execOptSetPayload (c : Cmd) (s : State) : Out :=
  let c := { c with op := 0x0504 }
  let g := c.group
  .next <| s.judge c
    (check1 c .any [] ++
      [ (!c.onlyUses [(16, 8), (24, 8), (32, 8), (40, 8), (48, 12)] || !(dNonneg (c.u 16 8) && [24, 32, 40].all (fun o => dFinite (c.u o 8))
          && [48, 52, 56].all (fun o => dFinite (of32 (BitVec.ofNat 32 (c.u o 4))))), .bad) ] ++
      s.grpChecks c [0, 1, 2, 3, 4] ++ [(!s.hasDyn g, .reject 255 0)])
    fun s => s.modOg g fun o => { o with payload := o.payload ++ [c] }

/-- The octets of OPT_COPY_SOLUTION (R335). -/
def OptSol.bytes (o : OptSol) : List Byte :=
  leBytes 8 o.time.toNat ++ leBytes 4 o.tick ++ [o.status, o.iter, o.tmpl, o.knots.length, o.q0.length].map (BitVec.ofNat 8)
    ++ List.replicate 15 0 ++ ((List.zip o.knots o.taus).flatMap fun x => (x.1 ++ x.2).flatMap (leBytes 8))

/-- OPT_COPY_SOLUTION (R335). -/
def execOptCopySolution (c : Cmd) (s : State) : Out :=
  let c := { c with op := 0x0505 }
  let g := c.group
  let addr := c.u 24 8
  let len := c.u 32 4
  .next <| s.judge c
    (check1 c .any [(addr, len)] ++
      [ (!c.onlyUses [(24, 8), (32, 4)] || !sramFits addr len || decide (s.nGroups ≤ g), .bad) ])
    fun s =>
      match (s.og g).sol, (s.og g).returned with
      | some o, true =>
        let l := o.bytes
        if len < l.length then s.complete c stBad 0 else s.withRoom c addr l fun s => s.complete c stOK 0
      | _, _ => s.complete c 0x40 0

end Sys2Proof.Machine
end

