-- ==== Sys2Proof/Machine/PlanTick.lean ====
section
/-!
DEFINITION. Block 0x04 in a planning tick: freeze (R206, R234, R245), tick boundary (R33, R235, R246, R257), plan build with
missing plans (R252) and workspace zones (R262–R265).
-/
namespace Sys2Proof.Machine

/-! ### Freeze -/

/-- An axis as the cycle of the freeze computed it. -/
def State.freezeAx (s : State) (a : Nat) : SrvAx :=
  match s.srv.nx.find? fun e => e.1 == a with
  | some e => e.2
  | none => s.srvAx a

/-- Every joint's measured speed is below 1 % of its limit (R250). -/
def State.slowEnough (s : State) (g : Nat) : Bool :=
  (s.pg g).measV.zipIdx.all fun x => dLt (dAbs x.1) (dDiv (s.vLimit g x.2) (dOfInt 100))

/-- The measured tool pose lies within the tolerances of a PATH move's target (R250). -/
def State.poseReached (s : State) (g : Nat) (m : PlMove) : Bool :=
  match (s.pg g).model with
  | none => false
  | some md => match md.toolPose (s.pg g).measQ with
    | none => false
    | some t => dLe (vNorm (vSub (tfPos t) (f64s m.data 40 3))) (m.f 24) && dLe (qAngle (tfQuat t) (f64s m.data 64 4)) (m.f 32)

/-- The active JOINT move will be within its blend radius at the next tick boundary, with a BLEND move behind it (R245). -/
def State.blendPredicted (s : State) (g : Nat) : Bool :=
  let z := s.pg g
  match z.queue, z.active with
  | a :: b :: _, true =>
    let left := dMax 0 (dSub (dSecs (timeDiff (s.actTime 1) s.link.tk)) s.dP)
    let q := z.plan.posAt z.q (dAdd z.tau (dMul (lambdaOf z.u) left))
    let far := q.zipIdx.foldl (fun m x => dMax m (dAbs (dSub (a.f (64 + 8 * x.2)) x.1))) 0
    a.kind == 0 && b.kind == 0 && b.blend && b.frozen && s.grpState g == gsMoving && dLe far (a.f 32)
  | _, _ => false

/-- One group at a freeze. -/
def State.freezeGroup (s : State) (g : Nat) : State :=
  match (s.pg g).model with
  | none => s.modPg g fun z => { z with changes := z.changes.map fun c => { c with frozen := true } }
  | some md =>
    let s := s.modPg g fun z => { z with
      measQ := md.joints.map fun j => j.ofCounts (s.freezeAx j.axis).p
      measV := md.joints.map fun j => j.velOf (s.freezeAx j.axis).vfb
      ov := dRatio (s.fld (Reg.GRP_OVERRIDE g) F.GRP_OVERRIDE_OVERRIDE) 65536
      queue := z.queue.map fun m => { m with frozen := true }
      changes := z.changes.map fun c => { c with frozen := true } }
    let z := s.pg g
    let s := match z.queue, z.active with
      | m :: _, true =>
        if m.kind = 1 ∧ s.grpState g = gsMoving ∧ s.poseReached g m ∧ s.slowEnough g then s.endMove g 0 else s
      | _, _ => s
    s.modPg g fun z => { z with blendDue := s.blendPredicted g }

/-- Zones whose token was not acquired by command: freezes in a row at which the holder's measured capsules are clear (R264). -/
def State.freezeZones (s : State) : State :=
  forEach (List.range 64) s fun z s =>
    if s.zoneOwned z then
      let inside := s.groupEnters (s.zoneOwner z) z (s.pg (s.zoneOwner z)).measQ
      s.modPz z fun x => { x with clear := if inside then 0 else x.clear + 1 }
    else s

/-- The planner's part of a freeze (R234). -/
def State.planFreeze (s : State) : State :=
  if 2 ≤ s.role then s else (forEach s.groups s fun g s => s.freezeGroup g).freezeZones

/-! ### Tick boundary -/

/-- New scales of a JOINT move: 0 leaves one unchanged. -/
def setF64 (l : List Byte) (o x : Nat) : List Byte := if dEq x 0 then l else l.take o ++ leBytes 8 x ++ l.drop (o + 8)

/-- Octets of a record that hold its target: start and length. -/
def targetPart (kind n : Nat) : Nat × Nat := if kind = 0 then (64, 8 * n) else if kind = 1 then (40, 80) else (64, 16 * n)

/-- A move as MOVE_MODIFY leaves it (R246, R279). -/
def PlMove.modified (m : PlMove) (c : PlChange) : PlMove :=
  let l := m.data
  let l := if m.kind = 0 then setF64 (setF64 (setF64 l 8 (c.cmd.u 24 8)) 16 (c.cmd.u 32 8)) 24 (c.cmd.u 40 8) else l
  let (o, n) := targetPart m.kind (leAt m.data 2 1)
  { m with data := if bit (c.cmd.b 16) 0 then l.take o ++ slice c.data o (if m.kind = 2 then l.length - o else n) ++ l.drop (o + if m.kind = 2 then l.length - o else n) else l }

/-- New limits of a joint: 0 leaves one unchanged, none above the model's. -/
def newLimits (c : Cmd) (l : Nat × Nat × Nat) (m : PlJoint) : Nat × Nat × Nat :=
  let pick (x old most : Nat) : Nat := if dEq x 0 then old else dMin x most
  (pick (c.u 24 8) l.1 m.vmax, pick (c.u 32 8) l.2.1 m.amax, pick (c.u 40 8) l.2.2 m.jmax)

/-- A frozen change takes effect, and its command completes (R234, R246). -/
def State.applyChange (s : State) (g : Nat) (c : PlChange) : State :=
  let s := s.modPg g fun z => { z with changes := z.changes.filter (· != c) }
  let z := s.pg g
  if c.cmd.op = 0x0408 then
    match z.model with
    | none => s.complete c.cmd stOK 0
    | some m =>
      let j := c.cmd.b 16
      let s := s.modPg g fun z => { z with
        lims := z.lims.zipIdx.map fun x => match m.joints[x.2]? with
          | some k => if j = 255 ∨ j = x.2 then newLimits c.cmd x.1 k else x.1
          | none => x.1 }
      (s.showLims g).complete c.cmd stOK 0
  else
    let tag := c.cmd.u 20 4
    match z.moveOf tag with
    | none => s.complete c.cmd 0x40 0
    | some _ =>
      if bit (c.cmd.b 16) 0 ∧ z.isActive tag then s.refuse c.cmd (.reject 4 (s.grpState g))
      else
        let s := s.modPg g fun z => { z with
          queue := z.queue.map fun m => if m.cmd.tag.toNat = tag then m.modified c else m }
        s.complete c.cmd stOK 0

/-- The TRACK move's DURATION is over at boundary `tk` (R257). -/
def PlGrp.trackOver (z : PlGrp) (tk : W64) : Bool :=
  match z.queue, z.active with
  | m :: _, true =>
    let d := leAt m.data 24 8
    m.kind == 2 && d != 0 && decide ((d : Int) ≤ timeDiff tk z.began)
  | _, _ => false

/-- The head of the queue may start at this boundary (R235, R238): it was present at the freeze; a PATH move was solved for. -/
def State.mayStart (s : State) (g : Nat) : Bool :=
  let z := s.pg g
  match z.queue with
  | m :: _ =>
    !z.active && z.ready && m.frozen && (m.kind != 1 || s.fld (Reg.OPT_GRP_STATUS g) F.OPT_GRP_STATUS_STATUS != 0)
      && ((s.grpState g == gsStandstill && !s.stopReq g) || s.grpState g == gsMoving)
  | [] => false

/-- Plan n + 1 of a PATH move takes effect; knot 0 has the set-point velocity in use (R251). -/
def State.takePath (s : State) (g : Nat) : State :=
  let z := s.pg g
  match z.queue, z.active, z.next with
  | m :: _, true, some (.path q0 _ ks ts h) =>
    if m.kind = 1 ∧ s.grpState g = gsMoving then (s.setPlan g (.path q0 z.v ks ts h)).modPg g fun z => { z with next := none }
    else s.modPg g fun z => { z with next := none }
  | _, _, _ => s.modPg g fun z => { z with next := none }

/-- One group at a tick boundary. -/
def State.tickGroup (s : State) (g : Nat) (tk : W64) : State :=
  let s := forEach ((s.pg g).changes.filter (·.frozen)) s fun c s => s.applyChange g c
  let s := s.modPg g fun z => { z with grav := z.gravNext }
  let s := if (s.pg g).trackOver tk && s.grpState g == gsMoving then (s.setPlan g .rest).endMove g 2 else s
  let z := s.pg g
  let s := if z.blendDue && s.grpState g == gsMoving then
      ((s.modPg g fun z => { z with blendDue := false }).endMove g 1) else s.modPg g fun z => { z with blendDue := false }
  let s :=
    if bit (s.holdCause g) hcZone && s.grpState g == gsHolding && (s.pg g).zoneWait.all (s.holdsZone g) then s.unhold g hcZone else s
  let s := if s.mayStart g then s.startMove g tk else s
  (s.takePath g).reprofile g

/-- The planner's part of a tick boundary (R33). A standby carries the mirrored plans over it as the active does. -/
def State.planTick (s : State) (tk : W64) : State :=
  let s := s.modPl fun z => { z with tick := (z.tick + 1) % 2 ^ 32, freezeDue := true, deadlineDue := true }
  let s := if (s.region 0x30).returning then s.modRegion 0x30 fun x => { x with returning := false } else s
  if s.role = 3 || s.plannerLent then s else forEach s.groups s fun g s => s.tickGroup g tk

/-! ### Plan build -/

/-- A tick without a solution: event 0x0432, a fault with the second in a row (R252). -/
def State.missPlan (s : State) (g : Nat) : State :=
  let n := (s.pg g).missed + 1
  let s := (s.modPg g fun z => { z with missed := n }).postB 0x0432 [(16, 1, g), (20, 4, s.pl.tick)]
  if n < 2 then s else s.planFault g F.GRP_FAULT_PLAN_MISSING 0x0412 [(20, 4, s.pl.tick)]

/-- A solution or its absence (R252, R260). -/
def State.buildPath (s : State) (g : Nat) : State :=
  let o := s.og g
  if o.solve.isNone && o.early == 0 then s
  else
    match (s.pg g).next, (s.pg g).model with
    | some (.path _ _ ks _ _), some md =>
      let s := s.modPg g fun z => { z with missed := 0 }
      let off := md.joints.zipIdx.find? fun x => ks.any fun k => dLt (nth k x.2) x.1.pmin || dLt x.1.pmax (nth k x.2)
      match off with
      | some x => s.planFault g F.GRP_FAULT_FK_FAIL 0x0415 [(17, 1, x.2), (18, 1, 1)]
      | none => s
    | _, _ => s.missPlan g

/-- The first instant of the window at which a MOVING group enters an enabled zone whose token it does not hold (R262):
instant and zone. -/
def State.firstEntry (s : State) (g : Nat) : Option (Nat × Nat) :=
  let zs := idxs 64 fun z => s.zoneOn z && !s.holdsZone g z
  if s.grpState g ≠ gsMoving ∨ zs.isEmpty then none
  else (s.windowInstants g).findSome? fun (i : Nat) =>
    let q := s.aheadQ g (dMul (dOfInt i) s.dP)
    (zs.find? fun z => s.groupEnters g z q).map fun z => (i, z)

/-- The request for the token of the first zone entered. -/
def State.buildRequest (s : State) (g : Nat) : State :=
  match s.firstEntry g with
  | some (_, z) => if (s.pz z).reqs.any fun r => r.2.1 == g then s else s.requestZone g z none
  | none => s

/-- The hold short of a zone still without a token, or ZONE_OVERRUN (R262). -/
def State.buildHold (s : State) (g : Nat) : State :=
  match s.firstEntry g with
  | none => s
  | some ((i : Nat), z) =>
    let s := if (s.pz z).reqs.any fun r => r.2.1 == g then s else s.requestZone g z none
    let us := s.bankUs s.bankUsed
    let start : Int := (i : Int) * us * 16000 - s.tstop g * 8000000 - us * 16000
    let tick := s.fld Reg.PLAN_CTRL F.PLAN_CTRL_TICK_LEN_USED * us * 16000
    let b1 := s.actTime 1
    if (tick : Int) ≤ start then s
    else if 0 ≤ start then s.modPg g fun x => { x with holdAt := some (b1 + BitVec.ofInt 64 start), zoneWait := [z] }
    else
      let half := dDiv (dMs (s.tstop g)) d2
      if s.groupEnters g z (s.aheadQ g half) then
        s.planFault g F.GRP_FAULT_ZONE_OVERRUN 0x0413 [(17, 1, z), (24, 8, dSub (dMul (dOfInt i) s.dP) half)]
      else s.modPg g fun x => { x with holdAt := some b1, zoneWait := [z] }

/-- Tokens that are released by themselves (R264). -/
def State.autoRelease (s : State) : State :=
  forEach (List.range 64) s fun z s =>
    let r := Reg.ZONE_CTRL z
    let g := s.zoneOwner z
    if s.zoneOwned z && !s.flag r F.ZONE_CTRL_ACQUIRED && s.grpState g != gsFaulted
        && decide (s.fld r F.ZONE_CTRL_RELEASE_TICKS ≤ (s.pz z).clear) && !s.planEnters g z then s.releaseZone z else s

/-- The groups for whose tokens `g` waits with a ZONE cause. -/
def State.waitsFor (s : State) (g : Nat) : List Nat :=
  if bit (s.holdCause g) hcZone then ((s.pg g).zoneWait.filter s.zoneOwned).map s.zoneOwner else []

/-- The groups reached from a set by waiting, in `n` steps. -/
def State.reached (s : State) : Nat → List Nat → List Nat
  | 0, l => l
  | n + 1, l => s.reached n (idxs 16 fun g => l.contains g || l.any fun k => (s.waitsFor k).contains g)

/-- Event 0x0435 when a cycle of waiting groups forms (R265). -/
def State.deadlocks (s : State) : State :=
  let mask := s.groups.foldl (fun m g => if (s.reached 16 (s.waitsFor g)).contains g then m + 2 ^ g else m) 0
  let fresh := s.groups.any fun g => bit mask g && !bit s.pl.deadlock g
  let s := s.modPl fun z => { z with deadlock := mask }
  if fresh then s.postB 0x0435 [(24, 8, mask)] else s

/-- The plan build of a tick (R252, R262–R265). DEDUCED: notes/assumptions/61.md. -/
def State.planBuild (s : State) : State :=
  if 2 ≤ s.role then s
  else
    let s := forEach s.groups s fun g s => s.buildPath g
    let s := s.autoRelease
    let s := forEach s.groups s fun g s => s.buildRequest g
    let s := s.grantZones
    (forEach s.groups s fun g s => s.buildHold g).deadlocks

end Sys2Proof.Machine
end

