-- ==== Sys2Proof/Machine/SepGeom.lean ====
section
/-!
DEFINITION. Block 0x07, geometry: the grid and the field (R390, R397–R399), capsules and their samples (R401, R403, R404), distances
between capsules and predicted positions (R407, R408), cycles (R413).
-/
namespace Sys2Proof.Machine

/-! ### Integers -/

/-- ⌈√n⌉. -/
def ceilSqrt (n : Nat) : Nat := let r := isqrt n; if r * r = n then r else r + 1
/-- ⌊x⌋ of a finite binary64 value. -/
def dFloor (x : Nat) : Int := (f64.toInt 2 (-(2 ^ 62 : Nat)) (2 ^ 62 : Nat) x).1
/-- ⌈x⌉. -/
def dCeil (x : Nat) : Int := (f64.toInt 3 (-(2 ^ 62 : Nat)) (2 ^ 62 : Nat) x).1

/-! ### The grid (R390) -/

/-- PITCH, mm. -/
def State.pitch (s : State) : Nat := s.fld Reg.SEP_GRID_CFG F.SEP_GRID_CFG_PITCH
/-- NX, NY, NZ. -/
def State.gridN (s : State) (k : Nat) : Nat :=
  1 + s.fld Reg.SEP_GRID_CFG (if k = 0 then F.SEP_GRID_CFG_NX_M1 else if k = 1 then F.SEP_GRID_CFG_NY_M1 else F.SEP_GRID_CFG_NZ_M1)
/-- ORG of an axis, mm. -/
def State.gridOrg (s : State) (k : Nat) : Int := s.sreg (Reg.SEP_GRID_ORG_X + 4 * k)
/-- The index of a voxel. -/
def State.voxel (s : State) (x y z : Nat) : Nat := x + s.gridN 0 * (y + s.gridN 1 * z)
/-- x, y, z of a voxel. -/
def State.voxelXyz (s : State) (v : Nat) : Nat × Nat × Nat :=
  (v % s.gridN 0, v / s.gridN 0 % s.gridN 1, v / (s.gridN 0 * s.gridN 1))
/-- The centre of a voxel in metres. -/
def State.voxelCentre (s : State) (v : Nat) : List Nat :=
  let (x, y, z) := s.voxelXyz v
  [x, y, z].zipIdx.map fun e => dRatio (2 * s.gridOrg e.2 + (s.pitch * (2 * e.1 + 1) : Nat)) 2000

/-! ### Occupancy (R393, R397, R398) -/

/-- A record marks voxels of the grid; it is discarded whole when it leaves the grid. -/
def State.recordIn (s : State) (r : Nat) : Bool :=
  decide (r % 256 < s.gridN 0) && decide (r / 256 % 256 < s.gridN 1) && decide (r / 2 ^ 16 % 128 + r / 2 ^ 23 % 128 < s.gridN 2)
/-- The voxels of a record. -/
def State.recordVoxels (s : State) (r : Nat) : List Nat :=
  (List.range (r / 2 ^ 23 % 128 + 1)).map fun k => s.voxel (r % 256) (r / 256 % 256) (r / 2 ^ 16 % 128 + k)

/-- A voxel lies in an enabled ignore box. -/
def State.ignored (s : State) (v : Nat) : Bool :=
  let (x, y, z) := s.voxelXyz v
  (List.range 32).any fun b =>
    let lo := Reg.SEP_IGN_MIN b
    let hi := Reg.SEP_IGN_MAX b
    s.flag lo F.SEP_IGN_MIN_ENABLE
      && decide (s.fld lo F.SEP_IGN_MIN_X ≤ x ∧ x ≤ s.fld hi F.SEP_IGN_MAX_X)
      && decide (s.fld lo F.SEP_IGN_MIN_Y ≤ y ∧ y ≤ s.fld hi F.SEP_IGN_MAX_Y)
      && decide (s.fld lo F.SEP_IGN_MIN_Z ≤ z ∧ z ≤ s.fld hi F.SEP_IGN_MAX_Z)

/-- Distance from a point to a segment. -/
def pointSeg (p a b : List Nat) : Nat :=
  let d := vSub b a
  let dd := dDot d d
  let t := if dEq dd 0 then 0 else dMax 0 (dMin d1 (dDiv (dDot (vSub p a) d) dd))
  vNorm (vSub p (vAdd a (vScale t d)))

/-- Distance between two segments. -/
def segSeg (a b : List Nat × List Nat) : Nat :=
  let d1' := vSub a.2 a.1
  let d2' := vSub b.2 b.1
  let r := vSub a.1 b.1
  let aa := dDot d1' d1'
  let ee := dDot d2' d2'
  let bb := dDot d1' d2'
  let c := dDot d1' r
  let f := dDot d2' r
  let den := dSub (dMul aa ee) (dSq bb)
  let ends := dMin (dMin (pointSeg a.1 b.1 b.2) (pointSeg a.2 b.1 b.2)) (dMin (pointSeg b.1 a.1 a.2) (pointSeg b.2 a.1 a.2))
  if dLe den 0 then ends
  else
    let s := dDiv (dSub (dMul bb f) (dMul c ee)) den
    let t := dDiv (dSub (dMul aa f) (dMul bb c)) den
    if dLe 0 s && dLe s d1 && dLe 0 t && dLe t d1 then
      dMin ends (vNorm (vSub (vAdd a.1 (vScale s d1')) (vAdd b.1 (vScale t d2'))))
    else ends

/-- The enabled capsules of placed groups with their segments at measured positions: (capsule, segment). -/
def State.measCaps (s : State) : List (Nat × List Nat × List Nat) :=
  (s.groups.filter s.placed).flatMap fun g =>
    match (s.pg g).model with
    | none => []
    | some m => (s.capsOn g).filterMap fun c => (s.capSeg m c (s.pg g).measQ).map fun e => (c, e.1, e.2)

/-- The voxel is cleared with the robots or by an ignore box (R398). -/
def State.cleared (s : State) (caps : List (Nat × List Nat × List Nat)) (v : Nat) : Bool :=
  let p := s.voxelCentre v
  s.ignored v || caps.any fun c => dLe (pointSeg p c.2.1 c.2.2) (dMm (s.capRadius c.1 + s.fld Reg.SEP_SELF F.SEP_SELF_MARGIN))

/-- F of voxel `v` for the occupied voxels `occ`, mm (R399). DEDUCED: notes/assumptions/65.md. -/
def State.field (s : State) (occ : List Nat) (v : Nat) : Nat :=
  let (x, y, z) := s.voxelXyz v
  let far (a b : Nat) : Nat := ((a : Int) - b).natAbs ^ 2
  occ.foldl (fun f o =>
    let (a, b, c) := s.voxelXyz o
    min f (isqrt (s.pitch ^ 2 * (far x a + far y b + far z c)))) 2550

/-! ### Capsules (R403, R404) -/

/-- |P1 − P0| of capsule `c` squared in µm²; a DELTA segment has the length of its arm. -/
def State.capLen (s : State) (c : Nat) : Nat :=
  let at' := s.fld (Reg.SEP_CAP_CTRL c) F.SEP_CAP_CTRL_ATTACH
  if at' < 32 then
    let d (k : Nat) : Nat := (s.sreg (Reg.SEP_CAP_P1X c + 4 * k) - s.sreg (Reg.SEP_CAP_P0X c + 4 * k)).natAbs
    d 0 ^ 2 + d 1 ^ 2 + d 2 ^ 2
  else
    match (s.pg (c / 16)).model with
    | none => 0
    | some m => (dCeil (dMul (nth m.delta (if at' < 35 then 2 else 3)) (dOfInt 1000000))).toNat ^ 2
/-- n of R403. -/
def State.capSamples (s : State) (c : Nat) : Nat := max 1 (ceilDiv (ceilSqrt (4 * s.capLen c)) (s.pitch * 1000))
/-- δ of R403, mm. -/
def State.capDelta (s : State) : Nat := ceilDiv (ceilSqrt (48 * s.pitch ^ 2) + s.pitch) 4

/-- The voxel of a point with indices clamped to the grid, and whether it lay outside. -/
def State.voxelOf (s : State) (p : List Nat) : Nat × Bool :=
  let ix (k : Nat) : Int := dFloor (dDiv (dSub (dMul (nth p k) (dOfInt 1000)) (dOfInt (s.gridOrg k))) (dOfInt s.pitch))
  let cl (k : Nat) : Nat := (clampI 0 ((s.gridN k : Int) - 1) (ix k)).toNat
  (s.voxel (cl 0) (cl 1) (cl 2), (List.range 3).any fun k => (cl k : Int) != ix k)

/-- F_min and OUTSIDE of a capsule (R403). -/
def State.capField (s : State) (occ : List Nat) (c : Nat) (seg : List Nat × List Nat) : Nat × Bool :=
  let n := s.capSamples c
  (List.range (n + 1)).foldl (fun (r : Nat × Bool) (k : Nat) =>
    let v := s.voxelOf (vAdd seg.1 (vScale (dRatio k n) (vSub seg.2 seg.1)))
    (min r.1 (s.field occ v.1), r.2 || v.2)) (2550, false)

/-- v_r of a capsule, m/s (R404). -/
def State.capSpeed (s : State) (m : PlModel) (g c : Nat) : Nat :=
  let z := s.pg g
  let d := s.dTick
  match s.capSeg m c z.measQ, s.capSeg m c (vAdd z.measQ (vScale d z.measV)) with
  | some a, some b => dMax (dDiv (vNorm (vSub b.1 a.1)) d) (dDiv (vNorm (vSub b.2 a.2)) d)
  | _, _ => 0

/-- A_g and B_g of R405 in metres and seconds. -/
def State.sepA (s : State) (g : Nat) : Nat :=
  let f (o : Nat) (x : Fld) : Nat := s.fld o x
  let tr := dRatio (f Reg.SEP_TR F.SEP_TR_TR_US) 1000000
  let ts := dMs (s.tstop g)
  dAdd (dMul (dMm (f Reg.SEP_HUMAN F.SEP_HUMAN_V_H)) (dAdd tr ts))
    (dAdd (dMm (f Reg.SEP_ALLOW_C F.SEP_ALLOW_C_C)) (dAdd (dMm (f Reg.SEP_ALLOW_Z F.SEP_ALLOW_Z_Z_D)) (dMm (f Reg.SEP_ALLOW_Z F.SEP_ALLOW_Z_Z_R))))
/-- B_g -/
def State.sepB (s : State) (g : Nat) : Nat :=
  dAdd (dRatio (s.fld Reg.SEP_TR F.SEP_TR_TR_US) 1000000) (dMul dHalf (dMs (s.tstop g)))

/-- The result of one capsule (R403–R405). -/
def State.capResult (s : State) (occ : List Nat) (m : PlModel) (g c : Nat) (seg : List Nat × List Nat) : SepCap :=
  let (f, out) := s.capField occ c seg
  let v := s.capSpeed m g c
  ⟨c, f, out, f - s.capRadius c - s.capDelta, v, dAdd (s.sepA g) (dMul (s.sepB g) v)⟩

/-! ### Robot-robot distance (R407, R408) -/

/-- Joint positions of a group at instant `i` of R407; `tf` is the instant of the freeze. -/
def State.predicted (s : State) (g i : Nat) (tf : W64) : List Nat :=
  let z := s.pg g
  let st := s.grpState g
  let ahead := dMul (dOfInt (i * s.fld Reg.SEP_PRED F.SEP_PRED_PRED_STEP)) s.dTick
  if i = 0 ∨ (st ≠ gsMoving ∧ st ≠ gsStopping) then z.measQ
  else
    match z.plan, z.queue, z.active, z.model with
    | .track _, mv :: _, true, some m =>
      m.joints.zipIdx.map fun x =>
        if bit (leAt mv.data 6 2) x.2 then dMax x.1.pmin (dMin x.1.pmax (dAdd (nth z.q x.2) (dMul (nth z.v x.2) ahead)))
        else nth z.q x.2
    | p, _, _, _ =>
      let now := dSub z.tau (dSub s.dP (dSecs (timeDiff tf s.link.tk)))
      p.posAt z.q (dAdd (dMax 0 now) ahead)

/-- Two groups are tested against each other (R408). -/
def State.rrPair (s : State) (g h : Nat) : Bool :=
  g != h && s.flag (Reg.SEP_GRP_CTRL g) F.SEP_GRP_CTRL_RR_EN && s.flag (Reg.SEP_GRP_CTRL h) F.SEP_GRP_CTRL_RR_EN
    && !bit (s.fld (Reg.SEP_RR_EXCL g) F.SEP_RR_EXCL_EXCL) h && !bit (s.fld (Reg.SEP_RR_EXCL h) F.SEP_RR_EXCL_EXCL) g

/-- The segments of a group's enabled capsules at each instant: none where R232 has no solution. -/
def State.predCaps (s : State) (g : Nat) (tf : W64) : List (List (Nat × List Nat × List Nat)) :=
  match (s.pg g).model with
  | none => []
  | some m => (List.range (s.fld Reg.SEP_PRED F.SEP_PRED_PRED_N + 1)).map fun i =>
      let q := s.predicted g i tf
      (s.capsOn g).filterMap fun c => (s.capSeg m c q).map fun e => (c, e.1, e.2)

/-- The lesser of two results of R408. -/
def rrMin (a b : Option (Nat × Nat × Nat)) : Option (Nat × Nat × Nat) :=
  match a, b with
  | none, b => b
  | a, none => a
  | some x, some y => if dLt y.1 x.1 then some y else some x

/-- The least d_rr of a group, metres, with the other group and the instant. -/
def State.rrOf (s : State) (all : List (Nat × List (List (Nat × List Nat × List Nat)))) (g : Nat) : Option (Nat × Nat × Nat) :=
  let mine := ((all.find? fun x => x.1 == g).map (·.2)).getD []
  (all.filter fun x => s.rrPair g x.1).foldl (fun r h =>
    (List.zip mine h.2).zipIdx.foldl (fun r p =>
      p.1.1.foldl (fun r a => p.1.2.foldl (fun r b =>
        let d := dMax 0 (dSub (segSeg a.2 b.2) (dMm (s.capRadius a.1 + s.capRadius b.1)))
        rrMin r (some (d, h.1, p.2))) r) r) r) none

/-! ### Cycles (R413) -/

/-- The defined capsules (RADIUS ≠ 0). -/
def State.definedCaps (s : State) : List Nat := idxs s.nCaps fun c => s.capRadius c != 0

/-- W of R413. DEDUCED: notes/assumptions/65.md. -/
def State.sepW (s : State) : Nat :=
  let v := s.gridN 0 * s.gridN 1 * s.gridN 2
  let caps := s.definedCaps
  let m (c : Nat) : Nat :=
    ceilDiv (ceilSqrt (s.capLen c) + 2000 * (s.capRadius c + s.fld Reg.SEP_SELF F.SEP_SELF_MARGIN)) (s.pitch * 1000) + 1
  let cnt (g : Nat) : Nat := (caps.filter fun c => c / 16 == g).length
  let pairs := s.groups.foldl (fun a g => s.groups.foldl (fun a h => if g < h ∧ s.rrPair g h then a + cnt g * cnt h else a) a) 0
  4096 + ceilDiv v 4096 + 8192 * popCount 16 (s.fld Reg.SEP_SENSOR F.SEP_SENSOR_SENSOR_EN)
    + caps.foldl (fun a c => a + ceilDiv (min v (m c ^ 3)) 256) 0 + ceilDiv (3 * v) 64
    + caps.foldl (fun a c => a + ceilDiv (s.capSamples c + 1) 8) 0
    + ceilDiv (pairs * (s.fld Reg.SEP_PRED F.SEP_PRED_PRED_N + 1)) 4

/-- B_sep of R413. -/
def State.sepBudget (s : State) : Nat := s.tickBudget s.deadlinePct 1200

end Sys2Proof.Machine
end

