-- ==== Sys2Proof/Machine/Separation.lean ====
section
/-!
DEFINITION. Block 0x07, the separation monitor: occupancy fragments (R391–R396), freeze, publication and tick boundary (R406, R409–R415),
commands (R420, R429).
-/
namespace Sys2Proof.Machine

/-! ### State -/

/-- The monitor's state changed. -/
def State.modSep (s : State) (f : SepSt → SepSt) : State := { s with sep := f s.sep }
/-- A sensor's state. -/
def State.sens (s : State) (n : Nat) : SepSens := tabGet (fun _ => {}) s.sep.sens n
/-- A sensor's state changed. -/
def State.modSens (s : State) (n : Nat) (f : SepSens → SepSens) : State :=
  s.modSep fun z => { z with sens := tabSet (fun _ => {}) z.sens n (f (s.sens n)) }
/-- `SEP_STATUS.STATE`: 0 OFF, 1 STARTING, 2 RUNNING, 3 LENT, 4 FAULTED. -/
def State.sepState (s : State) : Nat := s.fld Reg.SEP_STATUS F.SEP_STATUS_STATE
/-- The sensor is enabled. -/
def State.sensOn (s : State) (n : Nat) : Bool := bit (s.fld Reg.SEP_SENSOR F.SEP_SENSOR_SENSOR_EN) n

/-- W and B_sep are compared anew (R413): OVER_BUDGET, foul 0x0717. -/
def State.sepRecheck (s : State) : State :=
  let w := s.sepW
  let b := s.sepBudget
  let s := s.setReg Reg.SEP_CYC_WORST (BitVec.ofNat 32 w)
  if w ≤ b then s.put Reg.SEP_STATUS F.SEP_STATUS_OVER_BUDGET 0
  else (s.put Reg.SEP_STATUS F.SEP_STATUS_OVER_BUDGET 1).postB 0x0717 [(20, 4, w), (24, 4, b)]

/-! ### Occupancy frames (R391–R396) -/

/-- The greatest time not later than `now` whose low 32 bits are `lo` (R396, R527). -/
def timeOfLo (now : W64) (lo : Nat) : W64 := now - BitVec.ofNat 64 ((now - BitVec.ofNat 64 lo).toNat % 2 ^ 32)

/-- A fragment or unit is discarded: foul 0x0710, and a unit in assembly is counted. DEDUCED: notes/assumptions/65.md. -/
def State.sepDiscard (s : State) (n node cause fseq : Nat) (drop : Bool) : State :=
  let had := (s.sens n).asm.isSome && drop
  let s := if had then s.addSat (Reg.SEP_SENS_ERR n) F.SEP_SENS_ERR_UNITS_DISCARDED 1 else s
  let s := if drop then (s.modSens n fun z => { z with asm := none }).put (Reg.SEP_SENS_STATUS n) F.SEP_SENS_STATUS_ASSEMBLING 0 else s
  s.post 0x0710 (srcNode node) (det [(16, 1, n), (17, 1, cause), (18, 1, fseq)])

/-- The unit in assembly after a fragment; LAST completes it (R394, R395). -/
def State.sepAppend (s : State) (n : Nat) (u : SepUnit) (last : Bool) : State :=
  let s := s.put (Reg.SEP_SENS_STATUS n) F.SEP_SENS_STATUS_ASSEMBLING (b2n !last)
  s.modSens n fun z => if last then { z with asm := none, latest := some u } else { z with asm := some u }

/-- A class-1 fragment (R394): sensor, node, payload. -/
def State.occFragment (s : State) (n node : Nat) (p : List Byte) : State :=
  let fseq := leAt p 2 1
  let flags := leAt p 3 1
  let lo := leAt p 4 4
  let cnt := leAt p 8 2
  let recs := (List.range cnt).map fun i => leAt p (16 + 4 * i) 4
  let blind := bit (leAt p 11 1) 0
  let want := s.fld (Reg.SEP_SENS_CFG n) F.SEP_SENS_CFG_NODE
  if !s.sensOn n then s
  else if node ≠ want then s.post 0x0711 (srcNode node) (det [(16, 1, n), (17, 1, want)])
  else if p.length < 16 + 4 * cnt ∨ 4 ≤ flags ∨ 2 ≤ leAt p 11 1 ∨ leAt p 14 2 ≠ 0 ∨ recs.any (fun r => decide (2 ^ 30 ≤ r)) ∨ leAt p 10 1 ≠ s.pitch then
    s.sepDiscard n node 6 fseq true
  else if bit flags 0 then
    let s := if (s.sens n).asm.isSome then s.sepDiscard n node 2 fseq true else s
    s.sepAppend n ⟨timeOfLo s.cell lo, recs, blind, lo, fseq⟩ (bit flags 1)
  else
    match (s.sens n).asm with
    | none => s.sepDiscard n node 1 fseq false
    | some u =>
      if fseq ≠ (u.fseq + 1) % 256 then s.sepDiscard n node 1 fseq true
      else if lo ≠ u.timeLo then s.sepDiscard n node 3 fseq true
      else if 32768 < u.recs.length + cnt then s.sepDiscard n node 5 fseq true
      else s.sepAppend n { u with recs := u.recs ++ recs, blind := u.blind || blind, fseq := fseq } (bit flags 1)

/-- STREAM_FRAME_RECEIVE (R130, R198): a copy that the device takes goes to its class's consumer. -/
def execStreamFrameReceive (ch : Nat) (port : Nat) (f : RawFrame) (s : State) : Out :=
  .next <|
    if 2 ≤ ch ∨ 20 ≤ port then s
    else
      let (s, taken, first) := s.takeFrame ch port f kStream
      if !taken || !first then s
      else
        let p := f.payload
        let chan := leAt p 0 2 % 4096
        match leAt p 0 2 / 4096 with
        | 0 =>
          if 64 ≤ chan then s
          else s.strFragment chan f.src (leAt p 2 1) (timeOfLo s.cell (leAt p 4 4)) (leAt p 8 4)
            ((List.range ((p.length - 16) / 2)).map fun i => sleAt p (16 + 2 * i) 2)
        | 1 => if 16 ≤ chan then s else s.occFragment chan f.src p
        | _ => s

/-! ### Stop requests (R409, R410) -/

/-- STOP_REQUEST of a group follows its causes: events 0x0730 and 0x0731, and the planner's copy. -/
def State.sepRequest (s : State) (g : Nat) : State :=
  let r := Reg.SEP_GRP_STATUS g
  let causes := (s.reg r).toNat / 2 ^ 24 % 32
  let was := s.flag r F.SEP_GRP_STATUS_STOP_REQ
  let now := causes != 0
  let s := (s.put r F.SEP_GRP_STATUS_STOP_REQ (b2n now)).put (Reg.GRP_STATE g) F.GRP_STATE_STOP_REQ (b2n now)
  if now && !was then
    s.postB 0x0730 [(16, 1, g), (17, 1, causes), (18, 2, s.fld (Reg.SEP_GRP_DMIN g) F.SEP_GRP_DMIN_D)]
  else if was && !now then s.postB 0x0731 [(16, 1, g)]
  else s

/-- F_next of R411 for a factor in [0, 1]. -/
def State.fNext (s : State) (g factor : Nat) : Nat :=
  if s.flag (Reg.SEP_GRP_STATUS g) F.SEP_GRP_STATUS_STOP_REQ then 0
  else min (dFloor (dMul (dOfInt 65536) factor)).toNat
    (s.fld (Reg.GRP_SPEED_FACTOR g) F.GRP_SPEED_FACTOR_FACTOR + s.fld Reg.SEP_RISE F.SEP_RISE_RISE)

/-- MON_EN of a group. -/
def State.monEn (s : State) (g : Nat) : Bool := s.flag (Reg.SEP_GRP_CTRL g) F.SEP_GRP_CTRL_MON_EN
/-- RR_EN of a group. -/
def State.rrEn (s : State) (g : Nat) : Bool := s.flag (Reg.SEP_GRP_CTRL g) F.SEP_GRP_CTRL_RR_EN

/-! ### Monitor states (R415) -/

/-- The monitor changes state: event 0x0732; commands that the change ends complete. -/
def State.setSep (s : State) (st : Nat) : State :=
  let old := s.sepState
  if old = st then s
  else
    let s := (s.put Reg.SEP_STATUS F.SEP_STATUS_STATE st).postB 0x0732 [(17, 1, old), (18, 1, st)]
    let copies := s.sep.copies
    let s := if old = 2 then forEach copies (s.modSep fun z => { z with copies := [] }) fun c s => s.complete c 0x40 0 else s
    if st = 0 ∨ st = 4 then
      let e := s.sep.enable
      let s := s.modSep fun z => { z with enable := none, busy := false }
      match e with
      | some c => s.complete c stAborted 0
      | none => s
    else s

/-- NOT_RUNNING at a tick boundary while the monitor is not RUNNING: F_next is held at 0, and rises for groups without a cause
(notes/assumptions/66.md). -/
def State.notRunning (s : State) : State :=
  if s.sepState = 2 ∨ s.sep.mirror then s
  else
    forEach s.groups s fun g s =>
      let s := s.put (Reg.SEP_GRP_STATUS g) F.SEP_GRP_STATUS_NOT_RUNNING (b2n (s.monEn g || s.sepState == 3))
      let s := s.sepRequest g
      s.put (Reg.SEP_GRP_FNEXT g) F.SEP_GRP_FNEXT_FACTOR (s.fNext g d1)

/-- The monitor's part of a tick boundary (R395, R411, R415). -/
def State.sepTick (s : State) : State :=
  if 2 ≤ s.role then s
  else
    let s :=
      if (s.region 0x31).returning then
        let s := s.modRegion 0x31 fun x => { x with returning := false }
        let st := s.fld Reg.SEP_STATUS F.SEP_STATUS_LENT_FROM_RUN
        (s.put Reg.SEP_STATUS F.SEP_STATUS_LENT_FROM_RUN 0).setSep st
      else s
    let s := match s.sep.change with
      | some st =>
        let s := (s.modSep fun z => { z with change := none, busy := false }).setSep st
        let l := if st = 0 then s.sep.disable else []
        forEach l (if st = 0 then s.modSep fun z => { z with disable := [] } else s) fun c s => s.complete c stOK 0
      | none => s
    let s := forEach (List.range 16) s fun n s => s.modSens n fun z => { z with pinned := z.latest }
    let s := forEach s.groups s fun g s =>
      s.put (Reg.GRP_SPEED_FACTOR g) F.GRP_SPEED_FACTOR_FACTOR (s.fld (Reg.SEP_GRP_FNEXT g) F.SEP_GRP_FNEXT_FACTOR)
    s.notRunning

/-- The monitor's region of self-test is lent at a tick boundary: NOT_RUNNING for every group. -/
def State.sepLent (s : State) : State :=
  let old := s.sepState
  let s := (s.put Reg.SEP_STATUS F.SEP_STATUS_LENT_FROM_RUN (b2n (old == 1 || old == 2))).setSep 3
  (s.modSep fun z => { z with busy := false }).notRunning

/-! ### Freeze -/

/-- SEP_CAP_ENABLE takes effect (R402). -/
def State.capFreeze (s : State) : State :=
  let l := s.sep.capCmds
  forEach l (s.modSep fun z => { z with capCmds := [] }) fun c s =>
    let g := c.group
    let m := c.u 16 2
    let s := forEach (List.range 16) s fun i s => s.put (Reg.SEP_CAP_CTRL (16 * g + i)) F.SEP_CAP_CTRL_ENABLE (b2n (bit m i))
    (s.put (Reg.SEP_GRP_CAPEN g) F.SEP_GRP_CAPEN_ENABLED m).complete c stOK 0

/-- Age of a unit in µs. -/
def unitAge (now : W64) (u : SepUnit) : Nat := (timeDiff now u.time).toNat / 16000

/-- The pinned unit of a sensor is fresh (R396). -/
def State.unitFresh (s : State) (now : W64) (u : SepUnit) : Bool :=
  decide ((timeDiff now u.time) ≤ (s.fld Reg.SEP_SENSOR F.SEP_SENSOR_MAX_AGE * 16000 : Nat)) && !u.blind

/-- One sensor at a freeze: stale or fresh, its registers, its records outside the grid (R396, R397).
DEDUCED: notes/assumptions/65.md. -/
def State.sensFreeze (s : State) (n : Nat) : State :=
  let now := s.cell
  let z := s.sens n
  let r := Reg.SEP_SENS_STATUS n
  let fresh := match z.pinned with | some u => s.unitFresh now u | none => false
  let stale := s.sensOn n && !fresh
  let age := match z.pinned with | some u => satU 32 (unitAge now u) | none => 2 ^ 32 - 1
  let cnt := match z.pinned with | some u => satU 16 u.recs.length | none => 0
  let bad := match z.pinned with
    | some u => if s.sensOn n && fresh then (u.recs.filter fun x => !s.recordIn x).length else 0
    | none => 0
  let s := s.addSat (Reg.SEP_SENS_ERR n) F.SEP_SENS_ERR_RECORDS_DISCARDED bad
  let s := (s.put r F.SEP_SENS_STATUS_STALE (b2n stale)).put r F.SEP_SENS_STATUS_RECORDS cnt
  let s := s.put r F.SEP_SENS_STATUS_BLIND (b2n (z.pinned.any (·.blind)))
  let s := if z.pinned.isSome then s.setReg (Reg.SEP_SENS_AGE n) (BitVec.ofNat 32 age) else s
  let s := s.put Reg.SEP_STATUS F.SEP_STATUS_STALE (setBit (s.fld Reg.SEP_STATUS F.SEP_STATUS_STALE) n stale)
  let s := s.modSens n fun z => { z with stale := stale }
  if stale && !z.stale then s.postB 0x0712 [(16, 1, n), (20, 4, age)]
  else if z.stale && fresh && s.sensOn n then s.postB 0x0733 [(16, 1, n)]
  else s

/-- The occupied voxels of the tick (R397, R398). -/
def State.occupied (s : State) : List Nat :=
  let recs := (List.range 16).flatMap fun n =>
    match (s.sens n).pinned with
    | some u => if s.sensOn n && s.unitFresh s.cell u then u.recs.filter s.recordIn else []
    | none => []
  let caps := s.measCaps
  (recs.flatMap s.recordVoxels).filter fun v => !s.cleared caps v

/-- The computation of a tick: field, capsules, pairs (R399–R408). -/
def State.sepCompute (s : State) : State :=
  let occ := s.occupied
  let tf := s.cell
  let on := s.groups.filter s.placed
  let all := (on.filter s.rrEn).map fun g => (g, s.predCaps g tf)
  let res := s.groups.map fun g =>
    let caps := match (s.pg g).model with
      | some m => if s.placed g then (s.capsOn g).filterMap fun c =>
          (s.capSeg m c (s.pg g).measQ).map fun e => s.capResult occ m g c e else []
      | none => []
    let mask := s.fld (Reg.SEP_GRP_CTRL g) F.SEP_GRP_CTRL_SENSOR_MASK
    let st := (List.range 16).any fun n => bit mask n && (s.sens n).stale
    (g, (⟨s.placed g, caps, if s.placed g then s.rrOf all g else none, st⟩ : SepRes))
  s.modSep fun z => { z with busy := true, occ := occ, res := res }

/-- The monitor's part of a freeze. -/
def State.sepFreeze (s : State) : State :=
  if 2 ≤ s.role then s
  else
    let s := s.capFreeze
    if s.sepState = 1 ∨ s.sepState = 2 then (forEach (List.range 16) s fun n s => s.sensFreeze n).sepCompute else s

/-! ### Publication (R409–R412) -/

/-- A cause that clears by HOLD_TICKS (R410): key of its run, whether raised, whether clear with HYST; present or not. -/
def State.heldCause (s : State) (key : Nat) (was raised clear : Bool) : State × Bool :=
  let n := tabGet (fun _ => 0) s.sep.runs key
  let n' := if clear then n + 1 else 0
  let on := raised || (was && decide (n' < s.fld Reg.SEP_RELEASE F.SEP_RELEASE_HOLD_TICKS))
  (s.modSep fun z => { z with runs := tabSet (fun _ => 0) z.runs key (if on then (if raised then 0 else n') else 0) }, on)

/-- The capsule registers of a group (R428). -/
def State.showCaps (s : State) (g : Nat) (r : SepRes) : State :=
  let s := s.clearRegs (Reg.SEP_CAP_D g 0) (Reg.SEP_CAP_D g 0 + 128)
  forEach r.caps s fun x s =>
    let i := x.cap % 16
    let s := s.setReg (Reg.SEP_CAP_D g i) (BitVec.ofNat 32 (b2n x.outside * 2 ^ 31 + x.fmin * 2 ^ 16 + x.d))
    s.setReg (Reg.SEP_CAP_V g i) (BitVec.ofNat 32 (satU 16 (dFloor (dMul x.v (dOfInt 1000))).toNat))

/-- The capsule with the least d − S_p. -/
def SepRes.minCap (r : SepRes) : Option SepCap :=
  r.caps.foldl (fun b x => match b with
    | none => some x
    | some y => if dLt (dSub (dMm x.d) x.sp) (dSub (dMm y.d) y.sp) then some x else b) none

/-- The publication for one group (R406, R408–R411). -/
def State.publishGroup (s : State) (g : Nat) (res : SepRes) : State :=
  let r := Reg.SEP_GRP_STATUS g
  let mon := s.monEn g
  let rr := s.rrEn g
  let hyst := dMm (s.fld Reg.SEP_RELEASE F.SEP_RELEASE_HYST)
  let stop := dMm (s.fld Reg.SEP_RR F.SEP_RR_RR_STOP)
  let slow := dMm (s.fld Reg.SEP_RR F.SEP_RR_RR_SLOW)
  let ms := dMm (s.fld Reg.SEP_ALLOW_C F.SEP_ALLOW_C_M_SLOW)
  let s := s.showCaps g res
  let s := match res.minCap with
    | some x =>
      let s := s.put r F.SEP_GRP_STATUS_MIN_CAP (x.cap % 16)
      s.setReg (Reg.SEP_GRP_DMIN g) (BitVec.ofNat 32 (satU 16 (dFloor (dMul x.sp (dOfInt 1000))).toNat * 2 ^ 16 + x.d))
    | none => (s.put r F.SEP_GRP_STATUS_MIN_CAP 0).setReg (Reg.SEP_GRP_DMIN g) 2550
  let s := match res.rr with
    | some (d, h, i) => s.setReg (Reg.SEP_GRP_RR g) (BitVec.ofNat 32 (h * 2 ^ 28 + i * 2 ^ 24 + satU 16 (dFloor (dMul d (dOfInt 1000))).toNat))
    | none => s.setReg (Reg.SEP_GRP_RR g) 2550
  let (s, person) := s.heldCause (2 * g) (s.flag r F.SEP_GRP_STATUS_PERSON) (mon && res.caps.any fun x => dLt (dMm x.d) x.sp)
    (res.caps.all fun x => dLe (dAdd x.sp hyst) (dMm x.d))
  let person := person && mon
  let (s, robot) := s.heldCause (2 * g + 1) (s.flag r F.SEP_GRP_STATUS_ROBOT) (rr && res.rr.any fun x => dLt x.1 stop)
    (res.rr.all fun x => dLe (dAdd stop hyst) x.1)
  let robot := robot && rr
  let left (on : Bool) (key : Nat) : Nat :=
    if on then s.fld Reg.SEP_RELEASE F.SEP_RELEASE_HOLD_TICKS - tabGet (fun _ => 0) s.sep.runs key else 0
  let s := (s.put r F.SEP_GRP_STATUS_PERSON (b2n person)).put r F.SEP_GRP_STATUS_ROBOT (b2n robot)
  let s := (s.put r F.SEP_GRP_STATUS_STALE (b2n (mon && res.stale))).put r F.SEP_GRP_STATUS_NOT_RUNNING 0
  let s := (s.put r F.SEP_GRP_STATUS_OVERRUN 0).put r F.SEP_GRP_STATUS_UNPLACED (b2n !res.placed)
  let s := s.put r F.SEP_GRP_STATUS_HOLD_LEFT (max (left person (2 * g)) (left robot (2 * g + 1)))
  let s := s.sepRequest g
  let vref := dMm (s.fld (Reg.SEP_GRP_VREF g) F.SEP_GRP_VREF_V_REF)
  let unit (x : Nat) : Nat := dMin d1 (dMax 0 x)
  let fp := if !mon then d1 else res.caps.foldl (fun f x =>
    dMin f (unit (dDiv (dSub (dSub (dMm x.d) (s.sepA g)) ms) (dMul (s.sepB g) vref)))) d1
  let fr := match res.rr with
    | some x => unit (dDiv (dSub x.1 stop) (dSub slow stop))
    | none => d1
  s.put (Reg.SEP_GRP_FNEXT g) F.SEP_GRP_FNEXT_FACTOR (s.fNext g (dMin fp fr))

/-- SEP_COPY_FIELD at a publication: the box, x fastest. -/
def State.copyBox (s : State) (c : Cmd) : State :=
  let data := (List.range (c.u 24 2)).flatMap fun z => (List.range (c.u 22 2)).flatMap fun y => (List.range (c.u 20 2)).flatMap fun x =>
    leBytes 2 (s.field s.sep.occ (s.voxel (c.b 16 + x) (c.b 17 + y) (c.b 18 + z)))
  s.withRoom c (c.u 32 8) data fun s => s.complete c stOK 0

/-- The publication of a tick at the optimiser's deadline (R412, R414): `cycles` worked; `done` says whether the computation is complete.
DEDUCED: notes/assumptions/65.md. -/
def State.sepPublish (s : State) (cycles : Nat) (done : Bool) : State :=
  if !s.sep.busy ∨ 2 ≤ s.role ∨ !(s.sepState = 1 ∨ s.sepState = 2) then s
  else
    let res := s.sep.res
    let s := s.modSep fun z => { z with busy := false, res := [] }
    let s := (s.setReg Reg.SEP_TICK (BitVec.ofNat 32 s.pl.tick)).setReg Reg.SEP_CYC_LAST (BitVec.ofNat 32 cycles)
    if !done then
      let s := s.postB 0x0715 [(20, 4, cycles), (24, 4, s.sepBudget)]
      forEach (s.groups.filter fun g => s.monEn g || s.rrEn g) s fun g s =>
        ((s.put (Reg.SEP_GRP_STATUS g) F.SEP_GRP_STATUS_OVERRUN 1).sepRequest g).put (Reg.SEP_GRP_FNEXT g) F.SEP_GRP_FNEXT_FACTOR 0
    else
      let s := s.modSep fun z => { z with mirror := false }
      let s := forEach res s fun x s => s.publishGroup x.1 x.2
      if s.sepState = 1 then
        let e := s.sep.enable
        let s := (s.modSep fun z => { z with enable := none }).setSep 2
        match e with
        | some c => s.complete c stOK 0
        | none => s
      else
        let l := s.sep.copies
        forEach l (s.modSep fun z => { z with copies := [] }) fun c s => s.copyBox c

/-- SEP_MEMORY_FAULT (R415): memory 0 grid, 1 field, 2 records. -/
def execSepMemoryFault (mem : Nat) (s : State) : Out :=
  .next <|
    if (s.sepState = 1 ∨ s.sepState = 2) ∧ mem < 3 ∧ s.sep.change ≠ some 4 then
      (s.modSep fun z => { z with change := some 4, busy := false }).postB 0x0718 [(17, 1, mem)]
    else s

/-! ### Commands (R420, R429) -/

/-- A capsule is defined and suits its group's model (check 5 of R420). -/
def State.capValid (s : State) (c : Nat) : Bool :=
  s.capRadius c != 0 && (match (s.pg (c / 16)).model with
    | some m => m.attachOk (s.fld (Reg.SEP_CAP_CTRL c) F.SEP_CAP_CTRL_ATTACH)
    | none => false)

/-- The first check of R420 that fails; 0 when all pass. -/
def State.sepCheck (s : State) : Nat :=
  let en := idxs 16 s.sensOn
  let tick := s.fld Reg.PLAN_CTRL F.PLAN_CTRL_TICK_LEN_USED * s.bankUs s.bankUsed
  let box (b : Nat) : Bool :=
    let lo := Reg.SEP_IGN_MIN b
    let hi := Reg.SEP_IGN_MAX b
    decide (s.fld lo F.SEP_IGN_MIN_X ≤ s.fld hi F.SEP_IGN_MAX_X) && decide (s.fld lo F.SEP_IGN_MIN_Y ≤ s.fld hi F.SEP_IGN_MAX_Y)
      && decide (s.fld lo F.SEP_IGN_MIN_Z ≤ s.fld hi F.SEP_IGN_MAX_Z)
  if s.fld Reg.SEP_TR F.SEP_TR_TR_US < s.fld Reg.SEP_SENSOR F.SEP_SENSOR_MAX_AGE + 2 * tick then 1
  else if s.fld Reg.SEP_RR F.SEP_RR_RR_SLOW ≤ s.fld Reg.SEP_RR F.SEP_RR_RR_STOP ∨ !(List.range 32).all box then 2
  else if !(s.groups.all fun g => !s.monEn g ||
      (let m := s.fld (Reg.SEP_GRP_CTRL g) F.SEP_GRP_CTRL_SENSOR_MASK
       m != 0 && (List.range 16).all fun n => !bit m n || en.contains n)) ∨
      en.any (fun n => let d := s.fld (Reg.SEP_SENS_CFG n) F.SEP_SENS_CFG_NODE; d == 0 || decide (240 < d)) then 3
  else if s.sepBudget < s.sepW then 4
  else if !(s.groups.flatMap s.capsOn).all s.capValid then 5
  else 0

/-- SEP_ENABLE (R415, R420). -/
def execSepEnable (c : Cmd) (s : State) : Out :=
  let c := { c with op := 0x0701 }
  .next <| s.judge c
    (check1 c .pf [] ++
      [ (!c.onlyUses [], .bad), s.mirrorCheck c, (s.mode == mBoot, .reject 1 s.mode),
        (s.sepState != 0 || s.sep.change.isSome, .reject 12 s.sepState) ])
    fun s =>
      let f := s.sepCheck
      if f ≠ 0 then s.complete c stBad f
      else s.modSep fun z => { z with enable := some c, change := some 1 }

/-- SEP_DISABLE (R415). -/
def execSepDisable (c : Cmd) (s : State) : Out :=
  let c := { c with op := 0x0702 }
  .next <| s.judge c
    (check1 c .pf [] ++
      [ (!c.onlyUses [], .bad), s.mirrorCheck c, (s.sepState == 0 || s.sepState == 3, .reject 12 s.sepState) ])
    fun s => s.modSep fun z => { z with disable := z.disable ++ [c], change := some 0 }

/-- SEP_CAP_ENABLE (R402, R429): it waits for the next freeze. -/
def execSepCapEnable (c : Cmd) (s : State) : Out :=
  let c := { c with op := 0x0703 }
  let g := c.group
  .next <| s.judge c
    (check1 c .any [] ++
      [ (!c.onlyUses [(16, 2)] || decide (s.nGroups ≤ g), .bad),
        ((s.pg g).model.isSome && (idxs 16 (bit (c.u 16 2))).any fun i => !s.capValid (16 * g + i), .bad),
        s.mirrorCheck c, ((s.pg g).model.isNone, .reject 255 0) ])
    fun s => s.modSep fun z => { z with capCmds := z.capCmds ++ [c] }

/-- SEP_COPY_FIELD (R429): it waits for the next publication. -/
def execSepCopyField (c : Cmd) (s : State) : Out :=
  let c := { c with op := 0x0704 }
  let sx := c.u 20 2
  let sy := c.u 22 2
  let sz := c.u 24 2
  let n := 2 * sx * sy * sz
  .next <| s.judge c
    (check1 c .pf [(c.u 32 8, n)] ++
      [ (!c.onlyUses [(16, 1), (17, 1), (18, 1), (20, 2), (22, 2), (24, 2), (32, 8), (40, 4)] || !sramFits (c.u 32 8) n, .bad),
        (decide (s.gridN 0 < c.b 16 + sx ∨ s.gridN 1 < c.b 17 + sy ∨ s.gridN 2 < c.b 18 + sz), .bad),
        (decide (16384 < sx * sy * sz) || decide (c.u 40 4 < n), .bad),
        (s.sepState != 2, .reject 12 s.sepState) ])
    fun s => s.modSep fun z => { z with copies := z.copies ++ [{ c with accepted := true }] }

end Sys2Proof.Machine
end

