-- ==== Sys2Proof/Machine/Tick.lean ====
section
/-!
DEFINITION. The instants of a cycle and of a planning tick that concern several blocks (the tables of 01_architecture.md):
the feedback cut-off, the end of the servo computation, the optimiser's deadline and the tick boundary.
-/
namespace Sys2Proof.Machine

/-- The feedback cut-off of the bank in use, in units after T_k (R28). -/
def State.cutoffUnits (s : State) : Nat :=
  let us := s.bankUs s.bankUsed
  s.fld (Reg.SB_CUTOFF s.bankUsed) F.SB_CUTOFF_FB_CUTOFF * us * 16000 / blocksOf us

/-- The freeze of the first cut-off of a tick (R234, R285, R298, R412). -/
def State.tickFreeze (s : State) : State :=
  if !s.pl.freezeDue then s
  else
    let s := { s with pl := { s.pl with freezeDue := false } }
    if 2 ≤ s.role then s else s.planFreeze.optFreeze.sepFreeze

/-- SYNCED clears with a cause (R719): foul 0x0E11. -/
def State.clearSync (s : State) (cause : Nat) : State :=
  if s.flag Reg.TWIN_STATUS F.TWIN_STATUS_SYNCED then
    (s.put Reg.TWIN_STATUS F.TWIN_STATUS_SYNCED 0).postB 0x0E11 [(16, 1, cause)]
  else s

/-- At the feedback cut-off of cycle k the standby holds the cycle part of k − 1, or has missed it (R32, R719, R729). -/
def State.partCheck (s : State) : State :=
  if s.twin.held = some (s.cycleCount - 1) then s
  else ({ s with twin := { s.twin with parts := 0, without := s.twin.without + 1 } }).clearSync 1

/-- FEEDBACK_CUTOFF (R28, R234, R353): copies that complete later are counted missing, the servo computes cycle k, and the
first cut-off of a tick freezes the measured state; a standby holds the cycle part of the cycle before (R719); `failed` names the pipelines whose residue check fails (R373). -/
def execFeedbackCutoff (failed : List Nat) (s : State) : Out :=
  .next <|
    if s.armed 0 && !s.link.cut && timePast (s.link.tk + BitVec.ofNat 64 s.cutoffUnits) s.cell then
      let s := { s with link := { s.link with cut := true } }
      if 2 ≤ s.role then s.partCheck.tickFreeze else (s.srvCompute failed).tickFreeze
    else s

/-- The instant of the optimiser's deadline of the tick (R320). -/
def State.deadlineAt (s : State) : W64 :=
  s.actTime 1 - BitVec.ofNat 64 (s.actPeriod 1) + BitVec.ofNat 64 (s.opt.pct * s.actPeriod 1 / 100)

/-- The registers that a tick part carries: those of the planner, the optimiser and the monitor but the group states, and the
memberships (R714). -/
def tickReg (o : Nat) : Bool :=
  let b := blockOf o
  ((b == 4 || b == 5 || b == 7) && !(decide (0x2000000 ≤ o) && (o % 0x10000 == 0 || o % 0x10000 == 0x18)))
    || (decide (Reg.NODE_STATUS 0 ≤ o) && decide (o < Reg.NODE_STATUS 256))

/-- The active sends the tick part from the deadline on (R714). -/
def State.sendTick (s : State) : State :=
  if s.role = 1 ∧ s.twin.mirror then
    s.emit (.twinTick {
      tick := s.pl.tick, grps := s.pl.grp, sols := s.opt.grp.map fun e => (e.1, e.2.sol), zones := s.pl.zones
      holds := s.sep.runs, regs := s.regs.filter fun e => tickReg e.1 })
  else s

/-- OPTIMISER_DEADLINE (R252, R262, R312, R320–R322, R412–R414): every cluster stops, the planner takes the solutions, checks
zones and builds plan n + 1, and the separation monitor publishes. `stands` gives, for each group whose solve has not
ended, how far it has come; `sepCycles` the monitor's working cycles and `sepDone` whether its computation is complete.
DEDUCED: notes/assumptions/63.md. -/
def execOptimiserDeadline (stands : List (Nat × Nat)) (sepCycles : Nat) (sepDone : Bool) (s : State) : Out :=
  .next <|
    if s.pl.deadlineDue && s.armed 1 && timePast s.deadlineAt s.cell then
      let s := { s with pl := { s.pl with deadlineDue := false } }
      if 2 ≤ s.role then s
      else (((s.optDeadline stands).planBuild.optIdle).sepPublish sepCycles sepDone).sendTick
    else s

/-- The tick boundary (R33): the monitor's, optimiser's and planner's parts. -/
def State.tickBoundary (s : State) (tk : W64) : State := ((s.optTick).sepTick).planTick tk

end Sys2Proof.Machine
end

