-- ==== Sys2Proof/Machine/WorkCores.lean ====
section
/-!
DEFINITION. Block 0x0C, the work cores' scheduler: items and their runs (R649–R659), waits (R660–R662), core states,
draining and reload (R664–R668). The cores' instructions stand in RiscV.lean.
-/
namespace Sys2Proof.Machine

/-! ### Local memory -/

/-- Offset of context frame `n` in data RAM (R657). -/
def frameAt (n : Nat) : Nat := 0x1F000 + n * 0x120

/-- Octets of a core's data RAM. -/
def State.dram (s : State) (c o n : Nat) : List Byte := memRead (s.core c).dram o n
/-- Writes a core's data RAM. -/
def State.dramWrite (s : State) (c o : Nat) (d : List Byte) : State :=
  s.modCore c fun z => { z with dram := memWrite z.dram o d }

/-- Integer register of a core; x0 reads 0. -/
def RvSt.rx (r : RvSt) (i : Nat) : W64 := if i = 0 then 0 else tabGet (fun _ => 0) r.x i
/-- Writes an integer register; x0 discards. -/
def RvSt.wx (r : RvSt) (i : Nat) (v : W64) : RvSt := if i = 0 then r else { r with x := tabSet (fun _ => 0) r.x i v }
/-- `mstatus.FS`: 0 Off, 1 Initial, 2 Clean, 3 Dirty. -/
def RvSt.fs (r : RvSt) : Nat := r.mstatus.toNat / 2 ^ 13 % 4
/-- Sets `mstatus.FS`, with SD at bit 63 for Dirty. -/
def RvSt.setFs (r : RvSt) (v : Nat) : RvSt :=
  let m := r.mstatus.toNat % 2 ^ 63
  { r with mstatus := BitVec.ofNat 64 (m - r.fs * 2 ^ 13 + v * 2 ^ 13 + (if v = 3 then 2 ^ 63 else 0)) }

/-- A core's registers changed. -/
def State.modRv (s : State) (c : Nat) (f : RvSt → RvSt) : State := s.modCore c fun z => { z with rv := f z.rv }

/-- f0–f31 and `fcsr` become undefined (R650, R657). -/
def State.freeFp (s : State) (c : Nat) : State :=
  let s := forEach (List.range 32) s fun i s =>
    let (v, s) := s.takeFree
    s.modRv c fun r => { r with f := tabSet (fun _ => 0) r.f i v }
  let (v, s) := s.takeFree
  s.modRv c fun r => { r with fcsr := v.toNat % 256 }

/-! ### Frames (R657) -/

/-- Frames in use on a core. -/
def State.framesUsed (s : State) (c : Nat) : Nat := (s.core c).frames.length

/-- The lowest free frame. -/
def State.freeFrame (s : State) (c : Nat) : Option Nat :=
  (List.range 14).find? fun n => !(s.core c).frames.any fun p => p.1 == n

/-- The 288 octets of a context. -/
def contextBytes (r : RvSt) (item result : Nat) : List Byte :=
  (List.range 32).flatMap (fun i => leBytes 8 (r.rx i).toNat) ++ leBytes 8 r.pc.toNat ++ leBytes 8 r.mepc.toNat ++
    leBytes 8 r.mstatus.toNat ++ leBytes 2 item ++ [if r.machine then 3 else 0, BitVec.ofNat 8 result, 0, 0, 0, 0]

/-- `mstatus` with a new content: MIE, MPIE, MPP (U or M), FS, MPRV and TW are writable, UXL reads 2 and SD follows FS. -/
def mstatusOf (old v : W64) : W64 :=
  let n := v.toNat
  let mpp := n / 2 ^ 11 % 4
  let mpp := if mpp = 0 ∨ mpp = 3 then mpp else if Config.warlPick 0x300 old v % 2 = 0 then 0 else 3
  let fs := n / 2 ^ 13 % 4
  let f (i : Nat) : Nat := if bit n i then 2 ^ i else 0
  BitVec.ofNat 64 (f 3 + f 7 + mpp * 2 ^ 11 + fs * 2 ^ 13 + f 17 + f 21 + 2 * 2 ^ 32 + (if fs = 3 then 2 ^ 63 else 0))

/-- The context in a frame's octets. -/
def contextOf (r : RvSt) (d : List Byte) : RvSt :=
  let r := (List.range 32).foldl (fun r i => r.wx i (BitVec.ofNat 64 (leAt d (8 * i) 8))) r
  ({ r with
    pc := BitVec.ofNat 64 (leAt d 256 8)
    mepc := BitVec.ofNat 64 (leAt d 264 8 / 2 * 2)
    mstatus := mstatusOf r.mstatus (BitVec.ofNat 64 (leAt d 272 8))
    machine := leAt d 282 1 == 3 }).setFs 2

/-- `WC_STATE(c).FRAMES` from the frames in use. -/
def State.setFrames (s : State) (c : Nat) (l : List (Nat × Nat)) : State :=
  (s.modCore c fun z => { z with frames := l }).put (Reg.WC_STATE c) F.WC_STATE_FRAMES l.length

/-- The running item's context goes to frame `n`, and the item is pinned to the core. -/
def State.saveContext (s : State) (c i n : Nat) : State :=
  let s := s.dramWrite c (frameAt n) (contextBytes (s.core c).rv i (s.core c).result)
  let s := s.setFrames c ((n, i) :: (s.core c).frames)
  s.modItem i fun x => { x with frame := n, result := (s.core c).result }

/-- Item `i` goes on from its frame, which is freed; its SCH_RESULT is shown. -/
def State.restoreContext (s : State) (c i : Nat) : State :=
  let n := (s.item i).frame
  let d := s.dram c (frameAt n) 288
  let s := s.modCore c fun z => { z with rv := contextOf z.rv d, result := (s.item i).result }
  let s := s.setFrames c ((s.core c).frames.filter fun p => p.2 != i)
  s.freeFp c

/-- A fresh run of item `i` (R650). -/
def State.freshStart (s : State) (c i : Nat) : State :=
  let it := s.item i
  let s := forEach (List.range 32) s fun k s =>
    let (v, s) := s.takeFree
    s.modRv c fun r => r.wx k v
  let s := s.modCore c fun z =>
    let r := ((z.rv.wx 2 (BitVec.ofNat 64 it.stack)).wx 10 (BitVec.ofNat 64 i)).wx 11 it.arg
    { z with
      rv := ({ r with pc := BitVec.ofNat 64 it.entry, machine := !s.flag (Reg.WI_STATUS i) F.WI_STATUS_USER }).setFs 2
      result := 0 }
  s.freeFp c

/-! ### The running item -/

/-- Notices on a core clear (R658). -/
def State.clearNotice (s : State) (c : Nat) : State :=
  (s.modCore c fun z => { z with notice := [] }).put (Reg.WC_STATE c) F.WC_STATE_NOTICE 0

/-- The notice of a core keeps the items that still wait, READY or SUSPENDED, for it (R658). -/
def State.refreshNotice (s : State) (c : Nat) : State :=
  let l := (s.core c).notice.filter fun i => s.itemState i == iReady || s.itemState i == iSuspended
  (s.modCore c fun z => { z with notice := l }).put (Reg.WC_STATE c) F.WC_STATE_NOTICE (b2n (!l.isEmpty))

/-- The core's item leaves it: `WC_STATE` shows no item and the notice clears. -/
def State.leaveCore (s : State) (c : Nat) : State :=
  let i := s.coreItem c
  let s := s.put (Reg.WC_STATE c) F.WC_STATE_BUSY 0
  let s := s.put (Reg.WC_STATE c) F.WC_STATE_PRIO 0
  let s := s.put (Reg.WC_STATE c) F.WC_STATE_ITEM 0
  let ran := (s.u - (s.item i).runFrom.toNat) * 1600 / 16000
  let s := s.setReg (Reg.WC_BUSY c) (BitVec.ofNat 32 (satU 32 ((s.reg (Reg.WC_BUSY c)).toNat + ran)))
  s.clearNotice c

/-- Item `i` starts or goes on on core `c`. DEDUCED: notes/assumptions/11.md. -/
def State.runOn (s : State) (c i : Nat) : State :=
  let pinned := s.itemState i == iSuspended
  let s := s.setItemState i iRunning
  let s := s.put (Reg.WI_STATUS i) F.WI_STATUS_LAST c
  let s := s.put (Reg.WC_STATE c) F.WC_STATE_BUSY 1
  let s := s.put (Reg.WC_STATE c) F.WC_STATE_ITEM i
  let s := s.put (Reg.WC_STATE c) F.WC_STATE_PRIO (s.fld (Reg.WI_STATUS i) F.WI_STATUS_PRIO)
  let s := s.modItem i fun x => { x with runFrom := BitVec.ofNat 64 s.u, warned := pinned && x.warned }
  if pinned then s.restoreContext c i
  else
    let s := s.freshStart c i
    if s.flag Reg.DISC_STATUS F.DISC_STATUS_BUSY &&
        (s.bindings 2 fun _ => true).any (fun b => s.fld (Reg.SCH_BIND b) F.SCH_BIND_ITEM == i) then
      (s.modItem i fun x => { x with tookSample := true }).disciplineRun
    else s

/-- The running item of core `c` becomes SUSPENDED in frame `n`, or WAITING on an object. -/
def State.suspendTo (s : State) (c n : Nat) (wait : Option Nat) : State :=
  let i := s.coreItem c
  let s := s.saveContext c i n
  let s := match wait with
    | none => (s.setItemState i iSuspended).enqueue i
    | some w =>
      let s := (s.setItemState i iWaiting).enqueue i
      let s := s.modItem i fun x => { x with waitOn := w, deadline := (s.core c).waitTmo }
      s.addSat (Reg.WO_STATUS w) F.WO_STATUS_WAITERS 1
  s.leaveCore c

/-! ### Dispatch (R653–R658) -/

/-- Cores on which item `i` is eligible (R653). -/
def State.eligibleCores (s : State) (i : Nat) : List Nat :=
  if s.itemState i = iReady then idxs 16 fun c => bit (s.itemMask i) c && s.coreState c == kOnline
  else
    let c := s.fld (Reg.WI_STATUS i) F.WI_STATUS_LAST
    if s.coreState c = kOnline ∨ s.coreState c = kDraining then [c] else []

/-- The free core that takes item `i`: the one that last ran it, else the lowest. -/
def State.freeCoreFor (s : State) (i : Nat) : Option Nat :=
  let l := (s.eligibleCores i).filter fun c => !s.coreBusy c
  let last := s.fld (Reg.WI_STATUS i) F.WI_STATUS_LAST
  if l.contains last then some last else l.head?

/-- Core `c` can be pre-empted (R658). -/
def State.preemptable (s : State) (c : Nat) : Bool :=
  s.flag (Reg.WI_STATUS (s.coreItem c)) F.WI_STATUS_PREEMPT && (s.freeFrame c).isSome && (s.core c).rv.fs != 3

/-- Keeps the elements that pass, when some do. -/
def narrow (p : Nat → Bool) (l : List Nat) : List Nat :=
  let k := l.filter p
  if k.isEmpty then l else k

/-- The target for item `i` (R654, R656). -/
def State.targetFor (s : State) (i : Nat) : Option Nat :=
  let p := s.fld (Reg.WI_STATUS i) F.WI_STATUS_PRIO
  let prio (c : Nat) : Nat := s.fld (Reg.WC_STATE c) F.WC_STATE_PRIO
  let l := (s.eligibleCores i).filter fun c => s.coreBusy c && decide (prio c < p)
  let low := l.foldl (fun m c => min m (prio c)) 8
  let l := narrow (fun c => prio c == low) l
  let l := narrow s.preemptable l
  let l := narrow (fun c => c == s.fld (Reg.WI_STATUS i) F.WI_STATUS_LAST) l
  l.head?

/-- Items that wait for a core, in no order. -/
def State.waitingItems (s : State) : List Nat := s.itemsIn iReady ++ s.itemsIn iSuspended

/-- The choice time is measured in `SCH_LAT`; how long a choice took, at most 200 ns (R655), is open. -/
def State.noteLatency (s : State) : State :=
  let (v, s) := s.takeFree
  let t := v.toNat % 201
  (s.put Reg.SCH_LAT F.SCH_LAT_LAST t).put Reg.SCH_LAT F.SCH_LAT_MAX (max t (s.fld Reg.SCH_LAT F.SCH_LAT_MAX))

/-- One choice of the scheduler: the first item with a free core starts; with none, the first item with a target
pre-empts it, or raises a notice on it. -/
def State.dispatch (s : State) : State :=
  let all := s.waitingItems
  match s.firstItem (all.filter fun i => (s.freeCoreFor i).isSome) with
  | some i =>
    match s.freeCoreFor i with
    | some c => (s.noteLatency.runOn c i).refreshNotice c
    | none => s
  | none =>
    let pick := s.firstItem (all.filter fun i => match s.targetFor i with
      | some c => !(s.core c).notice.contains i || s.preemptable c
      | none => false)
    match pick with
    | none => s
    | some i =>
      match s.targetFor i with
      | none => s
      | some c =>
        match s.preemptable c, s.freeFrame c with
        | true, some n => (s.noteLatency.suspendTo c n none).runOn c i
        | _, _ =>
          let s := s.noteLatency.modCore c fun z => { z with notice := i :: z.notice }
          s.put (Reg.WC_STATE c) F.WC_STATE_NOTICE 1

/-- WI_DISPATCH. Notices whose items no longer wait clear first; demands for lent cores are reported (R668). -/
def execWiDispatch (s : State) : Out :=
  .next <|
    let s := forEach (List.range 16) s fun c s => if (s.core c).notice.isEmpty then s else s.refreshNotice c
    s.dispatch.coreDemands

/-! ### Stores to the scheduler area (R651, R659, R660) -/

/-- A refused store: foul 0x0C12 with the local offset / 8. -/
def State.storeRefused (s : State) (c o : Nat) : State :=
  s.post 0x0C12 (srcWc c) (det [(16, 1, c), (17, 1, o / 8), (18, 2, if s.coreBusy c then s.coreItem c else 0)])

/-- A run of item `i` ends; the discipline item's run clears `DISC_STATUS.BUSY` (R77). -/
def State.endOfRun (s : State) (i : Nat) : State :=
  let s :=
    if (s.item i).tookSample then
      (s.modItem i fun x => { x with tookSample := false }).put Reg.DISC_STATUS F.DISC_STATUS_BUSY 0
    else s
  if s.flag (Reg.WI_STATUS i) F.WI_STATUS_PENDING then
    (s.put (Reg.WI_STATUS i) F.WI_STATUS_PENDING 0).makeReady i
  else
    let s := s.addWrap (Reg.WI_COUNT i) F.WI_COUNT_RUNS
    s.setItemState i (if s.flag (Reg.WI_STATUS i) F.WI_STATUS_ONESHOT then iFree else iIdle)

/-- SCH_DONE. -/
def State.schDone (s : State) (c : Nat) : State :=
  if !s.coreBusy c then s.storeRefused c 0x008
  else
    let i := s.coreItem c
    ((s.leaveCore c).endOfRun i).coreDemands

/-- SCH_YIELD: with no free frame the item goes on (a save needs a frame). DESIGN CHOICE: notes/assumptions/10.md. -/
def State.schYield (s : State) (c : Nat) : State :=
  if !s.coreBusy c then s.storeRefused c 0x010
  else
    match s.freeFrame c with
    | some n => s.suspendTo c n none
    | none => s

/-- SCH_READY. -/
def State.schReady (s : State) (i : Nat) : State := (s.readyFrom (i % 4096) 1 0).coreDemands

/-- SCH_WAIT on object `w` (R660). -/
def State.schWait (s : State) (c w : Nat) : State :=
  if !s.coreBusy c then s.storeRefused c 0x028
  else
    let w := w % 1024
    let n := s.fld (Reg.WO_STATUS w) F.WO_STATUS_COUNT
    let tmo := (s.core c).waitTmo
    let s' :=
      if 0 < n then
        (s.put (Reg.WO_STATUS w) F.WO_STATUS_COUNT (n - 1)).modCore c fun z => { z with result := 0 }
      else if tmo ≠ 0 ∧ timePast tmo s.cell then s.modCore c fun z => { z with result := 1 }
      else
        match s.freeFrame c with
        | none =>
          (s.modCore c fun z => { z with result := 2 }).post 0x0C14 (srcWc c)
            (det [(16, 1, c), (18, 2, s.coreItem c), (20, 2, w)])
        | some f => s.suspendTo c f (some w)
    s'.modCore c fun z => { z with waitTmo := 0 }

/-- SCH_WAIT_TMO. -/
def State.schWaitTmo (s : State) (c : Nat) (v : W64) : State := s.modCore c fun z => { z with waitTmo := v }

/-- SCH_DONE_STORE. -/
def execSchDoneStore (core : Nat) (s : State) : Out := .next (s.schDone core)
/-- SCH_YIELD_STORE. -/
def execSchYieldStore (core : Nat) (s : State) : Out := .next (s.schYield core)
/-- SCH_READY_STORE. -/
def execSchReadyStore (_core v : Nat) (s : State) : Out := .next (s.schReady v)
/-- SCH_WAIT_STORE. -/
def execSchWaitStore (core v : Nat) (s : State) : Out := .next (s.schWait core v)
/-- SCH_SIGNAL_STORE (R661). -/
def execSchSignalStore (_core v : Nat) (s : State) : Out := .next (s.signalObj (v % 1024))

/-- The first whole µs of cell time at or after a deadline (R662). -/
def waitTick (d : W64) : W64 := BitVec.ofNat 64 ((d.toNat + 15999) / 16000 * 16000)

/-- WAIT_DEADLINE: the deadline of item `i`'s wait takes effect (R662). -/
def execWaitDeadline (i : Nat) (s : State) : Out :=
  let d := (s.item i).deadline
  .next <|
    if s.itemState i = iWaiting ∧ d ≠ 0 ∧ timePast (waitTick d) s.cell then s.endWait i 1 else s

/-- RUN_WARN_EXPIRE: core `c`'s item has run longer than `SCH_CTRL.RUN_WARN` µs (R669). -/
def execRunWarnExpire (core : Nat) (s : State) : Out :=
  let i := s.coreItem core
  let us := (s.u - (s.item i).runFrom.toNat) / 16000
  let lim := s.fld Reg.SCH_CTRL F.SCH_CTRL_RUN_WARN
  .next <|
    if s.coreBusy core && lim != 0 && decide (lim < us) && !(s.item i).warned then
      (s.post 0x0C16 (srcWc core) (det [(16, 1, core), (18, 2, i), (20, 4, us)])).modItem i fun x => { x with warned := true }
    else s

/-! ### Core states (R665–R667) -/

/-- A core starts in INIT at pc 0 in M-mode with a1 = `why` (R665, R666). -/
def State.startInit (s : State) (c why : Nat) : State :=
  let s := s.modCore c fun z =>
    let r := (z.rv.wx 10 (BitVec.ofNat 64 c)).wx 11 (BitVec.ofNat 64 why)
    { z with rv := { r with pc := 0, machine := true, resv := none }, frames := [], notice := [], waitTmo := 0, result := 0 }
  (s.put (Reg.WC_STATE c) F.WC_STATE_FRAMES 0).setCoreState c kInit

/-- Release by boot (R633): every core that is OFF starts. -/
def State.releaseCores (s : State) : State :=
  forEach (List.range 16) s fun c s => if s.coreState c = kOff then s.startInit c 0 else s

/-- Items running on, or pinned to, core `c`. -/
def State.itemsOn (s : State) (c : Nat) : List Nat :=
  (s.itemsIn iRunning ++ s.itemsIn iSuspended ++ s.itemsIn iWaiting).filter fun i =>
    s.fld (Reg.WI_STATUS i) F.WI_STATUS_LAST == c

/-- The pending command of a drain or reload is completed. -/
def State.endDrain (s : State) (c status reason : Nat) : State :=
  match (s.core c).drainCmd with
  | some d => (s.modCore c fun z => { z with drainCmd := none, drainWhy := 0 }).complete d status reason
  | none => s.modCore c fun z => { z with drainWhy := 0 }

/-- A reload is withheld (R667): the old code is put back; the core restarts with a1 = 2, or stays FAULTED. -/
def State.withholdReload (s : State) (c reason crc : Nat) : State :=
  match (s.core c).reload with
  | none => s
  | some r =>
    let old := s.sramRead (r.cmd.u 40 8) 0x20000
    let s := s.modCore c fun z => { z with iram := memWrite z.iram 0 old, reload := none }
    let s := s.post 0x0C11 (srcWc c) (det [(16, 1, c), (17, 1, reason), (20, 4, crc)])
    let s := if r.was = kFaulted then s.setCoreState c kFaulted else s.startInit c 2
    s.complete r.cmd stAborted reason

/-- A core fault (R664, R665): its items become FAULTED; a reload in progress is withheld (R667).
DEDUCED: notes/assumptions/14.md. -/
def State.coreFault (s : State) (c cause : Nat) : State :=
  let st := s.coreState c
  if st ≠ kInit ∧ st ≠ kOnline ∧ st ≠ kDraining ∧ st ≠ kReloading then s
  else
    let run := if s.coreBusy c then s.coreItem c else 0
    let s := (s.put (Reg.WC_FAULT c) F.WC_FAULT_ITEM run).put (Reg.WC_FAULT c) F.WC_FAULT_CAUSE cause
    let s := s.post 0x0C10 (srcWc c) (det [(16, 1, c), (17, 1, cause), (18, 2, run)])
    let s := forEach (s.itemsOn c) s fun i s =>
      let s := if s.itemState i = iWaiting then
          let w := (s.item i).waitOn
          s.put (Reg.WO_STATUS w) F.WO_STATUS_WAITERS (s.fld (Reg.WO_STATUS w) F.WO_STATUS_WAITERS - 1)
        else s
      s.setItemState i iFaulted
    let s := if s.coreBusy c then s.leaveCore c else s
    let s := s.setFrames c []
    let s := s.endDrain c stAborted 3
    let s := s.setCoreState c kFaulted
    if (s.core c).reload.isSome then s.withholdReload c 1 0 else s

/-- WC_CORE_FAULT: an uncorrectable local-memory error, cause 1 instruction RAM, 2 data RAM. -/
def execWcCoreFault (core cause : Nat) (s : State) : Out := .next (s.coreFault core cause)

/-- SCH_FAULT_STORE: cause 3. -/
def execSchFaultStore (core : Nat) (s : State) : Out := .next (s.coreFault core 3)

/-- INIT_TIMEOUT: INIT has lasted 100 ms. -/
def execInitTimeout (core : Nat) (s : State) : Out :=
  .next <|
    if s.coreState core ≠ kInit then s
    else if (s.core core).reload.isSome then s.withholdReload core 1 0
    else s.coreFault core 4

/-- SCH_ONLINE: INIT ends; a reload in progress completes OK (R665). -/
def State.schOnline (s : State) (c : Nat) : State :=
  if s.coreState c ≠ kInit then s
  else
    let s := s.setCoreState c kOnline
    match (s.core c).reload with
    | some r => (s.modCore c fun z => { z with reload := none }).complete r.cmd stOK 0
    | none => s

/-- SCH_ONLINE_STORE. -/
def execSchOnlineStore (core : Nat) (s : State) : Out := .next (s.schOnline core)

/-! ### Draining, reload, lend -/

/-- Nothing is left on a draining core (R665). -/
def State.drained (s : State) (c : Nat) : Bool :=
  !s.coreBusy c && (s.itemsOn c).isEmpty && (List.range 4).all fun k => (s.slot c k).state != 1

/-- The steps 1–4 of R666: save, copy, check, start with a1 = 1; a CRC mismatch withholds the reload (R667). -/
def State.reloadSteps (s : State) (c : Nat) (d : Cmd) (was : Nat) : State :=
  let n := d.u 32 4
  let s := s.setCoreState c kReloading
  let s := s.sramWrite (d.u 40 8) (memRead (s.core c).iram 0 0x20000)
  let img := s.sramRead (d.u 24 8) n
  let s := s.modCore c fun z => { z with iram := memWrite z.iram 0 img, reload := some ⟨d, was⟩ }
  let crc := crc32c (memRead (s.core c).iram 0 n)
  if crc ≠ d.u 36 4 then s.withholdReload c 1 crc else s.startInit c 1

/-- DRAIN_COMPLETE: what the drain was for happens (R665). -/
def State.drainComplete (s : State) (c : Nat) : State :=
  if s.coreState c ≠ kDraining ∨ !s.drained c then s
  else
    match (s.core c).drainWhy with
    | 1 => (s.setCoreState c kOffline).endDrain c stOK 0
    | 2 =>
      match (s.core c).drainCmd with
      | some d => (s.modCore c fun z => { z with drainCmd := none, drainWhy := 0 }).reloadSteps c d kOnline
      | none => s
    | _ =>
      if !(s.region c).running || s.mode == mDegraded then (s.setCoreState c kOnline).endDrain c stOK 0
      else if 15 ≤ s.fld Reg.MST_STATUS F.MST_STATUS_LENT then s
      else
        let s := (s.setCoreState c kLent).endDrain c stOK 0
        let s := s.lendRegion c
        if s.coreWanted c then s.mstDemand c else s

/-- DRAIN_COMPLETE. -/
def execDrainComplete (core : Nat) (s : State) : Out := .next (s.drainComplete core)

/-- DRAIN_TIMEOUT: the drain's time-out passes; the core is ONLINE again and the command completes TIMEOUT. -/
def execDrainTimeout (core : Nat) (s : State) : Out :=
  .next <|
    if s.coreState core = kDraining ∧ (s.core core).drainWhy ≠ 3 then
      (s.setCoreState core kOnline).endDrain core stTimeout 0
    else s

/-- A core begins to drain for a reason (1 WC_DRAIN, 2 WC_RELOAD, 3 lend). -/
def State.startDrain (s : State) (c why : Nat) (d : Option Cmd) : State :=
  (s.modCore c fun z => { z with drainWhy := why, drainCmd := d }).setCoreState c kDraining

/-! ### Commands (R670) -/

/-- WI_CREATE (R649). -/
def execWiCreate (c : Cmd) (s : State) : Out :=
  let c := { c with op := 0x0C01 }
  let i := c.u 16 2
  let mask := c.u 20 2
  let entry := c.u 24 8
  let stack := c.u 40 8
  .next <| s.judge c
    (check1 c .pfWc [] ++
     [ (!c.onlyUses [(16, 2), (18, 1), (19, 1), (20, 2), (24, 8), (32, 8), (40, 8)], .bad),
       (decide (4096 ≤ i) || decide (8 ≤ c.b 18) || decide (16 ≤ c.b 19), .bad),
       (entry % 2 == 1 || decide (0x20000 ≤ entry), .bad),
       (stack % 16 != 0 || decide (stack < 0x100010 ∨ 0x11F000 < stack), .bad),
       (mask == 0, .bad),
       (s.itemState i != iFree, .reject 19 (s.itemState i)) ])
    fun s =>
      let s := s.setReg (Reg.WI_STATUS i) 0
      let s := s.put (Reg.WI_STATUS i) F.WI_STATUS_PRIO (c.b 18)
      let s := s.put (Reg.WI_STATUS i) F.WI_STATUS_USER (b2n (bit (c.b 19) 0))
      let s := s.put (Reg.WI_STATUS i) F.WI_STATUS_PREEMPT (b2n (bit (c.b 19) 1))
      let s := s.put (Reg.WI_STATUS i) F.WI_STATUS_ONESHOT (b2n (bit (c.b 19) 2))
      let s := s.put (Reg.WI_STATUS i) F.WI_STATUS_CORE_MASK mask
      let s := s.modItem i fun _ => { entry := entry, arg := BitVec.ofNat 64 (c.u 32 8), stack := stack }
      let s := s.setItemState i iIdle
      let s := if bit (c.b 19) 3 then s.makeReady i else s
      s.coreDemands.complete c stOK 0

/-- WI_DELETE. -/
def execWiDelete (c : Cmd) (s : State) : Out :=
  let c := { c with op := 0x0C02 }
  let i := c.u 16 2
  .next <| s.judge c
    (check1 c .pfWc [] ++
     [ (!c.onlyUses [(16, 2)] || decide (4096 ≤ i), .bad),
       (s.itemState i != iIdle && s.itemState i != iFaulted, .reject 19 (s.itemState i)) ])
    fun s => (s.setItemState i iFree).complete c stOK 0

/-- WI_READY (R651): the block-specific byte says what the readying did. -/
def execWiReady (c : Cmd) (s : State) : Out :=
  let c := { c with op := 0x0C03 }
  let i := c.u 16 2
  .next <| s.judge c
    (check1 c .pfWc [] ++
     [ (!c.onlyUses [(16, 2)] || decide (4096 ≤ i), .bad),
       (s.itemState i == iFree || s.itemState i == iFaulted, .reject 19 (s.itemState i)) ])
    fun s =>
      match s.ready i with
      | some (b, s) => s.coreDemands.complete c stOK b
      | none => s.complete c stOK 0

/-- WO_SIGNAL (R661): the signals one by one. -/
def execWoSignal (c : Cmd) (s : State) : Out :=
  let c := { c with op := 0x0C04 }
  let w := c.u 16 2
  let n := c.u 20 2
  .next <| s.judge c
    (check1 c .pfWc [] ++
     [ (!c.onlyUses [(16, 2), (20, 2)] || decide (1024 ≤ w) || n == 0, .bad) ])
    fun s => (forEach (List.range n) s fun _ s => s.signalObj w).complete c stOK 0

/-- WC_DRAIN. -/
def execWcDrain (c : Cmd) (s : State) : Out :=
  let c := { c with op := 0x0C05 }
  let k := c.b 16
  .next <| s.judge c
    (check1 c .pf [] ++
     [ (!c.onlyUses [(16, 1), (20, 4)] || decide (16 ≤ k) || decide (c.u 20 4 < 1 ∨ 60000 < c.u 20 4), .bad),
       (s.coreState k != kOnline, .reject 18 (s.coreState k)) ])
    fun s => s.startDrain k 1 (some c)

/-- WC_RESUME (R665). -/
def execWcResume (c : Cmd) (s : State) : Out :=
  let c := { c with op := 0x0C06 }
  let k := c.b 16
  let st := s.coreState k
  .next <| s.judge c
    (check1 c .pf [] ++
     [ (!c.onlyUses [(16, 1), (17, 1)] || decide (16 ≤ k) || decide (2 ≤ c.b 17), .bad),
       (st != kDraining && st != kOffline && st != kFaulted, .reject 18 st) ])
    fun s =>
      if st = kDraining then ((s.setCoreState k kOnline).endDrain k stAborted 3).complete c stOK 0
      else if st = kOffline ∧ c.b 17 = 0 then (s.setCoreState k kOnline).complete c stOK 0
      else (s.startInit k 0).complete c stOK 0

/-- WC_RELOAD (R666). -/
def execWcReload (c : Cmd) (s : State) : Out :=
  let c := { c with op := 0x0C07 }
  let k := c.b 16
  let img := c.u 24 8
  let n := c.u 32 4
  let save := c.u 40 8
  let st := s.coreState k
  let pending := (s.core k).reload.isSome || (s.core k).drainWhy == 2
  .next <| s.judge c
    (check1 c .pf [(img, n), (save, 0x20000)] ++
     [ (!c.onlyUses [(16, 1), (20, 4), (24, 8), (32, 4), (36, 4), (40, 8)] || decide (16 ≤ k), .bad),
       (!isSram img || !isSram save || n % 8 != 0 || decide (0x20000 < n) || decide (sramSize < img + n), .bad),
       (save % 4096 != 0 || decide (secureBase < save + 0x20000), .bad),
       (pending, .busy),
       (st != kOnline && st != kOffline && st != kFaulted, .reject 18 st),
       (s.mode == mBoot, .reject 1 mBoot) ])
    fun s =>
      if !s.sramReady img n then s.sramWait img n (.cmd { c with accepted := true } img n)
      else if !s.sramReady save 0x20000 then s.sramWait save 0x20000 (.cmd { c with accepted := true } save 0x20000)
      else
        match s.poisoned img n with
        | some w => (s.uncorrectable (srcInit 0x0C c.who) w).complete c stBad 0
        | none =>
          let st := s.coreState k
          if st = kOnline then s.startDrain k 2 (some c) else s.reloadSteps k c st

end Sys2Proof.Machine
end

