-- ==== Sys2Proof/Machine/TwinPart.lean ====
section
/-!
DEFINITION. Block 0x0E, what the twin units send each other: the cycle part (R715, R716) and how a standby takes it (R375,
R717), the tick part (R714), SYNCED (R719), the cycle budget (R718).
-/
namespace Sys2Proof.Machine

/-- The twin block's own fields changed. -/
def State.modTwin (s : State) (f : TwinSt → TwinSt) : State := { s with twin := f s.twin }

/-! ### The cycle part (R715, R716) -/

/-- The local axes that the outputs section carries: ACTIVE with OUT_KIND STEP or CHOPPER, ascending. -/
def State.localOuts (s : State) : List Nat := s.activeAxes.filter fun a => decide (192 ≤ a) && decide (2 ≤ s.outKind a)

/-- Enabled biquads of an axis in its bank in use. -/
def State.axisBqs (s : State) (a : Nat) : Bool × Bool :=
  let r := Reg.SRV_CF_SHIFT (s.axisBank a) a
  (s.flag r F.SRV_CF_SHIFT_BQ0_EN, s.flag r F.SRV_CF_SHIFT_BQ1_EN)

/-- The tracking joints: group and joint (R253). -/
def State.trackJoints (s : State) : List (Nat × Nat) :=
  s.groups.flatMap fun g =>
    let z := s.pg g
    match z.plan, z.queue, z.active with
    | .track _, m :: _, true => (idxs z.q.length fun j => bit (leAt m.data 6 2) j).map fun j => (g, j)
    | _, _, _ => []

/-- The axes whose held set-point was taken in this cycle. -/
def State.heldAxes (s : State) : List Nat := (s.srv.out.filter fun e => e.2.taken).map (·.1)

/-- A group record. -/
def State.groupRecord (s : State) (g : Nat) : List Byte :=
  let r := Reg.SRV_GRP_STATUS g
  let z := s.pg g
  let b (n : Nat) : Byte := BitVec.ofNat 8 n
  [b (s.phase g + 8 * s.fld r F.SRV_GRP_STATUS_FAULT_BRAKING + 16 * s.fld r F.SRV_GRP_STATUS_BRAKE_REQ
      + 32 * s.fld r F.SRV_GRP_STATUS_STO_REQ),
   b (s.fld r F.SRV_GRP_STATUS_CAUSE), b (s.fld r F.SRV_GRP_STATUS_FAULT_AXIS),
   b (s.grpState g + 8 * s.holdCause g + 64 * s.fld (Reg.GRP_STATE g) F.GRP_STATE_KIND),
   b (s.stopEnd g + 8 * b2n (s.stopReq g)), 0, 0, 0] ++
  leBytes 4 (satU 32 (s.srvGrp g).age) ++ leBytes 4 (s.reg (Reg.GRP_ACTIVE_TAG g)).toNat ++ leBytes 8 z.u ++ leBytes 8 z.tau

/-- A biquad's states. -/
def bqBytes (z : SrvBq) : List Byte := [z.x1, z.x2, z.y1, z.y2].flatMap fun v => leBytes 4 (ofSigned 32 v)

/-- An axis record. -/
def State.axisRecord (s : State) (a : Nat) : List Byte :=
  let x := s.srvAx a
  let (b0, b1) := s.axisBqs a
  leBytes 8 (ofSigned 64 x.pLast) ++ leBytes 8 (ofSigned 64 x.pPrev) ++ leBytes 6 (ofSigned 48 x.integ) ++ leBytes 2 x.m
    ++ leBytes 2 x.mp ++ leBytes 3 (satU 24 x.fe)
    ++ [BitVec.ofNat 8 x.frz, BitVec.ofNat 8 (satU 4 x.miss + 16 * x.fb + 64 * s.axisMode a),
        BitVec.ofNat 8 (b2n x.extrap + 2 * b2n b0 + 4 * b2n b1)]
    ++ (if b0 then bqBytes x.bq0 else []) ++ (if b1 then bqBytes x.bq1 else [])

/-- The cycle part of cycle k. DEDUCED: notes/assumptions/69.md. -/
def State.cyclePart (s : State) : List Byte :=
  let held := s.heldAxes
  let tr := s.trackJoints
  leBytes 8 s.cycleCount ++ leBytes 4 (s.reg Reg.SRV_SWAP_BANK).toNat ++ leBytes 2 s.nActive
    ++ [BitVec.ofNat 8 tr.length, BitVec.ofNat 8 held.length]
    ++ leBytes 4 (s.reg Reg.SRV_REQ).toNat ++ leBytes 2 (s.fld Reg.LA_OUT_STATE F.LA_OUT_STATE_LEVEL) ++ List.replicate 10 0
    ++ s.localOuts.flatMap (fun a => leBytes 8 (ofSigned 64 (if s.outKind a = 2 then (s.srvOut a).vcmd else (s.srvOut a).cmd)))
    ++ s.groups.flatMap s.groupRecord ++ s.activeAxes.flatMap s.axisRecord
    ++ tr.flatMap (fun x =>
        let z := s.pg x.1
        [BitVec.ofNat 8 x.1, BitVec.ofNat 8 x.2, 0, 0, 0, 0, 0, 0]
          ++ leBytes 8 (nth z.q x.2) ++ leBytes 8 (nth z.v x.2) ++ leBytes 8 (nth z.a x.2))
    ++ held.flatMap fun a => leBytes 2 a ++ List.replicate 6 0 ++ leBytes 8 (ofSigned 64 (s.srvOut a).held)

/-- The part goes out in CYC frames of at most 256 octets, on T0 and T1 in turn; `TWIN_SNAP` (R714, R734). -/
def State.sendCycle (s : State) : State :=
  let d := s.cyclePart
  let fr := pieces 256 (d.length / 256 + 1) (padBlocks d)
  let s := forEach fr.zipIdx s fun x s => s.emit (.twinFrame (x.2 % 2) (s.twinFrame 6 x.2 fr.length 0 x.1))
  s.setReg64 Reg.TWIN_SNAP (BitVec.ofNat 64 s.cycleCount)

/-! ### A standby takes a cycle part (R375, R716, R717) -/

/-- The set-point state of a group from its plan, and its set-point records for T_(k+1). -/
def State.takeSp (s : State) (g : Nat) : State :=
  let z := s.pg g
  let st := s.grpState g
  match z.model with
  | none => s
  | some md =>
    if st = gsDisabled ∨ st = gsFaulted ∨ !z.ready then s
    else
      match z.plan with
      | .track _ => s.writeSp g md z.v z.a z.grav
      | p =>
        let (xs, trq) := p.at z.q z.tau
        let (lam, lamD) := s.lambdas g
        let s := s.modPg g fun z => { z with q := xs.map (·.1), v := xs.map (·.2.1), a := xs.map (·.2.2), trq := trq }
        s.writeSp g md (xs.map fun x => dMul lam x.2.1) (xs.map fun x => dAdd (dMul (dSq lam) x.2.2) (dMul lamD x.2.1))
          (trq.orElse fun _ => z.grav)

/-- A group record is taken. -/
def State.takeGroup (s : State) (g : Nat) (d : List Byte) : State :=
  let r := Reg.SRV_GRP_STATUS g
  let ph := leAt d 0 1
  let st := leAt d 3 1 % 8
  let kind := leAt d 3 1 / 64
  let tag := leAt d 12 4
  let age := leAt d 8 4
  let s := (s.put r F.SRV_GRP_STATUS_PHASE (ph % 8)).put r F.SRV_GRP_STATUS_FAULT_BRAKING (ph / 8 % 2)
  let s := (s.put r F.SRV_GRP_STATUS_BRAKE_REQ (ph / 16 % 2)).put r F.SRV_GRP_STATUS_STO_REQ (ph / 32 % 2)
  let s := (s.put r F.SRV_GRP_STATUS_CAUSE (leAt d 1 1)).put r F.SRV_GRP_STATUS_FAULT_AXIS (leAt d 2 1)
  let s := s.modGrp g fun z => { z with
    age := age, entered := s.link.tk - BitVec.ofNat 64 (age * s.bankUs s.bankUsed * 16000), req := 0, due := false }
  let q := Reg.GRP_STATE g
  let s := (s.put q F.GRP_STATE_STATE st).put q F.GRP_STATE_HOLD_CAUSE (leAt d 3 1 / 8 % 8)
  let s := (s.put q F.GRP_STATE_KIND kind).put q F.GRP_STATE_STOP_END (leAt d 4 1 % 8)
  let s := (s.put q F.GRP_STATE_STOP_REQ (leAt d 4 1 / 8 % 2)).setReg (Reg.GRP_ACTIVE_TAG g) (BitVec.ofNat 32 tag)
  let s := s.put Reg.PLAN_STATUS F.PLAN_STATUS_MOVING
    (setBit (s.fld Reg.PLAN_STATUS F.PLAN_STATUS_MOVING) g (st == gsMoving || st == gsStopping))
  let s := s.put Reg.PLAN_STATUS F.PLAN_STATUS_ENABLED (setBit (s.fld Reg.PLAN_STATUS F.PLAN_STATUS_ENABLED) g (st != gsDisabled))
  let u := leAt d 16 8
  let s := s.modPg g fun z =>
    let rest := z.queue.dropWhile fun m => m.cmd.tag.toNat != tag
    { z with
      ready := ph % 8 == phOn && st != gsDisabled
      u := u, tau := leAt d 24 8
      dir := if st = gsStopping then 1 else if st = gsMoving ∧ !dEq u 0 then 2 else 0
      tstop := s.fld (Reg.GRP_CTRL g) F.GRP_CTRL_TSTOP
      active := kind != 3
      queue := if kind = 3 then (if z.active then z.queue.drop 1 else z.queue) else if rest.isEmpty then z.queue else rest
      plan := if kind = 3 ∧ z.active then .rest else z.plan }
  s.takeSp g

/-- A biquad's states from octets. -/
def bqOf (d : List Byte) (o : Nat) : SrvBq := ⟨sleAt d o 4, sleAt d (o + 4) 4, sleAt d (o + 8) 4, sleAt d (o + 12) 4⟩

/-- An axis record is taken: p(k) by R350, v_fb by stage 3 of R345. DEDUCED: notes/assumptions/69.md. -/
def State.takeAxis (s : State) (a : Nat) (d : List Byte) : State :=
  let us := s.bankUs s.bankUsed
  let pl := sleAt d 0 8
  let pp := sleAt d 8 8
  let m := leAt d 22 2
  let mp := leAt d 24 2
  let st := leAt d 30 1
  let fl := leAt d 31 1
  let x := s.srvAx a
  let x := { x with
    started := true, pLast := pl, pPrev := pp, integ := sleAt d 16 6, m := m, mp := mp, dt := m * us
    p := satS 64 (pl + if m = 0 ∨ mp = 0 then 0 else roundHalf ((pl - pp) * m) mp)
    vfb := if m = 0 ∧ mp ≠ 0 then satS 64 (roundHalf ((pl - pp) * 1000000) (mp * us)) else x.vfb
    cnt := if 192 ≤ a then (pl / 65536 % (s.laW (a - 192) : Int)).toNat else x.cnt
    fe := leAt d 26 3, frz := leAt d 29 1, miss := st % 16, fb := st / 16 % 4, extrap := bit fl 0
    bq0 := if bit fl 1 then bqOf d 32 else {}
    bq1 := if bit fl 2 then bqOf d (if bit fl 1 then 48 else 32) else {} }
  let s := s.put (Reg.SRV_AX_STATE a) F.SRV_AX_STATE_MODE (st / 64)
  let s := s.modSrv fun z => { z with ax := tabSet (fun _ => {}) z.ax a x }
  s.setReg (Reg.SRV_AX_STATE a) (s.axisWord a x)

/-- The octets of an axis record. -/
def axisLen (d : List Byte) (o : Nat) : Nat :=
  let f := leAt d (o + 31) 1
  32 + 16 * (b2n (bit f 1) + b2n (bit f 2))

/-- The axis records from octet `o` on, and the octet after them. -/
def State.takeAxes (s : State) (d : List Byte) : List Nat → Nat → State × Nat
  | [], o => (s, o)
  | a :: t, o => let n := axisLen d o; (s.takeAxis a (slice d o n)).takeAxes d t (o + n)

/-- The swap sets follow `SRV_SWAP_BANK` of the part; a set whose commit the journal has not delivered leaves the standby behind
(R717, R719). -/
def State.followSwaps (s : State) (bank : Nat) : State :=
  let s := s.modTwin fun z => { z with behind := false }
  forEach (idxs 32 fun q => bit bank q != (s.setBank q == 1)) s fun q s =>
    match s.srv.commits.find? fun x => x.1 == q with
    | some x => (s.dropCommit q).swapNow q x.2
    | none => s.modTwin fun z => { z with behind := true }

/-- A complete cycle part is taken. -/
def State.takeCycle (s : State) (d : List Byte) : State :=
  let k := leAt d 0 8
  let s := s.followSwaps (leAt d 8 4)
  let outs := s.localOuts
  let o1 := 32 + 8 * outs.length
  let s := s.setReg Reg.SRV_REQ (BitVec.ofNat 32 (leAt d 16 4))
  let s := forEach s.groups.zipIdx s fun x s => s.takeGroup x.1 (slice d (o1 + 32 * x.2) 32)
  let (s, o2) := s.takeAxes d s.activeAxes (o1 + 32 * s.nGroups)
  let s := forEach (outs.zipIdx) s fun x s =>
    let v := sleAt d (32 + 8 * x.2) 8
    s.modOut x.1 fun o => if s.outKind x.1 = 2 then { o with vcmd := v, hold := false } else { o with cmd := v, hold := false }
  let nt := leAt d 14 1
  let s := forEach (List.range nt) s fun i s =>
    let o := o2 + 32 * i
    let j := leAt d (o + 1) 1
    let set (l : List Nat) (v : Nat) : List Nat := l.take j ++ [v] ++ l.drop (j + 1)
    let g := leAt d o 1
    (s.modPg g fun z => { z with q := set z.q (leAt d (o + 8) 8), v := set z.v (leAt d (o + 16) 8), a := set z.a (leAt d (o + 24) 8) }).takeSp g
  let o3 := o2 + 32 * nt
  let s := forEach (List.range (leAt d 15 1)) s fun i s =>
    let o := o3 + 16 * i
    s.modOut (leAt d o 2) fun x => { x with held := sleAt d (o + 8) 8 }
  let s := s.modTwin fun z => { z with
    outs := slice d 16 (o1 - 16), held := some k, without := 0
    parts := if z.held = some (k - 1) then z.parts + 1 else 1 }
  let s := { s with sf := { s.sf with forced := false } }
  s.setReg64 Reg.TWIN_SNAP (BitVec.ofNat 64 k)

/-- SYNCED sets when the three conditions of R719 hold: event 0x0E32; the TWIN_JOIN that waits completes (R725). -/
def State.syncCheck (s : State) : State :=
  let z := s.twin
  if s.role < 2 ∨ s.flag Reg.TWIN_STATUS F.TWIN_STATUS_SYNCED then s
  else if 16 ≤ z.parts ∧ !z.behind ∧ z.theta ∧ z.thetaRun = 0 then
    let s := (s.put Reg.TWIN_STATUS F.TWIN_STATUS_SYNCED 1).postB 0x0E32 []
    match z.joinCmd with
    | some c => (s.modTwin fun z => { z with joinCmd := none }).complete c stOK 0
    | none => s
  else s

/-- A fragment of a cycle part: the part is taken once every fragment of its cycle has arrived. -/
def State.takeFragment (s : State) (f : RawFrame) : State :=
  let key := keyOf f
  let l := (s.twin.frags.filter fun x => x.1 == key && x.2.1 != f.slot) ++ [(key, f.slot, f.aux, f.payload)]
  let have_ := (List.range f.aux).filterMap fun i => (l.find? fun x => x.2.1 == i).map fun x => x.2.2.2
  if have_.length < f.aux then s.modTwin fun z => { z with frags := l }
  else
    let s := (s.modTwin fun z => { z with frags := [] }).takeCycle have_.flatten
    let s := if s.twin.behind then s.clearSync 2 else s
    s.syncCheck

/-! ### The tick part (R714) -/

/-- A command of the active as the standby holds it (R720). -/
def Cmd.mirrored (c : Cmd) : Cmd := { c with port := .twin, seq := 0, accepted := true }

/-- A group's planner state with the commands as the standby holds them. -/
def PlGrp.mirrored (z : PlGrp) : PlGrp :=
  { z with
    queue := z.queue.map fun m => { m with cmd := Cmd.mirrored m.cmd }
    enable := z.enable.map Cmd.mirrored, stops := z.stops.map Cmd.mirrored, holds := z.holds.map Cmd.mirrored
    changes := z.changes.map fun c => { c with cmd := Cmd.mirrored c.cmd } }

/-- The zones' waits likewise. -/
def PlZone.mirrored (z : PlZone) : PlZone := { z with reqs := z.reqs.map fun r => (r.1, r.2.1, r.2.2.map Cmd.mirrored) }

/-- A standby takes a tick part: plans, solutions, zones, hold counts and status registers; the solver program's bank follows
(R717). -/
def State.takeTick (s : State) (p : TickPart) : State :=
  let bank := s.fld Reg.OPT_STATUS F.OPT_STATUS_BANK
  let own := s.regs.filter fun e => !tickReg e.1
  let mine := p.regs.filter fun (e : Nat × Word) => tickReg e.1
  let s := { s with regs := mine.foldl (fun (t : Tab Word) (e : Nat × Word) => tabSet regReset t e.1 e.2) own }
  let s := forEach p.grps s fun e s =>
    let z := s.pg e.1
    s.modPg e.1 fun _ => { e.2.mirrored with q := z.q, v := z.v, a := z.a, u := z.u, tau := z.tau, dir := z.dir, tstop := z.tstop, ready := z.ready }
  let s := forEach p.sols s fun e s => s.modOg e.1 fun o => { o with sol := e.2 }
  let s := forEach p.zones s fun e s => s.modPz e.1 fun _ => e.2.mirrored
  let s := { s with sep := { s.sep with runs := p.holds }, pl := { s.pl with tick := p.tick } }
  let s := forEach ([0, 1].filter s.ownCh) s fun c s => forEach allPorts s fun d s => s.refreshPort c d
  if s.fld Reg.OPT_STATUS F.OPT_STATUS_BANK = bank then s else s.modOpt fun z => { z with commit := none }

/-! ### The cycle budget (R718) -/

/-- S of R718. -/
def State.budgetS (s : State) : Nat :=
  32 + 8 * s.localOuts.length + 32 * s.nGroups
    + s.activeAxes.foldl (fun n a => let b := s.axisBqs a; n + 32 + 16 * (b2n b.1 + b2n b.2)) 0
    + 32 * s.trackJoints.length + 16 * s.heldAxes.length

/-- Σ LEN of the TX DATA frames of a cycle: the largest over the orbit. -/
def State.txBlocks (s : State) : Nat :=
  let k := s.bankUsed
  let es := ((s.ents k).map (·.2)).filter fun x => x.fromDevice && x.kind == kData && x.onCh (1 - s.twinSide)
  (List.range (2 ^ min 6 (s.orbitLog k))).foldl (fun m cy => max m ((es.filter fun x => x.active cy).foldl (fun n x => n + x.len) 0)) 0

/-- NEED of R718. -/
def State.twinNeed (s : State) : Nat := let b := s.budgetS; b / 8 + 3 * ceilDiv b 256 + s.txBlocks + 5

/-- CAPACITY of R718: 2W, with T_c at 8 pipelines (R29) and D the larger lane delay. -/
def State.twinCapacity (s : State) : Nat :=
  let us := s.bankUs s.bankUsed
  let p : Int := us * 1000 * 192
  let tc : Int := (96 + 64 * ceilDiv s.nActive 8) * 160
  let d : Int := max (s.fld Reg.TWIN_DELAY F.TWIN_DELAY_T0) (s.fld Reg.TWIN_DELAY F.TWIN_DELAY_T1) * 12
  if us = 0 then 0 else 2 * ((p - tc - d) * blocksOf us / p).toNat

/-- The budget after a change: foul 0x0E11 with cause 1 when NEED comes to exceed CAPACITY. -/
def State.budgetCheck (s : State) : State :=
  let exceeds := decide (s.twinCapacity < s.twinNeed)
  let was := s.twin.overBudget
  let s := s.modTwin fun z => { z with overBudget := exceeds }
  if exceeds && !was then s.postB 0x0E11 [(16, 1, 1)] else s

end Sys2Proof.Machine
end

