-- ==== Sys2Proof/Machine/Twin.lean ====
section
/-!
DEFINITION. Block 0x0E, twin operation: beats and paths (R703–R706), roles (R707), time (R708), the frames of the pair
(R709–R712), switch-over (R720–R724), joining and handover (R725–R727), safety in a pair (R729, R730). The journal's application
stands in System.lean.
-/
namespace Sys2Proof.Machine

/-! ### Beats (R703, R704) -/

/-- SOURCE of a twin path: 0 T0, 1 T1, 2 heartbeat pair. -/
def srcTwin (p : Nat) : Nat := srcOf 6 p
/-- SYNCED. -/
def State.synced (s : State) : Bool := s.flag Reg.TWIN_STATUS F.TWIN_STATUS_SYNCED
/-- A one-bit field of `TWIN_CTRL`. -/
def State.twinHome (s : State) : Bool := s.flag Reg.TWIN_CTRL F.TWIN_CTRL_HOME
/-- FAIL_N. -/
def State.failN (s : State) : Nat := s.fld Reg.TWIN_CTRL F.TWIN_CTRL_FAIL_N
/-- The partner's channel. -/
def State.farCh (s : State) : Nat := 1 - s.twinSide

/-- The BEAT payload (R703). -/
def State.beatPayload (s : State) : List Byte :=
  let zones := (List.range 16).foldl (fun n z => n + s.fld (Reg.SF_ZONE z) F.SF_ZONE_STATE * 4 ^ z) 0
  leBytes 8 s.link.tk.toNat
    ++ [BitVec.ofNat 8 (s.role + 4 * s.mode + 32 * b2n s.synced + 64 * b2n s.twinHome + 128 * s.twinSide), BitVec.ofNat 8 s.defects]
    ++ leBytes 2 (s.reg Reg.TWIN_SNAP).toNat ++ leBytes 4 zones

/-- The width of the heartbeat pulse, ns (R704). -/
def pulseWidth (role : Nat) : Nat := match role with | 1 => 200 | 2 => 400 | 3 => 600 | _ => 800

/-- What the twin block sends at a cycle boundary: BEAT, heartbeat pulse, and a PORT frame of a standby's star (R703, R704, R710). -/
def State.sendBeat (s : State) : State :=
  if !s.twinOn then s
  else
    let s := (s.emit (.twinFrame 0 (s.twinFrame 1 0 1 0 s.beatPayload))).emit (.heartbeat (pulseWidth s.role))
    if s.role < 2 then s
    else
      let c := s.twinSide
      let l := (List.range s.nPorts).map fun p => (⟨p, s.reg (Reg.PORT_STATUS c p), s.reg (Reg.PORT_VIOL c p)⟩ : PortRep)
      (s.emit (.twinPorts l s.twin.miss s.twin.probes)).modTwin fun z => { z with miss := [], probes := [] }

/-! ### Switch-over (R720) -/

/-- The state of the last part carried over `n` cycles without one (R350, R720): axes, phases, set-points. -/
def State.carryOver (s : State) (n : Nat) : State :=
  let us := s.bankUs s.bankUsed
  let s := s.modSrv fun z => { z with
    ax := z.ax.map fun e => (e.1, { e.2 with m := min 65535 (e.2.m + n), dt := e.2.dt + n * us })
    grp := z.grp.map fun e => (e.1, { e.2 with age := e.2.age + n }) }
  let s := forEach s.groups s fun g s =>
    match (s.pg g).plan, (s.pg g).queue, (s.pg g).active with
    | .track _, m :: _, true =>
      match s.trackSource m with
      | some v => s.modPg g fun z => { z with plan := .track (List.replicate (leAt m.data 4 2 + 1) v) }
      | none => s
    | _, _, _ => s
  forEach (List.range n) s fun _ s => forEach s.groups s fun g s => s.interpolate g

/-- Outputs from the last complete part (R504, R720). -/
def State.loadOutputs (s : State) : State :=
  let s := forEach s.localOuts s fun a s =>
    let s := s.modOut a fun o => { o with cmdNow := o.cmd, vcmdNow := o.vcmd, holdNow := false }
    let o := s.srvOut a
    s.laLoad (a - 192) (if s.outKind a = 2 then o.vcmdNow else 0) (if s.outKind a = 3 then o.cmdNow else 0) (s.axisDriven a)
  let s := s.put Reg.LA_OUT_STATE F.LA_OUT_STATE_LEVEL (leAt s.twin.outs 4 2)
  forEach (List.range 16) s fun o s => s.outBall o

/-- Pending commits of mirrored blocks are withheld (R43): reasons of R213, R308 and R359. -/
def State.withholdMirrored (s : State) : State := ((s.withhold 2).withholdSwaps 4).optWithhold 3

/-- The commits of blocks that each unit runs on its own are withheld too (R584, R667). DEDUCED: notes/assumptions/69.md. -/
def State.withholdOwn (s : State) : State :=
  let s := forEach (List.range 4) s fun c s => s.scEndCommit c stAborted 4
  forEach (List.range 16) s fun c s => s.withholdReload c 2 0

/-- A unit that becomes active stops the groups whose safety zones are not ARMED (R48, R730). -/
def State.zonesAct (s : State) : State :=
  forEach s.groups s fun g s => forEach ((s.zonesOf g).filter fun z => s.fld (Reg.SF_ZONE z) F.SF_ZONE_STATE != 0) s fun z s =>
    s.modPg g fun x => { x with trips := x.trips ++ [s.fld (Reg.SF_ZONE z) F.SF_ZONE_STOP_CAT] }

/-- The link becomes RUNNING under this unit; the succession follows at the next boundary (R178, R720). -/
def State.takeLink (s : State) : State := (s.setLinkState lRunning).modLink fun z => { z with newMaster := some s.station, lossCount := 0 }

/-- The separation monitor of a unit that has become active (R416). DEDUCED: notes/assumptions/69.md. -/
def State.takeSep (s : State) : State :=
  let st := s.sepState
  if st = 1 ∨ st = 2 ∨ (st = 3 ∧ s.flag Reg.SEP_STATUS F.SEP_STATUS_LENT_FROM_RUN) then
    s.modSep fun z => { z with mirror := true, change := some 1, busy := false }
  else s

/-- The optimiser begins afresh: nothing is in solution until the next freeze (R720). -/
def State.takeOpt (s : State) : State :=
  s.modOpt fun z => { z with grp := z.grp.map fun e => (e.1, { e.2 with solve := none, early := 0, gravDue := false }) }

/-- Groups on a PATH move whose plan n + 1 has not arrived count the tick as one without a solution (R252, R720). -/
def State.plansLacking (s : State) : State :=
  forEach s.groups s fun g s =>
    match (s.pg g).queue, (s.pg g).active, (s.pg g).next with
    | m :: _, true, none => if m.kind = 1 ∧ s.grpState g = gsMoving then s.missPlan g else s
    | _, _, _ => s

/-- A STANDBY unit with SYNCED recognises partner failure and becomes ACTIVE (R720). -/
def State.switchOver (s : State) : State :=
  let part := s.twin.held.getD 0
  let n := s.cycleCount - part - 1
  let s := (s.setRole 1).loadOutputs
  let s := (s.carryOver n).axisBoundary
  let s := forEach s.groups s fun g s => s.interpolate g
  let s := (s.takeLink.withholdMirrored).withholdOwn
  let s := ((s.takeSep.takeOpt).plansLacking).zonesAct
  let s := { s.abortAll 3 with modeOver := true }
  let s := s.addWrap Reg.TWIN_SWITCH F.TWIN_SWITCH_SWITCHOVERS
  let s := s.put Reg.TWIN_SWITCH F.TWIN_SWITCH_ECLIPSE (satU 8 n)
  let s := s.modTwin fun z => { z with out := 3, mirror := false, parts := 0 }
  let s := s.put Reg.TWIN_STATUS F.TWIN_STATUS_SYNCED 0
  s.postB 0x0E31 [(16, 1, satU 8 n), (20, 8, part)]

/-- A STANDBY unit without SYNCED recognises partner failure (R722). -/
def State.aloneUnsynced (s : State) : State :=
  let s := (s.setRole 0).takeLink
  let s := forEach s.groups s fun g s =>
    if s.grpState g = gsDisabled then s else (s.toDisabled g 4 0).modGrp g fun z => { z with req := 0 }
  let s := forEach s.groups s fun g s =>
    let s := s.put (Reg.SRV_GRP_STATUS g) F.SRV_GRP_STATUS_STO_REQ 1
    s.enterOff g s.cell
  let s := s.showReq.withholdMirrored
  s.postB 0x0E12 [(20, 8, s.twin.held.getD 0)]

/-- A handover is withheld (R727): foul 0x0E15; the hold-off of an automatic one starts again. -/
def State.handoverOff (s : State) (reason : Nat) (tell : Bool) : State :=
  if !s.twin.pending then s
  else
    let c := s.twin.handCmd
    let s := s.modTwin fun z => { z with pending := false, handCmd := none, since := none }
    let s := (s.put Reg.TWIN_STATUS F.TWIN_STATUS_HANDOVER_PENDING 0).put Reg.TWIN_STATUS F.TWIN_STATUS_REVERT_PENDING 0
    let s := s.postB 0x0E15 [(16, 1, reason)]
    let s := if tell then s.emit (.twinControl (.handoverOff reason)) else s
    match c with
    | some c => s.complete c stAborted reason
    | none => s

/-- An ACTIVE unit loses its partner and continues alone (R723): the ports of the partner's star are gone. -/
def State.aloneActive (s : State) : State :=
  let s := s.handoverOff 1 false
  let s := s.setRole 0
  let s := s.modTwin fun z => { z with mirror := false, journal := [], overBudget := false, fwd := [] }
  let s := s.showJournal
  forEach allPorts s fun p s => if s.portOpen s.farCh p then s.closePort s.farCh p else s

/-- A REJOINING unit whose partner has failed or is not ACTIVE (R707). -/
def State.joinEnds (s : State) : State :=
  let c := s.twin.joinCmd
  let s := ((s.setRole 0).linkHalt).modTwin fun z => { z with joinCmd := none, parts := 0 }
  let s := s.put Reg.TWIN_STATUS F.TWIN_STATUS_SYNCED 0
  match c with
  | some c => s.complete c stAborted 1
  | none => s

/-- A unit leaves the pair at its own mode change (R44, R707): the link stops, since a SOLO unit never follows. -/
def State.leavePair (s : State) : State :=
  let s := if s.linkState = lFollowing then s.linkHalt else s
  let s := if s.role = 1 then s.aloneActive else s.setRole 0
  (s.put Reg.TWIN_STATUS F.TWIN_STATUS_SYNCED 0).modTwin fun z => { z with mirror := false, parts := 0, held := none }

/-- Two units are ACTIVE: this one, without HOME, stops driving (R724). -/
def State.twoActive (s : State) : State :=
  let s := forEach s.groups s fun g s => if s.grpLive g then s.toDisabled g 3 3 else s
  let s := (s.linkHalt).aloneActive
  let was := s.twinAct
  let s := (s.modTwin fun z => { z with actLow := true }).showAct was
  s.postB 0x0E13 [(16, 1, s.twin.station)]

/-- Partner failure is recognised (R706, R707). DEDUCED: notes/assumptions/69.md. -/
def State.partnerFailed (s : State) : State :=
  let s := (s.put Reg.TWIN_STATUS F.TWIN_STATUS_PARTNER_ROLE 7).modTwin fun z => { z with partner := false }
  match s.role with
  | 1 => s.aloneActive
  | 2 => if s.synced then s.switchOver else s.aloneUnsynced
  | 3 => s.joinEnds
  | _ => s

/-! ### Beat windows (R705) -/

/-- The path's beat run of received beats, its restoration, and its OK bit. -/
def State.pathHeard (s : State) (p : Nat) (got : Bool) : State :=
  let bitNo := if p = 0 then 0 else 1
  let ok := if p = 0 then F.TWIN_STATUS_T0_OK else F.TWIN_STATUS_PAIR_OK
  let run := if got then (if p = 0 then s.twin.runT0 else s.twin.runPair) + 1 else 0
  let s := s.modTwin fun z => if p = 0 then { z with runT0 := run } else { z with runPair := run }
  let s := if bit s.twin.lost bitNo && decide (16 ≤ run) then
      (s.modTwin fun z => { z with lost := setBit z.lost bitNo false }).postB 0x0E33 [(16, 1, p)]
    else s
  if got && !bit s.twin.lost bitNo then s.put Reg.TWIN_STATUS ok 1 else s

/-- A path is lost: foul 0x0E10, `DEV_DEFECT.TWIN_PATH`. -/
def State.pathLost (s : State) (p : Nat) : State :=
  let bitNo := if p = 0 then 0 else 1
  if bit s.twin.lost bitNo then s
  else
    let s := s.modTwin fun z => { z with lost := setBit z.lost bitNo true }
    let s := s.put Reg.TWIN_STATUS (if p = 0 then F.TWIN_STATUS_T0_OK else F.TWIN_STATUS_PAIR_OK) 0
    (s.post 0x0E10 (srcTwin p) (det [(16, 1, p)])).setDefect dfTwin

/-- Why a pending handover is withheld now (R727): 0 for not. -/
def State.handoverWhy (s : State) : Nat :=
  let dead (x : Nat) : Bool := x != 0
  if s.fld Reg.TWIN_MISS F.TWIN_MISS_T0_RUN ≠ 0 ∨ s.fld Reg.TWIN_MISS F.TWIN_MISS_PAIR_RUN ≠ 0 then 1
  else if dead (if s.role = 2 then s.defects else s.twin.defect) then 2
  else if !(if s.role = 2 then s.synced else s.twin.psync) then 3
  else 0

/-- The conditions of the hold-off of R727 hold in this cycle. -/
def State.mayRevert (s : State) (both : Bool) : Bool :=
  s.role == 2 && s.twinHome && s.flag Reg.TWIN_CTRL F.TWIN_CTRL_AUTO_REVERT && s.synced && both && s.defects == 0
    && s.mode == mOperate && s.fld Reg.TWIN_STATUS F.TWIN_STATUS_PARTNER_MODE == mOperate && !s.twin.pending

/-- BEAT_WINDOW_CLOSE (R705–R707, R727): the window of cycle k closes 1,000 ns after T_k. -/
def execBeatWindowClose (s : State) : Out :=
  .next <|
    if !s.twinOn ∨ !s.armed 0 ∨ s.twin.closed ∨ !timePast (s.link.tk + 16000) s.cell then s
    else
      let got0 := bit s.twin.heard 0
      let gotP := bit s.twin.heard 1
      let r := Reg.TWIN_MISS
      let old0 := s.fld r F.TWIN_MISS_T0_RUN
      let oldP := s.fld r F.TWIN_MISS_PAIR_RUN
      let n0 := if got0 then 0 else satU 8 (old0 + 1)
      let nP := if gotP then 0 else satU 8 (oldP + 1)
      let s := s.modTwin fun z => { z with closed := true }
      let s := (s.put r F.TWIN_MISS_T0_RUN n0).put r F.TWIN_MISS_PAIR_RUN nP
      let s := s.addSat r F.TWIN_MISS_MISSED (b2n (!got0) + b2n (!gotP))
      let s := (s.pathHeard 0 got0).pathHeard 2 gotP
      let n := s.failN
      let failed := decide (n ≤ n0 ∧ n ≤ nP) && !decide (n ≤ old0 ∧ n ≤ oldP)
      let s := if n ≤ n0 ∧ nP < n then s.pathLost 0 else if n ≤ nP ∧ n0 < n then s.pathLost 2 else s
      let s := if s.twin.pending && s.handoverWhy != 0 then s.handoverOff s.handoverWhy true else s
      let s :=
        if s.mayRevert (got0 && gotP) then
          (s.modTwin fun z => { z with since := some (z.since.getD s.cell) }).put Reg.TWIN_STATUS F.TWIN_STATUS_REVERT_PENDING 1
        else (s.modTwin fun z => { z with since := none }).put Reg.TWIN_STATUS F.TWIN_STATUS_REVERT_PENDING 0
      if failed then s.partnerFailed else s

/-- The beat window in which `t` lies: 1 this cycle's, 4 the next one's, 0 none (R705). -/
def State.beatWindow (s : State) (t : W64) : Nat :=
  if !s.armed 0 then 0
  else if (timeDiff t s.link.tk).natAbs ≤ 16000 ∧ !s.twin.closed then 1
  else if (timeDiff t (s.actTime 0)).natAbs ≤ 16000 then 4
  else 0

/-- HB_PULSE_RECEIVE (R704, R705): a pulse of `ns` ns begins to arrive; valid within 50 ns of one of the four widths. -/
def execHbPulseReceive (arrival : W64) (ns : Nat) (s : State) : Out :=
  .next <|
    if s.twinOn && [200, 400, 600, 800].any (fun w => decide (w ≤ ns + 50 ∧ ns ≤ w + 50)) then
      s.modTwin fun z => { z with heard := z.heard ||| (2 * s.beatWindow arrival) }
    else s

/-- Foul 0x0E17: an invalid twin frame is discarded. -/
def State.badTwinFrame (s : State) (kind lane : Nat) : State := s.post 0x0E17 (srcTwin lane) (det [(16, 1, kind), (17, 1, lane)])

/-- The bank in use that the active's frames name becomes the standby's (R717). -/
def State.followBank (s : State) (b : Nat) : State :=
  if b = s.bankUsed ∨ s.role < 2 then s
  else
    let old := s.bankUs s.bankUsed
    let s := (s.put Reg.LINK_STATUS F.LINK_STATUS_BANK b).put Reg.LINK_STATUS F.LINK_STATUS_STAGED_VALID 0
    let s := s.put Reg.LINK_STATUS F.LINK_STATUS_SWAP_PENDING 0
    let s := s.modLink fun z => { z with commit := none, staged := none }
    let s := if s.bankUs b = old then s else s.rebase s.link.tk (s.bankUs b)
    s.post 0x0331 (srcBlock 3) (lkDet 0 0 [(19, 1, b), (20, 4, (s.reg (Reg.SB_ID b)).toNat)])

/-- θ of R708 in a STANDBY or REJOINING unit: shown, removed by a slew, and judged by R719. -/
def State.takeTheta (s : State) (th : Int) : State :=
  let s := s.setReg Reg.TWIN_TERR (BitVec.ofInt 32 (satS 32 th))
  if s.role < 2 then s
  else
    let s := s.setView 0 { s.view 0 with slew := -th * 2 ^ 24 }
    let run := if 64 < th.natAbs then s.twin.thetaRun + 1 else 0
    let s := s.modTwin fun z => { z with theta := true, thetaRun := run }
    if 16 ≤ run then s.clearSync 3 else s.syncCheck

/-- Zone states of the partner compared with the unit's own (R730). -/
def State.zonesCompare (s : State) (zones : Nat) : State :=
  forEach (List.range 16) s fun z s =>
    let own := s.fld (Reg.SF_ZONE z) F.SF_ZONE_STATE
    if (own == 0) != (zones / 4 ^ z % 4 == 0) then
      if (tabGet (fun _ => none) s.twin.differ z).isSome then s
      else s.modTwin fun x => { x with differ := tabSet (fun _ => none) x.differ z (some s.cell) }
    else s.modTwin fun x => { x with differ := tabSet (fun _ => none) x.differ z none, noted := setBit x.noted z false }

/-- BEAT_RECEIVE (R703, R705, R707, R708, R724, R730): a BEAT begins to arrive; `back` is arrival − DEPART as the partner measures it
on the BEATs of this unit. DEDUCED: notes/assumptions/69.md. -/
def execBeatReceive (arrival : W64) (f : RawFrame) (back : Int) (s : State) : Out :=
  .next <|
    if !s.twinOn then s
    else if !f.valid ∨ f.kind ≠ 1 then s.badTwinFrame f.kind 0
    else
      let st := oct f.payload 8
      let win := s.beatWindow arrival
      let win := if s.role ≤ 1 ∧ win = 1 ∧ s.scheduled ∧ keyOf f ≠ s.cycleKey then 0 else win
      let s := s.modTwin fun z => { z with
        heard := z.heard ||| win, partner := true, side := st / 128, station := f.src, psync := bit st 5
        defect := oct f.payload 9, zones := leAt f.payload 12 4 }
      let r := Reg.TWIN_STATUS
      let s := (s.put r F.TWIN_STATUS_PARTNER_ROLE (st % 4)).put r F.TWIN_STATUS_PARTNER_MODE (st / 4 % 8)
      let s := s.put r F.TWIN_STATUS_PARTNER_HOME (st / 64 % 2)
      let a := timeDiff arrival (BitVec.ofNat 64 (leAt f.payload 0 8))
      let s := s.put Reg.TWIN_DELAY F.TWIN_DELAY_T0 (clampI 0 65535 ((a + back) / 2)).toNat
      let s := s.takeTheta ((a - back) / 2)
      let s := s.zonesCompare s.twin.zones
      let s :=
        if 2 ≤ s.role ∧ win = 1 then
          let s := s.followBank (oct f.header 1 / 64 % 2)
          let o := s.orbit / 65536 * 65536 + leAt f.header 2 2
          (s.modLink fun z => { z with cycle := oct f.header 1 % 64 }).setReg Reg.LINK_ORBIT (BitVec.ofNat 32 o)
        else s
      if s.role = 3 ∧ st % 4 ≠ 1 then s.joinEnds
      else if s.role = 1 ∧ st % 4 = 0 then s.aloneActive
      else if s.role = 1 ∧ st % 4 = 1 ∧ !s.twinHome then s.twoActive
      else s

/-! ### Cycle boundaries (R725–R727) -/

/-- The commands of a unit that goes into STANDBY complete from the new active unit (R43, R726). -/
def State.giveUpCommands (s : State) : State :=
  let s := s.modLink fun z => { z with
    commit := none, member := none, mgmt := z.mgmt.map fun m => { m with cmd := Cmd.mirrored m.cmd } }
  let s := s.put Reg.LINK_STATUS F.LINK_STATUS_SWAP_PENDING 0
  let s := (s.modSrv fun z => { z with commits := [] }).setReg Reg.SRV_SWAP_PEND 0
  let s := (s.modOpt fun z => { z with commit := none }).put Reg.OPT_STATUS F.OPT_STATUS_COMMIT_PENDING 0
  s.modPl fun z => { z with
    grp := z.grp.map fun e => (e.1, e.2.mirrored), zones := z.zones.map fun e => (e.1, e.2.mirrored) }

/-- A handover done (R726): counter, event 0x0E34, the command. DEDUCED: notes/assumptions/69.md. -/
def State.handoverDone (s : State) : State :=
  let c := s.twin.handCmd
  let auto := s.twin.auto
  let s := s.modTwin fun z => { z with pending := false, handCmd := none, since := none }
  let s := (s.put Reg.TWIN_STATUS F.TWIN_STATUS_HANDOVER_PENDING 0).put Reg.TWIN_STATUS F.TWIN_STATUS_REVERT_PENDING 0
  let s := (s.addWrap Reg.TWIN_SWITCH F.TWIN_SWITCH_HANDOVERS).postB 0x0E34 [(16, 1, b2n auto)]
  match c with
  | some c => s.complete c stOK 0
  | none => s

/-- The incoming unit at T_b (R726). -/
def State.comeIn (s : State) : State :=
  let n := s.cycleCount - s.twin.held.getD 0
  let s := (s.setRole 1).loadOutputs
  let s := (s.carryOver n).setLinkState lRunning
  let s := s.put Reg.LINK_STATUS F.LINK_STATUS_MASTER s.station
  let s := (s.withholdMirrored.takeSep).takeOpt.zonesAct
  let s := (s.put Reg.TWIN_STATUS F.TWIN_STATUS_SYNCED 0).modTwin fun z => { z with out := 2, mirror := true, parts := 0 }
  s.handoverDone

/-- The outgoing unit at T_b: it issues its own commands once more, and its stars serve under the new master (R726). -/
def State.goOut (s : State) : State :=
  let s := (s.setLinkState lFollowing).put Reg.LINK_STATUS F.LINK_STATUS_MASTER s.twin.station
  let s := s.giveUpCommands
  (s.modTwin fun z => { z with out := 1, mirror := false, journal := [] }).showJournal

/-- The twin block at a cycle boundary, before the other blocks: what concerns one cycle begins anew; at an orbit boundary the
mirroring begins and a pending handover acts. -/
def State.twinBefore (s : State) : State :=
  let s := s.modTwin fun z => { z with
    closed := false, heard := z.heard / 4, fwd := [], out := 0, tx := z.tx.filter fun t => t.cycle != s.cycleKey }
  if !s.twinOn ∨ (s.link.cycle + 1) % 2 ^ s.orbitLog s.bankUsed ≠ 0 ∨ !s.scheduled then s
  else
    let s := if s.role = 1 then s.modTwin fun z => { z with mirror := true } else s
    if !s.twin.pending then s
    else
      let why := s.handoverWhy
      if why ≠ 0 then s.handoverOff why true
      else if s.role = 1 then s.goOut
      else if s.role = 2 then s.comeIn
      else s

/-- The twin block at a cycle boundary, after the others: an outgoing unit is in STANDBY from now on; copies to forward that are too
old (R711); the budget (R718); the beats. -/
def State.twinAfter (s : State) : State :=
  let s := if s.twin.out = 1 then (s.setRole 2).handoverDone else s
  let old := s.twin.rx.filter fun x => x.2.1 != s.cycleCount &&
    (match s.ent s.bankUsed x.1 with | some e => e.active s.link.cycle | none => true)
  let s := if old.isEmpty then s
    else (s.modTwin fun z => { z with rx := z.rx.filter fun x => !old.contains x }).addSat Reg.TWIN_FWD F.TWIN_FWD_RX_DROPPED old.length
  let s := if s.twinOn && s.armed 0 then s.budgetCheck else s
  if s.armed 0 then s.sendBeat else s

/-- REVERT_HOLDOFF_EXPIRE (R727): the home unit starts a handover. -/
def execRevertHoldoffExpire (s : State) : Out :=
  .next <|
    match s.twin.since with
    | none => s
    | some t =>
      if s.role = 2 ∧ timePast (t + BitVec.ofNat 64 (s.fld Reg.TWIN_TIMING F.TWIN_TIMING_HOLDOFF * 16000000)) s.cell then
        let s := s.modTwin fun z => { z with pending := true, auto := true, since := none }
        let s := (s.put Reg.TWIN_STATUS F.TWIN_STATUS_HANDOVER_PENDING 1).put Reg.TWIN_STATUS F.TWIN_STATUS_REVERT_PENDING 0
        s.emit (.twinControl (.handover true))
      else s

/-- ZONE_MISMATCH_EXPIRE (R730). -/
def execZoneMismatchExpire (zone : Nat) (s : State) : Out :=
  .next <|
    match tabGet (fun _ => none) s.twin.differ zone with
    | none => s
    | some t =>
      if zone < 16 ∧ !bit s.twin.noted zone ∧ timePast (t + 1600000000) s.cell then
        (s.modTwin fun z => { z with noted := setBit z.noted zone true }).postB 0x0E16
          [(16, 1, zone), (17, 1, s.fld (Reg.SF_ZONE zone) F.SF_ZONE_STATE), (18, 1, s.twin.zones / 4 ^ zone % 4)]
      else s

/-- SNAPSHOT_LOSS (R729): a STANDBY unit without a cycle part for FAIL_N cycles asserts every request line. -/
def execSnapshotLoss (s : State) : Out :=
  .next (if s.role = 2 ∧ s.failN ≤ s.twin.without then { s with sf := { s.sf with forced := true } } else s)

/-- TWIN_LANE_LOCK_CHANGE (R708, R719, R734): lane 0 or 1 reports block lock and its delay in units. -/
def execTwinLaneLockChange (lane : Nat) (lock : Bool) (delay : Nat) (s : State) : Out :=
  .next <|
    if 2 ≤ lane then s
    else
      let s := s.put Reg.TWIN_STATUS (if lane = 0 then F.TWIN_STATUS_T0_UP else F.TWIN_STATUS_T1_UP) (b2n lock)
      let s := if lock then s.put Reg.TWIN_DELAY (if lane = 0 then F.TWIN_DELAY_T0 else F.TWIN_DELAY_T1) (satU 16 delay) else s
      if lane = 1 ∧ !lock then s.clearSync 4 else s

/-! ### The servo computation's end, and the frames for the partner's channel (R31, R710, R714) -/

/-- The state as the next cycle will name itself, for frames built ahead. -/
def State.ahead (s : State) (f : State → State) : State :=
  let cy := s.link.cycle
  let ob := s.reg Reg.LINK_ORBIT
  let nx := (cy + 1) % 2 ^ s.orbitLog s.bankUsed
  let t := s.modLink fun z => { z with cycle := nx }
  let t := f (if nx = 0 then t.setReg Reg.LINK_ORBIT (ob + 1) else t)
  (t.modLink fun z => { z with cycle := cy }).setReg Reg.LINK_ORBIT ob

/-- The TX frames of the next cycle (R710). -/
def State.sendTx (s : State) : State :=
  if s.role ≠ 1 ∨ !s.twinOn ∨ !s.scheduled then s
  else s.ahead fun s =>
    let c := s.farCh
    forEach ((s.ents s.bankUsed).filter fun e => e.2.fromDevice && e.2.onCh c && e.2.active s.link.cycle) s fun e s =>
      if e.2.kind = kData then
        let (p, n) := s.cmdPayload true s.bankUsed e.2
        s.starOut c 0 e.2.start (s.mkFrame c kData e.2.slot 255 n p)
      else if e.2.kind = kMgmt then s.mgmtOn c e.1 e.2
      else s

/-- SERVO_COMPUTE_DONE (R31, R353, R710, R714): the results await T_(k+1); the active sends TX frames and the cycle part. -/
def execServoComputeDone (s : State) : Out :=
  .next <|
    if !s.srv.busy then s
    else
      let s := s.srvFinish.sendTx
      if s.role = 1 && s.twin.mirror then s.sendCycle else s

/-- CYC_FRAME_RECEIVE (R715, R717, R719). -/
def execCycFrameReceive (lane : Nat) (f : RawFrame) (s : State) : Out :=
  .next <|
    if !s.twinOn ∨ s.role < 2 then s
    else if !f.valid ∨ f.kind ≠ 6 then s.badTwinFrame f.kind lane
    else s.takeFragment f

/-- TICK_FRAME_RECEIVE (R714): the standby takes a tick part; `ok`: its frames are valid by R122. -/
def execTickFrameReceive (lane : Nat) (ok : Bool) (part : TickPart) (s : State) : Out :=
  .next (if !s.twinOn ∨ s.role < 2 then s else if !ok then s.badTwinFrame 7 lane else s.takeTick part)

/-- ACK_FRAME_RECEIVE (R714): the standby has applied `n` more journal entries. -/
def execAckFrameReceive (ok : Bool) (n : Nat) (s : State) : Out :=
  .next <|
    if !s.twinOn ∨ s.role ≠ 1 then s
    else if !ok then s.badTwinFrame 9 0
    else (s.modTwin fun z => { z with journal := z.journal.drop n }).showJournal

/-! ### Frames of the link through the pair (R710–R712) -/

/-- The next cycle after the present one in which an entry is active, as a header names it. -/
def State.nextKey (s : State) (x : Ent) : Nat :=
  let n := 2 ^ s.orbitLog s.bankUsed
  match (List.range n).find? fun d => x.active ((s.link.cycle + 1 + d) % n) with
  | some d =>
    let t := s.link.cycle + 1 + d
    (s.orbit + t / n) % 65536 * 64 + t % n % 64
  | none => s.cycleKey

/-- TX_FRAME_RECEIVE (R144, R710): a TX frame is complete; it is held for its START, or was late. -/
def execTxFrameReceive (f : RawFrame) (s : State) : Out :=
  .next <|
    if !s.twinOn ∨ s.role < 2 then s
    else if !f.valid ∨ f.kind ≠ 2 then s.badTwinFrame f.kind 0
    else
      let bank := oct f.header 1 / 64 % 2
      let key := keyOf f
      match (s.ents bank).find? fun e => e.2.slot == f.slot && e.2.fromDevice with
      | none => s
      | some (_, x) =>
        let us := s.bankUs bank
        let due := s.link.tk + BitVec.ofNat 64 ((x.start - 2) * us * 16000 / blocksOf us)
        let ahead := (s.ahead fun t => t.modTwin fun z => { z with feed := some (leBytes 4 t.cycleKey) }).twin.feed.map (leAt · 0 4)
        let late := if key = s.cycleKey then !timePast s.cell due else some key != ahead
        let t : TwTx := ⟨key, bank, f.slot, oct f.header 5, f.aux, f.payload⟩
        if !late then s.modTwin fun z => { z with tx := z.tx ++ [t] }
        else
          let s := s.addSat Reg.TWIN_FWD F.TWIN_FWD_TX_LATE 1
          if x.kind = kMgmt then s.modTwin fun z => { z with tx := z.tx ++ [{ t with cycle := s.nextKey x }] } else s

/-- FB_FRAME_SEND (R711): a lane toward the active is free: an FB frame of up to 14 queued records, or, with none queued, the next
other frame. -/
def execFbFrameSend (lane : Nat) (s : State) : Out :=
  .next <|
    let up := s.flag Reg.TWIN_STATUS (if lane = 0 then F.TWIN_STATUS_T0_UP else F.TWIN_STATUS_T1_UP)
    if !s.twinOn ∨ s.role < 2 ∨ 2 ≤ lane ∨ !up then s
    else
      match s.twin.fb, s.twin.rx with
      | [], [] => s
      | [], x :: t => (s.emit (.twinForward x.2.2)).modTwin fun z => { z with rx := t }
      | q, _ =>
        let l := q.take 14
        let idx := l.flatMap fun x => leBytes 2 (x.1 + x.2.1 * 512)
        let pay := idx ++ List.replicate (32 - idx.length) 0xFF ++ l.flatMap fun x => x.2.2
        (s.emit (.twinFrame lane (s.twinFrame 3 0 1 0 pay))).modTwin fun z => { z with fb := q.drop 14 }

/-- FB_FRAME_RECEIVE (R28, R712): the records count as the partner channel's copies when the frame completes by the feedback cut-off. -/
def execFbFrameReceive (lane : Nat) (f : RawFrame) (s : State) : Out :=
  .next <|
    if !s.twinOn ∨ s.role ≠ 1 then s
    else if !f.valid ∨ f.kind ≠ 3 then s.badTwinFrame f.kind lane
    else if s.link.cut ∨ keyOf f ≠ s.cycleKey then s
    else
      forEach (List.range 14) s fun i s =>
        let w := leAt f.payload (2 * i) 2
        if w = 0xFFFF then s
        else
          let slot := w % 512
          let s := s.modTwin fun z => { z with fwd := z.fwd ++ [(slot, w / 512 % 32, slice f.payload (32 + 16 * i) 16)] }
          match (s.ents s.bankUsed).find? fun e => e.2.slot == slot && e.2.fromNode && e.2.active s.link.cycle with
          | none => s
          | some (e, x) =>
            (s.modLink fun z => { z with got := (e, s.farCh) :: z.got }).modLn s.farCh x.owner fun z => { z with heard := true }

/-- The state that an outcome goes on with. -/
def nextOf (o : Out) (s : State) : State :=
  match o with
  | .next t => t
  | _ => s

/-- RX_FRAME_RECEIVE (R711): a node's frame that the standby's star has received is taken as if its own star had. -/
def execRxFrameReceive (lane : Nat) (ok : Bool) (f : RawFrame) (s : State) : Out :=
  .next <|
    if !s.twinOn ∨ s.role ≠ 1 then s
    else if !ok ∨ !f.valid then s.badTwinFrame 4 lane
    else
      let c := s.farCh
      let p := s.nodePort s.bankUsed f.src
      match (s.ents s.bankUsed).find? fun e => e.2.slot == f.slot && !e.2.fromDevice && e.2.onCh c with
      | none => s
      | some (e, _) =>
        let s := s.modLp c p fun z => { z with cur := some ⟨e, 0, false, true, false⟩ }
        match f.kind with
        | 4 => nextOf (execDataReceive c p f s) s
        | 5 => nextOf (execArbReceive c p f s) s
        | 6 => nextOf (execStreamFrameReceive c p f s) s
        | 7 => nextOf (execMgmtReceive c p f s) s
        | 8 => nextOf (execJoinReqReceive c p f s) s
        | _ => s.modLp c p fun z => { z with cur := none }

/-- A port of the partner's star as it reports it (R205–R208, R710). -/
def State.takePort (s : State) (x : PortRep) : State :=
  let c := s.farCh
  let r := Reg.PORT_STATUS c x.port
  let st := fldOf x.status F.PORT_STATUS_STATE
  let put (s : State) (f : Fld) : State := s.put r f (fldOf x.status f)
  let s := put (put (put (put s F.PORT_STATUS_LOCK) F.PORT_STATUS_HI_BER) F.PORT_STATUS_VIOL_ORBIT) F.PORT_STATUS_CONTAIN_COUNT
  let s := s.setReg (Reg.PORT_VIOL c x.port) x.viol
  let own := s.portState c x.port
  if st = pClosed then (if own = pClosed then s else s.closePort c x.port)
  else if st = pContained then s.setPort c x.port pContained
  else if own = pClosed ∨ own = pContained then (s.setPort c x.port pListen).refreshPort c x.port
  else s

/-- An answered probe of the partner's star (R186, R710). -/
def State.takeProbe (s : State) (x : ProbeRep) : State :=
  let c := s.farCh
  match (s.lp c x.port).meas with
  | none => s
  | some m =>
    match m.out with
    | none => s
    | some (_, seq, start) =>
      let us := s.bankUs s.bankUsed
      let tk := s.link.tk
      let s := s.modLp c x.port fun z => { z with meas := some { m with out := some (x.t1, seq, start) } }
      let s := s.modLink fun z => { z with tk := x.t1 - BitVec.ofNat 64 ((start + 4) * us * 16000 / blocksOf us) }
      (nextOf (execSyncAnswerReceive c x.port x.t2 x.f s) s).modLink fun z => { z with tk := tk }

/-- PORT_FRAME_RECEIVE (R710, R723): the partner's star reports its ports, the entries of the cycle without a copy, and answered probes. -/
def execPortFrameReceive (ok : Bool) (ports : List PortRep) (misses : List Nat) (probes : List ProbeRep) (s : State) : Out :=
  .next <|
    if !s.twinOn ∨ s.role ≠ 1 then s
    else if !ok then s.badTwinFrame 5 0
    else
      let s := forEach (ports.filter fun x => decide (x.port < s.nPorts)) s fun x s => s.takePort x
      let s := forEach misses s fun e s => nextOf (execEntryMissing s.farCh e s) s
      forEach probes s fun x s => s.takeProbe x

/-! ### Joining and handover (R708, R725, R727) -/

/-- A lane is in block lock with a delay within LANE_MAX (check 5 of R725). -/
def State.laneFit (s : State) (lane : Nat) : Bool :=
  s.flag Reg.TWIN_STATUS (if lane = 0 then F.TWIN_STATUS_T0_UP else F.TWIN_STATUS_T1_UP) &&
    decide (s.fld Reg.TWIN_DELAY (if lane = 0 then F.TWIN_DELAY_T0 else F.TWIN_DELAY_T1)
      ≤ 16 * s.fld Reg.TWIN_TIMING F.TWIN_TIMING_LANE_MAX)

/-- The first of the checks of R725 that the rejoining unit can make by itself and that fails; 0 for none.
DEDUCED: notes/assumptions/69.md. -/
def State.joinCheck (s : State) : Nat :=
  let r := s.fld Reg.TWIN_STATUS F.TWIN_STATUS_PARTNER_ROLE
  let m := s.fld Reg.TWIN_STATUS F.TWIN_STATUS_PARTNER_MODE
  if !s.twin.partner ∨ 1 < r ∨ !(m = mOperate ∨ m = mDegraded) then 1
  else if s.twin.side = s.twinSide ∨ (s.twinHome && s.flag Reg.TWIN_STATUS F.TWIN_STATUS_PARTNER_HOME) then 3
  else if s.twin.station = s.station then 4
  else if !(s.laneFit 0 && s.laneFit 1) then 5
  else 0

/-- The checks of R725 as the active unit makes them on a request. -/
def State.admitCheck (s : State) (part step station : Nat) (side home : Bool) : Nat :=
  if !(s.role ≤ 1) ∨ !(s.mode = mOperate ∨ s.mode = mDegraded) ∨ s.linkState ≠ lRunning then 1
  else if part ≠ s.mem.fuse.part ∨ step ≠ s.mem.fuse.step then 2
  else if b2n side = s.twinSide ∨ (home && s.twinHome) then 3
  else if station = s.station then 4
  else if !(s.laneFit 0 && s.laneFit 1) then 5
  else if s.twinCapacity < s.twinNeed then 6
  else if s.fld (Reg.SB_CUTOFF s.bankUsed) F.SB_CUTOFF_FB_CUTOFF < s.fwdEnd s.bankUsed then 7
  else 0

/-- Foul 0x0E14. -/
def State.joinFoul (s : State) (n : Nat) : State := s.postB 0x0E14 [(16, 1, n)]

/-- TWIN_JOIN (R725, R735): the request goes to the partner. -/
def execTwinJoin (c : Cmd) (s : State) : Out :=
  let c := { c with op := 0x0E01 }
  .next <| s.judge c
    (check1 c .pf [] ++
      [ (!c.onlyUses [], .bad),
        (s.mode != mConfig, .reject 1 s.mode),
        (s.role != 0 || !s.twinOn || s.twin.joinCmd.isSome, .reject 2 s.role),
        (s.linkState != lStopped, .reject 6 s.linkState),
        (!s.armedEntries.isEmpty, .reject 9 1) ])
    fun s =>
      let n := s.joinCheck
      if n ≠ 0 then ((s.joinFoul n).emit (.twinControl (.joinRefuse n))).complete c 0x40 n
      else
        (s.modTwin fun z => { z with joinCmd := some c }).emit (.twinControl
          (.joinRequest s.mem.fuse.part s.mem.fuse.step s.station (s.twinSide == 1) s.twinHome))

/-- TWIN_HANDOVER (R727, R735). -/
def execTwinHandover (c : Cmd) (s : State) : Out :=
  let c := { c with op := 0x0E02 }
  .next <| s.judge c
    (check1 c .pf [] ++
      [ (!c.onlyUses [], .bad),
        (s.twin.pending, .busy),
        (s.mode != mOperate, .reject 1 s.mode),
        (s.role != 1 || s.fld Reg.TWIN_STATUS F.TWIN_STATUS_PARTNER_ROLE != 2 || !s.twin.psync, .reject 2 s.role) ])
    fun s =>
      let s := s.modTwin fun z => { z with pending := true, auto := false, handCmd := some c }
      (s.put Reg.TWIN_STATUS F.TWIN_STATUS_HANDOVER_PENDING 1).emit (.twinControl (.handover false))

/-- The registers of mirrored blocks that belong to a unit and not to the cell: its station, its own ports and link state, its
time base's state (R699, R710). DEDUCED: notes/assumptions/69.md. -/
def ownReg (o : Nat) : Bool :=
  o == Reg.LINK_STATION || o == Reg.LINK_STATUS || o == Reg.LINK_ORBIT || o == Reg.TB_STATUS
    || (decide (Reg.PORT_STATUS 0 0 ≤ o) && decide (o < Reg.NODE_STATUS 0))

/-- The active sends the full content of every mirrored block over the journal (R725). -/
def State.journalAll (s : State) : State :=
  let s := forEach (s.regs.filter fun e => mirrored (blockOf e.1) && !ownReg e.1) s fun e s => s.journal (.reg e.1 e.2)
  let s := forEach s.groups s fun g s => (s.journal (.model g (s.pg g).model)).journal (.dyn g (s.og g).dyn)
  forEach [0, 1] s fun b s => s.journal (.prog b (s.optBank b))

/-- The partner asks to join (R707, R725). -/
def State.takeJoinRequest (s : State) (part step station : Nat) (side home : Bool) : State :=
  let n := s.admitCheck part step station side home
  if n ≠ 0 then (s.joinFoul n).emit (.twinControl (.joinRefuse n))
  else
    let s := (s.setRole 1).modTwin fun z => { z with station := station, partner := true, mirror := false }
    let c := s.farCh
    let open_ := idxs s.nPorts fun p => s.portOpen s.twinSide p
    let s := forEach open_ s fun p s => if s.portOpen c p then s else s.setPort c p pListen
    let mask := open_.foldl (fun m p => m + 2 ^ p) 0
    let v := s.time.cell
    let e (n : Nat) : W64 × W64 := (s.actTime n, s.reg64 (Reg.ACT_PERIOD n))
    let s := s.emit (.twinControl (.joinAccept s.station v.ofs v.rate (e 0) (e 1) s.orbit s.link.cycle s.bankUsed mask))
    s.journalAll

/-- The rejoining unit is accepted (R708, R725): cell time, entries 0 and 1, the link FOLLOWING, its ports. -/
def State.takeJoinAccept (s : State) (station : Nat) (ofs rate : Int) (e0 e1 : W64 × W64) (orbit cycle bank ports : Nat) : State :=
  if s.role ≠ 0 ∨ s.twin.joinCmd.isNone then s
  else
    let s := (s.setRole 3).modTwin fun z => { z with
      station := station, parts := 0, without := 0, held := none, frags := [], behind := false, theta := false, thetaRun := 0
      tx := [], fb := [], rx := [] }
    let s := s.setView 0 { s.view 0 with ofs := ofs, rate := rate, slew := 0 }
    let s := (s.writeEntry 0 1 0 0 true false e0.1 e0.2.toNat).setArmed 0 true
    let s := (s.writeEntry 1 2 0 0 true false e1.1 e1.2.toNat).setArmed 1 true
    let s := s.put Reg.PLAN_CTRL F.PLAN_CTRL_TICK_LEN_USED (if e0.2 = 0 then 0 else e1.2.toNat / e0.2.toNat)
    let s := (s.put Reg.LINK_STATUS F.LINK_STATUS_BANK bank).put Reg.LINK_STATUS F.LINK_STATUS_MASTER station
    let s := (s.setLinkState lFollowing).setReg Reg.LINK_ORBIT (BitVec.ofNat 32 orbit)
    let s := s.modLink fun z => { z with cycle := cycle, lossCount := 0 }
    forEach (idxs s.nPorts (bit ports)) s fun p s => if s.portOpen s.twinSide p then s else s.setPort s.twinSide p pListen

/-- CONTROL_FRAME_RECEIVE (R707, R725–R727). -/
def execControlFrameReceive (ok : Bool) (m : TwinMsg) (s : State) : Out :=
  .next <|
    if !s.twinOn then s
    else if !ok then s.badTwinFrame 10 0
    else
      match m with
      | .joinRequest part step station side home => s.takeJoinRequest part step station side home
      | .joinAccept station ofs rate e0 e1 orbit cycle bank ports => s.takeJoinAccept station ofs rate e0 e1 orbit cycle bank ports
      | .joinRefuse n =>
        match s.twin.joinCmd with
        | some c => (((s.modTwin fun z => { z with joinCmd := none }).joinFoul n).complete c 0x40 n)
        | none => s.joinFoul n
      | .handover auto =>
        if (s.role = 1 ∨ s.role = 2) ∧ !s.twin.pending then
          (s.modTwin fun z => { z with pending := true, auto := auto }).put Reg.TWIN_STATUS F.TWIN_STATUS_HANDOVER_PENDING 1
        else s
      | .handoverOff reason => s.handoverOff reason false

end Sys2Proof.Machine
end

