-- ==== Sys2Proof/Machine/Clocks.lean ====
section
/-!
DEFINITION. Block 0x0F: clock monitoring (R738, R739), resets (R744–R746), power domains (R749–R751), supplies (R764) and
temperature (R756), with the commands of R758. A crossing between domains takes no time here and holds nothing between steps.
-/
namespace Sys2Proof.Machine

/-- Block 0x0F beside its registers changed. -/
def State.modCk (s : State) (f : CkSt → CkSt) : State := { s with clk := f s.clk }

/-! ### Resets (R744, R745) -/

/-- The output balls of PD5 and PD6 go to their inactive levels (R745). -/
def State.ballsOff (s : State) : State :=
  let s := s.gatesOff
  let s := if s.twinAct then s.emit (.ball "TWIN_ACT" 0 0) else s
  let s := forEach (idxs 16 fun o => s.flag (Reg.LA_OUT_CFG o) F.LA_OUT_CFG_ENABLE) s fun o s => s.emit (.ball "LA_CMP" o 0)
  forEach (List.range s.nLocal) s fun c s => s.emit (.ball "LA_DIR" c 0)

/-- A register that a device reset keeps: those of blocks 0x02 and 0x0F, in PD0. -/
def keptReg (o : Nat) : Bool := decide (o / 0x100000 = 2 ∨ o / 0x100000 = 15)

/-- Shared SRAM after a reset of PD1: groups that were not ON are cleared, and a wipe in progress is carried out (R678, R682); the
fuses stay, with a life-cycle change whose event is still due. DEDUCED: notes/assumptions/72.md. -/
def State.memReset (s : State) : MemSt :=
  let s := forEach (idxs 16 fun g => s.groupState g != gOn) s fun g s => s.clearGroup g
  let s := if s.mem.wipes.isEmpty then s else s.clearSecure
  { sram := s.mem.sram, poison := s.mem.poison, fuse := s.mem.fuse, lcFrom := s.mem.lcFrom }

/-- The safety island after a device reset: the die goes on, block 0x08 starts again. -/
def State.sfReset (s : State) : SfSt :=
  { s.sf with port := [], lastFrame := s.u, crcBad := false, lost := false, repCause := [], repDie := false, forced := false }

/-- The state of PD1–PD6 is lost and that of PD0 kept. -/
def State.clearDomains (s : State) : State :=
  { State.reset with
    regs := s.regs.filter fun e => keptReg e.1
    host := { nextId := s.host.nextId, nextSeq := s.host.nextSeq }
    time := s.time
    mem := s.memReset
    sf := s.sfReset
    clk := { s.clk with powerCmds := [], resetDue := false, ana := 1 }
    egress := s.egress
    free := s.free
    pending := s.pending }

/-- PD1–PD6 are in RESET. -/
def State.holdDomains (s : State) : State :=
  forEach [1, 2, 3, 4, 5, 6] s fun d s => s.put (Reg.PWR_DOMAIN d) F.PWR_DOMAIN_STATE 3

/-- PD1–PD6 are held in reset. -/
def State.inReset (s : State) : Bool := s.domState 1 == 3

/-- A device reset with a cause and its detail (R745, R96): the cause is written, PD1–PD6 and the analogue die are reset and held. -/
def State.deviceReset (s : State) (cause detail : Nat) : State :=
  if s.inReset then s
  else
    let s := s.ballsOff
    let s := s.clearDomains.disarmAll
    let s := s.put Reg.RST_CAUSE F.RST_CAUSE_CAUSE cause
    let s := s.put Reg.RST_CAUSE F.RST_CAUSE_DETAIL detail
    let s := s.addWrap Reg.RST_CAUSE F.RST_CAUSE_COUNT
    (s.modCk fun k => { k with eventDue := true }).holdDomains

/-- The power-on reset of PD0 (R744, R752): nothing is kept but the fuses and the safety die, which has its own; the bank groups
are cleared. DEDUCED: notes/assumptions/71.md. -/
def State.powerOn (s : State) : State :=
  let s := s.ballsOff
  let f := s.mem.fuse
  let l := s.mem.lcFrom
  let d := s.sfReset
  State.holdDomains { State.reset with
    mem := { fuse := f, lcFrom := l }, sf := { d with lastFrame := 0, tpHold := [] }
    host := { nextId := s.host.nextId, nextSeq := s.host.nextSeq }
    egress := s.egress, free := s.free, pending := s.pending }

/-- POWER_ON_RESET_PD0. -/
def execPowerOnResetPd0 (s : State) : Out := .next s.powerOn

/-- The held resets may be released: every PLL is locked, and after a critical temperature every main-die sensor reads below
105 °C (R745, R756). -/
def State.mayRelease (s : State) : Bool :=
  s.fld Reg.CK_STATUS F.CK_STATUS_LOCK == 0x7F &&
    (s.fld Reg.RST_CAUSE F.RST_CAUSE_CAUSE != 8 ||
      (List.range 8).all fun i => decide (toSigned 16 (s.fld (Reg.THERM i) F.THERM_TEMP) < 105 * 16))

/-- The boot source (R629, R639): flash slot `n`, or (2) the wait for a host download. -/
def State.bootFrom (s : State) (n : Nat) : State :=
  let s := s.put Reg.BOOT_STATUS F.BOOT_STATUS_SOURCE n
  let s := s.put Reg.BOOT_STATUS F.BOOT_STATUS_STATE (if n = 2 then 1 else 0)
  if n = 2 then s else s.emit (.flashRead n)

/-- RESET_RELEASE (R745, R629): the device enters BOOT; BOOT_SEL is sampled. DEDUCED: notes/assumptions/71.md. -/
def execResetRelease (bootSel : Bool) (s : State) : Out :=
  .next <|
    if !s.inReset || !s.mayRelease then s
    else
      let s := forEach [1, 2, 3, 4, 5, 6] s fun d s => s.put (Reg.PWR_DOMAIN d) F.PWR_DOMAIN_STATE 0
      let s := { s with host := { s.host with bootSel := bootSel, selfTestDone := false }, sf := { s.sf with lastFrame := s.u } }
      s.bootFrom (if bootSel then 2 else 0)

/-- RESET_N_ASSERT (R744). -/
def execResetNAssert (s : State) : Out := .next (s.deviceReset 2 0)

/-- PWR_FAIL_ASSERT (R755). -/
def execPwrFailAssert (s : State) : Out := .next (s.deviceReset 10 0)

/-- PCIE_RESET (R626): a conventional reset, or (`flr`) a Function Level Reset of the PF. -/
def execPcieReset (flr : Bool) (s : State) : Out := .next (s.deviceReset (if flr then 4 else 3) 0)

/-- LC_RESET_DELAY (R684): 10 ms after LC_ADVANCE. -/
def execLcResetDelay (s : State) : Out := .next (if s.mem.lcResetDue then s.deviceReset 5 0 else s)

/-- DEVICE_RESET_DELAY (R758): 10 ms after CK_DEVICE_RESET. -/
def execDeviceResetDelay (s : State) : Out := .next (if s.clk.resetDue then s.deviceReset 6 0 else s)

/-- The analogue die is reset (R744, R746): its gates are 0, and the conversions under way are discarded.
DEDUCED: notes/assumptions/72.md. -/
def State.analogueReset (s : State) : State :=
  let n := (List.range 16).foldl (fun n k => n + ((tabGet (fun _ => {}) s.acq.sets k : AcqSet).queue.length)) 0
  let s := forEach (List.range 16) s fun k s =>
    s.modASet k fun z => { z with queue := z.queue.map fun q => (q.1, q.2.map fun x => (x.1, none)) }
  let s := s.addSat Reg.CK_XSTAT F.CK_XSTAT_FLUSHED n
  (s.modCk fun k => { k with ana := if k.ana = 1 then 1 else 2 }).gatesOff

/-- ANALOGUE_DIE_RESET (R744). -/
def execAnalogueDieReset (s : State) : Out := .next s.analogueReset

/-- ANALOGUE_CALIBRATION_DONE (R753): the first sample word arrives; a die too hot stays in reset (R756). -/
def execAnalogueCalibrationDone (s : State) : Out :=
  .next <|
    if s.inReset || s.clk.ana == 0 || s.clk.anaHot then s
    else (s.modCk fun k => { k with ana := 0 }).put Reg.ACQ_STATUS F.ACQ_STATUS_PATH_OK 1

/-- SUPPLY_TRIP (R764): a rail, in the order of that table, falls through its trip point. -/
def execSupplyTrip (rail : Nat) (s : State) : Out :=
  .next <|
    match rail with
    | 0 => s.powerOn
    | 1 => s.powerOn
    | 2 => s.deviceReset 9 1
    | 3 => s.deviceReset 9 1
    | 4 => s.deviceReset 9 5
    | 5 => s.deviceReset 9 5
    | 6 => s.deviceReset 9 1
    | 7 => s.deviceReset 9 1
    | 8 => s.analogueReset
    | 9 => s.analogueReset
    | 10 => s.analogueReset
    | 11 => s.dieFails 3
    | 12 => s.dieFails 3
    | 13 => s.dieFails 3
    | _ => s

/-! ### Clocks (R738, R739) -/

/-- REF_CLK_LOSS (R738). -/
def execRefClkLoss (s : State) : Out :=
  .next <|
    if s.flag Reg.CK_STATUS F.CK_STATUS_REF_LOSS then s
    else ((s.put Reg.CK_STATUS F.CK_STATUS_REF_LOSS 1).setDefect dfClock).postB 0x0F10 [(16, 1, 1)]

/-- REF_CLK_RETURN (R738). -/
def execRefClkReturn (s : State) : Out := .next (s.put Reg.CK_STATUS F.CK_STATUS_REF_LOSS 0)

/-- Windows in a row in which a clock was beyond ±200 ppm. -/
def State.ckOver (s : State) (d : Nat) : Nat := tabGet (fun _ => 0) s.clk.overs d

/-- A clock's warning (R739): beyond ±200 ppm for 3 consecutive windows. TCLK is held only to its ±10 %. -/
def State.ckWarn (s : State) (d : Nat) (e : Int) : State :=
  let n := if d ≠ 0 ∧ 200 < e.natAbs then s.ckOver d + 1 else 0
  let s := s.modCk fun k => { k with overs := tabSet (fun _ => 0) k.overs d n }
  if n = 3 then (s.setDefect dfClock).postB 0x0F10 [(16, 1, 2), (17, 1, d), (20, 4, ofSigned 32 e)] else s

/-- CLOCK_MONITOR_WINDOW (R739): the PLLs in lock, and each clock's error in the window in ppm, in the order of `CK_MON`.
DEDUCED: notes/assumptions/72.md. -/
def execClockMonitorWindow (lock : Nat) (errs : List Int) (s : State) : Out :=
  .next <|
    let err (d : Nat) : Int := (errs[d]?).getD 0
    let on := idxs 7 fun d => s.domState d != 2
    let s := s.put Reg.CK_STATUS F.CK_STATUS_LOCK lock
    let s := forEach (List.range 7) s fun d s => s.put (Reg.CK_MON d) F.CK_MON_ERR (ofSigned 16 (satS 16 (err d)))
    let fail (d : Nat) : Bool := !bit lock d || decide ((if d = 0 then 100000 else 1000) < (err d).natAbs)
    match on.find? fail with
    | some d =>
      let s := if 100000 < (err 1).natAbs && !s.inReset then (s.tamper 3).wipeDone else s
      s.deviceReset 7 d
    | none => forEach on s fun d s => s.ckWarn d (err d)

/-- The cause of `DEV_DEFECT.CLOCK` persists (R45, R738, R739). -/
def State.clockBad (s : State) : Bool :=
  s.flag Reg.CK_STATUS F.CK_STATUS_REF_LOSS || (List.range 7).any fun d => decide (3 ≤ s.ckOver d)

/-! ### Temperature (R756) -/

/-- A sensor's warning threshold in 1/16 °C. -/
def State.warnAt (s : State) (i : Nat) : Int :=
  (s.fld Reg.THERM_CFG (if i = 8 then F.THERM_CFG_TJ_WARN_ANA else F.THERM_CFG_TJ_WARN_MAIN) : Int) * 16

/-- A sensor's reading. -/
def State.temp (s : State) (i : Nat) : Int := toSigned 16 (s.fld (Reg.THERM i) F.THERM_TEMP)

/-- A sensor's reading arrives: the warning sets above its threshold and clears 5 °C below it. -/
def State.readTemp (s : State) (i : Nat) (t : Int) : State :=
  let r := Reg.THERM i
  let was := s.flag r F.THERM_WARN
  let s := s.put r F.THERM_TEMP (ofSigned 16 (satS 16 t))
  if s.warnAt i < t then
    if was then s
    else ((s.put r F.THERM_WARN 1).setDefect dfThermal).postB 0x0F15 [(16, 1, i), (20, 2, ofSigned 16 t)]
  else if t ≤ s.warnAt i - 80 then s.put r F.THERM_WARN 0 else s

/-- THERMAL_SAMPLE (R756): the nine readings in 1/16 °C, sensor 8 that of the analogue die.
DEDUCED: notes/assumptions/72.md. -/
def execThermalSample (temps : List Int) (s : State) : Out :=
  .next <|
    let t (i : Nat) : Int := (temps[i]?).getD (s.temp i)
    let s := forEach (List.range 9) s fun i s => s.readTemp i (t i)
    let s :=
      if 130 * 16 ≤ t 8 then (if s.clk.anaHot then s else s.analogueReset.modCk fun k => { k with anaHot := true })
      else if t 8 < 120 * 16 then s.modCk fun k => { k with anaHot := false } else s
    match (List.range 8).find? fun i => decide (115 * 16 ≤ t i) with
    | some i => s.deviceReset 8 i
    | none => s

/-- The cause of `DEV_DEFECT.THERMAL` persists (R756). -/
def State.tooWarm (s : State) : Bool := (List.range 9).any fun i => decide (s.warnAt i < s.temp i)

/-! ### Power domains (R749–R751) -/

/-- The first condition of R749 that forbids a domain STOPPED (`off`: OFF), with its state dimension and value. -/
def State.domForbids (s : State) (d : Nat) (off : Bool) : Option (Nat × Nat) :=
  let one (l : List Nat) (bad : Nat → Bool) (dim : Nat) (v : Nat → Nat) : Option (Nat × Nat) :=
    (l.find? bad).map fun x => (dim, v x)
  if off && d != 4 then some (22, s.domState d)
  else
    match d with
    | 2 => (one (List.range 16) (fun c => s.coreState c != kOff && s.coreState c != kOffline) 18 s.coreState).or
        (if (s.itemsIn iReady).isEmpty then none else some (19, iReady))
    | 3 => (if s.mode = mConfig then none else some (1, s.mode)).or <|
        (one s.groups (fun g => s.grpState g != 0) 4 s.grpState).or <|
        (if s.sepState = 0 then none else some (12, s.sepState)).or <|
        (one [0, 1] s.armed 9 fun _ => 1)
    | 4 => (if s.groups.any (fun g => (s.og g).dyn.isSome) || s.opt.commit.isSome || s.host.jobs.any (fun j => match j.2 with
          | .param c => decide (c.op = 0x0501 ∨ c.op = 0x0503)
          | _ => false) then some (255, 0) else none).or <|
        (if off && s.mode != mConfig then some (1, s.mode) else none)
    | 5 => (if s.linkState = 0 then none else some (6, s.linkState)).or <|
        (one (List.range 40) (fun i => s.portState (i / 20) (i % 20) != pClosed) 7 fun i => s.portState (i / 20) (i % 20)).or <|
        (if s.twinOn then some (255, 0) else none)
    | 6 => (one (List.range 32) s.laRun 16 fun _ => 1).or <|
        (one (List.range 16) s.setRunning 15 fun _ => 1).or <|
        (one (List.range 16) s.uActive 14 s.uState).or <|
        (one (List.range 8) (fun c => s.scState c != 0 && s.scState c != 3) 17 s.scState).or <|
        (if (List.range 32).any (fun i => s.flag (Reg.SC_IN_CFG (i / 4) (i % 4)) F.SC_IN_CFG_ENABLE) then some (255, 0) else none)
    | _ => some (22, s.domState d)

/-- A domain starts to power up: PD4 leaves OFF (R751). -/
def State.powerUp (s : State) : State := if s.domState 4 = 2 then s.setDom 4 3 else s

/-- The state of PD4 is lost: the optimiser is as after a reset, and both banks are empty (R751). -/
def State.losePd4 (s : State) : State :=
  { (s.clearRegs 0x500000 0x600000) with
    regs := (s.clearRegs 0x500000 0x600000).regs.filter fun e =>
      !(decide (0x2000000 ≤ e.1) && decide (e.1 < 0x2100000) && e.1 % 0x10000 / 0x1000 == 1)
    opt := {} }

/-- A domain is STOPPED or OFF only while its conditions hold (R749). DEDUCED: notes/assumptions/72.md. -/
def State.domainsCheck (s : State) : State :=
  forEach [2, 3, 4, 5, 6] s fun d s =>
    if s.domState d = 1 ∧ (s.domForbids d false).isSome then s.wakeDom d
    else if s.domState d = 2 ∧ (s.domForbids d true).isSome then s.powerUp
    else s

/-- CK_DOMAIN_SET (R751, R758). DEDUCED: notes/assumptions/72.md. -/
def execCkDomainSet (c : Cmd) (s : State) : Out :=
  let c := { c with op := 0x0F01 }
  let d := c.b 16
  let t := c.b 17
  let st := s.domState d
  let no := s.domForbids d (t == 2)
  .next <| s.judge c
    (check1 c .pfWc [] ++
      [ (!c.onlyUses [(16, 1), (17, 1)] || decide (d < 2 ∨ 6 < d ∨ 2 < t), .bad),
        (t != 0 && st != t && no.isSome, .reject (no.getD (22, 0)).1 (no.getD (22, 0)).2),
        (t == 1 && decide (2 ≤ st) || t == 2 && st == 3, .reject 22 st) ])
    fun s =>
      if st = t then s.complete c stOK 0
      else
        match t with
        | 0 => if st = 1 then (s.wakeDom d).complete c stOK 0
               else (s.modCk fun k => { k with powerCmds := k.powerCmds ++ [c] }).powerUp
        | 1 => (s.setDom d 1).complete c stOK 0
        | _ => (s.losePd4.setDom d 2).complete c stOK 0

/-- DOMAIN_POWER_UP_DONE (R751). -/
def execDomainPowerUpDone (s : State) : Out :=
  .next <|
    if s.inReset || s.domState 4 != 3 then s
    else
      let l := s.clk.powerCmds
      let s := (s.modCk fun k => { k with powerCmds := [] }).setDom 4 0
      forEach l s fun c s => s.complete c stOK 0

/-- DOMAIN_AUTO_STOP (R751): the conditions have held for 1 ms with no wake request. -/
def execDomainAutoStop (d : Nat) (s : State) : Out :=
  .next <|
    if decide (2 ≤ d ∧ d ≤ 6) && s.domState d == 0 && s.flag (Reg.PWR_DOMAIN d) F.PWR_DOMAIN_AUTO_STOP
        && (s.domForbids d false).isNone then s.setDom d 1
    else s

/-- CK_DEVICE_RESET (R758). -/
def execCkDeviceReset (c : Cmd) (s : State) : Out :=
  let c := { c with op := 0x0F02 }
  .next <| s.judge c
    (check1 c .pf [] ++ [ (!c.onlyUses [], .bad), (s.role != 0 && s.role != 2, .reject 2 s.role) ])
    fun s => (s.modCk fun k => { k with resetDue := true }).complete c stOK 0

/-- BLOCK_LOCK_GAINED (R207): the lane of a port is no longer lost. -/
def execBlockLockGained (ch port : Nat) (s : State) : Out :=
  .next <|
    if 2 ≤ ch ∨ s.nPorts ≤ port then s
    else
      let r := Reg.PORT_STATUS ch port
      ((s.put r F.PORT_STATUS_LOCK 1).put r F.PORT_STATUS_HI_BER 0).modLp ch port fun z => { z with lostFor := 0, lossDone := false }

end Sys2Proof.Machine
end

