-- ==== Sys2Proof/Machine/Lend.lean ====
section
/-!
DEFINITION. Lending a region to self-test: the engine's choice (R695), the mode (R46, R47) and the owners' conditions (R668, R581,
R372, R323, R415, R687).
-/
namespace Sys2Proof.Machine

/-- The regions of a kind, ascending. -/
def State.kindRegions (s : State) (k : Nat) : List Nat := idxs 0x32 fun r => s.regionPresent r && regionKind r == k

/-- A group is in a state of a list. -/
def State.anyGroup (s : State) (l : List Nat) : Bool := s.groups.any fun g => l.contains (s.grpState g)

/-- The mode allows a lend of region `r` (R46, R47). -/
def State.modeLends (s : State) (r : Nat) : Bool :=
  let k := regionKind r
  (match s.mode with
    | 1 => true
    | 2 => (s.kindRegions k).all fun x => s.regionState x != 2
    | 3 => !(k == 3 && s.groups.any fun g => s.grpState g == gsMoving && bit (progMask s.optProg g ((s.placement).getD 0)) (r - 0x28))
    | _ => false) &&
  !(decide (4 ≤ k) && s.anyGroup [gsMoving, gsHolding, gsStopping])

/-- The owner's conditions hold at its lend boundary (R687). Ticks and cycles are at their boundary until their freeze or cut-off. -/
def State.ownerLends (s : State) (r : Nat) : Bool :=
  let tick := !s.armed 1 || s.pl.freezeDue
  match regionKind r with
  | 0 => s.flag (Reg.WC_CFG r) F.WC_CFG_LENDABLE && s.coreState r == kOnline
  | 1 =>
    let c := r - 0x10
    s.flag (Reg.SC_CFG c) F.SC_CFG_LENDABLE && (s.scState c == 0 || s.scState c == 2 || (s.scState c == 1 && (s.scCore c).loopEnd))
  | 2 => s.fld Reg.SRV_STATUS F.SRV_STATUS_SPARE == r - 0x18 && (!s.armed 0 || !s.link.cut)
  | 3 =>
    tick && s.activeClu.contains (r - 0x28) && s.lentClu.isEmpty && s.retiredClu.isEmpty && (s.optProg.isEmpty || s.meetsLent) &&
      (s.opt.commit.isNone || s.meets s.optStaged 1 s.deadlinePct)
  | 4 => tick
  | _ => tick && decide (s.sepState ≤ 2)

/-- Region `r` may be lent now (R46, R47, R687, R689). DEDUCED: notes/assumptions/15.md. DEDUCED: notes/assumptions/73.md. -/
def State.mayLend (s : State) (r : Nat) : Bool :=
  s.regionPresent r && decide (s.regionState r ≤ 1) && !(s.region r).returning && !(s.region r).outOfUse && s.saveSlot.isSome &&
    decide (s.fld Reg.MST_STATUS F.MST_STATUS_LENT < 15) && s.modeLends r && s.ownerLends r

/-- Background testing may begin a run of region `r` (R691, R695): its kind is enabled and no run of the kind is in progress; a retry is
due, or `r` is the first region after the last one tested that may be lent. DEDUCED: notes/assumptions/73.md. -/
def State.mayBegin (s : State) (r : Nat) : Bool :=
  let k := regionKind r
  let l := s.kindRegions k
  let last := tabGet (fun _ => 0) s.mem.lastTested k
  let turn := l.filter (fun x => decide (last ≤ x)) ++ l.filter (fun x => decide (x < last))
  s.flag (Reg.MST_SCHED k) F.MST_SCHED_ENABLE && !l.any (fun x => (s.region x).running) && !(s.region r).retryWait &&
    ((s.region r).retry || turn.find? (fun x => s.mayLend x && !(s.region x).retryWait) == some r)

/-- Region `r` is given to the engine by its owner (R667, R372, R323, R415). -/
def State.ownerGives (s : State) (r : Nat) : State :=
  match regionKind r with
  | 0 => s.startDrain r 3 none
  | 1 =>
    let c := r - 0x10
    ((s.modRegion r fun x => { x with lentFrom := s.scState c }).setScState c 4).lendRegion r
  | 2 =>
    let i := r - 0x18
    (((s.put Reg.SRV_STATUS F.SRV_STATUS_LENT i).put Reg.SRV_STATUS F.SRV_STATUS_SPARE 15).pipeEvent i 0).lendRegion r
  | 3 =>
    let i := r - 0x28
    let s := ((s.setClu F.OPT_STATUS_LENT i true).setClu F.OPT_STATUS_ACTIVE i false).postB 0x0531 [(16, 1, i)]
    s.lendRegion r
  | 4 => s.lendRegion r
  | _ => s.sepLent.lendRegion r

/-- MST_SLICE_LEND (R689, R695): the engine takes region `r` for a slice at its owner's boundary; a work core drains first. A background
run starts with its first slice. DEDUCED: notes/assumptions/73.md. -/
def execMstSliceLend (r : Nat) (s : State) : Out :=
  .next <|
    let k := regionKind r
    let x := s.region r
    if !s.mayLend r || x.gapWait then s
    else if x.running then
      if x.byCmd.isSome || s.flag (Reg.MST_SCHED k) F.MST_SCHED_ENABLE then s.ownerGives r else s
    else if s.mayBegin r then
      let s := s.startRun r (s.fld (Reg.MST_SCHED k) F.MST_SCHED_LOG_N) none
      let s := { s with mem := { s.mem with lastTested := tabSet (fun _ => 0) s.mem.lastTested k (r + 1) } }
      s.ownerGives r
    else s

end Sys2Proof.Machine
end

