-- ==== Sys2Proof/Machine/Views.lean ====
section
/-!
DEFINITION. The register views (R596–R599, R605–R608): where an offset leads for each initiator, what a register reads
as, and the reads with their side effects (R9–R14, R16, R598).
-/
namespace Sys2Proof.Machine

/-! ### Places -/

/-- Where an offset leads: to a register, by its PF-view offset (or the model's key of a VF's own register), with whether it is reached
as a VF reaches its group page; to a register shown by the status window (R598); to a fixed value; to space without a register,
by its PF-view offset. -/
inductive Place where
  | reg (k : Nat) (vf : Bool)
  | window (k : Nat)
  | const (v : Nat)
  | hole (o : Nat)
  deriving DecidableEq, Repr

/-- The device status window (R598): page offset and register. -/
def windowRows : List (Nat × Nat) :=
  [ (0x4000, Reg.DEV_MODE), (0x4010, Reg.TB_STATUS), (0x4018, Reg.CELL_TIME), (0x401C, Reg.CELL_TIME + 4),
    (0x4020, Reg.PLANT_TIME), (0x4024, Reg.PLANT_TIME + 4), (0x4028, Reg.RAW), (0x402C, Reg.RAW + 4),
    (0x4040, Reg.LINK_STATUS), (0x4044, Reg.LINK_MEMBERS), (0x4048, Reg.LINK_ORBIT), (0x4060, Reg.OPT_STATUS),
    (0x4064, Reg.OPT_TICK), (0x4080, Reg.SEP_STATUS), (0x4084, Reg.SEP_TICK), (0x40A0, Reg.PLAN_STATUS), (0x40C0, Reg.SF_STATUS) ]

/-- The register that the window shows at a page offset. -/
def windowReg (p : Nat) : Option Nat :=
  if 0x4100 ≤ p ∧ p < 0x4140 then some (Reg.SF_ZONE ((p - 0x4100) / 4))
  else (windowRows.find? fun r => r.1 == p).map (·.2)

/-- The payload words of a capability entry (R607); VF n's own entry 0x01 carries the VF's rings (R608). -/
def State.capWords (s : State) (vf : Option Nat) (id : Nat) : Nat × Nat × Nat :=
  match id, vf with
  | 0x00, _ => (s.mem.fuse.part + s.mem.fuse.step * 2 ^ 16, if s.lifeCycle = 1 then 17 else 16, 0)
  | 0x01, none => (16 + 16 * 2 ^ 8 + 8 * 2 ^ 16 + 64 * 2 ^ 24, s.nVf + 4 * 2 ^ 8 + 4 * 2 ^ 16 + 2 * 2 ^ 24, 8 + 256 * 2 ^ 16)
  | 0x01, some g => (4 + 4 * 2 ^ 8 + 2 * 2 ^ 16 + 8 * 2 ^ 24, 16, g)
  | 0x02, _ => (256, 0, 0)
  | 0x03, _ => (s.nPorts + 2 * 2 ^ 8 + 2048 * 2 ^ 16, 512, 0)
  | 0x04, _ => (s.nGroups + 64 * 2 ^ 8 + 16 * 2 ^ 16 + 16 * 2 ^ 24, 0, 0)
  | 0x05, _ => (s.nClu + 512 * 2 ^ 16, 1024, 65536)
  | 0x06, _ => (s.nLinkAxes + s.nLocal * 2 ^ 16, 9 + 32 * 2 ^ 8, 0)
  | 0x07, _ => (s.nCaps + 16 * 2 ^ 16 + 32 * 2 ^ 24, 0, 0)
  | 0x08, _ => (32 + 16 * 2 ^ 8 + 8 * 2 ^ 16 + 16 * 2 ^ 24, 0, 0)
  | 0x09, _ => (s.nLocal + 16 * 2 ^ 8 + 16 * 2 ^ 16 + 64 * 2 ^ 24, 0, 0)
  | 0x0A, _ => (s.nAin + 64 * 2 ^ 8 + 128 * 2 ^ 16 + 16 * 2 ^ 24, 128, 0)
  | 0x0B, _ => (8, 0, 0)
  | 0x0C, _ => (16 + 4096 * 2 ^ 16, 1024 + 8 * 2 ^ 16, 0)
  | 0x0D, _ => (256 + 16 * 2 ^ 16 + 4 * 2 ^ 24, 0, 0)
  | 0x0E, _ => (2, 0, 0)
  | 0x0F, _ => (8 + 8 * 2 ^ 8, 0, 0)
  | _, _ => (0, 0, 0)

/-- A word of a capability list that starts at `base` (R606); the entries follow one another.
DESIGN CHOICE: notes/assumptions/75.md. -/
def State.capWord (s : State) (vf : Option Nat) (ids : List Nat) (base o : Nat) : Option Nat :=
  let i := (o - base) / 16
  match ids[i]? with
  | none => none
  | some id =>
    let (w1, w2, w3) := s.capWords vf id
    some (match (o - base) / 4 % 4 with
      | 0 => id + 2 ^ 8 + (if i + 1 < ids.length then base + 16 * (i + 1) else 0) * 2 ^ 16
      | 1 => w1
      | 2 => w2
      | _ => w3)

/-- The entries of the PF list; debug access only while the life cycle is DEVELOP (R607). -/
def State.capIds (s : State) : List Nat := List.range 16 ++ (if s.lifeCycle = 1 then [0x40] else [])

/-- A register that belongs to an absent resource of the SW-9112 (R2, R4). -/
def State.absentReg (s : State) (k : Nat) : Bool :=
  s.small &&
    let within (base stride n lo hi : Nat) : Bool :=
      decide (base + stride * lo ≤ k ∧ k < base + stride * min hi n)
    let axes (base stride : Nat) : Bool := within base stride 224 96 192 || within base stride 224 208 224
    within 0x2000000 0x10000 16 8 16 || within 0x4000000 0x10000 17 9 17
      || within 0x301000 0x20 20 12 20 || within 0x301400 0x20 20 12 20
      || axes 0x604000 0x40 || axes 0x608000 0x20 || axes 0x610000 0x80 || axes 0x618000 0x80
      || within 0x600100 0x10 16 8 16 || within 0x500100 0x10 8 4 8
      || within 0x700080 4 16 8 16 || within 0x700200 8 16 8 16 || within 0x701000 0x20 256 128 256
      || within 0x910000 0x1000 32 16 32 || within 0xA00100 4 48 24 48 || within 0xA00200 4 48 24 48
      || within 0xD00200 0x10 0x30 0x2C 0x30

/-- A register place, or a fixed 0 where the register belongs to an absent resource. -/
def State.regPlace (s : State) (k : Nat) (vf : Bool) (o : Nat) : Place :=
  if s.absentReg k then .const 0
  else if (findRow k).isSome then .reg k vf
  else .hole o

/-- Where page offset `p` of group g's page leads (R597); `vf` the VF that accesses its own page.
DESIGN CHOICE: notes/assumptions/75.md. -/
def State.pagePlace (s : State) (g p : Nat) (vf : Bool) : Place :=
  let o := 0x2000000 + g * 0x10000 + p
  let own := 0x4000000 + (g + 1) * 0x10000 + p
  if s.nGroups ≤ g then .const 0
  else if 0x2100 ≤ p ∧ p < 0x2500 ∧ 0x14 ≤ p % 0x40 ∧ p % 0x40 < 0x3C then
    match (s.groupAxes g)[(p - 0x2100) / 0x40]? with
    | some a => s.regPlace (Reg.SRV_AX_CFG a + p % 0x40) vf o
    | none => .const 0
  else if p < 0x4000 then s.regPlace o vf o
  else if p < 0x5000 then
    match windowReg p with
    | some k => .window k
    | none => .hole o
  else if (0x8000 ≤ p ∧ p < 0xA000) ∨ (0xE000 ≤ p ∧ p < 0xF000) then
    if vf then s.regPlace own false o else .const 0
  else if p = 0xF000 then .window Reg.DEV_ID
  else if p = 0xF004 then .window Reg.DEV_STEP
  else if p = 0xF008 then .const (if vf then g + (g + 1) * 2 ^ 8 else 0)
  else if 0xF100 ≤ p ∧ p < 0xF200 then
    match s.capWord (some g) [1, 4, 5, 6, 7] 0xF100 p with
    | some v => .const v
    | none => .hole o
  else .hole o

/-- VF n exists on the link (R599). -/
def State.vfOn (s : State) (n : Nat) : Bool :=
  decide (1 ≤ n ∧ n ≤ s.nVf) && bit (s.fld Reg.HE_STATUS F.HE_STATUS_VF_ENABLED) (n - 1)

/-- Where an offset of an initiator's view leads (R596, R597, R599). -/
def State.placeAny (s : State) (who : Init) (off : Nat) : Place :=
  match who with
  | .vf n => s.pagePlace (n - 1) (off % 0x10000 / 4 * 4) true
  | _ =>
    let o := off % 0x4000000 / 4 * 4
    if 0x100 ≤ o ∧ o < 0x1000 then
      match s.capWord none s.capIds 0x100 o with
      | some v => .const v
      | none => .hole o
    else if 0x2000000 ≤ o ∧ o < 0x2100000 then s.pagePlace (o % 0x1000000 / 0x10000) (o % 0x10000) false
    else s.regPlace o false o

/-- Where an access leads; none where nothing answers: a VF that does not exist (R599), or the fabric in reset. -/
def State.place (s : State) (who : Init) (off : Nat) : Option Place :=
  if s.inReset then none
  else
    match who with
    | .vf n => if s.vfOn n then some (s.placeAny who off) else none
    | _ => some (s.placeAny who off)

/-- The offset in the PF view of an initiator's offset, for DETAIL (R53). DEDUCED: notes/assumptions/76.md. -/
def pfOffset (who : Init) (off : Nat) : Nat :=
  match who with
  | .vf n => 0x2000000 + (n - 1) * 0x10000 + off % 0x10000 / 4 * 4
  | _ => off % 0x4000000 / 4 * 4

/-! ### What a register reads as -/

/-- Half `k % 8 / 4` of a 64-bit value shown at a pair whose `_LO` offset is `base`. -/
def halfAt (v : W64) (base k : Nat) : Word := if k = base then BitVec.ofNat 32 v.toNat else BitVec.ofNat 32 (v.toNat / 2 ^ 32)

/-- The integer part of a count of 2^-24 units, as a 64-bit value. -/
def unitsOf (x : Int) : W64 := BitVec.ofInt 64 (x / 2 ^ 24)

/-- The time base's registers (R98, R100). -/
def State.readTime (s : State) (k : Nat) : Word :=
  let pair (base : Nat) : Bool := k == base || k == base + 4
  if pair Reg.RAW then halfAt s.time.raw Reg.RAW k
  else if pair Reg.CELL_TIME then halfAt s.cell Reg.CELL_TIME k
  else if pair Reg.PLANT_TIME then halfAt s.plantNow Reg.PLANT_TIME k
  else if pair Reg.CELL_OFS then halfAt (unitsOf s.time.cell.ofs) Reg.CELL_OFS k
  else if pair Reg.PLANT_OFS then halfAt (unitsOf s.time.plant.ofs) Reg.PLANT_OFS k
  else if pair Reg.CELL_SLEW_REM then halfAt (unitsOf s.time.cell.slew) Reg.CELL_SLEW_REM k
  else if pair Reg.PLANT_SLEW_REM then halfAt (unitsOf s.time.plant.slew) Reg.PLANT_SLEW_REM k
  else if k = Reg.CELL_RATE then BitVec.ofInt 32 s.time.cell.rate
  else if k = Reg.PLANT_RATE then BitVec.ofInt 32 s.time.plant.rate
  else if k = Reg.TB_STATUS then
    let v := fldPut (s.reg k) F.TB_STATUS_ARMED s.armedEntries.length
    let v := fldPut v F.TB_STATUS_PLANT_SLEWING (b2n (s.time.plant.slew != 0))
    let v := fldPut v F.TB_STATUS_CELL_SLEWING (b2n (s.time.cell.slew != 0))
    fldPut v F.TB_STATUS_CELL_OWNER s.cellOwner
  else s.reg k

/-- A command ring is held for completion room (R615): the room of its completion ring less the commands fetched through the rings
that share it and not yet completed, and less those of the fetches in progress. -/
def State.cplRoom (s : State) (fn q : Nat) : Nat :=
  s.ringRoom fn 1 q -
    (s.host.fetched.filter fun c =>
      fnOf c.who == fn && !c.who.isWc && (match c.port with
        | .ring r => s.fld (ringCtrl fn 0 r) F.RING_CTRL_CPL == q
        | _ => false)).length -
    s.host.jobs.foldl (fun n j => match j.2 with
      | .descriptors f r _ k => if f == fn && s.fld (ringCtrl fn 0 r) F.RING_CTRL_CPL == q then n + k else n
      | .param _ => n) 0

/-- `RING_CTRL.HELD` of a ring register. DEDUCED: notes/assumptions/76.md. -/
def State.ringHeld (s : State) (k : Nat) : Bool :=
  let fn := if k < 0x4000000 then 0 else (k - 0x4000000) / 0x10000
  let d := k - ringBase fn 0 0
  decide (ringBase fn 0 0 ≤ k ∧ d < 0x400 ∧ d % 0x20 = 8) && s.flag k F.RING_CTRL_ENABLE
    && s.cplRoom fn (s.fld k F.RING_CTRL_CPL) == 0

/-- The registers of blocks 0x00 and 0x01 (R60, R63, R605, R637). -/
def State.readHost (s : State) (k : Nat) : Word :=
  if k = Reg.DEV_ID then BitVec.ofNat 32 (s.mem.fuse.part * 2 ^ 16)
  else if k = Reg.DEV_STEP then BitVec.ofNat 32 s.mem.fuse.step
  else if k = Reg.DEV_SERIAL ∨ k = Reg.DEV_SERIAL + 4 then halfAt s.mem.fuse.serial Reg.DEV_SERIAL k
  else if k = Reg.DEV_MODE then fldPut (s.reg k) F.DEV_MODE_LIFE_CYCLE s.lifeCycle
  else if k = Reg.FOUL_STATUS then fldPut (s.reg k) F.FOUL_STATUS_PENDING s.log.queue.length
  else if k = Reg.HE_STATUS then
    fldPut (s.reg k) F.HE_STATUS_READS (s.host.reads.filter fun r => r.sent && r.got.isNone).length
  else if s.ringHeld k then fldPut (s.reg k) F.RING_CTRL_HELD 1
  else s.reg k

/-- The optimiser's registers (R327, R329, R330). DEDUCED: notes/assumptions/63.md. -/
def State.readOpt (s : State) (k : Nat) : Word :=
  if k = Reg.OPT_STATUS then fldPut (s.reg k) F.OPT_STATUS_MEETS_LENT (b2n s.meetsLent)
  else if k = Reg.OPT_CHECK then
    fldPut (fldPut (s.reg k) F.OPT_CHECK_STAGED_MEETS_LENT (b2n (s.stagedMeets 1))) F.OPT_CHECK_STAGED_MEETS_FULL
      (b2n (s.stagedMeets 0))
  else if Reg.OPT_CLU_STATUS 0 ≤ k ∧ k < Reg.OPT_CLU_STATUS 8 ∧ k % 16 = 0 then
    let (st, g) := s.cluState ((k - Reg.OPT_CLU_STATUS 0) / 16)
    fldPut (fldPut (s.reg k) F.OPT_CLU_STATUS_STATE st) F.OPT_CLU_STATUS_GROUP g
  else s.reg k

/-- The signal cores' registers: program words of the staged bank and data RAM (R582). -/
def State.readSc (s : State) (k : Nat) : Word :=
  if Reg.SC_PROG 0 0 ≤ k ∧ k < 0xB60000 then
    let c := (k - 0xB20000) / 0x8000
    let bank := 1 - s.fld (Reg.SC_STATE c) F.SC_STATE_BANK
    tabGet (fun _ => 0) (s.scCore c).prog (bank * 8192 + (k - 0xB20000) % 0x8000 / 4)
  else if 0xB80000 ≤ k then
    let c := (k - 0xB80000) / 0x10000
    let w := (k - 0xB80000) % 0x10000 / 2
    let at' (n : Nat) : Nat := (tabGet (fun _ => 0) (s.scCore c).data n).toNat
    BitVec.ofNat 32 (at' w + at' (w + 1) * 2 ^ 16)
  else s.reg k

/-- The value of a register as its fields' Meaning states it, before access codes and Priv. -/
def State.readVal (s : State) (k : Nat) : Word :=
  match blockOf k with
  | 0 => s.readHost k
  | 1 => s.readHost k
  | 2 => s.readTime k
  | 5 => s.readOpt k
  | 7 => if k = Reg.SEP_CYC_WORST then BitVec.ofNat 32 s.sepW else s.reg k
  | 8 => if k = Reg.SF_REQ then BitVec.ofNat 32 s.reqLines else s.reg k
  | 9 =>
    if Reg.LA_CH_CFG 0 ≤ k ∧ k % 0x1000 = 0x10 then
      fldPut (s.reg k) F.LA_CH_STATUS_VALID (b2n (s.laValid ((k - Reg.LA_CH_CFG 0) / 0x1000)))
    else s.reg k
  | 10 => if k = Reg.ACQ_TB_STATUS then fldPut (s.reg k) F.ACQ_TB_STATUS_SYNC_SEEN (b2n s.syncSeen) else s.reg k
  | 11 => s.readSc k
  | 14 =>
    if k = Reg.TWIN_BUDGET then
      fldPut (fldPut 0 F.TWIN_BUDGET_NEED (satU 16 s.twinNeed)) F.TWIN_BUDGET_CAPACITY (satU 16 s.twinCapacity)
    else if k = Reg.TWIN_FWD then fldPut (s.reg k) F.TWIN_FWD_FWD_END (satU 16 (s.fwdEnd s.bankUsed))
    else s.reg k
  | 15 =>
    if k = Reg.PWR_DOMAIN 7 then
      fldPut (s.reg k) F.PWR_DOMAIN_STATE (if s.flag Reg.SF_STATUS F.SF_STATUS_PATH_OK then 0 else 3)
    else s.reg k
  | _ => s.reg k

/-! ### Reads -/

/-- An initiator's number among the holders of latches and held writes (R10). -/
def initNo : Init → Nat
  | .pf => 0
  | .vf n => n
  | .wc c => 32 + c
  | .dev => 64

/-- Key of an initiator's latch or held write of a pair, by the pair's `_LO`. -/
def pairKey (who : Init) (lo : Nat) : Nat := initNo who * 2 ^ 28 + lo

/-- The bits of a register that an initiator reaches: all, or, for a VF in its page, the G fields (R16). -/
def reachMask (r : RegRow) (vf : Bool) : Word :=
  r.fields.foldl (fun m f => if vf && !f.g then m else fldPut m f.fld (2 ^ f.fld.w - 1)) 0

/-- The register with the RC fields that an initiator reaches cleared (R11, R12). -/
def clearRc (r : RegRow) (vf : Bool) (v : Word) : Word :=
  r.fields.foldl (fun m f => if f.acc = .rc ∧ !(vf && !f.g) then fldPut m f.fld 0 else m) v

/-- A block whose domain is OFF or in RESET answers with foul 0x0F13 (R747). -/
def State.domainFoul (s : State) (who : Init) (b off : Nat) : State :=
  s.post 0x0F13 (srcInit 15 who) (det [(16, 1, domainOf b), (20, 4, pfOffset who off)])

/-- What the read of a `_HI` register does beside R10: a local axis's latch entry (R496) or a lost trigger (R537) is removed. -/
def State.hiRead (s : State) (k : Nat) : State :=
  if 0x910000 ≤ k ∧ k < 0x930000 ∧ k % 0x1000 = 0x34 then s.popLatch ((k - 0x910000) / 0x1000)
  else if 0xA01000 ≤ k ∧ k < 0xA02000 ∧ k % 0x100 = 0x5C then s.popLost ((k - 0xA01000) / 0x100)
  else s

/-- The read of a register that exists (R10–R12, R16): value and effect. -/
def State.readAt (s : State) (who : Init) (k : Nat) (vf : Bool) : Word × State :=
  match findRow k with
  | none => (0, s)
  | some r =>
    let v := s.readVal k &&& reachMask r vf
    if r.pair = 1 then
      let s := { s with host := { s.host with latch := tabSet (fun _ => none) s.host.latch (pairKey who k) (some (s.readVal (k + 4))) } }
      (v, if k = Reg.MEM_ERR_ADDR then { s with mem := { s.mem with captured := false } } else s)
    else if r.pair = 2 then
      let key := pairKey who (k - 4)
      let v := (tabGet (fun _ => none) s.host.latch key).getD v
      (v, ({ s with host := { s.host with latch := tabSet (fun _ => none) s.host.latch key none } } : State).hiRead k)
    else
      let w := clearRc r vf (s.reg k)
      (v, if w = s.reg k then s else s.setReg k w)

/-- The block whose domain an access concerns. -/
def placeBlock : Place → Nat
  | .reg k _ => blockOf k
  | .window k => blockOf k
  | .const _ => 1
  | .hole o => blockOf o

/-- A read at an offset of an initiator's view (R9, R14, R747): the value and the effect, or none where nothing answers. -/
def State.readReg (s : State) (who : Init) (off : Nat) : Option (Word × State) :=
  (s.place who off).map fun p =>
    let b := placeBlock p
    let s := s.wakeDom (domainOf b)
    if s.blockAway b then (0, s.domainFoul who b off)
    else
      match p with
      | .const v => (BitVec.ofNat 32 v, s)
      | .hole o => (0, s.post 0x0110 (srcInit 1 who) (det [(20, 4, o)]))
      | .window k => s.readAt who k false
      | .reg k vf => s.readAt who k vf

/-- A read by the host or a work core, with its answer. -/
def State.answerRead (s : State) (who : Init) (off : Nat) : State :=
  match s.readReg who off with
  | some (v, s) => s.emit (.readData who off (leBytes 4 v.toNat) false)
  | none => s

/-- UNMAPPED_READ (R14). -/
def execUnmappedRead (who : Init) (off : Nat) (s : State) : Out := .next (s.answerRead who off)
/-- PAIR_LO_READ (R10). -/
def execPairLoRead (who : Init) (off : Nat) (s : State) : Out := .next (s.answerRead who off)
/-- PAIR_HI_READ (R10). -/
def execPairHiRead (who : Init) (off : Nat) (s : State) : Out := .next (s.answerRead who off)
/-- RC_REGISTER_READ (R12). -/
def execRcRegisterRead (who : Init) (off : Nat) (s : State) : Out := .next (s.answerRead who off)
/-- DOMAIN_REGISTER_READ (R747). -/
def execDomainRegisterRead (who : Init) (off : Nat) (s : State) : Out := .next (s.answerRead who off)
/-- MEM_ERR_ADDR_READ: a read of `MEM_ERR_ADDR_LO` returns the offset and re-arms the capture (R675, R696). -/
def execMemErrAddrRead (who : Init) (s : State) : Out := .next (s.answerRead who Reg.MEM_ERR_ADDR)
/-- LATCH_TIME_HI_READ (R496). -/
def execLatchTimeHiRead (who : Init) (ch : Nat) (s : State) : Out := .next (s.answerRead who (Reg.LA_CH_LATCH_TIME ch + 4))
/-- ACQ_LOST_HI_READ (R537). -/
def execAcqLostHiRead (who : Init) (u : Nat) (s : State) : Out := .next (s.answerRead who (Reg.ACQ_U_LOST u + 4))

end Sys2Proof.Machine
end

