-- ==== Sys2Proof/Machine/Bus.lean ====
section
/-!
DEFINITION. Register writes (R9–R17, R36, R37): the refusals that the blocks' chapters give, the value that a write leaves, and what a
write does beside it.
-/
namespace Sys2Proof.Machine

/-! ### Refusals -/

/-- What a refused write records: nothing, or a code of the register's block (low byte) or of block 0x0E, with a DETAIL byte 19. -/
inductive WriteBar where
  | code (low : Nat) (b19 : Nat)
  | twin
  | bank
  deriving DecidableEq, Repr

/-- The bank or copy that a register belongs to is in use (R36): schedule banks, admission copies, coefficient banks. -/
def State.inUseBank (s : State) (k : Nat) : Bool :=
  if 0x340000 ≤ k ∧ k < 0x3C0000 then (k - 0x340000) / 0x40000 == s.bankUsed
  else if 0x310000 ≤ k ∧ k < 0x312000 then (k - 0x310000) / 0x1000 == s.admCopy
  else if 0x610000 ≤ k ∧ k < 0x620000 then (k - 0x610000) / 0x8000 == s.axisBank ((k - 0x610000) % 0x8000 / 0x80)
  else false

/-- A servo configuration register is refused: the phase of its group is not OFF (R376), or a commit of its swap set is pending (R357). -/
def State.srvBar (s : State) (k : Nat) : Option WriteBar :=
  if 0x604000 ≤ k ∧ k < 0x607800 ∧ (k - 0x604000) % 0x40 < 0x14 then
    if s.axisPhase ((k - 0x604000) / 0x40) != phOff then some (.code 0x19 0) else none
  else if 0x600100 ≤ k ∧ k < 0x600200 then
    if s.phase ((k - 0x600100) / 0x10) != phOff then some (.code 0x19 0) else none
  else if 0x610000 ≤ k ∧ k < 0x620000 then
    let n := s.swapSet ((k - 0x610000) % 0x8000 / 0x80)
    if bit (s.reg Reg.SRV_SWAP_PEND).toNat n then some (.code 0x1A n) else none
  else none

/-- The monitor takes a configuration write (R418): OFF, or LENT from OFF. -/
def State.sepStill (s : State) : Bool := s.sepState == 0 || (s.sepState == 3 && (s.region 0x30).lentFrom == 0)

/-- A separation register is refused (R418). -/
def State.sepBar (s : State) (k : Nat) : Bool :=
  if 0x700200 ≤ k ∧ k < 0x700280 then s.grpState ((k - 0x700200) / 8) != 0
  else if 0x701000 ≤ k ∧ k < 0x703000 then s.grpState ((k - 0x701000) / 0x200) != 0
  else !s.sepStill

/-- A local-axis register is refused while its channel runs (R513); `RUN` = 0 while its axis is ACTIVE in a group whose phase is not OFF.
DEDUCED: notes/assumptions/76.md. -/
def State.laBar (s : State) (k : Nat) (v : Word) : Bool :=
  if k < 0x910000 then false
  else
    let c := (k - 0x910000) / 0x1000
    let d := k % 0x1000
    s.laRun c &&
      (if d = 0 then
        let keep (x : Word) : Nat := x.toNat &&& 0x78FFFF00
        keep v != keep (s.reg k) ||
          (!v.msb && s.flag (Reg.SRV_AX_CFG (192 + c)) F.SRV_AX_CFG_ACTIVE && s.axisPhase (192 + c) != phOff)
      else [0x004, 0x008, 0x040, 0x044, 0x80C, 0x814, 0x818, 0x81C].contains d)

/-- Why a write of `v` to a register is refused as a whole (R36, R266, R357, R376, R418, R513, R552, R582, R733); none for not. -/
def State.writeBar (s : State) (k : Nat) (v : Word) : Option WriteBar :=
  let low (c : Bool) (n : Nat) : Option WriteBar := if c then some (.code n 0) else none
  if 2 ≤ s.mode ∧ s.inUseBank k then some .bank
  else
    match blockOf k with
    | 4 => low (decide (0x404000 ≤ k ∧ k < 0x408000) && s.flag (Reg.ZONE_CTRL ((k - 0x404000) / 0x100)) F.ZONE_CTRL_ENABLE) 0x16
    | 6 => s.srvBar k
    | 7 => low (s.sepBar k) 0x16
    | 9 => low (s.laBar k v) 0x16
    | 10 => low (s.acqGuard k) 0x19
    | 11 =>
      low (decide (0xB20000 ≤ k ∧ k < 0xB60000) && s.flag (Reg.SC_STATE ((k - 0xB20000) / 0x8000)) F.SC_STATE_COMMIT_PEND) 0x14
    | 14 => if (k = Reg.TWIN_CTRL ∨ k = Reg.TWIN_TIMING) ∧ (s.mode ≠ 1 ∨ s.role ≠ 0) then some .twin else none
    | _ => none

/-! ### Ranges (R15) -/

/-- A field's value lies in its documented range. -/
def inRanges (ok : List (Nat × Nat)) (x : Nat) : Bool := ok.isEmpty || ok.any fun r => decide (r.1 ≤ x ∧ x ≤ r.2)

/-- `SRV_AX_CFG(a)` as written is in range (R30, R339, R344). -/
def State.axCfgOk (s : State) (a : Nat) (v : Word) : Bool :=
  let kind := fldOf v F.SRV_AX_CFG_OUT_KIND
  let node := fldOf v F.SRV_AX_CFG_NODE
  let on := fldOf v F.SRV_AX_CFG_ACTIVE == 1
  let cyc := Reg.SB_CUTOFF s.bankUsed
  let fits (kind : Nat) : Bool := match kind with
    | 0 => true
    | 1 => decide (a < 192)
    | 2 => decide (192 ≤ a)
    | _ => decide (192 ≤ a ∧ a < 208)
  fits kind && decide (192 ≤ a ∨ node ≤ 240) &&
    !(kind == 1 && (List.range 192).any fun b => b != a && s.outKind b == 1 && s.axisNode b == node) &&
    !(on && !s.flag (Reg.SRV_AX_CFG a) F.SRV_AX_CFG_ACTIVE && s.scheduled &&
      !budgetOk (s.bankUs s.bankUsed) (s.fld cyc F.SB_CUTOFF_FB_CUTOFF) (s.activeAxes.length + 1))

/-- `RING_CTRL` as written is in range (R641): a VF's vectors, the completion rings that its function has. -/
def ringCtrlOk (k : Nat) (v : Word) : Bool :=
  let vf := decide (0x4000000 ≤ k)
  let cmd := decide (k % 0x1000 < 0x400)
  let cpl := fldOf v F.RING_CTRL_CPL
  (!vf || decide (fldOf v F.RING_CTRL_VECTOR < 16)) && decide (cpl < if !cmd then 1 else if vf then 4 else 16)

/-- A register is the `RING_CTRL` of some ring. -/
def isRingCtrl (k : Nat) : Bool :=
  ((decide (0x110000 ≤ k ∧ k < 0x111400)) || (decide (0x4008000 ≤ k) && decide (k % 0x10000 / 0x2000 = 4))) && k % 0x20 == 8

/-- The ranges that a field's table gives in terms of other fields or of the register's index.
DEDUCED: notes/assumptions/76.md. -/
def State.moreRanges (s : State) (k : Nat) (v : Word) : Bool :=
  match blockOf k with
  | 1 => if k = Reg.BOOT_IMG_OFS then v.toNat % 4096 == 0 else !isRingCtrl k || ringCtrlOk k v
  | 6 => !(decide (0x604000 ≤ k ∧ k < 0x607800) && k % 0x40 == 0) || s.axCfgOk ((k - 0x604000) / 0x40) v
  | 9 =>
    if k < 0x910000 then true
    else
      let c := (k - 0x910000) / 0x1000
      match k % 0x1000 with
      | 0x000 => decide (fldOf v F.LA_CH_CFG_INPUT ≤ 5) && (s.laRun c || fldOf v F.LA_CH_CFG_RUN == 0 || s.runAllowed c v)
      | 0x008 => fldOf v F.LA_CH_LINES_LC_EN == 0 || fldOf v F.LA_CH_LINES_LINES != 0
      | 0x040 => decide (c < 16 ∨ fldOf v F.LA_CH_OUT_MODE ≤ 1)
      | 0x800 => decide (fldOf v F.LA_ST_CUR_I_MIN ≤ fldOf v F.LA_ST_CUR_I_MAX)
      | 0x808 => decide (fldOf v F.LA_ST_LOAD_RHO_LO < fldOf v F.LA_ST_LOAD_RHO_HI)
      | 0x814 => decide (s.fld (Reg.LA_ST_CUR c) F.LA_ST_CUR_I_MAX < fldOf v F.LA_ST_SENSE_IOCP)
      | d =>
        if 0x100 ≤ d ∧ d < 0x500 ∧ d % 16 = 0 then decide (v.toNat < s.laW c)
        else if 0x100 ≤ d ∧ d < 0x500 ∧ d % 16 = 8 then decide (fldOf v F.LA_CMP_CTRL_DIR ≤ 2)
        else true
  | 10 => !(decide (0xA01000 ≤ k ∧ k < 0xA02000) && k % 0x100 == 0x20) || decide (fldOf v F.ACQ_U_TRIG_DIR ≤ 2)
  | 11 =>
    !(decide (0xB01000 ≤ k ∧ k < 0xB01800 ∧ 0x20 ≤ k % 0x100 ∧ k % 0x100 < 0x30)) || fldOf v F.SC_IN_CFG_KIND == 1
      || decide (fldOf v F.SC_IN_CFG_CHAN < 48)
  | 12 => !(decide (0xC00100 ≤ k ∧ k < 0xC00200)) || decide (fldOf v F.SCH_BIND_KIND ≤ 2)
  | _ => true

/-- R15 does not apply to the registers of a schedule bank (R146). -/
def unranged (k : Nat) : Bool := decide (0x340000 ≤ k ∧ k < 0x3C0000)

/-! ### The value that a write leaves -/

/-- The lock bit of a register's block is set (R17, R215, R757). -/
def State.lockSet (s : State) (k : Nat) : Bool :=
  match blockOf k with
  | 3 => s.flag Reg.LINK_CTRL F.LINK_CTRL_LOCK
  | 15 => s.flag Reg.RST_CTRL F.RST_CTRL_LOCK
  | _ => false

/-- A write may change a field: reached, and RW, or RWL and not locked. -/
def takes (f : FieldRow) (vf lock : Bool) : Bool :=
  !(vf && !f.g) && (f.acc == .rw || (f.acc == .rwl && !lock))

/-- The register after a write of `v` (R11, R16, R17). -/
def newValue (r : RegRow) (vf lock : Bool) (old v : Word) : Word :=
  r.fields.foldl (fun w f =>
    let x := fldOf v f.fld
    if takes f vf lock then fldPut w f.fld x
    else if vf && !f.g then w
    else if f.acc = .w1c then fldPut w f.fld (fldOf old f.fld &&& (2 ^ f.fld.w - 1 - x))
    else if f.acc = .w1s then fldPut w f.fld (fldOf old f.fld ||| x)
    else w) old

/-- A software write may reach some field of the register. -/
def writable (r : RegRow) : Bool := r.fields.any fun f => f.acc != .ro && f.acc != .rc

/-- Every field that takes a value takes one in its range (R15). -/
def rangesOk (r : RegRow) (vf lock : Bool) (v : Word) : Bool :=
  r.fields.all fun f => !(takes f vf lock) || inRanges f.ok (fldOf v f.fld)

/-- A VF puts a non-zero bit into a P field (R16). -/
def hitsPriv (r : RegRow) (v : Word) : Bool := r.fields.any fun f => !f.g && fldOf v f.fld != 0

/-- The value written to a locked RWL field differs from its present value (R17). -/
def hitsLock (r : RegRow) (vf lock : Bool) (old v : Word) : Bool :=
  lock && r.fields.any fun f => f.acc == .rwl && !(vf && !f.g) && fldOf v f.fld != fldOf old f.fld

/-- Records a write with one of the common low bytes 0x02–0x05 (R53, R55). -/
def State.writeFoul (s : State) (who : Init) (k o low : Nat) (v : Word) : State :=
  let b := blockOf k
  s.post (b * 256 + low) (srcInit b who) (det [(20, 4, o), (24, 4, v.toNat)])

/-- Records a refused write. -/
def State.barFoul (s : State) (who : Init) (k o : Nat) (v : Word) : WriteBar → State
  | .bank => s.writeFoul who k o 5 v
  | .twin => s.post 0x0E18 (srcInit 14 who) (det [(20, 4, o)])
  | .code low n => s.post (blockOf k * 256 + low) (srcInit (blockOf k) who) (det [(19, 1, n), (20, 4, o)])

/-! ### Rings and MSI-X (R613, R614) -/

/-- Foul 0x0115: a ring or boot register write refused. -/
def State.ringFoul (s : State) (who : Init) (o : Nat) (ty r : Nat) : State :=
  s.post 0x0115 (srcInit 1 who) (det [(16, 1, ty), (17, 1, r), (20, 4, o)])

/-- Function, type and number of the ring whose register lies at `k`. -/
def ringOf (k : Nat) : Nat × Nat × Nat :=
  let d := if k < 0x4000000 then k - 0x110000 else k % 0x10000 - 0x8000
  if k < 0x4000000 ∧ 0xC00 ≤ d then (0, 3, (d - 0xC00) / 0x20)
  else (if k < 0x4000000 then 0 else (k - 0x4000000) / 0x10000, d / 0x400, d % 0x400 / 0x20)

/-- `RING_BASE` is aligned to the smaller of the ring's size and 4 KiB (R609). -/
def State.ringAligned (s : State) (fn ty r sizeLog : Nat) : Bool :=
  (s.reg64 (ringBase fn ty r)).toNat % min 4096 (2 ^ sizeLog * entrySize ty) == 0

/-- A ring starts afresh or is disabled: what is not its settings. -/
def State.ringClear (s : State) (fn ty r : Nat) : State :=
  let b := ringBase fn ty r
  let s := ((s.setReg (b + 0x18) 0).setReg (b + 0x1C) 0).setMod fn ty r {}
  { s with host := { s.host with jobs := s.host.jobs.filter fun j => match j.2 with
      | .descriptors f q _ _ => !(f == fn && q == r && ty == 0)
      | .param _ => true } }

/-- A write of `RING_CTRL` in range (R614). -/
def State.ringCtrlWrite (s : State) (who : Init) (k o : Nat) (v : Word) : State :=
  let (fn, ty, r) := ringOf k
  let old := s.reg k
  let was := fldOf old F.RING_CTRL_ENABLE == 1
  let now := fldOf v F.RING_CTRL_ENABLE == 1
  let put (w : Word) (f : Fld) : Word := fldPut w f (fldOf v f)
  if !was then
    let size := fldOf v F.RING_CTRL_SIZE_LOG
    let cpl := fldOf v F.RING_CTRL_CPL
    let wb := (s.reg64 (ringBase fn ty r + 0x10)).toNat
    if now && !(s.ringAligned fn ty r size && wb != 0 && wb % 4 == 0 && (ty != 0 || s.ringOn fn 1 cpl)) then s.ringFoul who o ty r
    else
      let w := put (put (put (put (fldPut old F.RING_CTRL_ERROR 0) F.RING_CTRL_SIZE_LOG) F.RING_CTRL_CPL) F.RING_CTRL_VECTOR) F.RING_CTRL_ENABLE
      let s := s.setReg k (if now then w else fldPut w F.RING_CTRL_ERROR (fldOf old F.RING_CTRL_ERROR))
      if now then s.ringClear fn ty r else s
  else
    let moved := fldOf v F.RING_CTRL_SIZE_LOG != fldOf old F.RING_CTRL_SIZE_LOG || fldOf v F.RING_CTRL_CPL != fldOf old F.RING_CTRL_CPL
    let s := if moved then s.ringFoul who o ty r else s
    if !now && moved then s.setReg k (put old F.RING_CTRL_ENABLE)
    else s.setReg k (put (put old F.RING_CTRL_VECTOR) F.RING_CTRL_ENABLE)

/-- `RING_BASE` and `RING_WB` are ignored while the ring is enabled (R614): none where the pair is no such register or may be written. -/
def State.ringPairBar (s : State) (who : Init) (lo o : Nat) (v : W64) : Option State :=
  if (decide (0x110000 ≤ lo ∧ lo < 0x111400) || decide (0x4018000 ≤ lo) && decide (lo % 0x10000 < 0xA000)) = true ∧ (lo % 0x20 = 0 ∨ lo % 0x20 = 0x10) then
    let (fn, ty, r) := ringOf lo
    if s.ringOn fn ty r then some (if s.reg64 lo = v then s else s.ringFoul who o ty r) else none
  else none

/-- An MSI-X vector whose mask bit is cleared while its pending bit is set is sent (PCI Express MSI-X).
DEDUCED: notes/assumptions/76.md. -/
def State.msixUnmask (s : State) (k : Nat) (old : Word) : State :=
  let fn := if k < 0x4000000 then 0 else (k - 0x4000000) / 0x10000
  let v := (if fn = 0 then k - 0x108000 else k % 0x10000 - 0xE000) / 16
  let (o, b) := msixPba fn v
  if fldOf old F.MSIX_CTRL_MASK = 1 ∧ !s.flag k F.MSIX_CTRL_MASK ∧ bit (s.reg o).toNat b then
    (s.setReg o (BitVec.ofNat 32 (setBit (s.reg o).toNat b false))).msix fn v
  else s

/-! ### What a write does beside it -/

/-- `DEV_DEFECT`: clearing the last bit returns DEGRADED to OPERATE (R44). DEDUCED: notes/assumptions/78.md. -/
def State.defectWritten (s : State) (old : Word) : State :=
  if old ≠ 0 ∧ s.defects = 0 ∧ s.mode = mDegraded then (s.setMode mOperate).domainsCheck else s

/-- Effects in block 0x01. -/
def State.hostWritten (s : State) (k : Nat) (old : Word) : State :=
  if k = Reg.HE_WD then
    { s with host := { s.host with wdRun := s.fld k F.HE_WD_PERIOD != 0, wdFrom := s.cell } }
  else if k = Reg.HE_WD_KICK then { s with host := { s.host with wdFrom := s.cell } }
  else if (0x108000 ≤ k ∧ k < 0x109000 ∨ 0x401E000 ≤ k ∧ k % 0x10000 / 0x800 = 0x1C) ∧ k % 16 = 12 then s.msixUnmask k old
  else s

/-- Effects of a local-axis register. -/
def State.laWritten (s : State) (who : Init) (k : Nat) (old v : Word) : State :=
  if k < 0x910000 then (if 0x900100 ≤ k then s.outBall ((k - 0x900100) / 4) else s)
  else
    let c := (k - 0x910000) / 0x1000
    let d := k % 0x1000
    if d = 0 then s.runChanged c old.msb
    else if d = 0x14 then if fldOf v F.LA_CH_ERR_CHOP_FAULT = 1 then s.chopRestart c else s
    else if d = 0x20 then
      if s.flag k F.LA_CH_LATCH_CFG_ARM && fldOf old F.LA_CH_LATCH_CFG_ARM == 1 then s else s.modLa c fun z => { z with xSeen := false }
    else if 0x100 ≤ d ∧ d < 0x500 ∧ d % 16 = 8 then s.cmpCtrlWritten who c ((d - 0x100) / 16)
    else s

/-- What a write that has been made does beside it. -/
def State.written (s : State) (who : Init) (k : Nat) (old v : Word) : State :=
  match blockOf k with
  | 0 => if k = Reg.DEV_DEFECT then s.defectWritten old else s
  | 1 => s.hostWritten k old
  | 2 =>
    if k = Reg.TB_CTRL then (if fldOf v F.TB_CTRL_SNAP = 1 then s.snap else s)
    else if k = Reg.DISC_CTRL then s.discCtrlWritten old.msb
    else s
  | 3 => if unranged k then s.bankWritten ((k - 0x340000) / 0x40000) else s
  | 6 =>
    if 0x604000 ≤ k ∧ k < 0x607800 ∧ k % 0x40 = 0 ∧ !old.msb ∧ v.msb then
      s.modSrv fun z => { z with ax := tabSet (fun _ => {}) z.ax ((k - 0x604000) / 0x40) {} }
    else s
  | 7 => s.sepRecheck
  | 9 => s.laWritten who k old v
  | 11 =>
    if 0xB01000 ≤ k ∧ k < 0xB01800 ∧ 0x20 ≤ k % 0x100 ∧ k % 0x100 < 0x30 then s.setScFifo ((k - 0xB01000) / 0x100) ((k % 0x100 - 0x20) / 4) []
    else s
  | 14 => if k = Reg.TWIN_CTRL ∧ old.msb ≠ (s.reg k).msb then s.showOuts else s
  | _ => s

/-- A register kept in a signal core's memories: program words of the staged bank, data RAM (R582). -/
def State.scMemWrite (s : State) (k : Nat) (v : Word) : Option State :=
  if 0xB20000 ≤ k ∧ k < 0xB60000 then
    let c := (k - 0xB20000) / 0x8000
    let bank := 1 - s.fld (Reg.SC_STATE c) F.SC_STATE_BANK
    some (s.modSc c fun z => { z with prog := tabSet (fun _ => 0) z.prog (bank * 8192 + (k - 0xB20000) % 0x8000 / 4) v })
  else if 0xB80000 ≤ k ∧ k < 0xC00000 then
    let c := (k - 0xB80000) / 0x10000
    let w := (k - 0xB80000) % 0x10000 / 2
    some (s.modSc c fun z =>
      { z with data := tabSet (fun _ => 0) (tabSet (fun _ => 0) z.data w (BitVec.ofNat 16 v.toNat)) (w + 1) (BitVec.ofNat 16 (v.toNat / 2 ^ 16)) })
  else none

/-- The active journals a write that it accepts for a mirrored block (R714). -/
def State.journalWrite (s : State) (who : Init) (k o : Nat) (v : Word) : State :=
  if s.role = 1 ∧ mirrored (blockOf k) then s.journal (.write who o v) else s

/-- A write that is in range is made; `POS` and `INC` of a compare entry are held (R498), and `DEADLINE_PCT` passes the rule of R320
unless the journal brings it. -/
def State.makeWrite (s : State) (jr : Bool) (who : Init) (r : RegRow) (k o : Nat) (vf : Bool) (v : Word) : State :=
  let lock := s.lockSet k
  let old := s.reg k
  match s.scMemWrite k v with
  | some s => s
  | none =>
    if isRingCtrl k then s.ringCtrlWrite who k o v
    else if k = Reg.OPT_CTRL ∧ !jr then
      let s := s.pctWrite v
      if s.reg k = old then s else (s.journalWrite who k o v).sepRecheck
    else
      let s := s.journalWrite who k o v
      if 0x910000 ≤ k ∧ k < 0x930000 ∧ 0x100 ≤ k % 0x1000 ∧ k % 0x1000 < 0x500 ∧ k % 16 < 8 then
        s.holdCmp who ((k - 0x910000) / 0x1000) ((k % 0x1000 - 0x100) / 16) (k % 16 == 4) v
      else
        (s.setReg k (newValue r vf lock old v)).written who k old v

/-- While a zone is enabled its N_PLANES and MARGIN keep their values (R266): the value as taken, and whether one would have changed.
DEDUCED: notes/assumptions/76.md. -/
def State.zoneHold (s : State) (k : Nat) (v : Word) : Word × Bool :=
  if Reg.ZONE_CTRL 0 ≤ k ∧ k < Reg.ZONE_CTRL 64 ∧ s.flag k F.ZONE_CTRL_ENABLE then
    let w := fldPut (fldPut v F.ZONE_CTRL_N_PLANES (s.fld k F.ZONE_CTRL_N_PLANES)) F.ZONE_CTRL_MARGIN (s.fld k F.ZONE_CTRL_MARGIN)
    (w, w != v && (fldOf v F.ZONE_CTRL_N_PLANES != s.fld k F.ZONE_CTRL_N_PLANES || fldOf v F.ZONE_CTRL_MARGIN != s.fld k F.ZONE_CTRL_MARGIN))
  else (v, false)

/-- A 32-bit register takes a write (R11–R17, R36). A write that the journal brings has been judged by the active. -/
def State.write32 (s : State) (jr : Bool) (who : Init) (r : RegRow) (k o : Nat) (vf : Bool) (v : Word) : State :=
  if jr then s.makeWrite true who r k o vf v
  else
    match s.writeBar k v with
    | some b => s.barFoul who k o v b
    | none =>
      let lock := s.lockSet k
      let (v, held) := s.zoneHold k v
      let s := if held then s.barFoul who k o v (.code 0x16 0) else s
      if !unranged k && !(rangesOk r vf lock v && s.moreRanges k v) then s.writeFoul who k o 2 v
      else
        let s := if vf && hitsPriv r v then s.writeFoul who k o 3 v else s
        let s := if hitsLock r vf lock (s.reg k) v then s.writeFoul who k o 4 v else s
        s.makeWrite false who r k o vf v

/-- Both halves of a pair take effect (R10). DEDUCED: notes/assumptions/76.md. -/
def State.write64 (s : State) (jr : Bool) (who : Init) (r : RegRow) (lo o : Nat) (v : W64) : State :=
  let hi := BitVec.ofNat 32 (v.toNat / 2 ^ 32)
  match if jr then none else s.writeBar lo hi with
  | some b => s.barFoul who (lo + 4) o hi b
  | none =>
    if !rangesOk r false false hi then s.writeFoul who (lo + 4) o 2 hi
    else
      match s.ringPairBar who lo o v with
      | some s => s
      | none =>
        let s := s.journalWrite who lo o hi
        if lo = Reg.DISC_SAMPLE then s.commitSample v else s.setReg64 lo v

/-- The register at `k` is in a mirrored block and this unit does not hold the original (R713); `jr` marks a write that the journal brings.
DEDUCED: notes/assumptions/69.md. -/
def State.mirrorBar (s : State) (jr : Bool) (k : Nat) : Bool := decide (2 ≤ s.role) && mirrored (blockOf k) && !jr

/-- A write to a register that exists. DEDUCED: notes/assumptions/76.md. -/
def State.writeAt (s : State) (jr : Bool) (who : Init) (k o : Nat) (vf : Bool) (v : Word) : State :=
  match findRow k with
  | none => s
  | some r =>
    if !writable r || (decide (Reg.PWR_DOMAIN 0 ≤ k ∧ k < Reg.PWR_DOMAIN 8) && !decide (Reg.PWR_DOMAIN 2 ≤ k ∧ k ≤ Reg.PWR_DOMAIN 6)) then s
    else if s.mirrorBar jr k then s.post 0x0E18 (srcInit 14 who) (det [(20, 4, o)])
    else
      let setHeld (s : State) (lo : Nat) (x : Option Word) : State :=
        { s with host := { s.host with held := tabSet (fun _ => none) s.host.held (pairKey who lo) x } }
      if r.pair = 1 then (setHeld s k (some v)).journalWrite who k o v
      else if r.pair = 2 then
        match tabGet (fun _ => none) s.host.held (pairKey who (k - 4)) with
        | none => s.writeFoul who k o 2 v
        | some l => (setHeld s (k - 4) none).write64 jr who r (k - 4) o (BitVec.ofNat 64 (l.toNat + v.toNat * 2 ^ 32))
      else s.write32 jr who r k o vf v

/-- A write of 32 bits at an offset of an initiator's view (R14, R597–R599, R747). -/
def State.writeReg (s : State) (jr : Bool) (who : Init) (off : Nat) (v : Word) : State :=
  match if jr then some (s.placeAny who off) else s.place who off with
  | none => s
  | some p =>
    let b := placeBlock p
    let s := s.wakeDom (domainOf b)
    if s.blockAway b then s.domainFoul who b off
    else
      match p with
      | .const _ => s
      | .window _ => s
      | .hole o => s.post 0x0111 (srcInit 1 who) (det [(20, 4, o)])
      | .reg k vf => s.writeAt jr who k (pfOffset who off) vf v

/-- A write by software: aligned 32-bit accesses only (R9). -/
def State.busWrite (s : State) (who : Init) (off size : Nat) (v : Word) : State :=
  if size ≠ 4 ∨ off % 4 ≠ 0 then s else s.writeReg false who off v

end Sys2Proof.Machine
end

