-- ==== Sys2Proof/Machine/HostEngine.lean ====
section
/-!
DEFINITION. The host engine (block 0x01): doorbells, fetches, interrupt moderation, function resets, the link to the host, the watchdog, the
boot (R593–R643), its commands, and the register writes as the table's rows name them.
-/
namespace Sys2Proof.Machine

/-- The initiator that is function `fn`. -/
def initOf (fn : Nat) : Init := if fn = 0 then .pf else .vf fn

/-- Function `fn` exists (R599). -/
def State.fnOn (s : State) (fn : Nat) : Bool := !s.inReset && (fn == 0 || s.vfOn fn)

/-! ### Doorbells (R600, R611) -/

/-- The ring that a doorbell of BAR2 belongs to: type and number. -/
def doorbellRing (vf : Bool) (off : Nat) : Option (Nat × Nat) :=
  if vf then
    let ty := off / 0x40
    let r := off % 0x40 / 4
    if off < 0x100 ∧ ringExists 1 ty r then some (ty, r) else none
  else if off % 0x1000 ≠ 0 then none
  else
    let p := off / 0x1000
    if p < 0x10 then some (0, p)
    else if p < 0x20 then some (1, p - 0x10)
    else if 0x20 ≤ p ∧ p < 0x28 then some (2, p - 0x20)
    else if 0x40 ≤ p ∧ p < 0x80 then some (3, p - 0x40)
    else none

/-- A doorbell write (R600, R611). DEDUCED: notes/assumptions/77.md. -/
def State.doorbell (s : State) (who : Init) (off : Nat) (v : Word) : State :=
  let fn := fnOf who
  if !s.fnOn fn then s
  else
    match doorbellRing who.isVf off with
    | none => s.post 0x0111 (srcInit 1 who) (det [(20, 4, off)])
    | some (ty, r) =>
      let d : BitVec 128 := det [(16, 1, ty), (17, 1, r), (20, 4, v.toNat)]
      if !s.ringOn fn ty r then s.post 0x0113 (srcInit 1 who) d
      else
        let prev := s.swIdx fn ty r
        let dev := s.devIdx fn ty r
        let limit := if ty = 0 ∨ ty = 3 then dev + s.ringSize fn ty r else dev
        if idxSub v.toNat prev ≤ idxSub (limit % 2 ^ 32) prev then s.setReg (ringBase fn ty r + 0x1C) v
        else s.post 0x0112 (srcInit 1 who) d

/-- DOORBELL_WRITE: aligned 32-bit writes only (R600). -/
def execDoorbellWrite (who : Init) (off : Nat) (size : Nat) (v : Word) (s : State) : Out :=
  .next (if size ≠ 4 ∨ off % 4 ≠ 0 then s else s.doorbell who off v)

/-! ### Fetching (R615) -/

/-- A descriptor fetch of the ring is outstanding. -/
def State.fetching (s : State) (fn r : Nat) : Bool :=
  s.host.jobs.any fun j => match j.2 with
    | .descriptors f q _ _ => f == fn && q == r
    | _ => false

/-- DESCRIPTOR_FETCH: one turn of command ring `r` (R615, R627, R633). -/
def execDescriptorFetch (fn : Nat) (r : Nat) (s : State) : Out :=
  .next <|
    if !s.fnOn fn || !s.hostUp || s.mode == mBoot || !s.ringOn fn 0 r || s.flag (ringCtrl fn 0 r) F.RING_CTRL_ERROR || s.fetching fn r then s
    else
      let i := s.devIdx fn 0 r
      let size := s.ringSize fn 0 r
      let n := min 8 (min (idxSub (s.swIdx fn 0 r) i) (size - i % size))
      let n := min n (s.cplRoom fn (s.fld (ringCtrl fn 0 r) F.RING_CTRL_CPL))
      if n = 0 then s else s.startReads fn (s.ringEntry fn 0 r) (64 * n) (.descriptors fn r i n)

/-- MSIX_MODERATION_TIMEOUT: `RING_MOD.TIME` µs have passed since the first entry not yet signalled (R613). -/
def execMsixModerationTimeout (fn : Nat) (ty : Nat) (r : Nat) (s : State) : Out :=
  .next <|
    match (s.modSt fn ty r).since with
    | some t =>
      if s.ringOn fn ty r ∧ ty ≠ 0 ∧ (s.fld (ringBase fn ty r + 0xC) F.RING_MOD_TIME * 16000 : Int) ≤ timeDiff s.cell t then s.signal fn ty r
      else s
    | none => s

/-! ### Function resets and the link (R625, R627) -/

/-- The device issues a GRP_STOP of a category with PF authority (R625, R628). -/
def State.issueStop (s : State) (g cat : Nat) : State :=
  nextOf (execGrpStop ⟨.pf, .none, 0x0409, 0, g, 0, 0, BitVec.ofNat 384 cat, 0, false⟩ s) s

/-- A command came from VF `n`. -/
def ofVf (n : Nat) (c : Cmd) : Bool := decide (c.who = .vf n)

/-- A Function Level Reset of VF `n` (R625). DEDUCED: notes/assumptions/77.md. -/
def State.vfReset (s : State) (n : Nat) : State :=
  let s := forEach [0, 1, 2, 3] s fun ty s => forEach (idxs 8 (ringExists n ty)) s fun r s =>
    (s.put (ringCtrl n ty r) F.RING_CTRL_ENABLE 0).ringClear n ty r
  let h := s.host
  let gone := h.jobs.filter fun j => match j.2 with
    | .descriptors fn _ _ _ => fn == n
    | .param c => ofVf n c
  let s := { s with host := { h with
    fetched := h.fetched.filter fun c => !ofVf n c
    fence := h.fence.filter fun c => !ofVf n c
    timed := h.timed.filter fun c => !ofVf n c
    jobs := h.jobs.filter fun j => !gone.contains j
    reads := h.reads.filter fun x => !gone.any fun j => j.1 == x.job
    waiting := h.waiting.filter fun w => w.1 != n
    latch := tabClear (n * 2 ^ 28) ((n + 1) * 2 ^ 28) h.latch
    held := tabClear (n * 2 ^ 28) ((n + 1) * 2 ^ 28) h.held } }
  let stop := s.flag Reg.HE_CTRL F.HE_CTRL_VF_RESET_STOP && s.grpLive (n - 1)
  let s := if stop then s.issueStop (n - 1) 2 else s
  s.post 0x0130 (srcOf 3 n) (det [(18, 1, b2n stop)])

/-- VF_FLR (R625). -/
def execVfFlr (n : Nat) (s : State) : Out := .next (if s.fnOn n && n != 0 then s.vfReset n else s)

/-- VF_ENABLE_CHANGE: SR-IOV enables VFs 1 to `n`; each that ceases to exist is reset (R599, R625). -/
def execVfEnableChange (n : Nat) (s : State) : Out :=
  .next <|
    if s.inReset then s
    else
      let n := min n s.nVf
      let s := forEach ((List.range 17).filter fun v => decide (n < v) && s.vfOn v) s fun v s => s.vfReset v
      s.put Reg.HE_STATUS F.HE_STATUS_VF_ENABLED (2 ^ n - 1)

/-- The host engine resumes: what waited is posted, and reads go out (R627). -/
def State.hostResume (s : State) : State :=
  if s.hostUp then
    let w := s.host.waiting
    let s := { s with host := { s.host with waiting := [] } }
    (forEach w s fun e s => if s.ringOn e.1 e.2.1 e.2.2.1 then s.ringPush e.1 e.2.1 e.2.2.1 e.2.2.2.1 e.2.2.2.2 else s).pumpReads
  else s

/-- PCIE_LINK_CHANGE: width (0: link down), speed and power state; event 0x0132 for each change of the link (R627). -/
def execPcieLinkChange (width : Nat) (speed : Nat) (d3hot : Bool) (s : State) : Out :=
  .next <|
    if s.inReset then s
    else
      let moved := s.fld Reg.HE_STATUS F.HE_STATUS_WIDTH != width % 16 || s.fld Reg.HE_STATUS F.HE_STATUS_SPEED != speed % 16
      let s := (s.put Reg.HE_STATUS F.HE_STATUS_WIDTH width).put Reg.HE_STATUS F.HE_STATUS_SPEED speed
      let s := { s with host := { s.host with d3hot := d3hot } }
      let s := if moved then s.postB 0x0132 [(18, 1, b2n (width != 0)), (19, 1, width), (20, 1, speed)] else s
      s.hostResume

/-- HOST_WATCHDOG_EXPIRE: PERIOD ms without a kick (R628). -/
def execHostWatchdogExpire (s : State) : Out :=
  let p := s.fld Reg.HE_WD F.HE_WD_PERIOD
  .next <|
    if s.host.wdRun && p != 0 && decide ((p * 16000000 : Int) ≤ timeDiff s.cell s.host.wdFrom) then
      let cat := s.fld Reg.HE_WD F.HE_WD_CAT
      let gs := s.groups.filter s.grpLive
      let s := forEach gs s fun g s => s.issueStop g cat
      let s := { s with host := { s.host with wdRun := false } }
      s.postB 0x0131 [(18, 1, cat), (20, 2, gs.foldl (fun m g => m + 2 ^ g) 0)]
    else s

/-! ### Boot (R629–R634) -/

/-- The staging area of a flash boot: banks 188–251. -/
def stagingBase : Nat := 0x2F00000

/-- A section of a boot image (R631). -/
structure Section where
  off : Nat
  len : Nat
  kind : Nat
  dest : Nat
  deriving DecidableEq, Repr

/-- The sections of an image. -/
def sectionsOf (img : List Byte) : List Section :=
  (List.range (leAt img 15 1)).map fun i =>
    let o := 256 + 16 * i
    ⟨leAt img o 4, leAt img (o + 4) 4, leAt img (o + 8) 1, leAt img (o + 12) 4⟩

/-- The entries of a register list: offset and value. -/
def listEntries (img : List Byte) (x : Section) : List (Nat × Word) :=
  (List.range (x.len / 8)).map fun i => (leAt img (x.off + 8 * i) 4, BitVec.ofNat 32 (leAt img (x.off + 8 * i + 4) 4))

/-- Two ranges overlap. -/
def rangesMeet (a n b m : Nat) : Bool := decide (a < b + m ∧ b < a + n ∧ 0 < n ∧ 0 < m)

/-- Check 6 of R632 for an image of `total` octets at shared SRAM offset `base`. -/
def sectionsOk (img : List Byte) (base total : Nat) : Bool :=
  let xs := sectionsOf img
  let mem := xs.filter fun x => x.kind == 0
  decide (256 + 16 * xs.length ≤ total) &&
  xs.all (fun x => x.off % 8 == 0 && x.len % 8 == 0 && decide (x.off + x.len ≤ total) && decide (x.kind ≤ 1)) &&
  mem.all (fun x =>
    (decide (x.dest + x.len ≤ secureBase) || (decide (0x4000000 ≤ x.dest) && decide (x.dest + x.len ≤ 0x4400000)))
      && !rangesMeet x.dest x.len base total) &&
  (mem.zipIdx.all fun x => mem.zipIdx.all fun y => x.2 == y.2 || !rangesMeet x.1.dest x.1.len y.1.dest y.1.len) &&
  (xs.filter fun x => x.kind == 1).all fun x => (listEntries img x).all fun e =>
    decide (0x200000 ≤ e.1 ∧ e.1 < 0x1000000) || e.1 == Reg.FOUL_CTRL

/-- The checks of R632: the number of the first that fails, 0 when all pass. The image lies at shared SRAM offset `base`; its source
holds `limit` octets. DEDUCED: notes/assumptions/77.md. -/
def State.imageCheck (s : State) (base limit : Nat) : Nat :=
  let hdr := s.sramRead base 256
  let total := leAt hdr 8 4
  let n := leAt hdr 15 1
  let key := slice hdr 32 96
  if !(leAt hdr 0 4 == 0x494F4253 && leAt hdr 4 2 == 1 && leAt hdr 6 2 == 256 && decide (total ≤ 0x1000000) && decide (total ≤ limit)
      && decide (1 ≤ n ∧ n ≤ 32)) then 1
  else if !(leAt hdr 12 2 == s.mem.fuse.part && decide (leAt hdr 14 1 ≤ s.mem.fuse.step)) then 2
  else if s.lifeCycle ≠ 0 ∧ !s.keyTrusted (leAt hdr 18 1) key then 3
  else if s.lifeCycle ≠ 0 ∧ leAt hdr 16 2 < s.mem.fuse.svnMin then 4
  else
    let img := s.sramRead base total
    let blank := img.take 128 ++ List.replicate 96 0 ++ img.drop 224
    if !ecdsaOk key (slice hdr 128 96) blank then 5
    else if !sectionsOk img base total then 6
    else 0

/-- A KIND 0 section is copied to shared SRAM or to a core's memory (R601, R631). -/
def State.loadMem (s : State) (dest : Nat) (data : List Byte) : State :=
  if dest < sramSize then s.sramWrite dest data
  else
    (data.zipIdx.foldl (fun s x =>
      let o := dest + x.2 - 0x4000000
      let p := o % 0x40000
      s.modCore (o / 0x40000) fun z =>
        if p < 0x20000 then { z with iram := tabSet (fun _ => 0) z.iram p x.1 }
        else { z with dram := tabSet (fun _ => 0) z.dram (p - 0x20000) x.1 }) s)

/-- An image that has passed its checks is loaded; the device enters CONFIG (R633). -/
def State.loadImage (s : State) (base : Nat) (flash : Bool) : State :=
  let hdr := s.sramRead base 256
  let img := s.sramRead base (leAt hdr 8 4)
  let xs := sectionsOf img
  let s := forEach (xs.filter fun x => x.kind == 0) s fun x s => s.loadMem x.dest (slice img x.off x.len)
  let s := forEach (xs.filter fun x => x.kind == 1) s fun x s => forEach (listEntries img x) s fun e s => s.busWrite .dev e.1 4 e.2
  let s := if flash then { s with mem := { s.mem with
      sram := tabClear stagingBase secureBase s.mem.sram, poison := s.mem.poison.filter fun w => decide (w < stagingBase ∨ secureBase ≤ w) } } else s
  let s := s.put Reg.BOOT_STATUS F.BOOT_STATUS_SVN (leAt hdr 16 2)
  let s := s.put Reg.BOOT_STATUS F.BOOT_STATUS_UNANCHORED (b2n (s.lifeCycle == 0))
  let s := s.put Reg.BOOT_STATUS F.BOOT_STATUS_STATE 3
  s.releaseCores.setMode mConfig

/-- The image of the present source is checked and loaded once the boot self-test has ended; a failed check is recorded, and the next source
tried (R632, R694). -/
def State.bootGo (s : State) : State :=
  let src := s.fld Reg.BOOT_STATUS F.BOOT_STATUS_SOURCE
  if s.mode ≠ mBoot ∨ s.inReset ∨ s.fld Reg.BOOT_STATUS F.BOOT_STATUS_STATE ≠ 2 ∨ !s.host.selfTestDone then s
  else
    let ofs := (s.reg Reg.BOOT_IMG_OFS).toNat
    let base := if src = 2 then ofs else stagingBase
    let limit := if src = 2 then secureBase - ofs else 0x1000000
    let n := s.imageCheck base limit
    if n = 0 then s.loadImage base (src != 2)
    else
      let s := s.put Reg.BOOT_STATUS F.BOOT_STATUS_FAILED_CHECK n
      let s := s.postB 0x0012 [(16, 1, n), (17, 1, if src = 2 then 1 else 0), (18, 1, if src = 2 then 0 else src)]
      s.bootFrom (min 2 (src + 1))

/-- FLASH_READ_DONE: the slot's contents have been copied to the staging area (R629). -/
def execFlashReadDone (image : List Byte) (s : State) : Out :=
  .next <|
    if s.mode ≠ mBoot ∨ s.inReset ∨ s.fld Reg.BOOT_STATUS F.BOOT_STATUS_STATE ≠ 0 then s
    else ((s.sramWrite stagingBase (slice image 0 0x1000000)).put Reg.BOOT_STATUS F.BOOT_STATUS_STATE 2).bootGo

/-- BOOT_SELF_TEST_DONE (R694). -/
def execBootSelfTestDone (sigs : List (Nat × W64 × W64)) (s : State) : Out :=
  .next <|
    if s.mode ≠ mBoot ∨ s.inReset ∨ s.host.selfTestDone then s
    else
      let s := s.bootTests sigs
      ({ s with host := { s.host with selfTestDone := true } }).bootGo

/-- A write of `BOOT_CTRL` (R629, R634). -/
def State.bootCtrl (s : State) (who : Init) (v : Word) : State :=
  let s :=
    if fldOf v F.BOOT_CTRL_LOAD = 1 ∧ s.mode = mBoot ∧ s.fld Reg.BOOT_STATUS F.BOOT_STATUS_STATE = 1 then
      (s.put Reg.BOOT_STATUS F.BOOT_STATUS_STATE 2).bootGo
    else s
  if fldOf v F.BOOT_CTRL_COMMIT_SVN = 0 then s
  else if s.mode = mConfig ∧ (s.lifeCycle = 1 ∨ s.lifeCycle = 2) then
    let f := s.mem.fuse
    let n := s.fld Reg.BOOT_STATUS F.BOOT_STATUS_SVN
    ({ s with mem := { s.mem with fuse := { f with svnMin := max f.svnMin n } } }).put Reg.BOOT_CTRL F.BOOT_CTRL_COMMIT_SVN 1
  else s.ringFoul who Reg.BOOT_CTRL 0 0

/-! ### Register writes -/

/-- A write by an initiator: `BOOT_CTRL` acts on the boot, every other register as the bus states. -/
def State.store (s : State) (who : Init) (off size : Nat) (v : Word) : State :=
  if size = 4 ∧ off % 4 = 0 ∧ s.place who off = some (.reg Reg.BOOT_CTRL false) then s.bootCtrl who v
  else s.busWrite who off size v

/-- REGISTER_WRITE (R9–R17). -/
def execRegisterWrite (who : Init) (off : Nat) (size : Nat) (v : Word) (s : State) : Out := .next (s.store who off size v)
/-- PAIR_LO_WRITE (R10). -/
def execPairLoWrite (who : Init) (off : Nat) (v : Word) (s : State) : Out := .next (s.store who off 4 v)
/-- PAIR_HI_WRITE (R10). -/
def execPairHiWrite (who : Init) (off : Nat) (v : Word) (s : State) : Out := .next (s.store who off 4 v)
/-- LOCK_BIT_SET (R17). -/
def execLockBitSet (who : Init) (off : Nat) (v : Word) (s : State) : Out := .next (s.store who off 4 v)
/-- DEFECT_CLEAR (R61, R44). -/
def execDefectClear (who : Init) (v : Word) (s : State) : Out := .next (s.store who Reg.DEV_DEFECT 4 v)
/-- TIME_SNAP (R72). -/
def execTimeSnap (who : Init) (v : Word) (s : State) : Out := .next (s.store who Reg.TB_CTRL 4 v)
/-- DISC_SAMPLE_COMMIT: a write of `DISC_SAMPLE_HI` (R77). -/
def execDiscSampleCommit (who : Init) (v : Word) (s : State) : Out := .next (s.store who (Reg.DISC_SAMPLE + 4) 4 v)
/-- DEADLINE_PCT_WRITE (R320). -/
def execDeadlinePctWrite (who : Init) (v : Word) (s : State) : Out := .next (s.store who Reg.OPT_CTRL 4 v)
/-- SRV_AX_CFG_WRITE (R376, R30). -/
def execSrvAxCfgWrite (who : Init) (a : Nat) (v : Word) (s : State) : Out := .next (s.store who (Reg.SRV_AX_CFG a) 4 v)
/-- LA_RUN_WRITE (R512, R513). -/
def execLaRunWrite (who : Init) (ch : Nat) (v : Word) (s : State) : Out := .next (s.store who (Reg.LA_CH_CFG ch) 4 v)
/-- LA_CMP_CTRL_WRITE (R497, R498). -/
def execLaCmpCtrlWrite (who : Init) (ch : Nat) (e : Nat) (v : Word) (s : State) : Out := .next (s.store who (Reg.LA_CMP_CTRL ch e) 4 v)
/-- LA_ERR_CLEAR (R511, R517). -/
def execLaErrClear (who : Init) (ch : Nat) (v : Word) (s : State) : Out := .next (s.store who (Reg.LA_CH_ERR ch) 4 v)
/-- SC_IN_CFG_WRITE (R588). -/
def execScInCfgWrite (who : Init) (core : Nat) (f : Nat) (v : Word) (s : State) : Out := .next (s.store who (Reg.SC_IN_CFG core f) 4 v)
/-- HE_WD_KICK (R628). -/
def execHeWdKick (who : Init) (v : Word) (s : State) : Out := .next (s.store who Reg.HE_WD_KICK 4 v)
/-- BOOT_LOAD (R629). -/
def execBootLoad (who : Init) (v : Word) (s : State) : Out := .next (s.store who Reg.BOOT_CTRL 4 v)
/-- COMMIT_SVN (R634). -/
def execCommitSvn (who : Init) (v : Word) (s : State) : Out := .next (s.store who Reg.BOOT_CTRL 4 v)
/-- RING_CTRL_WRITE (R614): the register of ring `r` of type `ty` of the initiator's function, in its view. -/
def execRingCtrlWrite (who : Init) (ty : Nat) (r : Nat) (v : Word) (s : State) : Out :=
  let o := (if who.isVf then 0x8000 else 0x110000) + ty * 0x400 + r * 0x20 + 8
  .next (s.store who o 4 v)

/-! ### Commands (R642) -/

/-- HE_NOP. -/
def execHeNop (c : Cmd) (s : State) : Out :=
  let c := { c with op := 0x0101 }
  .next <| s.judge c (check1 c .any [] ++ [(!c.onlyUses [], .bad)]) fun s => s.complete c stOK 0

/-- HE_COPY (R642, R675, R681): direction 0 from the host to shared SRAM, 1 from shared SRAM to the host.
DEDUCED: notes/assumptions/77.md. -/
def execHeCopy (c : Cmd) (dma : Dma) (s : State) : Out :=
  let c := { c with op := 0x0102 }
  let h := c.u 24 8
  let a := c.u 32 8
  let n := c.u 40 4
  .next <| s.judge c
    (check1 c .pfWc [(a, n)] ++
     [ (!c.onlyUses [(16, 1), (24, 8), (32, 8), (40, 4)] || decide (2 ≤ c.b 16), .bad),
       (n % 8 != 0 || decide (0x1000000 < n) || isSram h || decide (sramSize < a + n), .bad) ])
    fun s =>
      if n = 0 then s.complete c stOK 0
      else if c.b 16 = 0 ∧ !s.sramReady a n then s.sramWait a n (.cmd { c with accepted := true } a n)
      else if c.b 16 = 0 then s.withData c h n dma fun d s => s.withRoom c a d fun s => s.complete c stOK 0
      else if !s.sramReady a n then s.sramWait a n (.cmd { c with accepted := true } a n)
      else
        match s.poisoned a n with
        | some w =>
          let s := s.uncorrectable (srcInit 1 c.who) w
          (s.emit (.hostPoisoned (fnOf c.who) (hostAddr h) (s.sramRead a n))).complete c stDma 0
        | none => (s.hostWrite (fnOf c.who) (hostAddr h) (s.sramRead a n)).complete c stOK 0

end Sys2Proof.Machine
end

