-- ==== Sys2Proof/Machine/System.lean ====
section
/-!
DEFINITION. What concerns the whole device (01_architecture.md): the device mode and its command, the foul log's way to the host, the
supervision tick, the firing of scheduled actions with the cycle boundary, and the commands that depend on several blocks.
-/
namespace Sys2Proof.Machine

/-! ### Device mode (R44, R65) -/

/-- One condition of a transition of R44: whether it fails, the reason of R65, and the state dimension and value of R781. -/
abbrev ModeCond := Bool × Nat × Nat × Nat

/-- A condition on group states, with the state of the first group that breaks it. -/
def State.groupCond (s : State) (bad : List Nat) : ModeCond :=
  match s.groups.find? fun g => bad.contains (s.grpState g) with
  | some g => (true, 1, 4, s.grpState g)
  | none => (false, 1, 4, 0)

/-- A condition on the twin role. -/
def State.roleCond (s : State) (ok : List Nat) : ModeCond := (!ok.contains s.role, 3, 2, s.role)
/-- A condition on the life cycle. -/
def State.lifeCond (s : State) (ok : List Nat) : ModeCond := (!ok.contains s.lifeCycle, 4, 3, s.lifeCycle)

/-- The row of R44 for a target, with its conditions in the order of the reasons of R65. -/
def State.modeRow (s : State) (target : Nat) : Option (List ModeCond) :=
  let m := s.mode
  let op := m == mOperate || m == mDegraded
  if target = 2 ∧ m = mConfig then
    some [s.groupCond [1, 2, 3, 4, 5], (!s.flag (Reg.SB_STATUS s.bankUsed) F.SB_STATUS_VALID, 2, 255, 0), s.lifeCond [1, 2]]
  else if target = 2 ∧ m = mService then some [s.groupCond [gsMoving, gsStopping], s.lifeCond [1, 2]]
  else if target = 3 ∧ m = mConfig then some [s.roleCond [0], s.lifeCond [1, 2, 3]]
  else if target = 3 ∧ op then some [s.groupCond [gsMoving, gsHolding, gsStopping], s.roleCond [0]]
  else if target = 1 ∧ (op ∨ m = mService) then some [s.groupCond [1, 2, 3, 4, 5], s.roleCond [0, 2]]
  else none

/-- The mode that a target enters (R44). -/
def State.modeFrom (s : State) (target : Nat) : Nat := if target = 2 ∧ s.defects ≠ 0 then mDegraded else target

/-- SET_DEVICE_MODE (R44, R65). DEDUCED: notes/assumptions/78.md. -/
def execSetDeviceMode (c : Cmd) (s : State) : Out :=
  let c := { c with op := 0x0001 }
  let t := c.b 16
  .next <| s.judge c
    (check1 c .pf [] ++
     [ (!c.onlyUses [(16, 1)] || decide (t < 1 ∨ 3 < t), .bad), (s.modeCmd.isSome, .busy) ] ++
     (match s.modeRow t with
      | none => [(true, .reject 1 s.mode)]
      | some l => l.map fun x => (x.1, .reject x.2.2.1 x.2.2.2)))
    fun s => { s with modeCmd := some c, modeOver := false }

/-- A mode is entered by command; the twin role becomes SOLO on the way to CONFIG (R44). -/
def State.enterMode (s : State) (m : Nat) : State :=
  let s := if m = mConfig ∧ s.role ≠ 0 then s.leavePair else s
  (s.setMode m).domainsCheck

/-- The pending SET_DEVICE_MODE takes effect, or is withheld with the lowest reason (R44, R65).
DEDUCED: notes/assumptions/78.md. -/
def State.modeTick (s : State) : State :=
  match s.modeCmd with
  | none => s
  | some c =>
    let exceeded := s.modeOver
    let s := { s with modeCmd := none, modeOver := false }
    let t := c.b 16
    let fails := match s.modeRow t with
      | none => [1]
      | some l => (l.filter fun x => x.1).map fun x => x.2.1
    match fails ++ (if exceeded then [5] else []) with
    | r :: _ => s.complete c stAborted r
    | [] =>
      let m := s.modeFrom t
      (s.enterMode m).complete c stOK m

/-! ### Posting the log (R57–R59) -/

/-- The 32 octets of a record (R53). -/
def recBytes (r : Rec) : List Byte :=
  leBytes 8 r.time.toNat ++ leBytes 2 r.code ++ leBytes 2 r.src ++ leBytes 4 r.count ++ leBytes 16 r.detail.toNat

/-- The copy of a VF's record to its event ring 0 (R58). -/
def State.postCopy (s : State) (r : Rec) : State :=
  let n := r.src % 4096
  if !s.flag Reg.FOUL_CTRL F.FOUL_CTRL_VF_COPY || r.src / 4096 != 3 || n == 0 then s
  else if s.fnOn n && s.ringRoom n 2 0 != 0 then s.ringPost n 2 0 (recBytes r) false
  else s.addSat Reg.FOUL_STATUS F.FOUL_STATUS_VF_SKIPPED 1

/-- Records posted in order to PF event ring `q`, and those that stay behind a ring that is full or disabled. -/
def postAll (q : Nat) : List Rec → State → State × List Rec
  | [], s => (s, [])
  | r :: t, s =>
    if s.ringRoom 0 2 q = 0 then (s, r :: t) else postAll q t ((s.ringPost 0 2 q (recBytes r) false).postCopy r)

/-- The record that covers the drops (R56, R59). -/
def LogSt.dropRec (l : LogSt) : List Rec :=
  if l.drops = 0 then []
  else [⟨l.dropFirst, 0x0010, srcBlock 0, satU 32 l.drops, det [(16, 8, l.dropFirst.toNat), (24, 8, l.dropLast.toNat)]⟩]

/-- The queued records are posted in TIME order (R58), with the number posted. While the link is down nothing is posted (R627). -/
def State.postLog (s : State) : State × Nat :=
  if !s.flag Reg.FOUL_CTRL F.FOUL_CTRL_ENABLE || !s.hostUp then (s, 0)
  else
    let all := (s.log.queue ++ s.log.dropRec).mergeSort fun a b => decide (timeDiff a.time b.time ≤ 0)
    let (s, rest) := postAll (s.fld Reg.FOUL_CTRL F.FOUL_CTRL_RING) all s
    let keep := rest.any fun r => r.code == 0x0010
    let l := s.log
    ({ s with log := { l with queue := rest.filter fun r => r.code != 0x0010, drops := if keep then l.drops else 0 } },
      all.length - rest.length)

/-- FOUL_FLUSH (R65). -/
def execFoulFlush (c : Cmd) (s : State) : Out :=
  let c := { c with op := 0x0002 }
  .next <| s.judge c (check1 c .pf [] ++ [(!c.onlyUses [], .bad)]) fun s =>
    let r := s.postLog
    r.1.complete c stOK (satU 8 r.2)

/-- A record has come into the device queue: units of TYPE 6 and bindings of KIND 1 see it (R533, R652). -/
def State.queued (s : State) (r : Rec) : State := (s.eventTrigger r).fireBindings 1 fun code => code == r.code

/-- FOUL_QUEUE_MOVE (R57): the oldest record of a block's buffer moves into the device queue when that has room. Records that a full
buffer has pushed there are seen first. -/
def execFoulQueueMove (block : Nat) (s : State) : Out :=
  .next <|
    if s.inReset then s
    else
      let l := s.log.pushed
      let s := forEach l { s with log := { s.log with pushed := [] } } fun r s => s.queued r
      match s.log.buf block with
      | [] => s
      | r :: t =>
        if s.log.queue.length < 1024 then
          { s with log := { s.log.setBuf block t with queue := s.log.queue ++ [r] } }.queued r
        else s

/-! ### The supervision tick (R45, R58) -/

/-- Defects whose cause persists set again (R45), each by its block's rule (R460, R676, R692, R705, R739, R756). -/
def State.defectTick (s : State) : State :=
  let again (b : Nat) (bad : Bool) (s : State) : State := if bad then s.setDefect b else s
  let s := again dfSram ((List.range 8).any fun i => s.reg (Reg.MEM_RETIRED i) != 0) s
  let s := again dfSelftest ((List.range 0x32).any fun r => s.regionPresent r && s.regionState r == 4) s
  let s := again dfTwin (s.twin.lost != 0) s
  let s := again dfAnalogue (s.clk.ana == 2) s
  let s := again dfSafety s.sf.lost s
  let s := again dfThermal s.tooWarm s
  again dfClock s.clockBad s

/-- The events due at the first supervision tick in CONFIG after a reset (R684, R745). -/
def State.resetEvents (s : State) : State :=
  if s.mode ≠ mConfig then s
  else
    let r := Reg.RST_CAUSE
    let s :=
      if s.clk.eventDue then
        (s.modCk fun k => { k with eventDue := false }).postB 0x0F31
          [(16, 1, s.fld r F.RST_CAUSE_CAUSE), (17, 1, s.fld r F.RST_CAUSE_DETAIL), (18, 2, s.fld r F.RST_CAUSE_COUNT)]
      else s
    match s.mem.lcFrom with
    | some old =>
      if s.mem.lcResetDue then s
      else { s with mem := { s.mem with lcFrom := none } }.postB 0x0D34 [(17, 1, old), (18, 1, s.lifeCycle)]
    | none => s

/-- SUPERVISION_TICK (R44, R45, R58, R84, R209). DEDUCED: notes/assumptions/78.md. -/
def execSupervisionTick (s : State) : Out :=
  .next <| if s.inReset then s else s.resetEvents.defectTick.linkTick.modeTick.postLog.1

/-! ### Scheduled actions (R88–R97) -/

/-- The length of a basic cycle or of a planning tick has changed: the monitor's and the optimiser's budgets (R284, R324, R413). -/
def State.tickLenChanged (s : State) : State := s.sepRecheck.optTickLen

/-- ACT_ARM (R87–R97); entries 0 and 1 that are not IDLE keep PD3 running (R749). -/
def execActArm (c : Cmd) (s : State) : Out :=
  let c := { c with op := 0x0204 }
  .next <| s.judge c (s.armChecks c) fun s =>
    let s := s.actArm c
    (if c.b 16 = 1 then s.tickLenChanged else s).domainsCheck

/-- The cycle boundary T_k (R27): entry 0 has fired. The twin block's and the link's boundary come first, since a bank swap moves entries
0 and 1 (R92); a tick boundary of the same instant falls between the servo's part and the planner's.
DEDUCED: notes/assumptions/78.md. -/
def State.cycleBoundary (s : State) : State :=
  let tk := s.actTime 0
  let tick := s.due 1
  let us := s.bankUs s.bankUsed
  let s := s.twinBefore.linkBoundary tk
  let s := if s.bankUs s.bankUsed = us then s else s.tickLenChanged
  let s := (s.countFired 0).servoBoundary tk
  let s := if tick then (s.countFired 1).tickBoundary tk else s
  ((s.planBoundary tk).twinAfter).scCycle

/-- The domain of a target (R749). DEDUCED: notes/assumptions/78.md. -/
def targetDomain (kind : Nat) : Nat := if kind ≤ 2 then 3 else 6

/-- What an entry's target does (R88), at the action's time `t`. -/
def State.actTarget (s : State) (kind idx : Nat) (t : W64) : State :=
  match kind with
  | 2 => s.tickBoundary t
  | 3 => s.adcSetAction idx
  | 4 => s.captureArm idx
  | 5 => s.cmpAction idx t
  | 6 => if idx < 16 then s.outAct idx 3 else s.tbToggle (idx - 16)
  | _ => s

/-- Entry `n` fires: counted, then its target acts; a target whose domain is in RESET or OFF discards the firing (R746). -/
def State.fireEntry (s : State) (n : Nat) : State :=
  let d := targetDomain (s.actKind n)
  let t := s.actTime n
  if 2 ≤ s.domState d then (s.countFired n).postB 0x0F12 [(16, 1, n), (17, 1, d)]
  else
    let s := s.wakeDom d
    if n = 0 then s.cycleBoundary else (s.countFired n).actTarget (s.actKind n) (s.actIndex n) t

/-- Of the entries that fire now on the target of `entry`, the lowest acts (R94). Entries 0 and 1 of one instant act together, in the
order of a cycle boundary. DEDUCED: notes/assumptions/78.md. -/
def State.fireDue (s : State) (entry : Nat) : State :=
  let n := if entry = 1 ∧ s.due 0 ∧ s.actTime 0 = s.actTime 1 then 0 else entry
  match s.rivals n with
  | [] => s
  | a :: rest => forEach rest (s.fireEntry a) fun m s => s.countCollision a m

/-- ACTION_FIRE (R89). -/
def execActionFire (entry : Nat) (s : State) : Out :=
  .next (if 256 ≤ entry ∨ !s.due entry then s else s.fireDue entry)

/-- ACT_DISARM (R97): an entry that fires in the same tick fires first. -/
def execActDisarm (c : Cmd) (s : State) : Out :=
  let c := { c with op := 0x0205 }
  let n := c.b 16
  .next <| s.judge c
    (check1 c .pfWc [] ++
     [ (!c.onlyUses [(16, 1)], .bad), s.mirrorCheck c,
       (decide (n ≤ 1) && decide (2 ≤ s.mode), .reject 1 s.mode) ]) fun s =>
    if s.due n then ((s.fireDue n).setArmed n false).complete c stOK 1
    else if s.firedNow n then (s.setArmed n false).complete c stOK 1
    else if s.armed n then (s.setArmed n false).complete c stOK 0
    else s.complete c 0x40 0

/-! ### LA_SET_COUNT (R494) -/

/-- A TRACK move of a group uses channel `k` (R254). -/
def State.trackOn (s : State) (k : Nat) : Option Nat := s.groups.find? fun g =>
  match (s.pg g).active, (s.pg g).queue with
  | true, m :: _ => m.kind == 2 && leAt m.data 1 1 == 0 && leAt m.data 2 1 == k
  | _, _ => false

/-- LA_SET_COUNT (R494, R519). DEDUCED: notes/assumptions/78.md. -/
def execLaSetCount (c : Cmd) (s : State) : Out :=
  let c := { c with op := 0x0901 }
  let k := c.b 16
  .next <| s.judge c
    (check1 c .pfWc [] ++
     [ (!c.onlyUses [(16, 1), (20, 4)] || decide (s.nLocal ≤ k ∨ s.laW k ≤ c.u 20 4), .bad),
       s.mirrorCheck c,
       (s.flag (Reg.SRV_AX_CFG (192 + k)) F.SRV_AX_CFG_ACTIVE, .reject 255 0),
       ((s.trackOn k).isSome, .reject 4 (s.grpState ((s.trackOn k).getD 0))) ])
    fun s => (s.setCount k (c.u 20 4)).complete c stOK 0

end Sys2Proof.Machine
end

