-- ==== Sys2Proof/Machine/Command.lean ====
section
/-!
DEFINITION. How a command comes to its block (R85, R86, R615–R622, R663, R664): descriptors from host memory and from the slots of work
cores, fences, the timed queue, commands that wait for shared SRAM (R679) and commands that the twin journal brings (R717).
-/
namespace Sys2Proof.Machine

/-! ### The commands of each block -/

/-- How many command numbers block `b` defines; they run from 1 on. -/
def opCount : Nat → Nat
  | 0 => 2
  | 1 => 2
  | 2 => 5
  | 3 => 8
  | 4 => 15
  | 5 => 5
  | 6 => 2
  | 7 => 4
  | 8 => 14
  | 9 => 2
  | 10 => 7
  | 11 => 5
  | 12 => 7
  | 13 => 4
  | 14 => 2
  | 15 => 2
  | _ => 0

/-- The opcode names a block and a command that it defines (R620). -/
def opDefined (op : Nat) : Bool := decide (1 ≤ op % 256 ∧ op % 256 ≤ opCount (op / 256))

/-- The commands of the device. -/
def runBlock0 (n : Nat) (c : Cmd) (_dma : Dma) (s : State) : Out :=
  match n with
  | 1 => execSetDeviceMode c s
  | 2 => execFoulFlush c s
  | _ => .next s

/-- The commands of the host engine. -/
def runBlock1 (n : Nat) (c : Cmd) (dma : Dma) (s : State) : Out :=
  match n with
  | 1 => execHeNop c s
  | 2 => execHeCopy c dma s
  | _ => .next s

/-- The commands of the time base. -/
def runBlock2 (n : Nat) (c : Cmd) (_dma : Dma) (s : State) : Out :=
  match n with
  | 1 => execTimeSlew c s
  | 2 => execTimeSetRate c s
  | 3 => execTimeStep c s
  | 4 => execActArm c s
  | 5 => execActDisarm c s
  | _ => .next s

/-- The commands of the cell link. -/
def runBlock3 (n : Nat) (c : Cmd) (_dma : Dma) (s : State) : Out :=
  match n with
  | 1 => execLinkStage c s
  | 2 => execLinkStart c s
  | 3 => execLinkStop c s
  | 4 => execLinkCommit c s
  | 5 => execLinkPortOpen c s
  | 6 => execLinkPortClose c s
  | 7 => execLinkNodeCtrl c s
  | 8 => execLinkMgmt c s
  | _ => .next s

/-- The commands of the planner. -/
def runBlock4 (n : Nat) (c : Cmd) (dma : Dma) (s : State) : Out :=
  match n with
  | 1 => execGrpLoadModel c dma s
  | 2 => execGrpEnable c s
  | 3 => execGrpDisable c s
  | 4 => execMoveJoint c dma s
  | 5 => execMovePath c dma s
  | 6 => execMoveTrack c dma s
  | 7 => execMoveModify c dma s
  | 8 => execGrpSetLimits c s
  | 9 => execGrpStop c s
  | 10 => execGrpHold c s
  | 11 => execGrpResume c s
  | 12 => execGrpClearFault c s
  | 13 => execZoneAcquire c s
  | 14 => execZoneRelease c s
  | 15 => execZoneSet c s
  | _ => .next s

/-- The commands of the optimiser. -/
def runBlock5 (n : Nat) (c : Cmd) (dma : Dma) (s : State) : Out :=
  match n with
  | 1 => execOptStage c dma s
  | 2 => execOptCommit c s
  | 3 => execOptLoadDyn c dma s
  | 4 => execOptSetPayload c s
  | 5 => execOptCopySolution c s
  | _ => .next s

/-- The commands of the servo engine. -/
def runBlock6 (n : Nat) (c : Cmd) (_dma : Dma) (s : State) : Out :=
  match n with
  | 1 => execSrvCommit c s
  | 2 => execSrvCopy c s
  | _ => .next s

/-- The commands of the separation monitor. -/
def runBlock7 (n : Nat) (c : Cmd) (_dma : Dma) (s : State) : Out :=
  match n with
  | 1 => execSepEnable c s
  | 2 => execSepDisable c s
  | 3 => execSepCapEnable c s
  | 4 => execSepCopyField c s
  | _ => .next s

/-- The commands of the safety island window. -/
def runBlock8 (n : Nat) (c : Cmd) (_dma : Dma) (s : State) : Out :=
  match n with
  | 1 => execSfAuth c s
  | 2 => execSfLogout c s
  | 3 => execSfSetPassword c s
  | 4 => execSfZoneBegin c s
  | 5 => execSfZoneWrite c s
  | 6 => execSfPairWrite c s
  | 7 => execSfBrkWrite c s
  | 8 => execSfTpWrite c s
  | 9 => execSfZoneCommit c s
  | 10 => execSfZoneAbort c s
  | 11 => execSfZoneReset c s
  | 12 => execSfZoneUnlock c s
  | 13 => execSfLogRead c s
  | 14 => execSfReadCfg c s
  | _ => .next s

/-- The commands of the local axes. -/
def runBlock9 (n : Nat) (c : Cmd) (_dma : Dma) (s : State) : Out :=
  match n with
  | 1 => execLaSetCount c s
  | 2 => execLaCmpEnable c s
  | _ => .next s

/-- The commands of the acquisition engine. -/
def runBlock10 (n : Nat) (c : Cmd) (_dma : Dma) (s : State) : Out :=
  match n with
  | 1 => execAcqSetStart c s
  | 2 => execAcqSetStop c s
  | 3 => execAcqArm c s
  | 4 => execAcqStop c s
  | 5 => execAcqForce c s
  | 6 => execAcqCopy c s
  | 7 => execAcqTbCal c s
  | _ => .next s

/-- The commands of the signal cores. -/
def runBlock11 (n : Nat) (c : Cmd) (dma : Dma) (s : State) : Out :=
  match n with
  | 1 => execScLoad c dma s
  | 2 => execScCommit c s
  | 3 => execScStart c s
  | 4 => execScHalt c s
  | 5 => execScKick c s
  | _ => .next s

/-- The commands of the work cores. -/
def runBlock12 (n : Nat) (c : Cmd) (_dma : Dma) (s : State) : Out :=
  match n with
  | 1 => execWiCreate c s
  | 2 => execWiDelete c s
  | 3 => execWiReady c s
  | 4 => execWoSignal c s
  | 5 => execWcDrain c s
  | 6 => execWcResume c s
  | 7 => execWcReload c s
  | _ => .next s

/-- The commands of memory, life cycle and self-test. -/
def runBlock13 (n : Nat) (c : Cmd) (_dma : Dma) (s : State) : Out :=
  match n with
  | 1 => execMemGroupSet c s
  | 2 => execMstRun c s
  | 3 => execMstCancel c s
  | 4 => execLcAdvance c s
  | _ => .next s

/-- The commands of twin operation. -/
def runBlock14 (n : Nat) (c : Cmd) (_dma : Dma) (s : State) : Out :=
  match n with
  | 1 => execTwinJoin c s
  | 2 => execTwinHandover c s
  | _ => .next s

/-- The commands of clocks, power and reset. -/
def runBlock15 (n : Nat) (c : Cmd) (_dma : Dma) (s : State) : Out :=
  match n with
  | 1 => execCkDomainSet c s
  | 2 => execCkDeviceReset c s
  | _ => .next s

/-- A command runs in the block that its opcode names; `dma` is what host memory has answered. -/
def State.runCommand (s : State) (c : Cmd) (dma : Dma) : State :=
  let n := c.op % 256
  nextOf (match c.op / 256 with
    | 0 => runBlock0 n c dma s
    | 1 => runBlock1 n c dma s
    | 2 => runBlock2 n c dma s
    | 3 => runBlock3 n c dma s
    | 4 => runBlock4 n c dma s
    | 5 => runBlock5 n c dma s
    | 6 => runBlock6 n c dma s
    | 7 => runBlock7 n c dma s
    | 8 => runBlock8 n c dma s
    | 9 => runBlock9 n c dma s
    | 10 => runBlock10 n c dma s
    | 11 => runBlock11 n c dma s
    | 12 => runBlock12 n c dma s
    | 13 => runBlock13 n c dma s
    | 14 => runBlock14 n c dma s
    | 15 => runBlock15 n c dma s
    | _ => .next s) s

/-! ### Fetched commands (R616, R619, R620) -/

/-- A descriptor's 64 octets as a command of `who` (R616). -/
def cmdOf (who : Init) (port : CmdPort) (seq : Nat) (d : List Byte) : Cmd :=
  ⟨who, port, leAt d 0 2, leAt d 2 1, leAt d 3 1, BitVec.ofNat 32 (leAt d 4 4), BitVec.ofNat 64 (leAt d 8 8), BitVec.ofNat 384 (leAt d 16 48), seq, false⟩

/-- Two commands belong to one ring, or to one core (R619, R664). -/
def sameRing (a b : Cmd) : Bool :=
  decide (a.who = b.who) && (match a.port, b.port with
    | .ring r, .ring q => r == q
    | .slot _, .slot _ => true
    | _, _ => false)

/-- An earlier command of the ring has not completed. DEDUCED: notes/assumptions/77.md. -/
def State.earlier (s : State) (c : Cmd) : Bool := s.host.fetched.any fun x => sameRing x c && decide (x.seq < c.seq)

/-- The TIMED commands that wait (R86). -/
def State.timedCount (s : State) : Nat := s.host.timed.length + (s.host.fence.filter Cmd.timed).length

/-- A command passes to its block, or into the timed queue. -/
def State.passOn (s : State) (c : Cmd) : State :=
  if c.timed then { s with host := { s.host with timed := s.host.timed ++ [c] } } else s.runCommand c .pending

/-- A fetched command (R86, R619, R620): not defined, late, too far ahead or one too many, it completes at once; behind a FENCE, or a
FENCE itself with an earlier command still running, it is held; else it passes on. DEDUCED: notes/assumptions/77.md. -/
def State.dispatchCmd (s : State) (c : Cmd) : State :=
  let late := timeDiff s.cell c.exec
  if !opDefined c.op || decide (8 ≤ c.flags) then s.complete c stBad 0
  else if c.timed && decide (0 < late) then
    (s.post 0x0215 (srcInit 2 c.who) (det [(16, 2, c.op), (18, 4, c.tag.toNat), (24, 8, late.toNat)])).complete c stLate 0
  else if c.timed && decide (late < -(2 ^ 44)) then s.complete c stBad 0
  else if c.timed && decide (1024 ≤ s.timedCount) then s.complete c stNoRes 0
  else if s.host.fence.any (sameRing c) || (c.fence && s.earlier c) then { s with host := { s.host with fence := s.host.fence ++ [c] } }
  else s.passOn c

/-- Commands are numbered and held as fetched, then dispatched in order. -/
def State.takeCmds (s : State) (cs : List Cmd) : State :=
  let n := s.host.nextSeq
  let cs := cs.zipIdx.map fun x => { x.1 with seq := n + x.2 }
  let s := { s with host := { s.host with fetched := s.host.fetched ++ cs, nextSeq := n + cs.length } }
  forEach cs s fun c s => s.dispatchCmd c

/-- The held commands of a ring, in order, pass on until a FENCE still waits; `k` bounds the count. -/
def State.releaseFence : Nat → Cmd → State → State
  | 0, _, s => s
  | k + 1, like, s =>
    match s.host.fence.find? (sameRing like) with
    | none => s
    | some c =>
      if c.fence && s.earlier c then s
      else releaseFence k like (({ s with host := { s.host with fence := s.host.fence.filter fun x => !sameCmd x c } }).passOn c)

/-- FENCE_RELEASE (R619, R664): the commands held of command ring `r` of function `fn`; `fn` 32 + c names work core c. -/
def execFenceRelease (fn : Nat) (r : Nat) (s : State) : Out :=
  let like := cmdOf (if 32 ≤ fn then .wc (fn - 32) else initOf fn) (if 32 ≤ fn then .slot 0 else .ring r) 0 []
  .next (State.releaseFence s.host.fence.length like s)

/-- TIMED commands due at one tick execute in order of ring number, then ring position (R85).
DEDUCED: notes/assumptions/77.md. -/
def timedBefore (a b : Cmd) : Bool :=
  let key (c : Cmd) : Nat := match c.who, c.port with
    | .wc w, _ => 1024 + w
    | _, .ring r => fnOf c.who * 16 + r
    | _, _ => 2048
  decide (key a < key b) || (key a == key b && decide (a.seq ≤ b.seq))

/-- TIMED_COMMAND_EXECUTE (R85): every TIMED command whose time has come. -/
def execTimedCommandExecute (s : State) : Out :=
  .next <|
    let due := (s.host.timed.filter fun c => timePast c.exec s.cell).mergeSort timedBefore
    forEach due s fun c s =>
      if s.host.timed.any fun x => sameCmd x c then
        ({ s with host := { s.host with timed := s.host.timed.filter fun x => !sameCmd x c } }).runCommand c .pending
      else s

/-! ### Reads of host memory (R615, R622) -/

/-- The cause of a failed fetch in foul 0x0114. -/
def readErrorCode : ReadError → Nat
  | .unsupported => 1 | .abort => 2 | .poisoned => 3 | .timeout => 4

/-- The reads of a job, in order. -/
def State.jobReads (s : State) (j : Nat) : List ReadReq := s.host.reads.filter fun r => r.job == j

/-- A job ends: what has been sent and not yet answered stays outstanding, the rest goes. -/
def State.endJob (s : State) (j : Nat) : State :=
  { s with host := { s.host with
      jobs := s.host.jobs.filter fun x => x.1 != j
      reads := s.host.reads.filter fun r => r.job != j || (r.sent && r.got.isNone) } }

/-- Descriptors have arrived for command ring `r` of function `fn`: the device index moves past them, and they are commands (R612, R616). -/
def State.fetchedDescriptors (s : State) (fn r : Nat) (d : List Byte) : State :=
  let n := d.length / 64
  if n = 0 ∨ !s.ringOn fn 0 r then s
  else
    let b := ringBase fn 0 r
    let i := (s.devIdx fn 0 r + n) % 2 ^ 32
    let s := (s.setReg (b + 0x18) (BitVec.ofNat 32 i)).emit (.hostWrite fn (s.reg64 (b + 0x10)) (leBytes 4 i))
    s.takeCmds ((List.range n).map fun k => cmdOf (initOf fn) (.ring r) 0 (slice d (64 * k) 64))

/-- The octets that the leading answered reads of a job have brought. -/
def gotData (l : List ReadReq) : List Byte := ((l.takeWhile fun r => r.got.isSome).map fun r => r.got.getD []).flatten

/-- READ_COMPLETION (R615, R622): the data of read `id`, or its failure. -/
def execReadCompletion (id : Nat) (data : List Byte) (err : Option ReadError) (s : State) : Out :=
  .next <|
    match s.host.reads.find? fun r => r.id == id && r.sent && r.got.isNone with
    | none => s
    | some r =>
      let put (g : Option (List Byte)) : List ReadReq := s.host.reads.map fun x => if x.id == id then { x with got := g } else x
      let s := { s with host := { s.host with reads := put (if err.isSome then none else some (slice data 0 r.len)) } }
      let s' :=
        match s.host.jobs.find? fun x => x.1 == r.job with
        | none => { s with host := { s.host with reads := s.host.reads.filter fun x => x.id != id } }
        | some (j, job) =>
          let got := gotData (s.jobReads j)
          match err with
          | some e =>
            let s := { s with host := { s.host with reads := s.host.reads.filter fun x => x.id != id } }
            let s := s.endJob j
            match job with
            | .descriptors fn q _ _ =>
              let s := s.fetchedDescriptors fn q got
              if !s.ringOn fn 0 q then s
              else
                (s.put (ringCtrl fn 0 q) F.RING_CTRL_ERROR 1).post 0x0114 (srcInit 1 (initOf fn))
                  (det [(16, 1, 0), (17, 1, q), (18, 1, readErrorCode e), (20, 4, s.devIdx fn 0 q)])
            | .param c => s.runCommand c .fail
          | none =>
            if (s.jobReads j).any fun x => x.got.isNone then s
            else
              let s := s.endJob j
              match job with
              | .descriptors fn q _ _ => s.fetchedDescriptors fn q got
              | .param c => s.runCommand c (.data got)
      s'.pumpReads

/-! ### Command slots of work cores (R663, R664) -/

/-- A store to GO of slot `k` of core `c`. -/
def State.slotGo (s : State) (c k go : Nat) : State :=
  if (s.slot c k).state = 1 then s.storeRefused c (0x1050 + k * 0x80)
  else
    let d := memRead (s.core c).slotMem (k * 0x80) 64
    let s := s.setSlot c k ⟨1, if bit go 15 then some (go % 1024) else none⟩
    s.takeCmds [cmdOf (.wc c) (.slot k) 0 d]

/-- SLOT_GO. -/
def execSlotGo (core : Nat) (slot : Nat) (go : Nat) (s : State) : Out :=
  .next (if core < 16 ∧ slot < 4 then s.slotGo core slot go else s)

/-! ### Bank groups (R678, R679) -/

/-- The accesses that wait, in the order of arrival: each whose groups are ON is made. -/
def State.serveWaiting (s : State) : State :=
  forEach s.mem.waiting { s with mem := { s.mem with waiting := [] } } fun a s =>
    match a with
    | .read _ o n => if s.sramReady o n then s.sramHostRead o n [] else s.sramWait o n a
    | .write who o d =>
      if !s.sramReady o d.length then s.sramWait o d.length a
      else if who = .dev then s.sramWrite o d else s.sramHostWrite o d
    | .cmd c o n => if s.sramReady o n then s.runCommand c .pending else s.sramWait o n a

/-- GROUP_WAKE_DONE (R678): a group in WAKING reaches ON. -/
def execGroupWakeDone (g : Nat) (s : State) : Out :=
  .next (if g < 16 ∧ s.groupState g = gWaking then (s.groupOn g).serveWaiting else s)

/-- GROUP_CLEAR_DONE (R678): a group in CLEARING reaches ON. -/
def execGroupClearDone (g : Nat) (s : State) : Out :=
  .next (if g < 16 ∧ s.groupState g = gClearing then (s.groupOn g).serveWaiting else s)

/-! ### The twin journal (R714, R717) -/

/-- The standby applies one entry of the journal. A command finds its content in the entry. -/
def State.takeEntry (s : State) (e : JEntry) : State :=
  match e with
  | .write who off v => s.writeReg true who off v
  | .reg off v => if mirrored (blockOf off) && !ownReg off then s.setReg off v else s
  | .cmd c d =>
    let s := s.modTwin fun z => { z with feed := some d }
    (s.runCommand (Cmd.mirrored c) .pending).modTwin fun z => { z with feed := none }
  | .model g m => s.modPg g fun z => { z with model := m }
  | .dyn g d => s.modOg g fun z => { z with dyn := d }
  | .prog b d => s.modOpt fun z => { z with banks := tabSet (fun _ => []) z.banks b d }

/-- JRNL_FRAME_RECEIVE (R714, R717): the entries in order, then the acknowledgement. DEDUCED: notes/assumptions/69.md. -/
def execJrnlFrameReceive (lane : Nat) (ok : Bool) (es : List JEntry) (s : State) : Out :=
  .next <|
    if !s.twinOn ∨ s.role < 2 then s
    else if !ok then s.badTwinFrame 8 lane
    else ((forEach es s fun e s => s.takeEntry e).emit (.twinAck es.length)).syncCheck

end Sys2Proof.Machine
end

