-- ==== Sys2Proof/Machine/RiscV.lean ====
section
/-!
DEFINITION. The instructions of a work core (R644–R648): RV64GC (RV64I, M, A, F, D, C, Zicsr, Zifencei) with machine and user modes and 16
PMP entries, as the RISC-V manuals that R644 names define them, over the address map of R646.
-/
namespace Sys2Proof.Machine

/-- What an instruction, or a part of one, comes to: a result; an exception with its cause and the value for `mtval`; a wait for shared SRAM,
after which the instruction is tried again; or the core has left its instruction stream (a core fault). -/
inductive Rv (α : Type) where
  | ok (a : α) (s : State)
  | trap (cause tval : Nat) (s : State)
  | wait (s : State)
  | gone (s : State)

/-- What follows a result. -/
def Rv.bind {α β : Type} (x : Rv α) (f : α → State → Rv β) : Rv β :=
  match x with
  | .ok a s => f a s
  | .trap c t s => .trap c t s
  | .wait s => .wait s
  | .gone s => .gone s

/-! ### Arithmetic -/

/-- The low `w` bits of `n`, sign-extended. -/
def sx (w n : Nat) : W64 := BitVec.ofInt 64 (toSigned w (n % 2 ^ w))

/-- OP and OP-IMM: funct3, the alternative of bit 30 (SUB, SRA), operands. -/
def rvAlu (f3 : Nat) (alt : Bool) (a b : W64) : W64 :=
  let sh := b.toNat % 64
  match f3 with
  | 0 => if alt then a - b else a + b
  | 1 => a <<< sh
  | 2 => if a.toInt < b.toInt then 1 else 0
  | 3 => if a.toNat < b.toNat then 1 else 0
  | 4 => a ^^^ b
  | 5 => if alt then a.sshiftRight sh else a >>> sh
  | 6 => a ||| b
  | _ => a &&& b

/-- OP-32 and OP-IMM-32. -/
def rvAluW (f3 : Nat) (alt : Bool) (a b : W64) : W64 :=
  let x : Word := BitVec.ofNat 32 a.toNat
  let y : Word := BitVec.ofNat 32 b.toNat
  let sh := b.toNat % 32
  sx 32 (match f3 with
    | 0 => if alt then x - y else x + y
    | 1 => x <<< sh
    | _ => if alt then x.sshiftRight sh else x >>> sh).toNat

/-- Division and remainder with their corners: by zero −1 (all ones) and the dividend; the overflow of signed division wraps. -/
def rvDiv (w : Nat) (signed rem : Bool) (a b : Nat) : Nat :=
  let (x, y) : Int × Int := if signed then (toSigned w a, toSigned w b) else ((a : Int), (b : Int))
  let r : Int := if rem then (if y = 0 then x else Int.tmod x y) else (if y = 0 then -1 else Int.tdiv x y)
  (r % (2 ^ w : Int)).toNat

/-- The M extension on 64 bits. -/
def rvMul (f3 : Nat) (a b : W64) : W64 :=
  let hi (x : Int) : W64 := BitVec.ofInt 64 (x / 2 ^ 64)
  match f3 with
  | 0 => a * b
  | 1 => hi (a.toInt * b.toInt)
  | 2 => hi (a.toInt * b.toNat)
  | 3 => hi ((a.toNat : Int) * b.toNat)
  | 4 => BitVec.ofNat 64 (rvDiv 64 true false a.toNat b.toNat)
  | 5 => BitVec.ofNat 64 (rvDiv 64 false false a.toNat b.toNat)
  | 6 => BitVec.ofNat 64 (rvDiv 64 true true a.toNat b.toNat)
  | _ => BitVec.ofNat 64 (rvDiv 64 false true a.toNat b.toNat)

/-- The M extension on 32 bits. -/
def rvMulW (f3 : Nat) (a b : W64) : W64 :=
  let x := a.toNat % 2 ^ 32
  let y := b.toNat % 2 ^ 32
  sx 32 (match f3 with
    | 0 => x * y
    | 4 => rvDiv 32 true false x y
    | 5 => rvDiv 32 false false x y
    | 6 => rvDiv 32 true true x y
    | _ => rvDiv 32 false true x y)

/-- A branch condition, funct3. -/
def rvTaken (f3 : Nat) (a b : W64) : Bool :=
  match f3 with
  | 0 => a == b
  | 1 => a != b
  | 4 => decide (a.toInt < b.toInt)
  | 5 => decide (b.toInt ≤ a.toInt)
  | 6 => decide (a.toNat < b.toNat)
  | _ => decide (b.toNat ≤ a.toNat)

/-- The value that an AMO stores: funct5, width in bits, memory, operand. -/
def rvAmo (f5 w : Nat) (m x : Nat) : Nat :=
  let a := toSigned w m
  let b := toSigned w x
  match f5 with
  | 0x01 => x
  | 0x00 => (m + x) % 2 ^ w
  | 0x04 => m ^^^ x
  | 0x0C => m &&& x
  | 0x08 => m ||| x
  | 0x10 => if a < b then m else x
  | 0x14 => if a < b then x else m
  | 0x18 => min m x
  | _ => max m x

/-! ### Compressed instructions: the 32-bit instruction that each stands for -/

/-- R-type. -/
def encR (f7 rs2 rs1 f3 rd op : Nat) : Nat := f7 * 2 ^ 25 + rs2 * 2 ^ 20 + rs1 * 2 ^ 15 + f3 * 2 ^ 12 + rd * 2 ^ 7 + op
/-- I-type. -/
def encI (imm rs1 f3 rd op : Nat) : Nat := imm % 2 ^ 12 * 2 ^ 20 + rs1 * 2 ^ 15 + f3 * 2 ^ 12 + rd * 2 ^ 7 + op
/-- S-type. -/
def encS (imm rs2 rs1 f3 op : Nat) : Nat := encR (bits imm 11 5) rs2 rs1 f3 (bits imm 4 0) op
/-- B-type. -/
def encB (imm rs2 rs1 f3 : Nat) : Nat :=
  encR (bits imm 12 12 * 64 + bits imm 10 5) rs2 rs1 f3 (bits imm 4 1 * 2 + bits imm 11 11) 0x63
/-- J-type. -/
def encJ (imm rd : Nat) : Nat :=
  (bits imm 20 20 * 2 ^ 19 + bits imm 10 1 * 2 ^ 9 + bits imm 11 11 * 2 ^ 8 + bits imm 19 12) * 2 ^ 12 + rd * 2 ^ 7 + 0x6F

/-- The low `w` bits sign-extended to `v` bits, as a Nat. -/
def sxn (w v n : Nat) : Nat := (toSigned w (n % 2 ^ w) % (2 ^ v : Int)).toNat

/-- Quadrant 0. -/
def rvc0 (h : Nat) : Option Nat :=
  let r := 8 + bits h 4 2
  let b := 8 + bits h 9 7
  let d8 := bits h 12 10 * 8 + bits h 6 5 * 64
  let d4 := bits h 12 10 * 8 + bits h 6 6 * 4 + bits h 5 5 * 64
  match bits h 15 13 with
  | 0 =>
    let imm := bits h 12 11 * 16 + bits h 10 7 * 64 + bits h 6 6 * 4 + bits h 5 5 * 8
    if imm = 0 then none else some (encI imm 2 0 r 0x13)
  | 1 => some (encI d8 b 3 r 0x07)
  | 2 => some (encI d4 b 2 r 0x03)
  | 3 => some (encI d8 b 3 r 0x03)
  | 5 => some (encS d8 r b 3 0x27)
  | 6 => some (encS d4 r b 2 0x23)
  | 7 => some (encS d8 r b 3 0x23)
  | _ => none

/-- Quadrant 1. -/
def rvc1 (h : Nat) : Option Nat :=
  let rd := bits h 11 7
  let i6 := bits h 12 12 * 32 + bits h 6 2
  let imm := sxn 6 12 i6
  let r := 8 + bits h 9 7
  let q := 8 + bits h 4 2
  match bits h 15 13 with
  | 0 => some (encI imm rd 0 rd 0x13)
  | 1 => if rd = 0 then none else some (encI imm rd 0 rd 0x1B)
  | 2 => some (encI imm 0 0 rd 0x13)
  | 3 =>
    if rd = 2 then
      let x := bits h 12 12 * 512 + bits h 6 6 * 16 + bits h 5 5 * 64 + bits h 4 3 * 128 + bits h 2 2 * 32
      if x = 0 then none else some (encI (sxn 10 12 x) 2 0 2 0x13)
    else if i6 = 0 then none
    else some (sxn 6 20 i6 * 2 ^ 12 + rd * 2 ^ 7 + 0x37)
  | 4 =>
    match bits h 11 10 with
    | 0 => some (encI i6 r 5 r 0x13)
    | 1 => some (encI (0x400 + i6) r 5 r 0x13)
    | 2 => some (encI imm r 7 r 0x13)
    | _ =>
      match bits h 12 12, bits h 6 5 with
      | 0, 0 => some (encR 0x20 q r 0 r 0x33)
      | 0, 1 => some (encR 0 q r 4 r 0x33)
      | 0, 2 => some (encR 0 q r 6 r 0x33)
      | 0, _ => some (encR 0 q r 7 r 0x33)
      | _, 0 => some (encR 0x20 q r 0 r 0x3B)
      | _, 1 => some (encR 0 q r 0 r 0x3B)
      | _, _ => none
  | 5 =>
    let x := bits h 12 12 * 2048 + bits h 11 11 * 16 + bits h 10 9 * 256 + bits h 8 8 * 1024 + bits h 7 7 * 64 + bits h 6 6 * 128
      + bits h 5 3 * 2 + bits h 2 2 * 32
    some (encJ (sxn 12 21 x) 0)
  | n =>
    let x := bits h 12 12 * 256 + bits h 11 10 * 8 + bits h 6 5 * 64 + bits h 4 3 * 2 + bits h 2 2 * 32
    some (encB (sxn 9 13 x) 0 r (n - 6))

/-- Quadrant 2. -/
def rvc2 (h : Nat) : Option Nat :=
  let rd := bits h 11 7
  let q := bits h 6 2
  let i6 := bits h 12 12 * 32 + q
  let l8 := bits h 12 12 * 32 + bits h 6 5 * 8 + bits h 4 2 * 64
  let l4 := bits h 12 12 * 32 + bits h 6 4 * 4 + bits h 3 2 * 64
  let s8 := bits h 12 10 * 8 + bits h 9 7 * 64
  let s4 := bits h 12 9 * 4 + bits h 8 7 * 64
  match bits h 15 13 with
  | 0 => some (encI i6 rd 1 rd 0x13)
  | 1 => some (encI l8 2 3 rd 0x07)
  | 2 => if rd = 0 then none else some (encI l4 2 2 rd 0x03)
  | 3 => if rd = 0 then none else some (encI l8 2 3 rd 0x03)
  | 4 =>
    if bits h 12 12 = 0 then
      if q = 0 then (if rd = 0 then none else some (encI 0 rd 0 0 0x67)) else some (encR 0 q 0 0 rd 0x33)
    else if q = 0 then (if rd = 0 then some 0x100073 else some (encI 0 rd 0 1 0x67))
    else some (encR 0 q rd 0 rd 0x33)
  | 5 => some (encS s8 q 2 3 0x27)
  | 6 => some (encS s4 q 2 2 0x23)
  | _ => some (encS s8 q 2 3 0x23)

/-- A 16-bit parcel's instruction; none when it is not legal. -/
def rvExpand (h : Nat) : Option Nat :=
  match h % 4 with
  | 0 => rvc0 h
  | 1 => rvc1 h
  | 2 => rvc2 h
  | _ => none

/-! ### Physical memory protection -/

/-- `pmpcfg` of entry `i`. -/
def RvSt.pcfg (r : RvSt) (i : Nat) : Nat := (tabGet (fun _ => (0 : Byte)) r.pmpcfg i).toNat
/-- `pmpaddr` of entry `i`. -/
def RvSt.paddr (r : RvSt) (i : Nat) : Nat := (tabGet (fun _ => (0 : W64)) r.pmpaddr i).toNat

/-- The octets [lo, hi) of entry `i`, granularity 8 (R644). -/
def RvSt.pmpRange (r : RvSt) (i : Nat) : Nat × Nat :=
  let n := r.paddr i
  match bits (r.pcfg i) 4 3 with
  | 1 => ((if i = 0 then 0 else r.paddr (i - 1) / 2 * 8), n / 2 * 8)
  | 3 =>
    let m := (n ^^^ (n + 1)) + 1
    (n / m * m * 4, (n / m + 1) * m * 4)
  | _ => (0, 0)

/-- The PMP allows an access of `n` octets that needs the permissions `need` (1 R, 2 W, 4 X): the lowest entry that matches an octet decides. -/
def RvSt.pmpOk (r : RvSt) (machine : Bool) (need a n : Nat) : Bool :=
  match (List.range 16).find? fun i => decide (a < (r.pmpRange i).2 ∧ (r.pmpRange i).1 < a + n) with
  | none => machine
  | some i =>
    let (lo, hi) := r.pmpRange i
    decide (lo ≤ a ∧ a + n ≤ hi) && ((machine && !bit (r.pcfg i) 7) || r.pcfg i % 8 &&& need == need)

/-- The mode whose rights loads and stores have (MPRV). -/
def RvSt.dataMachine (r : RvSt) : Bool :=
  if r.machine && bit r.mstatus.toNat 17 then bits r.mstatus.toNat 12 11 == 3 else r.machine

/-! ### Memory (R645–R647) -/

/-- The base of shared SRAM in a core's address map. -/
def sramAt : Nat := 0x100000000
/-- The base of the PF view of BAR0. -/
def regsAt : Nat := 0x200000000

/-- An access lies in a range of the map. -/
def within (a n lo size : Nat) : Bool := decide (lo ≤ a ∧ a + n ≤ lo + size)

/-- A place of the scheduler area that takes an access of `n` octets (R659). -/
def schPlace (o n : Nat) : Bool :=
  if o < 0x1000 then decide (o ≤ 0x58) && n == 8
  else
    let q := (o - 0x1000) % 0x80
    decide (o < 0x1200) && (decide (q + n ≤ 0x50) || (decide (q = 0x50 ∨ q = 0x58) && n == 8))

/-- The exception that an access raises before it is made: `need` 1 read, 2 write, 3 both; `atom` LR, SC or AMO.
PRESUMED: notes/assumptions/79.md. -/
def RvSt.accessFault (r : RvSt) (need : Nat) (atom : Bool) (a n : Nat) : Option Nat :=
  let acc := if need = 1 then 5 else 7
  let m := r.dataMachine
  if within a n regsAt 0x4000000 then
    if atom ∨ n ≠ 4 ∨ a % 4 ≠ 0 ∨ !r.pmpOk m need a n then some acc else none
  else if a % n ≠ 0 then some (if need = 1 then 4 else 6)
  else if !r.pmpOk m need a n then some acc
  else if within a n 0 0x20000 then (if atom ∨ (need = 2 ∧ !m) then some acc else none)
  else if within a n 0x100000 0x20000 then none
  else if within a n 0x200000 0x2000 then (if atom ∨ !schPlace (a - 0x200000) n then some acc else none)
  else if within a n sramAt 0x4000000 then none
  else some acc

/-- The errors of a read that lie in its words (physical address, uncorrectable). -/
def errsAt (errs : List (Nat × Bool)) (a n : Nat) : List (Nat × Bool) := errs.filter fun e => decide (a / 8 ≤ e.1 / 8 ∧ e.1 / 8 ≤ (a + n - 1) / 8)

/-- A read of local memory finds errors: corrected ones are counted, an uncorrectable one is a core fault (R645, R664). -/
def State.localRead (s : State) (c : Nat) (errs : List (Nat × Bool)) (a n : Nat) : Rv Unit :=
  let code := decide (a < 0x20000)
  let hit := errsAt errs a n
  let f := if code then F.WC_ECC_IRAM_CORR else F.WC_ECC_DRAM_CORR
  let s := s.addSat (Reg.WC_ECC c) f (hit.filter fun e => !e.2).length
  if hit.any (·.2) then .gone (s.coreFault c (if code then 1 else 2)) else .ok () s

/-- An access of core `c` to shared SRAM may be made: a refusal of R681 with its foul, or a wait for a group or a wipe (R679, R682). -/
def State.sramGate (s : State) (c : Nat) (o n acc : Nat) : Rv Unit :=
  let secure := decide (secureBase < o + n)
  let m := (s.core c).rv.dataMachine
  if secure && !(m && (s.lifeCycle == 1 || s.lifeCycle == 2) && decide (o + n ≤ 0x3FC0000)) then
    .trap acc (sramAt + o) (s.post 0x0D13 (srcWc c) (det [(24, 8, o)]))
  else if s.sramReady o n then .ok () s
  else .wait (forEach (groupsOf o n) s fun g s => s.wakeGroup g)

/-- A read of shared SRAM: a poisoned word is a load access fault (R675). -/
def State.sramLoad (s : State) (c : Nat) (errs : List (Nat × Bool)) (o n acc : Nat) : Rv Nat :=
  (s.sramGate c o n acc).bind fun _ s =>
    let hit := (errsAt errs (sramAt + o) n).map fun e => (e.1 - sramAt, e.2)
    let s := s.foundErrors (srcWc c) hit
    match s.poisoned o n with
    | some w => .trap 5 (sramAt + o) (if hit.any fun e => e.2 && wordOf e.1 == w then s else s.uncorrectable (srcWc c) w)
    | none => .ok (leAt (s.sramRead o n) 0 n) s

/-- A write of shared SRAM by core `c`, whose own reservation stays: a partial write to a poisoned word is discarded. -/
def State.sramStore (s : State) (c o : Nat) (d : List Byte) : State :=
  let part := decide (d.length < 8)
  match s.poisoned o d.length with
  | some w => if part then s.uncorrectable (srcWc c) w else s.sramWrite o d
  | none =>
    let r := (s.core c).rv.resv
    (s.sramWrite o d).modRv c fun z => { z with resv := r }

/-- A load from the scheduler area (R659, R660). PRESUMED: notes/assumptions/79.md. -/
def State.schLoad (s : State) (c o n : Nat) : Nat :=
  let z := s.core c
  if 0x1000 ≤ o then
    let q := (o - 0x1000) % 0x80
    if q = 0x58 then (s.slot c ((o - 0x1000) / 0x80)).state
    else if q = 0x50 then 0
    else leAt (memRead z.slotMem (o - 0x1000) n) 0 n
  else
    match o with
    | 0x000 => if s.coreBusy c then s.coreItem c else 2 ^ 63
    | 0x030 => z.result
    | 0x040 => if z.notice.isEmpty then 2 ^ 63 else z.notice.foldl (fun m i => max m (s.fld (Reg.WI_STATUS i) F.WI_STATUS_PRIO)) 0
    | 0x058 => z.frames.length
    | _ => 0

/-- A store to the scheduler area (R659–R664). -/
def State.schStore (s : State) (c o n v : Nat) : State :=
  if 0x1000 ≤ o then
    let q := (o - 0x1000) % 0x80
    if q = 0x50 then s.slotGo c ((o - 0x1000) / 0x80) (v % 2 ^ 16)
    else if q = 0x58 then s
    else s.modCore c fun z => { z with slotMem := memWrite z.slotMem (o - 0x1000) (leBytes n v) }
  else
    match o with
    | 0x008 => s.schDone c
    | 0x010 => s.schYield c
    | 0x018 => s.schReady v
    | 0x020 => s.schWaitTmo c (BitVec.ofNat 64 v)
    | 0x028 => s.schWait c v
    | 0x038 => s.signalObj (v % 1024)
    | 0x048 => s.schOnline c
    | 0x050 => s.coreFault c 3
    | _ => s

/-- A load of `n` octets at a physical address, unsigned (R645–R647). -/
def State.rvLoad (s : State) (c : Nat) (errs : List (Nat × Bool)) (need : Nat) (atom : Bool) (a n : Nat) : Rv Nat :=
  match (s.core c).rv.accessFault need atom a n with
  | some k => .trap k a s
  | none =>
    if regsAt ≤ a then
      match s.readReg (.wc c) (a - regsAt) with
      | some (v, s) => .ok v.toNat s
      | none => .ok 0 s
    else if sramAt ≤ a then s.sramLoad c errs (a - sramAt) n (if need = 1 then 5 else 7)
    else if 0x200000 ≤ a then .ok (s.schLoad c (a - 0x200000) n) s
    else
      (s.localRead c errs a n).bind fun _ s =>
        let z := s.core c
        .ok (leAt (if a < 0x20000 then memRead z.iram a n else memRead z.dram (a - 0x100000) n) 0 n) s

/-- A store of `n` octets at a physical address that raises no exception. -/
def State.rvPut (s : State) (c a n v : Nat) : Rv Unit :=
  if regsAt ≤ a then .ok () (s.store (.wc c) (a - regsAt) 4 (BitVec.ofNat 32 v))
  else if sramAt ≤ a then (s.sramGate c (a - sramAt) n 7).bind fun _ s => .ok () (s.sramStore c (a - sramAt) (leBytes n v))
  else if 0x200000 ≤ a then .ok () (s.schStore c (a - 0x200000) n v)
  else if a < 0x20000 then .ok () (s.modCore c fun z => { z with iram := memWrite z.iram a (leBytes n v) })
  else .ok () (s.dramWrite c (a - 0x100000) (leBytes n v))

/-- A store. -/
def State.rvStore (s : State) (c a n v : Nat) : Rv Unit :=
  match (s.core c).rv.accessFault 2 false a n with
  | some k => .trap k a s
  | none => s.rvPut c a n v

/-! ### Control and status registers -/

/-- `fcsr` and its parts: registers 1, 2, 3. -/
def isFcsr (n : Nat) : Bool := decide (1 ≤ n ∧ n ≤ 3)

/-- ACLK cycles of U (R644): 1.6 GHz. -/
def State.aclk (s : State) : W64 := BitVec.ofNat 64 (s.u / 10)

/-- `mcycle`: a running count, or the value at which it is inhibited. PRESUMED: notes/assumptions/79.md. -/
def RvSt.cycles (r : RvSt) (now : W64) : W64 := if bit r.mcountinhibit.toNat 0 then r.mcycle else r.mcycle + now

/-- Eight `pmpcfg` octets from entry `i`. -/
def RvSt.pcfgs (r : RvSt) (i : Nat) : W64 := BitVec.ofNat 64 (leAt ((List.range 8).map fun k => BitVec.ofNat 8 (r.pcfg (i + k))) 0 8)

/-- A CSR's content; none where there is no such CSR. `mip` shows the scheduler notice (R658).
PRESUMED: notes/assumptions/79.md. -/
def State.csrRead (s : State) (c n : Nat) : Option W64 :=
  let z := s.core c
  let r := z.rv
  let w (v : Nat) : Option W64 := some (BitVec.ofNat 64 v)
  if n = 1 then w (r.fcsr % 32)
  else if n = 2 then w (r.fcsr / 32 % 8)
  else if n = 3 then w (r.fcsr % 256)
  else if n = 0x300 then some r.mstatus
  else if n = 0x301 then w 0x800000000010112D
  else if n = 0x304 then some r.mie
  else if n = 0x305 then some r.mtvec
  else if n = 0x306 then some r.mcounteren
  else if n = 0x30A then w 0
  else if n = 0x320 then some r.mcountinhibit
  else if 0x323 ≤ n ∧ n ≤ 0x33F then w 0
  else if n = 0x340 then some r.mscratch
  else if n = 0x341 then some r.mepc
  else if n = 0x342 then some r.mcause
  else if n = 0x343 then some r.mtval
  else if n = 0x344 then w (if z.notice.isEmpty then 0 else 2 ^ 11)
  else if 0x3A0 ≤ n ∧ n ≤ 0x3AF then (if n % 2 = 1 then none else if n = 0x3A0 then some (r.pcfgs 0) else if n = 0x3A2 then some (r.pcfgs 8) else w 0)
  else if 0x3B0 ≤ n ∧ n ≤ 0x3EF then
    let i := n - 0x3B0
    if 16 ≤ i then w 0 else if bits (r.pcfg i) 4 3 ≤ 1 then w (r.paddr i / 2 * 2) else w (r.paddr i)
  else if n = 0xB00 ∨ n = 0xC00 then some (r.cycles s.aclk)
  else if n = 0xC01 then w (s.cell.toNat / 16)
  else if n = 0xB02 ∨ n = 0xC02 then some r.minstret
  else if (0xB03 ≤ n ∧ n ≤ 0xB1F) ∨ (0xC03 ≤ n ∧ n ≤ 0xC1F) then w 0
  else if (0xF11 ≤ n ∧ n ≤ 0xF13) ∨ n = 0xF15 then some (Config.csrConst n)
  else if n = 0xF14 then w c
  else none

/-- A `pmpcfg` octet written: a locked entry keeps its value; NA4 and the combinations R 0, W 1 are not legal. -/
def pmpCfgOf (old v : Nat) : Nat :=
  if bit old 7 then old
  else
    let pick := Config.warlPick 0x3A0 (BitVec.ofNat 64 old) (BitVec.ofNat 64 v)
    let rwx := if v % 4 = 2 then nth [0, 1, 3, 4, 5, 7] (pick % 6) else v % 8
    let a := if bits v 4 3 = 2 then nth [0, 1, 3] (pick / 6 % 3) else bits v 4 3
    v / 128 % 2 * 128 + a * 8 + rwx

/-- Eight `pmpcfg` octets written from entry `i` on. -/
def RvSt.setPcfgs (r : RvSt) (i : Nat) (v : W64) : RvSt :=
  { r with pmpcfg := (List.range 8).foldl (fun t k =>
      tabSet (fun _ => (0 : Byte)) t (i + k) (BitVec.ofNat 8 (pmpCfgOf (r.pcfg (i + k)) (v.toNat / 2 ^ (8 * k) % 256)))) r.pmpcfg }

/-- `pmpaddr(i)` written: locked with its entry, or as the base of a locked TOR entry. -/
def RvSt.setPaddr (r : RvSt) (i : Nat) (v : W64) : RvSt :=
  let next := r.pcfg (i + 1)
  if bit (r.pcfg i) 7 ∨ (i < 15 ∧ bit next 7 ∧ bits next 4 3 = 1) then r
  else { r with pmpaddr := tabSet (fun _ => (0 : W64)) r.pmpaddr i (BitVec.ofNat 64 (v.toNat % 2 ^ 54)) }

/-- A CSR written; registers without writable bits keep their content. PRESUMED: notes/assumptions/79.md. -/
def RvSt.csrWrite (r : RvSt) (now : W64) (n : Nat) (v : W64) : RvSt :=
  let x := v.toNat
  if n = 1 then { r with fcsr := r.fcsr / 32 * 32 + x % 32 }.setFs 3
  else if n = 2 then { r with fcsr := x % 8 * 32 + r.fcsr % 32 }.setFs 3
  else if n = 3 then { r with fcsr := x % 256 }.setFs 3
  else if n = 0x300 then { r with mstatus := mstatusOf r.mstatus v }
  else if n = 0x304 then { r with mie := BitVec.ofNat 64 (if bit x 11 then 2 ^ 11 else 0) }
  else if n = 0x305 then
    { r with mtvec := BitVec.ofNat 64 (x / 4 * 4 + if x % 4 < 2 then x % 4 else Config.warlPick n r.mtvec v % 2) }
  else if n = 0x306 then { r with mcounteren := BitVec.ofNat 64 (x % 8) }
  else if n = 0x320 then
    let was := bit r.mcountinhibit.toNat 0
    let cyc := r.cycles now
    { r with
      mcountinhibit := BitVec.ofNat 64 ((if bit x 0 then 1 else 0) + if bit x 2 then 4 else 0)
      mcycle := if was = bit x 0 then r.mcycle else if was then r.mcycle - now else cyc }
  else if n = 0x340 then { r with mscratch := v }
  else if n = 0x341 then { r with mepc := BitVec.ofNat 64 (x / 2 * 2) }
  else if n = 0x342 then { r with mcause := v }
  else if n = 0x343 then { r with mtval := v }
  else if n = 0x3A0 then r.setPcfgs 0 v
  else if n = 0x3A2 then r.setPcfgs 8 v
  else if 0x3B0 ≤ n ∧ n ≤ 0x3BF then r.setPaddr (n - 0x3B0) v
  else if n = 0xB00 then { r with mcycle := if bit r.mcountinhibit.toNat 0 then v else v - now }
  else if n = 0xB02 then { r with minstret := v }
  else r

/-- The mode may read a CSR; the user counters need their bit of `mcounteren`, and `fcsr` needs FS not Off. -/
def RvSt.csrMay (r : RvSt) (n : Nat) : Bool :=
  (r.machine || bits n 9 8 == 0) && !(isFcsr n && r.fs == 0) &&
    (r.machine || !decide (0xC00 ≤ n ∧ n ≤ 0xC1F) || bit r.mcounteren.toNat (n - 0xC00))

/-! ### Floating point -/

/-- A register as binary64. -/
def RvSt.fx (r : RvSt) (i : Nat) : Nat := (tabGet (fun _ => (0 : W64)) r.f i).toNat
/-- A register as a datum of a format: a binary32 value must be NaN-boxed. -/
def RvSt.fv (r : RvSt) (dbl : Bool) (i : Nat) : Nat :=
  let v := r.fx i
  if dbl then v else if v / 2 ^ 32 = 2 ^ 32 - 1 then v % 2 ^ 32 else f32.nan
/-- A register written; FS becomes Dirty. -/
def RvSt.setFx (r : RvSt) (i v : Nat) : RvSt :=
  { r with f := tabSet (fun _ => (0 : W64)) r.f i (BitVec.ofNat 64 v) }.setFs 3
/-- A datum of a format written, NaN-boxed when it is binary32. -/
def RvSt.setFv (r : RvSt) (dbl : Bool) (i v : Nat) : RvSt := r.setFx i (if dbl then v else v % 2 ^ 32 + (2 ^ 32 - 1) * 2 ^ 32)
/-- Exception flags accrue; FS becomes Dirty when one is new. -/
def RvSt.accrue (r : RvSt) (fl : Nat) : RvSt :=
  let n := r.fcsr ||| fl
  if n = r.fcsr then r else { r with fcsr := n }.setFs 3

/-- The rounding mode of an instruction: static, or from `frm`; none when it is not one of the five. -/
def RvSt.rmOf (r : RvSt) (f3 : Nat) : Option Nat :=
  let m := if f3 = 7 then r.fcsr / 32 % 8 else f3
  if m ≤ 4 then some m else none

/-- The bounds of an integer type by the rs2 field of FCVT: 0 W, 1 WU, 2 L, 3 LU. -/
def fcvtBounds (k : Nat) : Int × Int :=
  match k with
  | 0 => (-(2 ^ 31), 2 ^ 31 - 1)
  | 1 => (0, 2 ^ 32 - 1)
  | 2 => (-(2 ^ 63), 2 ^ 63 - 1)
  | _ => (0, 2 ^ 64 - 1)

/-- The integer operand of FCVT from an integer register. -/
def fcvtInt (k : Nat) (v : W64) : Int :=
  match k with
  | 0 => toSigned 32 (v.toNat % 2 ^ 32)
  | 1 => ((v.toNat % 2 ^ 32 : Nat) : Int)
  | 2 => v.toInt
  | _ => (v.toNat : Int)

/-- OP-FP (opcode 0x53); none when not legal. -/
def RvSt.opFp (r : RvSt) (i : Nat) : Option RvSt :=
  let rd := bits i 11 7
  let f3 := bits i 14 12
  let rs1 := bits i 19 15
  let rs2 := bits i 24 20
  let fmt := bits i 26 25
  let dbl := fmt == 1
  let f := if dbl then f64 else f32
  let a := r.fv dbl rs1
  let b := r.fv dbl rs2
  let put (x : FRes) : Option RvSt := some ((r.setFv dbl rd x.1).accrue x.2)
  let arith (k : Nat → FRes) : Option RvSt := (r.rmOf f3).bind fun rm => put (k rm)
  let int (v : W64) (fl : Nat) : Option RvSt := some ((r.wx rd v).accrue fl)
  if 2 ≤ fmt then none
  else
    match bits i 31 27 with
    | 0x00 => arith fun rm => f.add rm a b
    | 0x01 => arith fun rm => f.sub rm a b
    | 0x02 => arith fun rm => f.mul rm a b
    | 0x03 => arith fun rm => f.div rm a b
    | 0x0B => if rs2 = 0 then arith fun rm => f.sqrt rm a else none
    | 0x04 =>
      let s := bit b (f.w - 1)
      let t := bit a (f.w - 1)
      let sgn := match f3 with | 0 => some s | 1 => some !s | 2 => some (s != t) | _ => none
      sgn.bind fun x => put (a % f.sgn + (if x then f.sgn else 0), 0)
    | 0x05 => if f3 ≤ 1 then put (f.minMax (f3 == 1) a b) else none
    | 0x08 =>
      if dbl ∧ rs2 = 0 then arith fun rm => f32.conv f64 rm (r.fv false rs1)
      else if !dbl ∧ rs2 = 1 then arith fun rm => f64.conv f32 rm (r.fv true rs1)
      else none
    | 0x14 =>
      let x := match f3 with | 0 => some (f.fle a b) | 1 => some (f.flt a b) | 2 => some (f.feq a b) | _ => none
      x.bind fun x => int (if x.1 then 1 else 0) x.2
    | 0x18 =>
      if 4 ≤ rs2 then none
      else (r.rmOf f3).bind fun rm =>
        let (lo, hi) := fcvtBounds rs2
        let (v, fl) := f.toInt rm lo hi a
        int (if rs2 ≤ 1 then sx 32 (v % 2 ^ 32).toNat else BitVec.ofInt 64 v) fl
    | 0x1A => if 4 ≤ rs2 then none else arith fun rm => f.ofInt rm (fcvtInt rs2 (r.rx rs1))
    | 0x1C =>
      if rs2 ≠ 0 then none
      else if f3 = 0 then int (if dbl then BitVec.ofNat 64 (r.fx rs1) else sx 32 (r.fx rs1)) 0
      else if f3 = 1 then int (BitVec.ofNat 64 (f.classify a)) 0
      else none
    | 0x1E => if rs2 = 0 ∧ f3 = 0 then some (r.setFv dbl rd (r.rx rs1).toNat) else none
    | _ => none

/-- The fused multiply-adds: opcodes 0x43, 0x47, 0x4B, 0x4F. -/
def RvSt.fusedFp (r : RvSt) (i : Nat) : Option RvSt :=
  let op := i % 128
  let fmt := bits i 26 25
  let dbl := fmt == 1
  let f := if dbl then f64 else f32
  let a := r.fv dbl (bits i 19 15)
  let b := r.fv dbl (bits i 24 20)
  let c := r.fv dbl (bits i 31 27)
  if 2 ≤ fmt then none
  else (r.rmOf (bits i 14 12)).map fun rm =>
    let x := f.fma rm (if op = 0x4B ∨ op = 0x4F then f.neg a else a) b (if op = 0x47 ∨ op = 0x4F then f.neg c else c)
    (r.setFv dbl (bits i 11 7) x.1).accrue x.2

/-! ### Traps -/

/-- A trap enters machine mode: `mepc`, `mcause`, `mtval`, the stack of MIE and MPP, and the pc from `mtvec`. -/
def RvSt.enterTrap (r : RvSt) (irq : Bool) (cause : Nat) (tval : W64) : RvSt :=
  let n := r.mstatus.toNat
  let ie := bit n 3
  let st := setBit (setBit n 7 ie) 3 false
  let st := st - bits st 12 11 * 2 ^ 11 + (if r.machine then 3 else 0) * 2 ^ 11
  let t := r.mtvec.toNat
  let base := t / 4 * 4
  { r with
    mepc := r.pc, mtval := tval, machine := true, mstatus := BitVec.ofNat 64 st
    mcause := BitVec.ofNat 64 (cause + if irq then 2 ^ 63 else 0)
    pc := BitVec.ofNat 64 (if irq && t % 4 == 1 then base + 4 * cause else base) }

/-- An exception at the pc, with `mtval` as the implementation writes it. -/
def RvSt.raise (r : RvSt) (cause tval : Nat) : RvSt :=
  r.enterTrap false cause (if Config.mtvalWritten cause then BitVec.ofNat 64 tval else 0)

/-- MRET. -/
def RvSt.mret (r : RvSt) : RvSt :=
  let n := r.mstatus.toNat
  let mpp := bits n 12 11
  let st := setBit (setBit n 3 (bit n 7)) 7 true
  let st := st - bits st 12 11 * 2 ^ 11
  let st := if mpp = 3 then st else setBit st 17 false
  { r with pc := r.mepc, machine := mpp == 3, mstatus := BitVec.ofNat 64 st }

/-- The machine external interrupt is pending and enabled (R658). -/
def CoreSt.takesIrq (z : CoreSt) : Bool :=
  !z.notice.isEmpty && bit z.rv.mie.toNat 11 && (!z.rv.machine || bit z.rv.mstatus.toNat 3)

/-! ### Instructions -/

/-- Registers set, with nothing else changed. -/
def State.rvSet (s : State) (c : Nat) (f : RvSt → RvSt) : Rv Unit := .ok () (s.modRv c f)

/-- An illegal instruction `i`. -/
def State.rvIllegal (s : State) (i : Nat) : Rv Unit := .trap 2 i s

/-- LOAD: width and sign by funct3. -/
def rvExtend (f3 v : Nat) : W64 :=
  match f3 with
  | 0 => sx 8 v
  | 1 => sx 16 v
  | 2 => sx 32 v
  | _ => BitVec.ofNat 64 v

/-- Legal forms of OP and OP-32 by funct7 and funct3: 0 not legal, 1 base, 2 alternative, 3 M. -/
def opForm (w32 : Bool) (f7 f3 : Nat) : Nat :=
  if f7 = 0 then (if w32 ∧ f3 ≠ 0 ∧ f3 ≠ 1 ∧ f3 ≠ 5 then 0 else 1)
  else if f7 = 0x20 then (if f3 = 0 ∨ f3 = 5 then 2 else 0)
  else if f7 = 1 then (if w32 ∧ 1 ≤ f3 ∧ f3 ≤ 3 then 0 else 3)
  else 0

/-- OP, OP-32, OP-IMM, OP-IMM-32, LUI: the value for rd; none when not legal. -/
def RvSt.compute (r : RvSt) (i : Nat) : Option W64 :=
  let f3 := bits i 14 12
  let f7 := bits i 31 25
  let a := r.rx (bits i 19 15)
  let b := r.rx (bits i 24 20)
  let imm := sx 12 (bits i 31 20)
  let form := opForm (i % 128 == 0x3B) f7 f3
  match i % 128 with
  | 0x33 => if form = 0 then none else some (if form = 3 then rvMul f3 a b else rvAlu f3 (form == 2) a b)
  | 0x3B => if form = 0 then none else some (if form = 3 then rvMulW f3 a b else rvAluW f3 (form == 2) a b)
  | 0x13 =>
    if f3 = 1 then (if f7 / 2 = 0 then some (rvAlu 1 false a imm) else none)
    else if f3 = 5 then (if f7 / 2 = 0 ∨ f7 / 2 = 0x10 then some (rvAlu 5 (f7 / 2 == 0x10) a imm) else none)
    else some (rvAlu f3 false a imm)
  | 0x1B =>
    if f3 = 0 then some (rvAluW 0 false a imm)
    else if f3 = 1 ∧ f7 = 0 then some (rvAluW 1 false a imm)
    else if f3 = 5 ∧ (f7 = 0 ∨ f7 = 0x20) then some (rvAluW 5 (f7 == 0x20) a imm)
    else none
  | 0x37 => some (sx 32 (bits i 31 12 * 2 ^ 12))
  | 0x17 => some (r.pc + sx 32 (bits i 31 12 * 2 ^ 12))
  | _ => none

/-- CSR instructions (Zicsr). -/
def State.rvCsr (s : State) (c i : Nat) : Rv Unit :=
  let r := (s.core c).rv
  let f3 := bits i 14 12
  let rs1 := bits i 19 15
  let rd := bits i 11 7
  let n := bits i 31 20
  let x : W64 := if 5 ≤ f3 then BitVec.ofNat 64 rs1 else r.rx rs1
  let writes := f3 % 4 == 1 || rs1 != 0
  match s.csrRead c n with
  | none => s.rvIllegal i
  | some old =>
    if !r.csrMay n || (writes && bits n 11 10 == 3) then s.rvIllegal i
    else
      let v := match f3 % 4 with
        | 1 => x
        | 2 => old ||| x
        | _ => old &&& ~~~x
      s.rvSet c fun r =>
        let r := if writes then r.csrWrite s.aclk n v else r
        let r := if writes && n == 0xB02 && !bit r.mcountinhibit.toNat 2 then { r with minstret := v - 1 } else r
        r.wx rd old

/-- SYSTEM. -/
def State.rvSystem (s : State) (c i : Nat) : Rv Unit :=
  let r := (s.core c).rv
  if bits i 14 12 = 4 then s.rvIllegal i
  else if bits i 14 12 ≠ 0 then s.rvCsr c i
  else
    match i with
    | 0x00000073 => .trap (if r.machine then 11 else 8) 0 s
    | 0x00100073 => .trap 3 (r.pc.toNat) s
    | 0x30200073 => if r.machine then s.rvSet c RvSt.mret else s.rvIllegal i
    | 0x10500073 => .ok () s
    | _ => s.rvIllegal i

/-- LR, SC and the AMOs (R647). PRESUMED: notes/assumptions/79.md. -/
def State.rvAtomic (s : State) (c i : Nat) (errs : List (Nat × Bool)) : Rv Unit :=
  let r := (s.core c).rv
  let f3 := bits i 14 12
  let f5 := bits i 31 27
  let rd := bits i 11 7
  let rs2 := bits i 24 20
  let n := if f3 = 2 then 4 else 8
  let a := (r.rx (bits i 19 15)).toNat
  let x := (r.rx rs2).toNat % 2 ^ (8 * n)
  let ext (v : Nat) : W64 := if n = 4 then sx 32 v else BitVec.ofNat 64 v
  if f3 ≠ 2 ∧ f3 ≠ 3 then s.rvIllegal i
  else if f5 = 2 then
    if rs2 ≠ 0 then s.rvIllegal i
    else
      (s.rvLoad c errs 1 true a n).bind fun v s =>
        s.rvSet c fun r => { r with resv := some (a / 8 * 8, 8) }.wx rd (ext v)
  else if f5 = 3 then
    match r.accessFault 2 true a n with
    | some k => .trap k a s
    | none =>
      if r.resv ≠ some (a / 8 * 8, 8) then s.rvSet c fun r => { r with resv := none }.wx rd 1
      else
        let look : Rv Nat := if sramAt ≤ a then s.sramLoad c errs (a - sramAt) n 7 else .ok 0 s
        look.bind fun _ s => (s.rvPut c a n x).bind fun _ s => s.rvSet c fun r => { r with resv := none }.wx rd 0
  else if [0x00, 0x01, 0x04, 0x08, 0x0C, 0x10, 0x14, 0x18, 0x1C].contains f5 then
    (s.rvLoad c errs 3 true a n).bind fun v s =>
      (s.rvPut c a n (rvAmo f5 (8 * n) v x)).bind fun _ s => s.rvSet c fun r => r.wx rd (ext v)
  else s.rvIllegal i

/-- One instruction of 32 bits (`len` octets in memory), at the pc; a result leaves the pc at the next instruction. -/
def State.rvExec (s : State) (c i len : Nat) (errs : List (Nat × Bool)) : Rv Unit :=
  let r := (s.core c).rv
  let pc := r.pc
  let next := pc + BitVec.ofNat 64 len
  let rd := bits i 11 7
  let f3 := bits i 14 12
  let a := r.rx (bits i 19 15)
  let b := r.rx (bits i 24 20)
  let immS := sx 12 (bits i 31 25 * 32 + rd)
  let go (s : State) : State := s.modRv c fun r => { r with pc := next }
  let fp (x : Option RvSt) : Rv Unit :=
    match x with
    | some r' => if r.fs = 0 then s.rvIllegal i else .ok () (go (s.modRv c fun _ => r'))
    | none => s.rvIllegal i
  match i % 128 with
  | 0x03 =>
    if f3 = 7 then s.rvIllegal i
    else (s.rvLoad c errs 1 false (a + sx 12 (bits i 31 20)).toNat (2 ^ (f3 % 4))).bind fun v s =>
      .ok () (go (s.modRv c fun r => r.wx rd (rvExtend f3 v)))
  | 0x07 =>
    if r.fs = 0 ∨ (f3 ≠ 2 ∧ f3 ≠ 3) then s.rvIllegal i
    else (s.rvLoad c errs 1 false (a + sx 12 (bits i 31 20)).toNat (2 ^ f3)).bind fun v s =>
      .ok () (go (s.modRv c fun r => r.setFv (f3 == 3) rd v))
  | 0x23 => if 4 ≤ f3 then s.rvIllegal i else (go s).rvStore c (a + immS).toNat (2 ^ f3) (b.toNat % 2 ^ (8 * 2 ^ f3))
  | 0x27 =>
    if r.fs = 0 ∨ (f3 ≠ 2 ∧ f3 ≠ 3) then s.rvIllegal i
    else (go s).rvStore c (a + immS).toNat (2 ^ f3) (r.fx (bits i 24 20) % 2 ^ (8 * 2 ^ f3))
  | 0x0F => if 2 ≤ f3 then s.rvIllegal i else .ok () (go s)
  | 0x2F => (s.rvAtomic c i errs).bind fun _ s => .ok () (go s)
  | 0x43 | 0x47 | 0x4B | 0x4F => fp (r.fusedFp i)
  | 0x53 => fp (r.opFp i)
  | 0x63 =>
    let off := sx 13 (bits i 31 31 * 4096 + bits i 7 7 * 2048 + bits i 30 25 * 32 + bits i 11 8 * 2)
    if f3 = 2 ∨ f3 = 3 then s.rvIllegal i
    else s.rvSet c fun r => { r with pc := if rvTaken f3 a b then pc + off else next }
  | 0x67 =>
    if f3 ≠ 0 then s.rvIllegal i
    else s.rvSet c fun r => { r with pc := BitVec.ofNat 64 ((a + sx 12 (bits i 31 20)).toNat / 2 * 2) }.wx rd next
  | 0x6F =>
    let off := sx 21 (bits i 31 31 * 2 ^ 20 + bits i 19 12 * 4096 + bits i 20 20 * 2048 + bits i 30 21 * 2)
    s.rvSet c fun r => { r with pc := pc + off }.wx rd next
  | 0x73 => if i = 0x30200073 then s.rvSystem c i else (s.rvSystem c i).bind fun _ s => .ok () (go s)
  | _ =>
    match r.compute i with
    | some v => .ok () (go (s.modRv c fun r => r.wx rd v))
    | none => s.rvIllegal i

/-- The octets of an instruction parcel of 2 octets at `a` may be fetched (R645). -/
def RvSt.fetchOk (r : RvSt) (a : Nat) : Bool := within a 2 0 0x20000 && r.pmpOk r.machine 4 a 2

/-- Fetch, decode and execution of the instruction at the pc. -/
def State.rvInstr (s : State) (c : Nat) (errs : List (Nat × Bool)) : Rv Unit :=
  let z := s.core c
  let p := z.rv.pc.toNat
  if !z.rv.fetchOk p then .trap 1 p s
  else
    let h := leAt (memRead z.iram p 2) 0 2
    if h % 4 ≠ 3 then
      (s.localRead c errs p 2).bind fun _ s =>
        match rvExpand h with
        | some i => match s.rvExec c i 2 errs with
          | .trap 2 _ s => .trap 2 h s
          | x => x
        | none => s.rvIllegal h
    else if !z.rv.fetchOk (p + 2) then .trap 1 (p + 2) s
    else (s.localRead c errs p 4).bind fun _ s => s.rvExec c (leAt (memRead z.iram p 4) 0 4) 4 errs

/-- The core executes instructions: in INIT, or with an item running while ONLINE or DRAINING (R653, R665). -/
def State.coreRuns (s : State) (c : Nat) : Bool :=
  let st := s.coreState c
  st == kInit || ((st == kOnline || st == kDraining) && s.coreBusy c)

/-- RISCV_INSTRUCTION (R644–R647): core `core` takes its pending interrupt, or executes the instruction at its pc. `errs` are the errors
that its reads find (address in the map of R646, uncorrectable). PRESUMED: notes/assumptions/79.md. -/
def execRiscvInstruction (core : Nat) (errs : List (Nat × Bool)) (s : State) : Out :=
  .next <|
    if 16 ≤ core ∨ !s.coreRuns core then s
    else if (s.core core).takesIrq then s.modRv core fun r => r.enterTrap true 11 0
    else
      let pc := (s.core core).rv.pc
      match s.rvInstr core errs with
      | .ok _ s => s.modRv core fun r => if bit r.mcountinhibit.toNat 2 then r else { r with minstret := r.minstret + 1 }
      | .trap k t s => s.modRv core fun r => { r with pc := pc }.raise k t
      | .wait s => s.modRv core fun r => { r with pc := pc }
      | .gone s => s

end Sys2Proof.Machine
end

