-- ==== Sys2Proof/Machine/Dispatch.lean ====
section
/-!
DEFINITION. One arm per constructor of Instr: the meaning of the command, or its rejection by name.
-/
namespace Sys2Proof.Machine

def exec (i : Instr) (s : State) : Host.Outcome State Fault Refusal :=
  match i with
  | .registerWrite who off size v => Sys2Proof.Machine.execRegisterWrite who off size v s
  | .unmappedRead who off => Sys2Proof.Machine.execUnmappedRead who off s
  | .pairLoRead who off => Sys2Proof.Machine.execPairLoRead who off s
  | .pairHiRead who off => Sys2Proof.Machine.execPairHiRead who off s
  | .pairLoWrite who off v => Sys2Proof.Machine.execPairLoWrite who off v s
  | .pairHiWrite who off v => Sys2Proof.Machine.execPairHiWrite who off v s
  | .rcRegisterRead who off => Sys2Proof.Machine.execRcRegisterRead who off s
  | .lockBitSet who off v => Sys2Proof.Machine.execLockBitSet who off v s
  | .foulQueueMove block => Sys2Proof.Machine.execFoulQueueMove block s
  | .supervisionTick => Sys2Proof.Machine.execSupervisionTick s
  | .defectClear who v => Sys2Proof.Machine.execDefectClear who v s
  | .setDeviceMode c => Sys2Proof.Machine.execSetDeviceMode c s
  | .foulFlush c => Sys2Proof.Machine.execFoulFlush c s
  | .powerOnResetPd0 => Sys2Proof.Machine.execPowerOnResetPd0 s
  | .timeSlew c => Sys2Proof.Machine.execTimeSlew c s
  | .timeSetRate c => Sys2Proof.Machine.execTimeSetRate c s
  | .timeStep c => Sys2Proof.Machine.execTimeStep c s
  | .slewComplete view => Sys2Proof.Machine.execSlewComplete view s
  | .timeSnap who v => Sys2Proof.Machine.execTimeSnap who v s
  | .discSampleCommit who v => Sys2Proof.Machine.execDiscSampleCommit who v s
  | .plantHoldoverEnter => Sys2Proof.Machine.execPlantHoldoverEnter s
  | .timedCommandExecute => Sys2Proof.Machine.execTimedCommandExecute s
  | .actArm c => Sys2Proof.Machine.execActArm c s
  | .actDisarm c => Sys2Proof.Machine.execActDisarm c s
  | .actionFire entry => Sys2Proof.Machine.execActionFire entry s
  | .linkStage c => Sys2Proof.Machine.execLinkStage c s
  | .linkStart c => Sys2Proof.Machine.execLinkStart c s
  | .linkStop c => Sys2Proof.Machine.execLinkStop c s
  | .linkCommit c => Sys2Proof.Machine.execLinkCommit c s
  | .linkPortOpen c => Sys2Proof.Machine.execLinkPortOpen c s
  | .linkPortClose c => Sys2Proof.Machine.execLinkPortClose c s
  | .linkNodeCtrl c => Sys2Proof.Machine.execLinkNodeCtrl c s
  | .linkMgmt c => Sys2Proof.Machine.execLinkMgmt c s
  | .listenCountExpire => Sys2Proof.Machine.execListenCountExpire s
  | .claimCountExpire => Sys2Proof.Machine.execClaimCountExpire s
  | .startBlockReceive ch port pos start => Sys2Proof.Machine.execStartBlockReceive ch port pos start s
  | .frameOverrun ch port => Sys2Proof.Machine.execFrameOverrun ch port s
  | .arbGrant ch e round => Sys2Proof.Machine.execArbGrant ch e round s
  | .serveReceive ch port pos f => Sys2Proof.Machine.execServeReceive ch port pos f s
  | .letReceive ch port pos f => Sys2Proof.Machine.execLetReceive ch port pos f s
  | .letPhaseOpen ch => Sys2Proof.Machine.execLetPhaseOpen ch s
  | .letPhaseClose ch => Sys2Proof.Machine.execLetPhaseClose ch s
  | .letSend => Sys2Proof.Machine.execLetSend s
  | .masterLossExpire => Sys2Proof.Machine.execMasterLossExpire s
  | .claimReceive ch port f => Sys2Proof.Machine.execClaimReceive ch port f s
  | .dataReceive ch port f => Sys2Proof.Machine.execDataReceive ch port f s
  | .arbReceive ch port f => Sys2Proof.Machine.execArbReceive ch port f s
  | .streamFrameReceive ch port f => Sys2Proof.Machine.execStreamFrameReceive ch port f s
  | .mgmtReceive ch port f => Sys2Proof.Machine.execMgmtReceive ch port f s
  | .linkMgmtTimeout tag => Sys2Proof.Machine.execLinkMgmtTimeout tag s
  | .joinReqReceive ch port f => Sys2Proof.Machine.execJoinReqReceive ch port f s
  | .syncAnswerReceive ch port t2 f => Sys2Proof.Machine.execSyncAnswerReceive ch port t2 f s
  | .probeUnanswered ch port => Sys2Proof.Machine.execProbeUnanswered ch port s
  | .reprobeExpire => Sys2Proof.Machine.execReprobeExpire s
  | .entryMissing ch e => Sys2Proof.Machine.execEntryMissing ch e s
  | .deviceDataSend e => Sys2Proof.Machine.execDeviceDataSend e s
  | .deviceMgmtSend e => Sys2Proof.Machine.execDeviceMgmtSend e s
  | .probationEnd ch n => Sys2Proof.Machine.execProbationEnd ch n s
  | .memberSilent ch n => Sys2Proof.Machine.execMemberSilent ch n s
  | .containDecay ch port => Sys2Proof.Machine.execContainDecay ch port s
  | .laneLost ch port lock hiBer => Sys2Proof.Machine.execLaneLost ch port lock hiBer s
  | .laneLossExpire ch port => Sys2Proof.Machine.execLaneLossExpire ch port s
  | .ackWaitExpire => Sys2Proof.Machine.execAckWaitExpire s
  | .grpLoadModel c dma => Sys2Proof.Machine.execGrpLoadModel c dma s
  | .grpEnable c => Sys2Proof.Machine.execGrpEnable c s
  | .grpDisable c => Sys2Proof.Machine.execGrpDisable c s
  | .moveJoint c dma => Sys2Proof.Machine.execMoveJoint c dma s
  | .movePath c dma => Sys2Proof.Machine.execMovePath c dma s
  | .moveTrack c dma => Sys2Proof.Machine.execMoveTrack c dma s
  | .moveModify c dma => Sys2Proof.Machine.execMoveModify c dma s
  | .grpSetLimits c => Sys2Proof.Machine.execGrpSetLimits c s
  | .grpStop c => Sys2Proof.Machine.execGrpStop c s
  | .grpHold c => Sys2Proof.Machine.execGrpHold c s
  | .grpResume c => Sys2Proof.Machine.execGrpResume c s
  | .grpClearFault c => Sys2Proof.Machine.execGrpClearFault c s
  | .zoneAcquire c => Sys2Proof.Machine.execZoneAcquire c s
  | .zoneRelease c => Sys2Proof.Machine.execZoneRelease c s
  | .zoneSet c => Sys2Proof.Machine.execZoneSet c s
  | .feedbackCutoff failed => Sys2Proof.Machine.execFeedbackCutoff failed s
  | .optimiserDeadline stands sepCycles sepDone => Sys2Proof.Machine.execOptimiserDeadline stands sepCycles sepDone s
  | .rampEnd g => Sys2Proof.Machine.execRampEnd g s
  | .optStage c dma => Sys2Proof.Machine.execOptStage c dma s
  | .optCommit c => Sys2Proof.Machine.execOptCommit c s
  | .optLoadDyn c dma => Sys2Proof.Machine.execOptLoadDyn c dma s
  | .optSetPayload c => Sys2Proof.Machine.execOptSetPayload c s
  | .optCopySolution c => Sys2Proof.Machine.execOptCopySolution c s
  | .gravityJobDone g => Sys2Proof.Machine.execGravityJobDone g s
  | .solveIterationDone g corr => Sys2Proof.Machine.execSolveIterationDone g corr s
  | .deadlinePctWrite who v => Sys2Proof.Machine.execDeadlinePctWrite who v s
  | .clusterFault clu cause => Sys2Proof.Machine.execClusterFault clu cause s
  | .srvCommit c => Sys2Proof.Machine.execSrvCommit c s
  | .srvCopy c => Sys2Proof.Machine.execSrvCopy c s
  | .srvAxCfgWrite who a v => Sys2Proof.Machine.execSrvAxCfgWrite who a v s
  | .servoComputeDone => Sys2Proof.Machine.execServoComputeDone s
  | .servoOverrunCheck late => Sys2Proof.Machine.execServoOverrunCheck late s
  | .enableTimeout g => Sys2Proof.Machine.execEnableTimeout g s
  | .brakeTimeExpire g => Sys2Proof.Machine.execBrakeTimeExpire g s
  | .sepEnable c => Sys2Proof.Machine.execSepEnable c s
  | .sepDisable c => Sys2Proof.Machine.execSepDisable c s
  | .sepCapEnable c => Sys2Proof.Machine.execSepCapEnable c s
  | .sepCopyField c => Sys2Proof.Machine.execSepCopyField c s
  | .sepMemoryFault mem => Sys2Proof.Machine.execSepMemoryFault mem s
  | .sfAuth c => Sys2Proof.Machine.execSfAuth c s
  | .sfLogout c => Sys2Proof.Machine.execSfLogout c s
  | .sfSetPassword c => Sys2Proof.Machine.execSfSetPassword c s
  | .sfZoneBegin c => Sys2Proof.Machine.execSfZoneBegin c s
  | .sfZoneWrite c => Sys2Proof.Machine.execSfZoneWrite c s
  | .sfPairWrite c => Sys2Proof.Machine.execSfPairWrite c s
  | .sfBrkWrite c => Sys2Proof.Machine.execSfBrkWrite c s
  | .sfTpWrite c => Sys2Proof.Machine.execSfTpWrite c s
  | .sfZoneCommit c => Sys2Proof.Machine.execSfZoneCommit c s
  | .sfZoneAbort c => Sys2Proof.Machine.execSfZoneAbort c s
  | .sfZoneReset c => Sys2Proof.Machine.execSfZoneReset c s
  | .sfZoneUnlock c => Sys2Proof.Machine.execSfZoneUnlock c s
  | .sfLogRead c => Sys2Proof.Machine.execSfLogRead c s
  | .sfReadCfg c => Sys2Proof.Machine.execSfReadCfg c s
  | .sfInputEdge pair ch high => Sys2Proof.Machine.execSfInputEdge pair ch high s
  | .discrepancyTimeout pair => Sys2Proof.Machine.execDiscrepancyTimeout pair s
  | .twoHandTimeout couple => Sys2Proof.Machine.execTwoHandTimeout couple s
  | .testPulseStart src => Sys2Proof.Machine.execTestPulseStart src s
  | .testPulseCheck pair ch high => Sys2Proof.Machine.execTestPulseCheck pair ch high s
  | .testPulseEnd src => Sys2Proof.Machine.execTestPulseEnd src s
  | .stopDelayExpire zone => Sys2Proof.Machine.execStopDelayExpire zone s
  | .closingTestStep out x y => Sys2Proof.Machine.execClosingTestStep out x y s
  | .onTestStart group => Sys2Proof.Machine.execOnTestStart group s
  | .onTestEnd group x y => Sys2Proof.Machine.execOnTestEnd group x y s
  | .readbackFault out x y => Sys2Proof.Machine.execReadbackFault out x y s
  | .brakeCurrentFault brake ma => Sys2Proof.Machine.execBrakeCurrentFault brake ma s
  | .requestLineChange line asserted => Sys2Proof.Machine.execRequestLineChange line asserted s
  | .dieFault cause => Sys2Proof.Machine.execDieFault cause s
  | .sfPowerUp selfTestOk => Sys2Proof.Machine.execSfPowerUp selfTestOk s
  | .sfStatusFrame crcOk rb => Sys2Proof.Machine.execSfStatusFrame crcOk rb s
  | .sfPathLoss => Sys2Proof.Machine.execSfPathLoss s
  | .sfConfigAnswer nvmFailed => Sys2Proof.Machine.execSfConfigAnswer nvmFailed s
  | .sfConfigTimeout => Sys2Proof.Machine.execSfConfigTimeout s
  | .sfSessionTimeout => Sys2Proof.Machine.execSfSessionTimeout s
  | .sfAuthBlockEnd => Sys2Proof.Machine.execSfAuthBlockEnd s
  | .laSetCount c => Sys2Proof.Machine.execLaSetCount c s
  | .laCmpEnable c => Sys2Proof.Machine.execLaCmpEnable c s
  | .laRunWrite who ch v => Sys2Proof.Machine.execLaRunWrite who ch v s
  | .laCmpCtrlWrite who ch e v => Sys2Proof.Machine.execLaCmpCtrlWrite who ch e v s
  | .laErrClear who ch v => Sys2Proof.Machine.execLaErrClear who ch v s
  | .quadTransition ch ab => Sys2Proof.Machine.execQuadTransition ch ab s
  | .stepDirEdge ch dir => Sys2Proof.Machine.execStepDirEdge ch dir s
  | .upDownEdge ch up down => Sys2Proof.Machine.execUpDownEdge ch up down s
  | .hallCodeChange ch code => Sys2Proof.Machine.execHallCodeChange ch code s
  | .comparePulseEnd out => Sys2Proof.Machine.execComparePulseEnd out s
  | .laRxFault ch input => Sys2Proof.Machine.execLaRxFault ch input s
  | .laIndex ch => Sys2Proof.Machine.execLaIndex ch s
  | .latchCapture ch pin rising age time => Sys2Proof.Machine.execLatchCapture ch pin rising age time s
  | .latchTimeHiRead who ch => Sys2Proof.Machine.execLatchTimeHiRead who ch s
  | .stepEmit ch => Sys2Proof.Machine.execStepEmit ch s
  | .chopComparator ch ph n => Sys2Proof.Machine.execChopComparator ch ph n s
  | .chopFastEnd ch ph => Sys2Proof.Machine.execChopFastEnd ch ph s
  | .adaptInterval ch iv => Sys2Proof.Machine.execAdaptInterval ch iv s
  | .chopOvercurrent ch ph n => Sys2Proof.Machine.execChopOvercurrent ch ph n s
  | .analoguePathGap gap => Sys2Proof.Machine.execAnaloguePathGap gap s
  | .analogueGateTimeout => Sys2Proof.Machine.execAnalogueGateTimeout s
  | .acqSetStart c => Sys2Proof.Machine.execAcqSetStart c s
  | .acqSetStop c => Sys2Proof.Machine.execAcqSetStop c s
  | .acqArm c => Sys2Proof.Machine.execAcqArm c s
  | .acqStop c => Sys2Proof.Machine.execAcqStop c s
  | .acqForce c => Sys2Proof.Machine.execAcqForce c s
  | .acqCopy c => Sys2Proof.Machine.execAcqCopy c s
  | .acqTbCal c => Sys2Proof.Machine.execAcqTbCal c s
  | .conversionSample set xs => Sys2Proof.Machine.execConversionSample set xs s
  | .conversionReady set => Sys2Proof.Machine.execConversionReady set s
  | .acqPathGap ns => Sys2Proof.Machine.execAcqPathGap ns s
  | .acqTimeTrigger u => Sys2Proof.Machine.execAcqTimeTrigger u s
  | .acqPreFilled u => Sys2Proof.Machine.execAcqPreFilled u s
  | .acqPostComplete u => Sys2Proof.Machine.execAcqPostComplete u s
  | .acqRearmEnd u => Sys2Proof.Machine.execAcqRearmEnd u s
  | .streamChunkPost ring addr len => Sys2Proof.Machine.execStreamChunkPost ring addr len s
  | .decRestore u => Sys2Proof.Machine.execDecRestore u s
  | .acqLostHiRead who u => Sys2Proof.Machine.execAcqLostHiRead who u s
  | .triggerBusPulse line width t window => Sys2Proof.Machine.execTriggerBusPulse line width t window s
  | .tbCalProbe line t => Sys2Proof.Machine.execTbCalProbe line t s
  | .syncPulseDrive => Sys2Proof.Machine.execSyncPulseDrive s
  | .syncPulseReceive width t => Sys2Proof.Machine.execSyncPulseReceive width t s
  | .syncSetStart set => Sys2Proof.Machine.execSyncSetStart set s
  | .scLoad c dma => Sys2Proof.Machine.execScLoad c dma s
  | .scCommit c => Sys2Proof.Machine.execScCommit c s
  | .scStart c => Sys2Proof.Machine.execScStart c s
  | .scHalt c => Sys2Proof.Machine.execScHalt c s
  | .scKick c => Sys2Proof.Machine.execScKick c s
  | .scInCfgWrite who core f v => Sys2Proof.Machine.execScInCfgWrite who core f v s
  | .scTimerIrq core => Sys2Proof.Machine.execScTimerIrq core s
  | .scInterruptEntry core => Sys2Proof.Machine.execScInterruptEntry core s
  | .scSwapTimeout core => Sys2Proof.Machine.execScSwapTimeout core s
  | .isaNop core ecc => Sys2Proof.Machine.execIsaNop core ecc s
  | .isaMov core ecc => Sys2Proof.Machine.execIsaMov core ecc s
  | .isaMovi core ecc => Sys2Proof.Machine.execIsaMovi core ecc s
  | .isaMovsLoad core ecc => Sys2Proof.Machine.execIsaMovsLoad core ecc s
  | .isaMovsStore core ecc => Sys2Proof.Machine.execIsaMovsStore core ecc s
  | .isaMovsi core ecc => Sys2Proof.Machine.execIsaMovsi core ecc s
  | .isaAdd core ecc => Sys2Proof.Machine.execIsaAdd core ecc s
  | .isaSub core ecc => Sys2Proof.Machine.execIsaSub core ecc s
  | .isaAdds core ecc => Sys2Proof.Machine.execIsaAdds core ecc s
  | .isaSubs core ecc => Sys2Proof.Machine.execIsaSubs core ecc s
  | .isaAnd core ecc => Sys2Proof.Machine.execIsaAnd core ecc s
  | .isaOr core ecc => Sys2Proof.Machine.execIsaOr core ecc s
  | .isaXor core ecc => Sys2Proof.Machine.execIsaXor core ecc s
  | .isaShl core ecc => Sys2Proof.Machine.execIsaShl core ecc s
  | .isaAsr core ecc => Sys2Proof.Machine.execIsaAsr core ecc s
  | .isaLsr core ecc => Sys2Proof.Machine.execIsaLsr core ecc s
  | .isaCmp core ecc => Sys2Proof.Machine.execIsaCmp core ecc s
  | .isaAbs core ecc => Sys2Proof.Machine.execIsaAbs core ecc s
  | .isaNeg core ecc => Sys2Proof.Machine.execIsaNeg core ecc s
  | .isaLd core ecc => Sys2Proof.Machine.execIsaLd core ecc s
  | .isaSt core ecc => Sys2Proof.Machine.execIsaSt core ecc s
  | .isaLdP core ecc => Sys2Proof.Machine.execIsaLdP core ecc s
  | .isaStP core ecc => Sys2Proof.Machine.execIsaStP core ecc s
  | .isaMpy core ecc => Sys2Proof.Machine.execIsaMpy core ecc s
  | .isaMac core ecc => Sys2Proof.Machine.execIsaMac core ecc s
  | .isaMsu core ecc => Sys2Proof.Machine.execIsaMsu core ecc s
  | .isaMacm core ecc => Sys2Proof.Machine.execIsaMacm core ecc s
  | .isaFtap core ecc => Sys2Proof.Machine.execIsaFtap core ecc s
  | .isaClr core ecc => Sys2Proof.Machine.execIsaClr core ecc s
  | .isaSat core ecc => Sys2Proof.Machine.execIsaSat core ecc s
  | .isaLdacc core ecc => Sys2Proof.Machine.execIsaLdacc core ecc s
  | .isaJmp core ecc => Sys2Proof.Machine.execIsaJmp core ecc s
  | .isaJcc core ecc => Sys2Proof.Machine.execIsaJcc core ecc s
  | .isaCall core ecc => Sys2Proof.Machine.execIsaCall core ecc s
  | .isaRet core ecc => Sys2Proof.Machine.execIsaRet core ecc s
  | .isaReti core ecc => Sys2Proof.Machine.execIsaReti core ecc s
  | .isaLoop0 core ecc => Sys2Proof.Machine.execIsaLoop0 core ecc s
  | .isaLoop1 core ecc => Sys2Proof.Machine.execIsaLoop1 core ecc s
  | .isaLoop0r core ecc => Sys2Proof.Machine.execIsaLoop0r core ecc s
  | .isaLoop1r core ecc => Sys2Proof.Machine.execIsaLoop1r core ecc s
  | .isaWait core ecc => Sys2Proof.Machine.execIsaWait core ecc s
  | .isaHalt core ecc => Sys2Proof.Machine.execIsaHalt core ecc s
  | .heNop c => Sys2Proof.Machine.execHeNop c s
  | .heCopy c dma => Sys2Proof.Machine.execHeCopy c dma s
  | .doorbellWrite who off size v => Sys2Proof.Machine.execDoorbellWrite who off size v s
  | .ringCtrlWrite who ty r v => Sys2Proof.Machine.execRingCtrlWrite who ty r v s
  | .descriptorFetch fn r => Sys2Proof.Machine.execDescriptorFetch fn r s
  | .fenceRelease fn r => Sys2Proof.Machine.execFenceRelease fn r s
  | .msixModerationTimeout fn ty r => Sys2Proof.Machine.execMsixModerationTimeout fn ty r s
  | .vfFlr n => Sys2Proof.Machine.execVfFlr n s
  | .vfEnableChange n => Sys2Proof.Machine.execVfEnableChange n s
  | .pcieReset flr => Sys2Proof.Machine.execPcieReset flr s
  | .pcieLinkChange width speed d3hot => Sys2Proof.Machine.execPcieLinkChange width speed d3hot s
  | .heWdKick who v => Sys2Proof.Machine.execHeWdKick who v s
  | .hostWatchdogExpire => Sys2Proof.Machine.execHostWatchdogExpire s
  | .bar4Read off len errs => Sys2Proof.Machine.execBar4Read off len errs s
  | .bar4Write off data => Sys2Proof.Machine.execBar4Write off data s
  | .bootLoad who v => Sys2Proof.Machine.execBootLoad who v s
  | .commitSvn who v => Sys2Proof.Machine.execCommitSvn who v s
  | .flashReadDone image => Sys2Proof.Machine.execFlashReadDone image s
  | .bootSelfTestDone sigs => Sys2Proof.Machine.execBootSelfTestDone sigs s
  | .wiCreate c => Sys2Proof.Machine.execWiCreate c s
  | .wiDelete c => Sys2Proof.Machine.execWiDelete c s
  | .wiReady c => Sys2Proof.Machine.execWiReady c s
  | .woSignal c => Sys2Proof.Machine.execWoSignal c s
  | .wcDrain c => Sys2Proof.Machine.execWcDrain c s
  | .wcResume c => Sys2Proof.Machine.execWcResume c s
  | .wcReload c => Sys2Proof.Machine.execWcReload c s
  | .wiDispatch => Sys2Proof.Machine.execWiDispatch s
  | .schDoneStore core => Sys2Proof.Machine.execSchDoneStore core s
  | .schYieldStore core => Sys2Proof.Machine.execSchYieldStore core s
  | .schReadyStore core v => Sys2Proof.Machine.execSchReadyStore core v s
  | .schWaitStore core v => Sys2Proof.Machine.execSchWaitStore core v s
  | .schSignalStore core v => Sys2Proof.Machine.execSchSignalStore core v s
  | .schOnlineStore core => Sys2Proof.Machine.execSchOnlineStore core s
  | .schFaultStore core => Sys2Proof.Machine.execSchFaultStore core s
  | .slotGo core slot go => Sys2Proof.Machine.execSlotGo core slot go s
  | .waitDeadline n => Sys2Proof.Machine.execWaitDeadline n s
  | .initTimeout core => Sys2Proof.Machine.execInitTimeout core s
  | .drainComplete core => Sys2Proof.Machine.execDrainComplete core s
  | .drainTimeout core => Sys2Proof.Machine.execDrainTimeout core s
  | .wcCoreFault core cause => Sys2Proof.Machine.execWcCoreFault core cause s
  | .runWarnExpire core => Sys2Proof.Machine.execRunWarnExpire core s
  | .riscvInstruction core errs => Sys2Proof.Machine.execRiscvInstruction core errs s
  | .memGroupSet c => Sys2Proof.Machine.execMemGroupSet c s
  | .mstRun c => Sys2Proof.Machine.execMstRun c s
  | .mstCancel c => Sys2Proof.Machine.execMstCancel c s
  | .lcAdvance c => Sys2Proof.Machine.execLcAdvance c s
  | .lcResetDelay => Sys2Proof.Machine.execLcResetDelay s
  | .memErrAddrRead who => Sys2Proof.Machine.execMemErrAddrRead who s
  | .scrubRead errs => Sys2Proof.Machine.execScrubRead errs s
  | .groupWakeDone g => Sys2Proof.Machine.execGroupWakeDone g s
  | .groupClearDone g => Sys2Proof.Machine.execGroupClearDone g s
  | .retentionLost g => Sys2Proof.Machine.execRetentionLost g s
  | .tamperInput cause => Sys2Proof.Machine.execTamperInput cause s
  | .wipeComplete => Sys2Proof.Machine.execWipeComplete s
  | .mstSliceLend r => Sys2Proof.Machine.execMstSliceLend r s
  | .mstSliceEnd r sig => Sys2Proof.Machine.execMstSliceEnd r sig s
  | .mstRetryExpire r => Sys2Proof.Machine.execMstRetryExpire r s
  | .mstGapExpire r => Sys2Proof.Machine.execMstGapExpire r s
  | .outOfUseTestDone r sig => Sys2Proof.Machine.execOutOfUseTestDone r sig s
  | .twinJoin c => Sys2Proof.Machine.execTwinJoin c s
  | .twinHandover c => Sys2Proof.Machine.execTwinHandover c s
  | .beatReceive arrival f back => Sys2Proof.Machine.execBeatReceive arrival f back s
  | .hbPulseReceive arrival ns => Sys2Proof.Machine.execHbPulseReceive arrival ns s
  | .beatWindowClose => Sys2Proof.Machine.execBeatWindowClose s
  | .txFrameReceive f => Sys2Proof.Machine.execTxFrameReceive f s
  | .fbFrameSend lane => Sys2Proof.Machine.execFbFrameSend lane s
  | .fbFrameReceive lane f => Sys2Proof.Machine.execFbFrameReceive lane f s
  | .rxFrameReceive lane ok f => Sys2Proof.Machine.execRxFrameReceive lane ok f s
  | .portFrameReceive ok ports misses probes => Sys2Proof.Machine.execPortFrameReceive ok ports misses probes s
  | .cycFrameReceive lane f => Sys2Proof.Machine.execCycFrameReceive lane f s
  | .tickFrameReceive lane ok part => Sys2Proof.Machine.execTickFrameReceive lane ok part s
  | .jrnlFrameReceive lane ok es => Sys2Proof.Machine.execJrnlFrameReceive lane ok es s
  | .ackFrameReceive ok n => Sys2Proof.Machine.execAckFrameReceive ok n s
  | .controlFrameReceive ok m => Sys2Proof.Machine.execControlFrameReceive ok m s
  | .revertHoldoffExpire => Sys2Proof.Machine.execRevertHoldoffExpire s
  | .zoneMismatchExpire zone => Sys2Proof.Machine.execZoneMismatchExpire zone s
  | .snapshotLoss => Sys2Proof.Machine.execSnapshotLoss s
  | .ckDomainSet c => Sys2Proof.Machine.execCkDomainSet c s
  | .ckDeviceReset c => Sys2Proof.Machine.execCkDeviceReset c s
  | .deviceResetDelay => Sys2Proof.Machine.execDeviceResetDelay s
  | .resetNAssert => Sys2Proof.Machine.execResetNAssert s
  | .pwrFailAssert => Sys2Proof.Machine.execPwrFailAssert s
  | .supplyTrip rail => Sys2Proof.Machine.execSupplyTrip rail s
  | .refClkLoss => Sys2Proof.Machine.execRefClkLoss s
  | .refClkReturn => Sys2Proof.Machine.execRefClkReturn s
  | .clockMonitorWindow lock errs => Sys2Proof.Machine.execClockMonitorWindow lock errs s
  | .domainAutoStop d => Sys2Proof.Machine.execDomainAutoStop d s
  | .domainPowerUpDone => Sys2Proof.Machine.execDomainPowerUpDone s
  | .thermalSample temps => Sys2Proof.Machine.execThermalSample temps s
  | .analogueDieReset => Sys2Proof.Machine.execAnalogueDieReset s
  | .analogueCalibrationDone => Sys2Proof.Machine.execAnalogueCalibrationDone s
  | .blockLockGained ch port => Sys2Proof.Machine.execBlockLockGained ch port s
  | .twinLaneLockChange lane lock delay => Sys2Proof.Machine.execTwinLaneLockChange lane lock delay s
  | .resetRelease bootSel => Sys2Proof.Machine.execResetRelease bootSel s
  | .readCompletion id data err => Sys2Proof.Machine.execReadCompletion id data err s
  | .domainRegisterRead who off => Sys2Proof.Machine.execDomainRegisterRead who off s

end Sys2Proof.Machine
end

