-- ==== Sys2Proof/Safety.lean ====
section
/-!
DEFINITION. The terms of the claims: what it means that a command answers a state, that it is admitted and completes, what a step leaves
as it was, that a register write is taken, and the canonical form of a state.
-/
namespace Sys2Proof

/-- A descriptor with an opcode: a meaning reads its command as one of its own row. -/
def Cmd.as (c : Cmd) (op : Nat) : Cmd := { c with op := op }

end Sys2Proof

namespace Sys2Proof.Machine

/-- The command answers a next state with property `P`. -/
def State.answers (s : State) (i : Instr) (P : State → Prop) : Prop := ∃ t, exec i s = .next t ∧ P t

/-- The descriptor `c` takes its effect, a state with property `P`, and completes at once with a status and a block-specific byte. -/
def State.completes (s : State) (i : Instr) (c : Cmd) (status blk : Nat) (P : State → Prop) : Prop :=
  ∃ u, exec i s = .next (u.complete c status blk) ∧ P u

/-! ### Admission (R49, R51, R713, R747) -/

/-- The checks that hang on the issuer, the descriptor's form and the block: its block answers (R747), the issuer may send it and reaches the
addresses (check 1 of R49), the octets that its row leaves unused are 0 (check 2), its block is not a mirrored one of a standby (R713). -/
def State.admits (s : State) (c : Cmd) (iss : Issuer) (addrs uses : List (Nat × Nat)) : Bool :=
  !s.blockAway (c.op / 256) && (firstFail (check1 c iss addrs)).isNone && c.onlyUses uses && !s.mirrorStop c

/-- The descriptor may take its effect: it was accepted before (R51), or it is admitted and what the row asks of the state holds. -/
def State.may (s : State) (c : Cmd) (op : Nat) (iss : Issuer) (addrs uses : List (Nat × Nat)) (legal : Prop) : Prop :=
  c.accepted = true ∨ (s.admits (c.as op) iss addrs uses = true ∧ legal)

/-- The state in which an admitted command takes effect: its domain woken (R750), the command journaled by an active unit (R714). -/
def State.ready1 (s : State) (c : Cmd) : State :=
  let s := s.wakeDom (domainOf (c.op / 256))
  if c.accepted || c.reads then s else s.journalCmd c []

/-- A command row that a virtual function may not send, by opcode (the issuers of R49, check 1). -/
def pfRow (op : Nat) (i : Cmd → Instr) : Prop := (op, i) ∈ (
  [(0x0001, .setDeviceMode), (0x0002, .foulFlush), (0x0201, .timeSlew), (0x0202, .timeSetRate), (0x0203, .timeStep), (0x0204, .actArm),
  (0x0205, .actDisarm), (0x0301, .linkStage), (0x0302, .linkStart), (0x0303, .linkStop), (0x0304, .linkCommit), (0x0305,
  .linkPortOpen), (0x0306, .linkPortClose), (0x0307, .linkNodeCtrl), (0x0308, .linkMgmt), (0x040F, .zoneSet), (0x0502, .optCommit),
  (0x0601, .srvCommit), (0x0602, .srvCopy), (0x0701, .sepEnable), (0x0702, .sepDisable), (0x0704, .sepCopyField), (0x0801, .sfAuth),
  (0x0802, .sfLogout), (0x0803, .sfSetPassword), (0x0804, .sfZoneBegin), (0x0805, .sfZoneWrite), (0x0806, .sfPairWrite), (0x0807,
  .sfBrkWrite), (0x0808, .sfTpWrite), (0x0809, .sfZoneCommit), (0x080A, .sfZoneAbort), (0x080B, .sfZoneReset), (0x080C, .sfZoneUnlock),
  (0x080D, .sfLogRead), (0x080E, .sfReadCfg), (0x0901, .laSetCount), (0x0902, .laCmpEnable), (0x0A01, .acqSetStart), (0x0A02,
  .acqSetStop), (0x0A03, .acqArm), (0x0B02, .scCommit), (0x0B03, .scStart), (0x0B04, .scHalt), (0x0B05, .scKick), (0x0C01, .wiCreate),
  (0x0C02, .wiDelete), (0x0C03, .wiReady), (0x0C04, .woSignal), (0x0C05, .wcDrain), (0x0C06, .wcResume), (0x0C07, .wcReload), (0x0D01,
  .memGroupSet), (0x0D02, .mstRun), (0x0D03, .mstCancel), (0x0D04, .lcAdvance), (0x0E01, .twinJoin), (0x0E02, .twinHandover), (0x0F01,
  .ckDomainSet), (0x0F02, .ckDeviceReset)] : List (Nat × (Cmd → Instr)))

/-! ### What stays as it was -/

/-- The parts of the state beside registers, shared SRAM, the log and what has been sent. -/
inductive Part where
  | host | time | wc | mem | sc | la | laPulse | acq | link | srv | pl | opt | sep | sf | twin | clk | modeCmd | free
  deriving DecidableEq, Repr

/-- A part is the same in two states; `host` apart from the fetched commands, which a completion removes; `twin` apart from the journal,
which lists the entries not acknowledged (R734). -/
def Part.same (s t : State) : Part → Prop
  | .host => { t.host with fetched := s.host.fetched } = s.host
  | .time => t.time = s.time
  | .wc => t.wc = s.wc
  | .mem => t.mem = s.mem
  | .sc => t.sc = s.sc
  | .la => t.la = s.la
  | .laPulse => t.laPulse = s.laPulse
  | .acq => t.acq = s.acq
  | .link => t.link = s.link
  | .srv => t.srv = s.srv
  | .pl => t.pl = s.pl
  | .opt => t.opt = s.opt
  | .sep => t.sep = s.sep
  | .sf => t.sf = s.sf
  | .twin => { t.twin with journal := s.twin.journal } = s.twin
  | .clk => t.clk = s.clk
  | .modeCmd => t.modeCmd = s.modeCmd ∧ t.modeOver = s.modeOver
  | .free => t.free = s.free

/-- The frame: registers outside `own`, shared SRAM, the queue, and every part outside `parts` are as before. -/
def State.keeps (s t : State) (own : Nat → Bool) (parts : List Part) : Prop :=
  (∀ o, own o = false → t.reg o = s.reg o) ∧ t.mem.sram = s.mem.sram ∧ t.mem.poison = s.mem.poison ∧ t.pending = s.pending ∧
  ∀ p : Part, p ∉ parts → p.same s t

/-- Registers that waking a domain (R750), journaling (R734) and recording a foul (R64) may change. -/
def doorReg (o : Nat) : Bool :=
  o == Reg.FOUL_DROPPED || o == Reg.TWIN_JOURNAL || decide (Reg.PWR_DOMAIN 0 ≤ o ∧ o < Reg.PWR_DOMAIN 8)

/-- The registers of `doorReg`, and those listed. -/
def among (l : List Nat) (o : Nat) : Bool := doorReg o || l.contains o

/-- The registers of `doorReg`, and those of a block. -/
def inBlock (b o : Nat) : Bool := doorReg o || blockOf o == b

/-- Registers that a completion may change beside those of `doorReg`: of the rings, the MSI-X tables and the pages of the VFs, of the command
slots, wait objects and items of work cores. -/
def answerReg (o : Nat) : Bool :=
  doorReg o || decide (0x100000 ≤ o ∧ o < 0x200000) || decide (0xC00000 ≤ o ∧ o < 0xD00000) || decide (0x4000000 ≤ o)

/-! ### Writes -/

/-- A write of `v` at an offset of an initiator's view reaches the 32-bit register row `r` at `k`, and none of R11, R14–R17, R36, R713 and R747
stands against it. -/
def State.takesWrite (s : State) (who : Init) (off k : Nat) (vf : Bool) (r : RegRow) (v : Word) : Prop :=
  off % 4 = 0 ∧ s.place who off = some (.reg k vf) ∧ findRow k = some r ∧ writable r = true ∧ r.pair = 0 ∧
  s.domState (domainOf (blockOf k)) = 0 ∧ ¬ (Reg.PWR_DOMAIN 0 ≤ k ∧ k < Reg.PWR_DOMAIN 8) ∧ s.mirrorBar false k = false ∧
  s.writeBar k v = none ∧ s.zoneHold k v = (v, false) ∧ unranged k = false ∧ rangesOk r vf (s.lockSet k) v = true ∧
  s.moreRanges k v = true ∧ (vf && hitsPriv r v) = false ∧ hitsLock r vf (s.lockSet k) (s.reg k) v = false

/-! ### Signal cores -/

/-- An instruction word of format R: OP, d, s, t and the lowest bits (R564). -/
def scWord (op d s t low : Nat) : Nat := op * 2 ^ 26 + d * 2 ^ 22 + s * 2 ^ 18 + t * 2 ^ 14 + low

/-- Core `c` is about to issue the word `w`: it is RUNNING, no interrupt entry is due, PC is no loop end and not the last address, no branch is
pending and every earlier write has landed. -/
def State.scRuns (s : State) (c w : Nat) : Prop :=
  c < 8 ∧ s.scState c = 1 ∧ s.scIntDue c = false ∧ s.scFetch c = w ∧ s.scAtEnd c 0 = false ∧ s.scAtEnd c 1 = false ∧
  (s.scCore c).branch = none ∧ (s.scCore c).reti = false ∧ (s.scCore c).pend = [] ∧ s.scPc c < 0x1FFF

/-- The instruction is done: core `c` is as `core` says, its SR and PC as given, it is RUNNING, and nothing else changes. -/
def State.scDone (s t : State) (c : Nat) (core : ScSt) (sr pc : Nat) : Prop :=
  t.scCore c = { core with loopEnd := false } ∧ (∀ k, k ≠ c → t.scCore k = s.scCore k) ∧ t.scSr c = sr ∧ t.scPc c = pc ∧ t.scState c = 1 ∧
  s.keeps t (among [Reg.SC_STATE c, Reg.SC_SR c, Reg.SC_BUSY c]) [.sc, .free]

/-- D register `d` of a core takes a value. -/
def ScSt.withD (z : ScSt) (d v : Nat) : ScSt := { z with d := tabSet (fun _ => 0) z.d d (BitVec.ofNat 16 v) }

/-- Accumulator `n` of a core takes a value, which SAT sees later (R573). -/
def ScSt.withAcc (z : ScSt) (n : Nat) (x : Int) : ScSt :=
  { z with acc := tabSet (fun _ => 0) z.acc n (BitVec.ofInt 40 (satS 40 x)), pend := [⟨1, .accSat n, ofSigned 40 (satS 40 x)⟩] }

/-- Address register `i` after an access with PM `pm` (R569). -/
def State.scSpAfter (s : State) (c i : Nat) (pm : Bool) (m : Tab (BitVec 16)) : Tab (BitVec 16) :=
  if pm then tabSet (fun _ => 0) m i (BitVec.ofNat 16 (s.scNext c i (s.scM c i))) else m

/-- SR with a sticky flag set on a condition. -/
def srWith (sr f : Nat) (on : Bool) : Nat := if on then (sr ||| 2 ^ f) % 2 ^ 16 else sr

/-! ### Work cores -/

/-- Core `c` executes the 32-bit instruction `i`: it runs, no interrupt is taken, and the fetch at its pc is allowed and reads `i`. -/
def State.rvRuns (s : State) (c i : Nat) : Prop :=
  let r := (s.core c).rv
  c < 16 ∧ s.coreRuns c = true ∧ (s.core c).takesIrq = false ∧ r.fetchOk r.pc.toNat = true ∧ r.fetchOk (r.pc.toNat + 2) = true ∧ i % 4 = 3 ∧
  leAt (memRead (s.core c).iram r.pc.toNat 4) 0 4 = i

/-- `minstret` counts an instruction that retires. -/
def RvSt.retired (r : RvSt) : RvSt := if bit r.mcountinhibit.toNat 2 then r else { r with minstret := r.minstret + 1 }

/-- Core `c` is as `z` says, and nothing else changes. -/
def State.rvDone (s t : State) (c : Nat) (z : CoreSt) : Prop :=
  t.core c = z ∧ (∀ k, k ≠ c → t.core k = s.core k) ∧ t.wc.items = s.wc.items ∧ s.keeps t (fun _ => false) [.wc]

/-- The registers of core `c` are as `r` says after an instruction that retires, and nothing else changes. -/
def State.rvStep (s t : State) (c : Nat) (r : RvSt) : Prop := s.rvDone t c { s.core c with rv := r.retired }

/-! ### Canonical form -/

/-- The register table is canonical: keys strictly rising, no entry equal to the register's reset value. -/
def State.regsWf (s : State) : Prop := tabWf regReset 0 s.regs = true

/-- Shared SRAM is canonical. -/
def State.sramWf (s : State) : Prop := Memory.wf s.mem.sram = true

end Sys2Proof.Machine
end

