-- ==== Sys2Proof/Certificates/Slice0/Obligations.lean ====
section
/-!
DEFINITION. The statements about this model, one proposition each.
-/
open Sys2Proof Sys2Proof.Machine

/-! ### The block as a whole -/

/-- The row's contract: a step runs the command at the front of the queue on the state with the queue's rest, and with no command
waiting one TCLK cycle passes (the latter DESIGN CHOICE, notes/assumptions/1.md). -/
def Obligations.StepRunsFrontCommand : Prop :=
  (∀ (s : State) (c : Instr) (q : List Instr), s.pending = c :: q → step s = exec c (s.withPending q)) ∧
  (∀ s : State, s.pending = [] → step s = .next s.tclkTick)

/-- R18, R71 and R21 of the state after reset: every register reads its Reset column, both views have offset and rate 0, plant time is in
holdover, the mode is BOOT, no entry is armed, no command waits. -/
def Obligations.ResetLeavesStatedValues : Prop :=
  (∀ o, State.reset.reg o = regReset o) ∧
  State.reset.time.raw = 0 ∧ (∀ w, w < 2 → State.reset.view w = { ofs := 0, rate := 0, slew := 0 }) ∧
  State.reset.flag Reg.TB_STATUS F.TB_STATUS_PLANT_HOLDOVER = true ∧ State.reset.mode = mBoot ∧
  State.reset.armedEntries = [] ∧ State.reset.pending = [] ∧ State.reset.regsWf ∧ State.reset.sramWf

/-- R66, R74: a TCLK cycle adds one to the raw counter; each view's offset moves toward its correction by at most δ, by what the remainder
loses, and never past it; rates, registers, memory and queue stay. -/
def Obligations.TclkCycleCountsAndSlews : Prop :=
  ∀ s : State, let t := s.tclkTick
    t.time.raw = s.time.raw + 1 ∧
    (∀ w, w < 2 →
      (t.view w).rate = (s.view w).rate ∧ (t.view w).ofs + (t.view w).slew = (s.view w).ofs + (s.view w).slew ∧
      ((t.view w).ofs - (s.view w).ofs).natAbs = min (s.view w).slew.natAbs (slewStep (s.slewPpm w)) ∧
      (t.view w).slew.natAbs + ((t.view w).ofs - (s.view w).ofs).natAbs = (s.view w).slew.natAbs) ∧
    s.keeps t (among []) [.time]

/-- No command changes the queue of those that wait behind it. -/
def Obligations.ExecLeavesQueue : Prop :=
  ∀ (c : Instr) (s t : State), exec c s = .next t → t.pending = s.pending

/-- The canonical form of the register table is kept by every step from every state that has it. -/
def Obligations.StepKeepsRegistersCanonical : Prop :=
  ∀ s t : State, s.regsWf → step s = .next t → t.regsWf

/-- The canonical form of shared SRAM is kept by every step from every state that has it. -/
def Obligations.StepKeepsSramCanonical : Prop :=
  ∀ s t : State, s.sramWf → step s = .next t → t.sramWf

/-- R66: the raw counter, of 64 bits, counts every TCLK cycle; the power-on reset of PD0 clears it; no command changes it but that reset and what R764
makes one: a trip of a rail of PD0 (rails 0 and 1 here). -/
def Obligations.OnlyPowerOnClearsRaw : Prop :=
  (∀ s : State, s.tclkTick.time.raw = s.time.raw + 1) ∧
  (∀ s : State, s.answers .powerOnResetPd0 fun t => t.time.raw = 0) ∧
  (∀ (c : Instr) (s t : State), c ≠ .powerOnResetPd0 → c ≠ .supplyTrip 0 → c ≠ .supplyTrip 1 → exec c s = .next t → t.time.raw = s.time.raw)

/-! ### Register reads -/

/-- R14, R747, R9: a read of space without a register answers 0 and records foul 0x0110, a read of a block that is OFF or in RESET answers 0 and records
0x0F13, and neither changes a register. R9, R14, R15: a write that is not an aligned 32-bit one changes nothing; one to space without a register
records foul 0x0111; one with a value out of range records low byte 0x02; neither changes a register but the count of drops. -/
def Obligations.AccessesThatDoNothing : Prop :=
  (∀ (who : Init) (off o : Nat) (s : State), s.place who off = some (.hole o) → s.domState (domainOf (blockOf o)) < 2 →
    s.answers (.unmappedRead who off) fun t =>
      t = ((s.wakeDom (domainOf (blockOf o))).post 0x0110 (srcInit 1 who) (det [(20, 4, o)])).emit (.readData who off [0, 0, 0, 0] false) ∧
      s.keeps t (among []) []) ∧
  (∀ (who : Init) (off k : Nat) (vf : Bool) (s : State), s.place who off = some (.reg k vf) →
    2 ≤ s.domState (domainOf (blockOf k)) →
    s.answers (.domainRegisterRead who off) fun t =>
      t = (s.post 0x0F13 (srcInit 15 who) (det [(16, 1, domainOf (blockOf k)), (20, 4, pfOffset who off)])).emit
        (.readData who off [0, 0, 0, 0] false) ∧
      s.keeps t (among []) []) ∧
  (∀ (who : Init) (off size : Nat) (v : Word) (s : State), size ≠ 4 ∨ off % 4 ≠ 0 → exec (.registerWrite who off size v) s = .next s) ∧
  (∀ (who : Init) (off o : Nat) (v : Word) (s : State), off % 4 = 0 → s.place who off = some (.hole o) →
    s.domState (domainOf (blockOf o)) < 2 →
    exec (.registerWrite who off 4 v) s = .next ((s.wakeDom (domainOf (blockOf o))).post 0x0111 (srcInit 1 who) (det [(20, 4, o)]))) ∧
  (∀ (who : Init) (off k : Nat) (vf : Bool) (r : RegRow) (v : Word) (s : State), off % 4 = 0 → s.place who off = some (.reg k vf) →
    findRow k = some r → writable r = true → r.pair = 0 → s.domState (domainOf (blockOf k)) = 0 →
    blockOf k ∈ [8, 10, 12, 13] → s.writeBar k v = none → unranged k = false → rangesOk r vf (s.lockSet k) v = false →
    exec (.registerWrite who off 4 v) s =
      .next (s.post (blockOf k * 256 + 2) (srcInit (blockOf k) who) (det [(20, 4, pfOffset who off), (24, 4, v.toNat)])))

/-- R10: a read of `_LO` answers the lower half and latches the upper half for its initiator; a read of `_HI` answers the latched half, or the present
one, and releases the latch; no register changes. R11, R12, R675, R496, R537: reads with a side effect. An RC register answers its value and loses its
RC fields; `MEM_ERR_ADDR_LO` re-arms the capture; `LA_CH_LATCH_TIME_HI` and `ACQ_U_LOST_HI` remove the head of their queue. -/
def Obligations.ReadsThatAct : Prop :=
  (∀ (who : Init) (off k : Nat) (r : RegRow) (s : State), s.place who off = some (.reg k false) → findRow k = some r → r.pair = 1 →
    s.domState (domainOf (blockOf k)) = 0 →
    s.answers (.pairLoRead who off) fun t =>
      t.egress = .readData who off (leBytes 4 (s.readVal k &&& reachMask r false).toNat) false :: s.egress ∧
      tabGet (fun _ => none) t.host.latch (pairKey who k) = some (s.readVal (k + 4)) ∧ t.regs = s.regs ∧ t.log = s.log) ∧
  (∀ (who : Init) (off k : Nat) (r : RegRow) (v : Word) (s : State), s.place who off = some (.reg k false) → findRow k = some r →
    r.pair = 2 → s.domState (domainOf (blockOf k)) = 0 →
    tabGet (fun _ => none) s.host.latch (pairKey who (k - 4)) = some v →
    s.answers (.pairHiRead who off) fun t =>
      t.egress = .readData who off (leBytes 4 v.toNat) false :: s.egress ∧
      tabGet (fun _ => none) t.host.latch (pairKey who (k - 4)) = none ∧
      (blockOf k ≠ 9 → blockOf k ≠ 10 → t.regs = s.regs ∧ t.log = s.log)) ∧
  (∀ (who : Init) (off k : Nat) (vf : Bool) (r : RegRow) (s : State), s.place who off = some (.reg k vf) → findRow k = some r →
    r.pair = 0 → s.domState (domainOf (blockOf k)) = 0 →
    s.answers (.rcRegisterRead who off) fun t =>
      t.egress = .readData who off (leBytes 4 (s.readVal k &&& reachMask r vf).toNat) false :: s.egress ∧
      t.reg k = clearRc r vf (s.reg k) ∧ s.keeps t (fun o => o == k) []) ∧
  (∀ (s : State), s.inReset = false → s.domState 1 = 0 → s.small = false →
    s.answers (.memErrAddrRead .pf) fun t =>
      t.mem.captured = false ∧ t.egress = .readData .pf Reg.MEM_ERR_ADDR (leBytes 4 (s.reg Reg.MEM_ERR_ADDR).toNat) false :: s.egress ∧
      t.regs = s.regs) ∧
  (∀ (ch : Nat) (s : State), ch < 32 → s.inReset = false → s.domState 6 = 0 → s.small = false →
    s.answers (.latchTimeHiRead .pf ch) fun t => (t.laCh ch).latch = (s.laCh ch).latch.drop 1) ∧
  (∀ (u : Nat) (s : State), u < 16 → s.inReset = false → s.domState 6 = 0 → s.small = false →
    s.answers (.acqLostHiRead .pf u) fun t => (t.aU u).lost = (s.aU u).lost.drop 1)

/-! ### Register writes -/

/-- R11, R16, R17: what a write leaves in each field of a register of the tables: an RW field, or an RWL field not locked, takes the value; a
W1C field loses the bits written 1; a W1S field gains them; any other keeps its value; a field that a VF may not reach keeps its value. -/
def Obligations.WriteLeavesEachFieldByItsAccessCode : Prop :=
  ∀ (o : Nat) (r : RegRow) (f : FieldRow) (vf lock : Bool) (old v : Word), findRow o = some r → f ∈ r.fields →
    fldOf (newValue r vf lock old v) f.fld =
      if vf && !f.g then fldOf old f.fld
      else match f.acc with
        | .rw => fldOf v f.fld
        | .rwl => if lock then fldOf old f.fld else fldOf v f.fld
        | .w1c => fldOf old f.fld &&& (2 ^ f.fld.w - 1 - fldOf v f.fld)
        | .w1s => fldOf old f.fld ||| fldOf v f.fld
        | _ => fldOf old f.fld

/-- R9, R11: a write that nothing stands against leaves the value of `newValue` in its register; of the blocks whose writes do nothing beside
it, nothing else changes. A lock bit that is set locks its block (R17). -/
def Obligations.RegisterWriteTakes : Prop :=
  (∀ (who : Init) (off k : Nat) (vf : Bool) (r : RegRow) (v : Word) (s : State), s.takesWrite who off k vf r v →
    blockOf k ∈ [4, 8, 10, 12, 13, 15] →
    s.answers (.registerWrite who off 4 v) fun t =>
      t.reg k = newValue r vf (s.lockSet k) (s.reg k) v ∧ s.keeps t (among [k]) [.host, .twin]) ∧
  (∀ (who : Init) (off k : Nat) (r : RegRow) (v : Word) (s : State), k = Reg.LINK_CTRL ∨ k = Reg.RST_CTRL →
    s.takesWrite who off k false r v → v.msb = true →
    s.answers (.lockBitSet who off v) fun t => t.lockSet k = true ∧ s.keeps t (among [k]) [])

/-- R10: a write of `_LO` is held for its initiator; a write of `_HI` by an initiator that holds one makes both halves take effect together and
releases it; without one it is ignored as a whole with low byte 0x02. -/
def Obligations.PairWritesTakeEffectTogether : Prop :=
  (∀ (who : Init) (off k : Nat) (r : RegRow) (v : Word) (s : State), off % 4 = 0 → s.place who off = some (.reg k false) →
    findRow k = some r → writable r = true → r.pair = 1 → s.domState (domainOf (blockOf k)) = 0 → blockOf k ∈ [8, 10, 12, 13] →
    s.answers (.pairLoWrite who off v) fun t =>
      tabGet (fun _ => none) t.host.held (pairKey who k) = some v ∧ t.regs = s.regs) ∧
  (∀ (who : Init) (off k : Nat) (r : RegRow) (l v : Word) (s : State), off % 4 = 0 → s.place who off = some (.reg k false) →
    findRow k = some r → writable r = true → r.pair = 2 → s.domState (domainOf (blockOf k)) = 0 → blockOf k ∈ [8, 10, 12, 13] →
    tabGet (fun _ => none) s.host.held (pairKey who (k - 4)) = some l → s.writeBar (k - 4) v = none → rangesOk r false false v = true →
    s.answers (.pairHiWrite who off v) fun t =>
      tabGet (fun _ => none) t.host.held (pairKey who (k - 4)) = none ∧ t.reg (k - 4) = l ∧ t.reg k = v ∧
      s.keeps t (fun o => o == k - 4 || o == k) [.host]) ∧
  (∀ (who : Init) (off k : Nat) (r : RegRow) (v : Word) (s : State), off % 4 = 0 → s.place who off = some (.reg k false) →
    findRow k = some r → writable r = true → r.pair = 2 → s.domState (domainOf (blockOf k)) = 0 → blockOf k ∈ [8, 10, 12, 13] →
    tabGet (fun _ => none) s.host.held (pairKey who (k - 4)) = none →
    exec (.pairHiWrite who off v) s =
      .next (s.post (blockOf k * 256 + 2) (srcInit (blockOf k) who) (det [(20, 4, pfOffset who off), (24, 4, v.toNat)])))

/-- R61, R44: writing ones to `DEV_DEFECT` clears those bits; in DEGRADED, clearing the last one returns the device to OPERATE. R72: SNAP captures raw
count, cell time and plant time of one cycle. R628: a kick restarts the watchdog. R320, R588, R512: what the writes of `DEADLINE_PCT`, `SC_IN_CFG` and
`LA_CH_CFG.RUN` do. R376, R498, R511, R77, R629, R634, R614: the writes of `SRV_AX_CFG`, `LA_CMP_CTRL`, `LA_CH_ERR`, `DISC_SAMPLE_HI`, `BOOT_CTRL` and
`RING_CTRL`. -/
def Obligations.WritesThatActAndConfigure : Prop :=
  (∀ (who : Init) (v : Word) (r : RegRow) (s : State), s.takesWrite who Reg.DEV_DEFECT Reg.DEV_DEFECT false r v →
    s.answers (.defectClear who v) fun t =>
      (∀ b, b < 8 → bit t.defects b = (bit s.defects b && !bit v.toNat b)) ∧
      (s.mode = mDegraded → s.defects < 256 → s.defects ≠ 0 → (∀ b, b < 8 → bit s.defects b = true → bit v.toNat b = true) → t.mode = mOperate) ∧
      (s.mode ≠ mDegraded → t.mode = s.mode)) ∧
  (∀ (who : Init) (v : Word) (r : RegRow) (s : State), s.takesWrite who Reg.TB_CTRL Reg.TB_CTRL false r v → fldOf v F.TB_CTRL_SNAP = 1 →
    s.answers (.timeSnap who v) fun t =>
      t.reg64 Reg.SNAP_RAW = s.time.raw ∧ t.reg64 Reg.SNAP_CELL = s.cell ∧ t.reg64 Reg.SNAP_PLANT = s.plantNow ∧
      s.keeps t (among [Reg.TB_CTRL, Reg.SNAP_RAW, Reg.SNAP_RAW + 4, Reg.SNAP_CELL, Reg.SNAP_CELL + 4, Reg.SNAP_PLANT, Reg.SNAP_PLANT + 4]) []) ∧
  (∀ (who : Init) (v : Word) (r : RegRow) (s : State), s.takesWrite who Reg.HE_WD_KICK Reg.HE_WD_KICK false r v →
    s.answers (.heWdKick who v) fun t => t.host = { s.host with wdFrom := s.cell } ∧ s.keeps t (among [Reg.HE_WD_KICK]) [.host]) ∧
  (∀ (who : Init) (v : Word) (r : RegRow) (s : State), s.takesWrite who Reg.OPT_CTRL Reg.OPT_CTRL false r v →
    s.lentClu = [] ∨ s.meets s.optProg 1 (v.toNat % 256) = true →
    s.answers (.deadlinePctWrite who v) fun t => t.fld Reg.OPT_CTRL F.OPT_CTRL_DEADLINE_PCT = v.toNat % 256) ∧
  (∀ (who : Init) (core f : Nat) (v : Word) (r : RegRow) (s : State), core < 8 → f < 4 →
    s.takesWrite who (Reg.SC_IN_CFG core f) (Reg.SC_IN_CFG core f) false r v →
    s.answers (.scInCfgWrite who core f v) fun t =>
      t.scFifo core f = [] ∧ t.reg (Reg.SC_IN_CFG core f) = newValue r false false (s.reg (Reg.SC_IN_CFG core f)) v) ∧
  (∀ (who : Init) (ch : Nat) (v : Word) (r : RegRow) (s : State), ch < 32 →
    s.takesWrite who (Reg.LA_CH_CFG ch) (Reg.LA_CH_CFG ch) false r v →
    s.answers (.laRunWrite who ch v) fun t => t.laRun ch = v.msb ∧ bit (t.reg Reg.LA_STATUS).toNat ch = v.msb) ∧
  (∀ (who : Init) (a : Nat) (v : Word) (r : RegRow) (s : State), a < 224 →
    s.takesWrite who (Reg.SRV_AX_CFG a) (Reg.SRV_AX_CFG a) false r v →
    s.answers (.srvAxCfgWrite who a v) fun t =>
      t.reg (Reg.SRV_AX_CFG a) = newValue r false false (s.reg (Reg.SRV_AX_CFG a)) v ∧
      ((s.reg (Reg.SRV_AX_CFG a)).msb = false → v.msb = true → t.srvAx a = {}) ∧ s.keeps t (among [Reg.SRV_AX_CFG a]) [.srv]) ∧
  (∀ (who : Init) (ch e : Nat) (v : Word) (r : RegRow) (s : State), ch < 32 → e < 64 →
    s.takesWrite who (Reg.LA_CMP_CTRL ch e) (Reg.LA_CMP_CTRL ch e) false r v →
    s.answers (.laCmpCtrlWrite who ch e v) fun t =>
      (∀ h, (s.laCh ch).heldPos.find? (fun h => decide (h.1 = who) && h.2.1 == e) = some h → t.reg (Reg.LA_CMP_POS ch e) = h.2.2) ∧
      (∀ h, (s.laCh ch).heldInc.find? (fun h => decide (h.1 = who) && h.2.1 == e) = some h → t.reg (Reg.LA_CMP_INC ch e) = h.2.2) ∧
      t.reg (Reg.LA_CMP_CTRL ch e) = newValue r false false (s.reg (Reg.LA_CMP_CTRL ch e)) v ∧
      (fldOf v F.LA_CMP_CTRL_VALID = 0 → bit (t.reg64 (Reg.LA_CH_CMP_ARMED ch)).toNat e = false)) ∧
  (∀ (who : Init) (ch : Nat) (v : Word) (r : RegRow) (s : State), ch < 32 →
    s.takesWrite who (Reg.LA_CH_ERR ch) (Reg.LA_CH_ERR ch) false r v → fldOf v F.LA_CH_ERR_CHOP_FAULT = 0 →
    s.answers (.laErrClear who ch v) fun t =>
      t.reg (Reg.LA_CH_ERR ch) = newValue r false false (s.reg (Reg.LA_CH_ERR ch)) v ∧ s.keeps t (among [Reg.LA_CH_ERR ch]) []) ∧
  (∀ (who : Init) (l v : Word) (s : State), s.place who (Reg.DISC_SAMPLE + 4) = some (.reg (Reg.DISC_SAMPLE + 4) false) → s.role < 2 →
    tabGet (fun _ => none) s.host.held (pairKey who Reg.DISC_SAMPLE) = some l → s.domState 0 = 0 →
    s.flag Reg.DISC_CTRL F.DISC_CTRL_ENABLE = true → s.flag Reg.DISC_STATUS F.DISC_STATUS_BUSY = false →
    s.answers (.discSampleCommit who v) fun t =>
      t.time.sample = BitVec.ofNat 64 (l.toNat + v.toNat * 2 ^ 32) ∧ t.flag Reg.DISC_STATUS F.DISC_STATUS_BUSY = true) ∧
  (∀ (who : Init) (v : Word) (s : State), s.place who Reg.BOOT_CTRL = some (.reg Reg.BOOT_CTRL false) → s.mode = mBoot →
    s.fld Reg.BOOT_STATUS F.BOOT_STATUS_STATE = 1 → fldOf v F.BOOT_CTRL_LOAD = 1 → fldOf v F.BOOT_CTRL_COMMIT_SVN = 0 →
    exec (.bootLoad who v) s = .next ((s.put Reg.BOOT_STATUS F.BOOT_STATUS_STATE 2).bootGo)) ∧
  (∀ (who : Init) (v : Word) (s : State), s.place who Reg.BOOT_CTRL = some (.reg Reg.BOOT_CTRL false) → s.mode = mConfig →
    s.lifeCycle = 1 ∨ s.lifeCycle = 2 → fldOf v F.BOOT_CTRL_LOAD = 0 → fldOf v F.BOOT_CTRL_COMMIT_SVN = 1 →
    s.answers (.commitSvn who v) fun t =>
      t.mem.fuse.svnMin = max s.mem.fuse.svnMin (s.fld Reg.BOOT_STATUS F.BOOT_STATUS_SVN) ∧
      t.flag Reg.BOOT_CTRL F.BOOT_CTRL_COMMIT_SVN = true ∧ s.keeps t (among [Reg.BOOT_CTRL]) [.mem]) ∧
  (∀ (n ty q : Nat) (r : RegRow) (v : Word) (s : State), ty < 4 → ringExists 0 ty q = true →
    s.takesWrite .pf (ringCtrl 0 ty q) (ringCtrl 0 ty q) false r v → s.ringOn 0 ty q = false → fldOf v F.RING_CTRL_ENABLE = 1 →
    s.ringAligned 0 ty q (fldOf v F.RING_CTRL_SIZE_LOG) = true → (s.reg64 (ringBase 0 ty q + 0x10)).toNat = 4 * (n + 1) →
    ty = 0 → s.ringOn 0 1 (fldOf v F.RING_CTRL_CPL) = true →
    s.answers (.ringCtrlWrite .pf ty q v) fun t =>
      t.ringOn 0 ty q = true ∧ t.devIdx 0 ty q = 0 ∧ t.swIdx 0 ty q = 0 ∧ t.ringSize 0 ty q = 2 ^ fldOf v F.RING_CTRL_SIZE_LOG)

/-! ### Time -/

/-- R68, R74, R76, R105: what the commands of time do to the view they name. TIME_SLEW sets the remaining correction, TIME_SET_RATE the rate without a
jump, TIME_STEP moves the view by its amount; the other view, the registers and the rest stay; a plant correction ends holdover (R81). R74, R81: the
events of the time base. A slew's remainder is taken whole; holdover sets its bit when no correction has come for TIMEOUT seconds, and records 0x0220. -/
def Obligations.TimeMovesAndIsCaptured : Prop :=
  (∀ (c : Cmd) (s : State), c.b 16 < 2 → (c.i 24 8).natAbs ≤ 160000000 →
    s.may c 0x0201 .pfWc [] [(16, 1), (24, 8)]
      (¬ (c.b 16 = 0 ∧ s.cellOwner = 1) ∧ (c.b 16 = 1 → s.flag Reg.DISC_CTRL F.DISC_CTRL_ENABLE = true → s.fromDiscipline (c.as 0x0201) = true)) →
    s.completes (.timeSlew c) (c.as 0x0201) stOK 0 fun u =>
      u.view (c.b 16) = { s.view (c.b 16) with slew := c.i 24 8 * 2 ^ 24 } ∧ u.view (1 - c.b 16) = s.view (1 - c.b 16) ∧
      (c.b 16 = 1 → u.flag Reg.TB_STATUS F.TB_STATUS_PLANT_HOLDOVER = false ∧ u.time.lastCorr = s.plantNow) ∧
      s.keeps u (among [Reg.TB_STATUS]) [.time]) ∧
  (∀ (c : Cmd) (s : State), c.b 16 < 2 →
    s.may c 0x0202 .pfWc [] [(16, 1), (20, 4)]
      (¬ (c.b 16 = 0 ∧ s.cellOwner = 1) ∧ (c.b 16 = 1 → s.flag Reg.DISC_CTRL F.DISC_CTRL_ENABLE = true → s.fromDiscipline (c.as 0x0202) = true)) →
    s.completes (.timeSetRate c) (c.as 0x0202) stOK 0 fun u =>
      (u.view (c.b 16)).rate = c.i 20 4 ∧ (u.view (c.b 16)).slew = (s.view (c.b 16)).slew ∧
      -1 ≤ timeDiff (u.viewNow (c.b 16)) (s.viewNow (c.b 16)) ∧ timeDiff (u.viewNow (c.b 16)) (s.viewNow (c.b 16)) ≤ 1 ∧
      u.view (1 - c.b 16) = s.view (1 - c.b 16) ∧ s.keeps u (among [Reg.TB_STATUS]) [.time]) ∧
  (∀ (c : Cmd) (s : State), c.b 16 < 2 →
    s.may c 0x0203 .pfWc [] [(16, 1), (24, 8)]
      (¬ (c.b 16 = 0 ∧ s.cellOwner = 1) ∧ (c.b 16 = 1 → s.flag Reg.DISC_CTRL F.DISC_CTRL_ENABLE = true → s.fromDiscipline (c.as 0x0203) = true) ∧
        (c.b 16 = 0 → s.mode < 2) ∧ s.viewInUse (c.b 16) = false) →
    s.completes (.timeStep c) (c.as 0x0203) stOK 0 fun u =>
      u.viewNow (c.b 16) = s.viewNow (c.b 16) + BitVec.ofInt 64 (c.i 24 8) ∧ (u.view (c.b 16)).rate = (s.view (c.b 16)).rate ∧
      (u.view (c.b 16)).slew = (s.view (c.b 16)).slew ∧ u.view (1 - c.b 16) = s.view (1 - c.b 16) ∧
      s.keeps u (among [Reg.TB_STATUS]) [.time]) ∧
  (∀ (w : Nat) (s : State), w < 2 → (s.view w).slew ≠ 0 →
    s.answers (.slewComplete w) fun t =>
      t.view w = { s.view w with ofs := (s.view w).ofs + (s.view w).slew, slew := 0 } ∧ t.view (1 - w) = s.view (1 - w) ∧
      s.keeps t (among []) [.time]) ∧
  (∀ s : State, s.flag Reg.TB_STATUS F.TB_STATUS_PLANT_HOLDOVER = false →
    (s.fld Reg.DISC_CTRL F.DISC_CTRL_TIMEOUT * 16000000000 : Int) ≤ timeDiff s.plantNow s.time.lastCorr →
    s.answers .plantHoldoverEnter fun t =>
      t.flag Reg.TB_STATUS F.TB_STATUS_PLANT_HOLDOVER = true ∧ t.view 1 = s.view 1 ∧ t.view 0 = s.view 0 ∧
      s.keeps t (among [Reg.TB_STATUS]) [.time])

/-- R97, R103, R104: ACT_ARM of an entry of 2–255 with a time to come gives the entry its time, period and target, clears its counts and arms it; other
entries stay. R97: ACT_DISARM of an armed entry that is not due makes it IDLE; of one that has fired in the same cycle it answers byte 1; of an IDLE
one 0x40. R89, R90: an entry that is due and has no rival fires: it is counted, its time is noted, and it steps on by its period or becomes IDLE. -/
def Obligations.EntriesArmDisarmAndFire : Prop :=
  (∀ (c : Cmd) (s : State), let n := c.b 16
    2 ≤ n → c.b 19 < 8 → s.targetOk (c.b 17) (c.b 18) = true → 3 ≤ c.b 17 →
    (bit (c.b 19) 1 = true → 16000 ≤ c.u 32 8 ∧ c.u 32 8 < 2 ^ 48) →
    timePast (BitVec.ofNat 64 (c.u 24 8)) (s.viewNow (b2n (bit (c.b 19) 0))) = false →
    s.may c 0x0204 .pfWc [] [(16, 1), (17, 1), (18, 1), (19, 1), (24, 8), (32, 8)] (s.armed n = false) →
    s.answers (.actArm c) fun t =>
      t.armed n = true ∧ t.actTime n = BitVec.ofNat 64 (c.u 24 8) ∧ t.actPeriod n = (if bit (c.b 19) 1 then c.u 32 8 else 0) ∧
      t.actKind n = c.b 17 ∧ t.actIndex n = c.b 18 ∧ t.actView n = b2n (bit (c.b 19) 0) ∧
      t.fld (Reg.ACT_STATUS n) F.ACT_STATUS_FIRED = 0 ∧ t.fld (Reg.ACT_STATUS n) F.ACT_STATUS_MISSED = 0 ∧
      (∀ m, m < 256 → m ≠ n → t.armed m = s.armed m ∧ t.actTime m = s.actTime m)) ∧
  (∀ (c : Cmd) (s : State), let n := c.b 16
    s.may c 0x0205 .pfWc [] [(16, 1)] (¬ (n ≤ 1 ∧ 2 ≤ s.mode)) → s.due n = false → s.firedNow n = false → s.armed n = true →
    s.completes (.actDisarm c) (c.as 0x0205) stOK 0 fun u =>
      u.armed n = false ∧ (∀ m, m < 256 → m ≠ n → u.armed m = s.armed m) ∧ s.keeps u (among [Reg.ACT_STATUS n]) []) ∧
  (∀ (c : Cmd) (s : State), let n := c.b 16
    s.may c 0x0205 .pfWc [] [(16, 1)] (¬ (n ≤ 1 ∧ 2 ≤ s.mode)) → s.due n = false → s.firedNow n = true →
    s.completes (.actDisarm c) (c.as 0x0205) stOK 1 fun u => u.armed n = false ∧ s.keeps u (among [Reg.ACT_STATUS n]) []) ∧
  (∀ (n : Nat) (s : State), 2 ≤ n → n < 256 → s.armed n = true → s.due n = true → s.rivals n = [n] → s.time.fireNext.contains n = false →
    2 ≤ s.domState (targetDomain (s.actKind n)) →
    s.answers (.actionFire n) fun t =>
      t.fld (Reg.ACT_STATUS n) F.ACT_STATUS_FIRED = (s.fld (Reg.ACT_STATUS n) F.ACT_STATUS_FIRED + 1) % 2 ^ 16 ∧
      t.reg64 (Reg.ACT_LAST n) = s.cell ∧
      (s.actPeriodic n = false → t.armed n = false) ∧
      (s.actPeriodic n = true → t.armed n = true ∧ t.actTime n = s.actTime n + BitVec.ofNat 64 (s.actPeriod n)) ∧
      s.keeps t (among [Reg.ACT_STATUS n, Reg.ACT_TIME n, Reg.ACT_TIME n + 4, Reg.ACT_LAST n, Reg.ACT_LAST n + 4]) []) ∧
  (∀ (n : Nat) (s : State), 2 ≤ n → n < 256 → s.armed n = true → s.due n = true → s.rivals n = [n] → s.time.fireNext.contains n = false →
    s.domState (targetDomain (s.actKind n)) = 0 →
    exec (.actionFire n) s = .next ((s.countFired n).actTarget (s.actKind n) (s.actIndex n) (s.actTime n)))

/-- R85: the TIMED commands whose time has come execute and leave the queue; those to come stay. R619: with every earlier command completed, FENCE_RELEASE
passes on the commands held of a ring. R613: a moderation time that has passed signals the ring's vector. -/
def Obligations.DelayedCommandsExecuteWhenDue : Prop :=
  (∀ s : State,
    s.answers .timedCommandExecute fun t =>
      ((∀ c ∈ s.host.timed, timePast c.exec s.cell = false) → t = s) ∧
      (∀ c, s.host.timed = [c] → timePast c.exec s.cell = true →
        t = ({ s with host := { s.host with timed := [] } } : State).runCommand c .pending)) ∧
  (∀ (fn r : Nat) (c : Cmd) (s : State), fn ≤ 16 → s.host.fence = [c] → c.who = initOf fn → c.port = .ring r →
    (c.fence && s.earlier c) = false →
    exec (.fenceRelease fn r) s = .next (({ s with host := { s.host with fence := [] } } : State).passOn c)) ∧
  (∀ (fn ty r : Nat) (x : W64) (s : State), (s.modSt fn ty r).since = some x → s.ringOn fn ty r = true → ty ≠ 0 →
    (s.fld (ringBase fn ty r + 0xC) F.RING_MOD_TIME * 16000 : Int) ≤ timeDiff s.cell x →
    s.flag (msixEntry fn (s.fld (ringCtrl fn ty r) F.RING_CTRL_VECTOR) + 12) F.MSIX_CTRL_MASK = false →
    s.answers (.msixModerationTimeout fn ty r) fun t =>
      let v := s.fld (ringCtrl fn ty r) F.RING_CTRL_VECTOR
      t.egress = .msix fn v (s.reg64 (msixEntry fn v)) (s.reg (msixEntry fn v + 8)) :: s.egress ∧ t.modSt fn ty r = {} ∧
      s.keeps t (fun _ => false) [.host])

/-! ### The device as a whole -/

/-- R44, R65: an allowed SET_DEVICE_MODE is held for the next supervision tick, which makes the mode its target (DEGRADED for OPERATE while a defect
stands) when the conditions still hold. R44, R785: what entering a mode does. -/
def Obligations.DeviceModeChanges : Prop :=
  (∀ (c : Cmd) (s : State), 1 ≤ c.b 16 → c.b 16 ≤ 3 →
    s.may c 0x0001 .pf [] [(16, 1)] (s.modeCmd = none ∧ ∃ l, s.modeRow (c.b 16) = some l ∧ ∀ x ∈ l, x.1 = false) →
    s.answers (.setDeviceMode c) fun t => t.modeCmd = some (c.as 0x0001) ∧ t.mode = s.mode ∧ s.keeps t (among []) [.modeCmd]) ∧
  (∀ (c : Cmd) (l : List ModeCond) (s : State), s.modeCmd = some c → s.modeOver = false → s.modeRow (c.b 16) = some l → (∀ x ∈ l, x.1 = false) →
    s.inReset = false → s.clk.eventDue = false → s.mem.lcFrom = none → s.defectTick = s → s.linkTick.regs = s.regs →
    s.answers .supervisionTick fun t =>
      t = (((({ s.linkTick with modeCmd := none, modeOver := false } : State).enterMode (s.modeFrom (c.b 16))).complete c stOK
        (s.modeFrom (c.b 16))).postLog).1) ∧
  (∀ (m : Nat) (s : State), m ≤ 4 → m ≠ s.mode → s.role = 0 → s.twinOn = false →
    (s.setMode m).mode = m ∧ (s.setMode m).log = (s.postB 0x0020 [(16, 1, s.mode), (17, 1, m)]).log ∧
    s.keeps (s.setMode m) (among [Reg.DEV_MODE]) [.twin])

/-- R57, R58, R65: the foul log. A new record goes to its block's buffer; the oldest of a buffer moves into the device queue when that has
room; a flush posts the queue when the log is enabled and the host is up, and answers how many records went. -/
def Obligations.FoulLogMovesInOrder : Prop :=
  (∀ (code src : Nat) (d : BitVec 128) (s : State), (∀ r ∈ s.log.buf (code / 256), ¬ (r.code = code ∧ r.src = src)) →
    (∀ r ∈ s.log.queue, ¬ (r.code = code ∧ r.src = src)) → (s.log.buf (code / 256)).length < 16 →
    (s.post code src d).log.buf (code / 256) = s.log.buf (code / 256) ++ [⟨s.cell, code, src, 1, d⟩] ∧
    (s.post code src d).log.queue = s.log.queue ∧ (s.post code src d).regs = s.regs) ∧
  (∀ (b : Nat) (r : Rec) (l : List Rec) (s : State), s.inReset = false → s.log.pushed = [] → s.log.buf b = r :: l →
    s.log.queue.length < 1024 →
    s.answers (.foulQueueMove b) fun t => ∃ u : State, t = u.queued r ∧ u.log.buf b = l ∧ u.log.queue = s.log.queue ++ [r]) ∧
  (∀ (c : Cmd) (s : State), s.may c 0x0002 .pf [] [] True →
    exec (.foulFlush c) s =
      .next (((s.ready1 (c.as 0x0002)).postLog).1.complete (c.as 0x0002) stOK (satU 8 ((s.ready1 (c.as 0x0002)).postLog).2)))

/-- R49, R50: a command of a PF-only row from a virtual function is answered PRIV_DENIED with the owning block's low byte 0x03, and has no other effect.
R617, R621, R663: where a completion goes. On a command ring whose completion ring is enabled it is the 16 octets of R617 at the ring's entry; and it
changes only the registers and parts of rings, slots, wait objects and items. R621, R622: HE_NOP completes and does nothing else. HE_COPY of nothing
completes; from shared SRAM it writes the octets to host memory; from host memory it first asks for them. -/
def Obligations.CommandsAreAnswered : Prop :=
  (∀ (n op : Nat) (i : Cmd → Instr) (c : Cmd) (s : State),
    pfRow op i →
    c.who = .vf n → c.accepted = false → s.domState (domainOf (op / 256)) = 0 → s.answers (i c) fun t =>
      t = (s.post (op / 256 * 256 + 3) (srcInit (op / 256) (.vf n)) (det [(16, 2, op), (18, 4, c.tag.toNat), (22, 1, 0), (23, 1, 0)])).complete
        (c.as op) stPriv 0) ∧
  (∀ (c : Cmd) (st blk r : Nat) (s : State), c.port = .ring r → c.seq = 0 →
    s.ringOn (fnOf c.who) 1 (s.fld (ringCtrl (fnOf c.who) 0 r) F.RING_CTRL_CPL) = true → s.hostUp = true →
    let q := s.fld (ringCtrl (fnOf c.who) 0 r) F.RING_CTRL_CPL
    Emit.hostWrite (fnOf c.who) (s.ringEntry (fnOf c.who) 1 q)
      (leBytes 4 c.tag.toNat ++ [BitVec.ofNat 8 st, BitVec.ofNat 8 blk, 0, 0] ++ leBytes 8 s.cell.toNat) ∈ (s.complete c st blk).egress) ∧
  (∀ (c : Cmd) (st blk : Nat) (s : State), (∀ w, c.who = .wc w → w < 16) →
    (∀ w k o, c.who = .wc w → c.port = .slot k → (s.slot w k).sig = some o → o < 1024) →
    s.keeps (s.complete c st blk) answerReg [.host, .wc]) ∧
  (∀ (c : Cmd) (s : State), s.may c 0x0101 .any [] [] True →
    s.completes (.heNop c) (c.as 0x0101) stOK 0 fun u => s.keeps u (among []) []) ∧
  (∀ (c : Cmd) (dma : Dma) (s : State), let n := c.u 40 4; let a := c.u 32 8; let h := c.u 24 8
    c.b 16 < 2 → n % 8 = 0 → n ≤ 0x1000000 → isSram h = false → a + n ≤ sramSize →
    s.may c 0x0102 .pfWc [(a, n)] [(16, 1), (24, 8), (32, 8), (40, 4)] True → c.b 16 = 1 → s.sramReady a n = true → s.poisoned a n = none →
    s.completes (.heCopy c dma) (c.as 0x0102) stOK 0 fun u =>
      u.egress = (((s.ready1 (c.as 0x0102)).hostWrite (fnOf c.who) (hostAddr h) (s.sramRead a n)).egress) ∧ s.keeps u (among []) []) ∧
  (∀ (c : Cmd) (d : List Byte) (s : State), let n := c.u 40 4; let a := c.u 32 8; let h := c.u 24 8
    n ≠ 0 → n % 8 = 0 → n ≤ 0x1000000 → isSram h = false → a + n ≤ sramSize → s.twin.feed = none → d.length = n →
    s.may c 0x0102 .pfWc [(a, n)] [(16, 1), (24, 8), (32, 8), (40, 4)] True → c.b 16 = 0 → s.sramReady a n = true →
    s.completes (.heCopy c (.data d)) (c.as 0x0102) stOK 0 fun u => u.mem.sram = memWrite s.mem.sram a d)

/-! ### The host interface (block 0x01) -/

/-- R600, R610, R611: a doorbell that keeps the order of the ring sets the software index; one that does not, or to a ring that is not enabled, changes no
register and records 0x0112 or 0x0113. R612, R615: one turn of a command ring asks host memory for at most eight descriptors, those up to the software
index and to the ring's end, and for no more than the completion ring has room for; the device index waits for the data. R615, R616, R622: the data of
a read is kept until the job's reads have all been answered; a failed fetch of descriptors sets the ring's ERROR bit and records 0x0114. -/
def Obligations.CommandRingsAreFetched : Prop :=
  (∀ (who : Init) (off ty r : Nat) (v : Word) (s : State), off % 4 = 0 → s.fnOn (fnOf who) = true →
    doorbellRing who.isVf off = some (ty, r) → s.ringOn (fnOf who) ty r = true →
    idxSub v.toNat (s.swIdx (fnOf who) ty r) ≤
      idxSub ((if ty = 0 ∨ ty = 3 then s.devIdx (fnOf who) ty r + s.ringSize (fnOf who) ty r else s.devIdx (fnOf who) ty r) % 2 ^ 32)
        (s.swIdx (fnOf who) ty r) →
    s.answers (.doorbellWrite who off 4 v) fun t =>
      t.swIdx (fnOf who) ty r = v.toNat ∧ t.log = s.log ∧ s.keeps t (fun o => o == ringBase (fnOf who) ty r + 0x1C) []) ∧
  (∀ (who : Init) (off ty r : Nat) (v : Word) (s : State), off % 4 = 0 → s.fnOn (fnOf who) = true →
    doorbellRing who.isVf off = some (ty, r) → s.ringOn (fnOf who) ty r = false →
    exec (.doorbellWrite who off 4 v) s =
      .next (s.post 0x0113 (srcInit 1 who) (det [(16, 1, ty), (17, 1, r), (20, 4, v.toNat)]))) ∧
  (∀ (fn r : Nat) (s : State), s.fnOn fn = true → s.hostUp = true → s.mode ≠ mBoot → s.ringOn fn 0 r = true →
    s.flag (ringCtrl fn 0 r) F.RING_CTRL_ERROR = false → s.fetching fn r = false → s.swIdx fn 0 r ≠ s.devIdx fn 0 r →
    1 ≤ s.cplRoom fn (s.fld (ringCtrl fn 0 r) F.RING_CTRL_CPL) →
    s.answers (.descriptorFetch fn r) fun t =>
      t.devIdx fn 0 r = s.devIdx fn 0 r ∧
      ∃ n, 1 ≤ n ∧ n ≤ 8 ∧ n ≤ idxSub (s.swIdx fn 0 r) (s.devIdx fn 0 r) ∧ n ≤ s.cplRoom fn (s.fld (ringCtrl fn 0 r) F.RING_CTRL_CPL) ∧
        s.devIdx fn 0 r % s.ringSize fn 0 r + n ≤ s.ringSize fn 0 r ∧
        t.host.jobs = s.host.jobs ++ [(s.host.nextId, .descriptors fn r (s.devIdx fn 0 r) n)] ∧
        s.keeps t (among [Reg.HE_STATUS]) [.host]) ∧
  (∀ (id j : Nat) (d : List Byte) (q : ReadReq) (job : ReadJob) (s : State),
    s.host.reads.find? (fun r => r.id == id && r.sent && r.got.isNone) = some q → q.job = j → d.length = q.len →
    s.host.jobs.find? (fun x => x.1 == j) = some (j, job) →
    (∃ x ∈ s.host.reads, x.job = j ∧ x.id ≠ id ∧ x.got = none) → (∀ x ∈ s.host.reads, x.sent = true) →
    s.answers (.readCompletion id d none) fun t =>
      t.host.jobs = s.host.jobs ∧
      t.host.reads = s.host.reads.map (fun x => if x.id = id then { x with got := some d } else x) ∧
      s.keeps t (among [Reg.HE_STATUS]) [.host]) ∧
  (∀ (id j fn r i n : Nat) (e : ReadError) (q : ReadReq) (s : State), s.host.reads = [q] → q.id = id → q.sent = true → q.got = none → q.job = j →
    s.host.jobs = [(j, .descriptors fn r i n)] → ringExists fn 0 r = true → s.flag (ringCtrl fn 0 r) F.RING_CTRL_ENABLE = true → fn ≤ 16 →
    s.answers (.readCompletion id [] (some e)) fun t =>
      t.flag (ringCtrl fn 0 r) F.RING_CTRL_ERROR = true ∧ t.host.jobs = [] ∧ t.devIdx fn 0 r = s.devIdx fn 0 r ∧
      s.keeps t (among [ringCtrl fn 0 r, Reg.HE_STATUS]) [.host])

/-- R599, R625–R628: function resets, the PCI Express link and the watchdog. A Function Level Reset disables the function's rings and drops its commands;
SR-IOV shows the enabled functions; a change of link records 0x0132; the watchdog stops once and records 0x0131. R629, R633, R694: the boot. The
flash's contents lie in the staging area; the boot self-test is noted as ended; the load state moves on. -/
def Obligations.BootLinkAndWatchdogMoveOn : Prop :=
  (∀ (n : Nat) (s : State), s.fnOn n = true → n ≠ 0 →
    s.answers (.vfFlr n) fun t =>
      (∀ ty r, ringExists n ty r = true → t.ringOn n ty r = false) ∧ (∀ c ∈ t.host.fetched, c.who ≠ .vf n) ∧
      (∀ c ∈ t.host.fence, c.who ≠ .vf n) ∧ (∀ c ∈ t.host.timed, c.who ≠ .vf n)) ∧
  (∀ (n : Nat) (s : State), s.inReset = false → n ≤ s.nVf → (∀ v, n < v → s.vfOn v = false) →
    s.answers (.vfEnableChange n) fun t =>
      (∀ v, t.vfOn v = decide (1 ≤ v ∧ v ≤ n)) ∧ s.keeps t (fun o => o == Reg.HE_STATUS) []) ∧
  (∀ (w sp : Nat) (s : State), s.inReset = false → w < 16 → sp < 16 →
    s.answers (.pcieLinkChange w sp true) fun t =>
      t.fld Reg.HE_STATUS F.HE_STATUS_WIDTH = w ∧ t.fld Reg.HE_STATUS F.HE_STATUS_SPEED = sp ∧ t.host.d3hot = true ∧ t.hostUp = false ∧
      s.keeps t (among [Reg.HE_STATUS]) [.host]) ∧
  (∀ s : State, s.host.wdRun = true → s.fld Reg.HE_WD F.HE_WD_PERIOD ≠ 0 →
    (s.fld Reg.HE_WD F.HE_WD_PERIOD * 16000000 : Int) ≤ timeDiff s.cell s.host.wdFrom → s.groups.filter s.grpLive = [] →
    s.answers .hostWatchdogExpire fun t => t.host = { s.host with wdRun := false } ∧ s.keeps t (among []) [.host]) ∧
  (∀ (img : List Byte) (s : State), s.mode = mBoot → s.inReset = false → s.fld Reg.BOOT_STATUS F.BOOT_STATUS_STATE = 0 →
    s.host.selfTestDone = false →
    s.answers (.flashReadDone img) fun t =>
      t.fld Reg.BOOT_STATUS F.BOOT_STATUS_STATE = 2 ∧ t.mode = mBoot ∧
      t.mem.sram = memWrite s.mem.sram stagingBase (slice img 0 0x1000000)) ∧
  (∀ (sigs : List (Nat × W64 × W64)) (s : State), s.mode = mBoot → s.inReset = false → s.host.selfTestDone = false →
    s.answers (.bootSelfTestDone sigs) fun t =>
      t = ({ (s.bootTests sigs) with host := { (s.bootTests sigs).host with selfTestDone := true } } : State).bootGo)

/-! ### Shared SRAM and self-test (block 0x0D) -/

/-- R601, R602, R648: what BAR4 reads and writes. Below the secure partition: shared SRAM; above it the local memories, read in every core state and
written only where R648 allows; elsewhere foul 0x0116. -/
def Obligations.Bar4ReachesSharedAndLocalMemory : Prop :=
  (∀ (off len : Nat) (s : State), off + len ≤ secureBase → 0 < len → s.sramReady off len = true → s.poisoned off len = none →
    s.answers (.bar4Read off len []) fun t => t = s.emit (.readData .pf off (memRead s.mem.sram off len) false)) ∧
  (∀ (off : Nat) (d : List Byte) (s : State), off + d.length ≤ secureBase → 0 < d.length → s.sramReady off d.length = true → s.mem.poison = [] →
    s.answers (.bar4Write off d) fun t =>
      (∀ o, tabGet (fun _ => (0 : Byte)) t.mem.sram o =
        if off ≤ o ∧ o < off + d.length then d.getD (o - off) 0 else tabGet (fun _ => 0) s.mem.sram o) ∧
      t.regs = s.regs ∧ t.log = s.log) ∧
  (∀ (c x len : Nat) (s : State), c < 16 → x < 0x40000 →
    exec (.bar4Read (0x4000000 + c * 0x40000 + x) len []) s =
      .next (s.emit (.readData .pf (0x4000000 + c * 0x40000 + x)
        (if x < 0x20000 then memRead (s.core c).iram x len else memRead (s.core c).dram (x - 0x20000) len) false))) ∧
  (∀ (c x : Nat) (d : List Byte) (s : State), c < 16 → x < 0x40000 →
    exec (.bar4Write (0x4000000 + c * 0x40000 + x) d) s = .next (
      if s.coreState c ∈ [kOff, kOffline, kFaulted] ∧ (x < 0x20000 → s.mode = mBoot ∨ s.mode = mConfig) then
        s.modCore c fun z =>
          if x < 0x20000 then { z with iram := memWrite z.iram x d } else { z with dram := memWrite z.dram (x - 0x20000) d }
      else s.post 0x0116 (srcOf 3 0) (det [(24, 8, 0x4000000 + c * 0x40000 + x)]))) ∧
  (∀ (off : Nat) (d : List Byte) (s : State), bar4 off = .refused →
    exec (.bar4Write off d) s = .next (s.post 0x0116 (srcOf 3 0) (det [(24, 8, off)])))

/-- R675–R677: the scrubber moves to the next word; a single error it finds is counted; after the last word a sweep is counted. R678–R680: the states of a
bank group. A sleeping group that a command turns on wakes; one that goes OFF or loses its retention reads 0 afterwards; a group whose wake or clear
has ended is ON. -/
def Obligations.ScrubberAndBankGroupsMove : Prop :=
  (∀ s : State, s.mem.poison = [] → s.mem.scrubPos < 0x7FFF →
    s.answers (.scrubRead []) fun t => t = { s with mem := { s.mem with scrubPos := s.mem.scrubPos + 1 } }) ∧
  (∀ (b : Nat) (s : State), b < 256 → s.groupState (b / 16) = gOn → s.mem.poison = [] → s.mem.scrubPos < 0x7FFF →
    s.answers (.scrubRead [(b, false)]) fun t =>
      t.fld Reg.MEM_ECC F.MEM_ECC_CORR = satU F.MEM_ECC_CORR.w (s.fld Reg.MEM_ECC F.MEM_ECC_CORR + 1) ∧
      s.keeps t (fun o => o == Reg.MEM_ECC) [.mem]) ∧
  (∀ s : State, s.mem.poison = [] → s.mem.scrubPos = 0x7FFF →
    s.answers (.scrubRead []) fun t =>
      t.mem.scrubPos = 0 ∧
      t.fld Reg.MEM_STATUS F.MEM_STATUS_SWEEPS = (s.fld Reg.MEM_STATUS F.MEM_STATUS_SWEEPS + 1) % 2 ^ F.MEM_STATUS_SWEEPS.w ∧
      s.keeps t (fun o => o == Reg.MEM_STATUS) [.mem]) ∧
  (∀ (c : Cmd) (s : State), let g := c.b 16
    g < 15 → c.b 17 ≤ 2 → setTarget (c.b 17) ≠ gOn →
    s.may c 0x0D01 .pfWc [] [(16, 1), (17, 1)] (s.groupBusy g (setTarget (c.b 17)) = false) →
    s.completes (.memGroupSet c) (c.as 0x0D01) stOK 0 fun u =>
      u.groupState g = setTarget (c.b 17) ∧ (∀ h, h < 16 → h ≠ g → u.groupState h = s.groupState h) ∧
      (setTarget (c.b 17) = gOff → s.groupState g ≠ gOff → ∀ o, groupOf o = g → tabGet (fun _ => (0 : Byte)) u.mem.sram o = 0)) ∧
  (∀ (c : Cmd) (s : State), let g := c.b 16
    g < 15 → c.b 17 ≤ 2 → setTarget (c.b 17) = gOn → s.may c 0x0D01 .pfWc [] [(16, 1), (17, 1)] True → s.groupState g = gRetention →
    s.answers (.memGroupSet c) fun t => t.groupState g = gWaking ∧ c.as 0x0D01 ∈ t.mem.setCmds ∧ t.mem.sram = s.mem.sram) ∧
  (∀ (g : Nat) (s : State), g < 16 → s.groupState g = gWaking → s.mem.waiting = [] → s.mem.setCmds = [] →
    s.answers (.groupWakeDone g) fun t => t.groupState g = gOn ∧ t.mem.sram = s.mem.sram) ∧
  (∀ (g : Nat) (s : State), g < 16 → s.groupState g = gClearing → s.mem.waiting = [] → s.mem.setCmds = [] →
    s.answers (.groupClearDone g) fun t => t.groupState g = gOn ∧ t.mem.sram = s.mem.sram) ∧
  (∀ (g : Nat) (s : State), g < 16 → s.groupState g = gRetention →
    s.answers (.retentionLost g) fun t =>
      t.groupState g = gLost ∧ (∀ o, groupOf o = g → tabGet (fun _ => (0 : Byte)) t.mem.sram o = 0) ∧
      (∀ o, groupOf o ≠ g → tabGet (fun _ => (0 : Byte)) t.mem.sram o = tabGet (fun _ => 0) s.mem.sram o))

/-- R683–R686: LC_ADVANCE. A record that fails a check answers 0x40 with the check's number and burns nothing; one that passes them all, to DEVELOP or IN
SERVICE, burns the life cycle and starts the wipe; the reset that follows clears the device. R682: a tamper sets TAMPER and starts a wipe; after it
the secure partition reads 0 and the rest of shared SRAM is as before. -/
def Obligations.LifeCycleAndTamper : Prop :=
  (∀ (c : Cmd) (s : State), let a := c.u 24 8; let r := s.sramRead a 408
    1 ≤ c.b 16 → c.b 16 ≤ 2 → a + 408 ≤ secureBase → s.twin.feed = none → s.sramReady a 408 = true → s.poisoned a 408 = none →
    s.may c 0x0D04 .pf [(a, 408)] [(16, 1), (24, 8), (32, 4)]
      (s.mode = mConfig ∧ s.role = 0 ∧ s.allDisabled = true ∧ (s.lifeCycle = 0 ∧ c.b 16 = 1 ∨ s.lifeCycle = 1 ∧ c.b 16 = 2) ∧
        s.mem.lcCmd = none ∧ s.mem.lcResetDue = false) →
    (s.lcCheck (c.b 16) (c.u 32 4) r ≠ 0 →
      s.completes (.lcAdvance c) (c.as 0x0D04) 0x40 (s.lcCheck (c.b 16) (c.u 32 4) r) fun u => s.keeps u (among []) []) ∧
    (s.lcCheck (c.b 16) (c.u 32 4) r = 0 →
      s.answers (.lcAdvance c) fun t =>
        t.lifeCycle = c.b 16 ∧ t.mem.lcFrom = some s.lifeCycle ∧ t.mem.lcCmd = some (c.as 0x0D04) ∧ t.wiping = true ∧
        t.mem.sram = s.mem.sram)) ∧
  (∀ s : State, s.mem.lcResetDue = true → s.inReset = false →
    s.answers .lcResetDelay fun t =>
      t.inReset = true ∧ t.fld Reg.RST_CAUSE F.RST_CAUSE_CAUSE = 5 ∧ t.mem.fuse = s.mem.fuse ∧ t.time.raw = s.time.raw) ∧
  (∀ (cause : Nat) (s : State),
    s.answers (.tamperInput cause) fun t =>
      t.flag Reg.MEM_SEC F.MEM_SEC_TAMPER = true ∧ t.wiping = true ∧ t.mem.wipes = s.mem.wipes ++ [1]) ∧
  (∀ s : State, s.mem.wipes = [1] →
    s.answers .wipeComplete fun t =>
      t.wiping = false ∧ t.flag Reg.MEM_SEC F.MEM_SEC_WIPED = true ∧ t.mem.wipes = [] ∧
      (∀ o, secureBase ≤ o → o < sramSize → tabGet (fun _ => (0 : Byte)) t.mem.sram o = 0) ∧
      (∀ o, o < secureBase → tabGet (fun _ => (0 : Byte)) t.mem.sram o = tabGet (fun _ => 0) s.mem.sram o) ∧
      (∀ o, among [Reg.MEM_SEC] o = false → t.reg o = s.reg o))

/-- R687, R690, R691, R697: MST_RUN starts a run of its region with no pattern done; MST_CANCEL ends one ABORTED with cause 4; the retry and gap times let
the region be lent again. R687–R690, R693: a slice. A region whose owner lends it (here the planner's) is LENT with the lowest free save slot and
counted in `DEV_MODE.LENT`; at a slice's end the count of patterns rises, and after the last one the run ends with the result that the signature
gives; a test out of use that passes returns its region. -/
def Obligations.SelfTestRunsAndLends : Prop :=
  (∀ (c : Cmd) (s : State), let r := c.b 16
    s.regionPresent r = true → 10 ≤ c.b 17 → c.b 17 ≤ 20 →
    s.may c 0x0D02 .pf [] [(16, 1), (17, 1)] (s.regionState r ≠ 3 ∧ (s.region r).running = false ∧ (s.region r).outOfUse = false) →
    s.answers (.mstRun c) fun t =>
      (t.region r).running = true ∧ (t.region r).byCmd = some (c.as 0x0D02) ∧ t.fld (Reg.MST_REGION r) F.MST_REGION_LOG_N = c.b 17 ∧
      t.reg (Reg.MST_DONE r) = 0 ∧ (∀ q, q ≠ r → t.region q = s.region q) ∧ s.keeps t (among [Reg.MST_REGION r, Reg.MST_DONE r]) [.mem]) ∧
  (∀ (c : Cmd) (s : State), let r := c.b 16
    s.regionPresent r = true → s.regionState r ≠ 2 → (s.region r).byCmd = none → (s.region r).running = true →
    s.may c 0x0D03 .pf [] [(16, 1)] True →
    s.completes (.mstCancel c) (c.as 0x0D03) stOK 0 fun u =>
      (u.region r).running = false ∧ u.fld (Reg.MST_REGION r) F.MST_REGION_RESULT = 3 ∧
      u.fld (Reg.MST_REGION r) F.MST_REGION_RUNS = (s.fld (Reg.MST_REGION r) F.MST_REGION_RUNS + 1) % 2 ^ F.MST_REGION_RUNS.w ∧
      (∀ q, q ≠ r → u.region q = s.region q) ∧
      s.keeps u (among [Reg.MST_REGION r, Reg.MST_SIG r, Reg.MST_SIG r + 4]) [.mem, .free]) ∧
  (∀ (r : Nat) (s : State), (s.region r).retryWait = true →
    s.answers (.mstRetryExpire r) fun t => t.region r = { s.region r with retryWait := false } ∧ s.keeps t (fun _ => false) [.mem]) ∧
  (∀ (r : Nat) (s : State), (s.region r).gapWait = true →
    s.answers (.mstGapExpire r) fun t => t.region r = { s.region r with gapWait := false } ∧ s.keeps t (fun _ => false) [.mem]) ∧
  (∀ (k : Nat) (s : State), s.mayLend 0x30 = true → (s.region 0x30).gapWait = false → (s.region 0x30).running = true →
    (s.region 0x30).byCmd.isSome = true → s.saveSlot = some k →
    s.answers (.mstSliceLend 0x30) fun t =>
      t.regionState 0x30 = 2 ∧ t.fld (Reg.MST_REGION 0x30) F.MST_REGION_SLOT = k ∧
      bit (t.fld Reg.MST_STATUS F.MST_STATUS_SLOTS) k = true ∧
      t.fld Reg.DEV_MODE F.DEV_MODE_LENT = s.fld Reg.MST_STATUS F.MST_STATUS_LENT + 1) ∧
  (∀ (r : Nat) (sig : W64) (s : State), r < 0x32 → regionKind r = 4 → s.regionState r = 2 →
    (s.reg (Reg.MST_DONE r)).toNat + slicePatterns (regionKind r) < 2 ^ s.fld (Reg.MST_REGION r) F.MST_REGION_LOG_N →
    s.poisoned (s.slotRange r).1 (s.slotRange r).2 = none →
    s.answers (.mstSliceEnd r sig) fun t =>
      t.regionState r = 1 ∧ (t.reg (Reg.MST_DONE r)).toNat = (s.reg (Reg.MST_DONE r)).toNat + slicePatterns (regionKind r) ∧
      (t.region r).running = (s.region r).running ∧ (t.region r).returning = true) ∧
  (∀ (r : Nat) (sig : W64) (s : State), r < 0x32 → (s.region r).outOfUse = true → (s.region r).byCmd = none →
    sig = Config.mstExpected (regionKind r) (s.fld (Reg.MST_REGION r) F.MST_REGION_LOG_N) →
    s.answers (.outOfUseTestDone r sig) fun t =>
      (t.region r).outOfUse = false ∧ (t.region r).returning = true ∧ t.fld (Reg.MST_REGION r) F.MST_REGION_RESULT = 1 ∧
      t.reg64 (Reg.MST_SIG r) = sig ∧ s.keeps t (among [Reg.MST_REGION r, Reg.MST_DONE r, Reg.MST_SIG r, Reg.MST_SIG r + 4]) [.mem])

/-! ### Clocks, power and reset (block 0x0F) -/

/-- R744, R745, R755, R626, R764, R758, R684: a device reset by any of its causes names the cause and counts it, holds PD1–PD6 in RESET, disarms every
action, and keeps the time base, the fuses and the registers of blocks 0x02 and 0x0F. R71, R752, R764: the power-on reset of PD0, by its row or by a
rail of PD0, clears the raw counter and both views and sets the holdover of plant time; a device reset leaves both views as they are. R745, R629: when
every PLL is locked a held reset is released: the domains are ON, the mode is BOOT, and the boot starts from flash slot 0, or waits for a host
download when BOOT_SEL is 1. -/
def Obligations.ResetsTakeEffect : Prop :=
  (∀ (i : Instr) (cause : Nat) (s : State), s.inReset = false →
    ((i = .resetNAssert ∧ cause = 2) ∨ (i = .pwrFailAssert ∧ cause = 10) ∨ (i = .pcieReset false ∧ cause = 3) ∨
      (i = .pcieReset true ∧ cause = 4) ∨ (i = .deviceResetDelay ∧ s.clk.resetDue = true ∧ cause = 6) ∨
      (i = .lcResetDelay ∧ s.mem.lcResetDue = true ∧ cause = 5) ∨ (∃ k, i = .supplyTrip k ∧ 2 ≤ k ∧ k ≤ 7 ∧ cause = 9)) →
    s.answers i fun t =>
      t.inReset = true ∧ (∀ d, 1 ≤ d → d ≤ 6 → t.domState d = 3) ∧ t.fld Reg.RST_CAUSE F.RST_CAUSE_CAUSE = cause ∧
      t.fld Reg.RST_CAUSE F.RST_CAUSE_COUNT = (s.fld Reg.RST_CAUSE F.RST_CAUSE_COUNT + 1) % 2 ^ F.RST_CAUSE_COUNT.w ∧
      t.clk.eventDue = true ∧ t.time.raw = s.time.raw ∧ t.view 0 = s.view 0 ∧ t.view 1 = s.view 1 ∧ t.mem.fuse = s.mem.fuse ∧
      t.mode = mBoot ∧ t.log = {} ∧
      (∀ o, blockOf o ≠ 2 → blockOf o ≠ 15 → t.reg o = regReset o) ∧
      t.pending = s.pending) ∧
  (∀ (i : Instr) (s : State), i = .powerOnResetPd0 ∨ i = .supplyTrip 0 ∨ i = .supplyTrip 1 →
    s.answers i fun t =>
      t.time = {} ∧ t.flag Reg.TB_STATUS F.TB_STATUS_PLANT_HOLDOVER = true ∧ t.inReset = true ∧ t.mem.fuse = s.mem.fuse ∧ t.mode = mBoot ∧
      (∀ o, ¬ (Reg.PWR_DOMAIN 0 ≤ o ∧ o < Reg.PWR_DOMAIN 8) → t.reg o = regReset o)) ∧
  (∀ (cause detail w : Nat) (s : State), (s.deviceReset cause detail).view w = s.view w) ∧
  (∀ (sel : Bool) (s : State), s.inReset = true → s.fld Reg.CK_STATUS F.CK_STATUS_LOCK = 0x7F → s.fld Reg.RST_CAUSE F.RST_CAUSE_CAUSE ≠ 8 →
    s.answers (.resetRelease sel) fun t =>
      t.inReset = false ∧ (∀ d, 1 ≤ d → d ≤ 6 → t.domState d = 0) ∧ t.mode = s.mode ∧ t.host.selfTestDone = false ∧
      t.fld Reg.BOOT_STATUS F.BOOT_STATUS_SOURCE = (if sel then 2 else 0) ∧ t.fld Reg.BOOT_STATUS F.BOOT_STATUS_STATE = b2n sel ∧
      (sel = false → t.egress = .flashRead 0 :: s.egress))

/-- R738, R739, R744, R753, R756: the clock monitor, the temperatures and the analogue die. -/
def Obligations.MonitorsReport : Prop :=
  (∀ s : State, s.flag Reg.CK_STATUS F.CK_STATUS_REF_LOSS = false →
    s.answers .refClkLoss fun t => t.flag Reg.CK_STATUS F.CK_STATUS_REF_LOSS = true ∧ bit t.defects dfClock = true) ∧
  (∀ s : State, s.answers .refClkReturn fun t =>
    t.flag Reg.CK_STATUS F.CK_STATUS_REF_LOSS = false ∧ s.keeps t (fun o => o == Reg.CK_STATUS) []) ∧
  (∀ s : State, s.answers (.clockMonitorWindow 0x7F [0, 0, 0, 0, 0, 0, 0]) fun t =>
    t.fld Reg.CK_STATUS F.CK_STATUS_LOCK = 0x7F ∧ (∀ d, d < 7 → t.fld (Reg.CK_MON d) F.CK_MON_ERR = 0) ∧ t.inReset = s.inReset ∧
    (∀ d, d < 7 → s.domState d ≠ 2 → t.ckOver d = 0)) ∧
  (∀ (k : Nat) (s : State), k < 7 → s.domState k ≠ 2 → s.inReset = false →
    s.answers (.clockMonitorWindow (0x7F - 2 ^ k) [0, 0, 0, 0, 0, 0, 0]) fun t =>
      t.inReset = true ∧ t.fld Reg.RST_CAUSE F.RST_CAUSE_CAUSE = 7 ∧ t.fld Reg.RST_CAUSE F.RST_CAUSE_DETAIL = k) ∧
  (∀ (i : Nat) (x : Int) (s : State), i < 8 → -640 ≤ x → x < 115 * 16 → s.inReset = false →
    s.answers (.thermalSample ((List.replicate i x) ++ [x])) fun t =>
      t.temp i = x ∧ (s.warnAt i < x → t.flag (Reg.THERM i) F.THERM_WARN = true) ∧
      (x ≤ s.warnAt i - 80 → t.flag (Reg.THERM i) F.THERM_WARN = false)) ∧
  (∀ s : State, s.answers .analogueDieReset fun t => (s.clk.ana ≠ 1 → t.clk.ana = 2) ∧ (∀ c, c < 16 → (t.laCh c).gates = 0)) ∧
  (∀ s : State, s.inReset = false → s.clk.ana ≠ 0 → s.clk.anaHot = false →
    s.answers .analogueCalibrationDone fun t =>
      t.clk.ana = 0 ∧ t.flag Reg.ACQ_STATUS F.ACQ_STATUS_PATH_OK = true ∧ s.keeps t (fun o => o == Reg.ACQ_STATUS) [.clk])

/-- R749–R751, R758: domains. CK_DOMAIN_SET STOPPED stops a running domain that nothing holds; ON opens a stopped one; a domain that stops by itself does
so; PD4 is ON when its power-up has ended; CK_DEVICE_RESET answers at once and is due. R750: while a domain is ON or stopped, a command to its block
opens its gate first: the domain is ON when the command takes effect. -/
def Obligations.DomainsStopStartAndWake : Prop :=
  (∀ (c : Cmd) (s : State), let d := c.b 16
    2 ≤ d → d ≤ 6 → c.b 17 = 1 → s.domState d = 0 →
    s.may c 0x0F01 .pfWc [] [(16, 1), (17, 1)] (s.domForbids d false = none) →
    s.completes (.ckDomainSet c) (c.as 0x0F01) stOK 0 fun u => u.domState d = 1 ∧ s.keeps u (among [Reg.PWR_DOMAIN d]) []) ∧
  (∀ (c : Cmd) (s : State), let d := c.b 16
    2 ≤ d → d ≤ 6 → c.b 17 = 0 → s.domState d = 1 → s.may c 0x0F01 .pfWc [] [(16, 1), (17, 1)] True →
    s.completes (.ckDomainSet c) (c.as 0x0F01) stOK 0 fun u => u.domState d = 0 ∧ s.keeps u (among [Reg.PWR_DOMAIN d]) []) ∧
  (∀ (d : Nat) (s : State), 2 ≤ d → d ≤ 6 → s.domState d = 0 → s.flag (Reg.PWR_DOMAIN d) F.PWR_DOMAIN_AUTO_STOP = true →
    s.domForbids d false = none → s.answers (.domainAutoStop d) fun t => t.domState d = 1 ∧ s.keeps t (among [Reg.PWR_DOMAIN d]) []) ∧
  (∀ s : State, s.inReset = false → s.domState 4 = 3 → s.clk.powerCmds = [] →
    s.answers .domainPowerUpDone fun t => t.domState 4 = 0 ∧ s.keeps t (among []) []) ∧
  (∀ (c : Cmd) (s : State), s.may c 0x0F02 .pf [] [] (s.role = 0 ∨ s.role = 2) →
    s.completes (.ckDeviceReset c) (c.as 0x0F02) stOK 0 fun u => u.clk.resetDue = true ∧ s.keeps u (among []) [.clk]) ∧
  (∀ (d : Nat) (s : State), d < 8 → s.domState d = 1 →
    (s.wakeDom d).domState d = 0 ∧ s.keeps (s.wakeDom d) (among []) [] ∧
    (∀ e, e < 8 → e ≠ d → (s.wakeDom d).domState e = s.domState e) ∧
    (s.wakeDom d).fld (Reg.PWR_DOMAIN d) F.PWR_DOMAIN_WAKES =
      satU F.PWR_DOMAIN_WAKES.w (s.fld (Reg.PWR_DOMAIN d) F.PWR_DOMAIN_WAKES + 1))

/-! ### The cell link (block 0x03) -/

/-- R118–R122: a frame that the device makes reads back. For every kind, slot, destination, AUX and payload of 1 to 32 blocks the frame is a valid
copy, and its KIND, SLOT, SRC, DST, AUX and payload are those it was made of. -/
def Obligations.FramesReadBack : Prop :=
  ∀ (s : State) (c kind slot dst aux : Nat) (l : List Byte), c < 2 → kindOk kind = true → kind < 16 → slot < 512 → dst < 256 → aux < 2 ^ 16 →
    l.length % 8 = 0 → 8 ≤ l.length → l.length ≤ 256 →
    (s.mkFrame c kind slot dst aux l).valid = true ∧ (s.mkFrame c kind slot dst aux l).kind = kind ∧
    (s.mkFrame c kind slot dst aux l).slot = slot ∧ (s.mkFrame c kind slot dst aux l).src = s.station ∧
    (s.mkFrame c kind slot dst aux l).dst = dst ∧ (s.mkFrame c kind slot dst aux l).aux = aux ∧
    (s.mkFrame c kind slot dst aux l).payload = l

/-- R160, R168, R197, R210, R211: the commands of the link's operation. LINK_STAGE checks the bank and answers the failed check or makes the bank
the staged one; LINK_START listens for five cycles; LINK_STOP waits for the boundary; LINK_COMMIT waits for its orbit. -/
def Obligations.LinkCommandsTakeEffect : Prop :=
  (∀ (c : Cmd) (s : State), let k := c.b 16; let n := s.bankCheck k (s.fld Reg.LINK_CTRL F.LINK_CTRL_DEFAULT_GUARD)
    k < 2 → c.b 17 = 0 → s.mode < 2 → s.role = 0 →
    s.may c 0x0301 .pfWc [] [(16, 1), (17, 1), (24, 8), (32, 4)] True →
    s.completes (.linkStage c) (c.as 0x0301) (if n = 0 then stOK else stBad) (if n = 0 then 0 else n) fun u =>
      u.bankValid k = (n == 0) ∧ u.fld (Reg.SB_STATUS k) F.SB_STATUS_FAILED_CHECK = n % 2 ^ F.SB_STATUS_FAILED_CHECK.w ∧
      (n = 0 → k ≠ s.bankUsed → u.link.staged = some k ∧ u.flag Reg.LINK_STATUS F.LINK_STATUS_STAGED_VALID = true) ∧
      s.keeps u (among [Reg.SB_STATUS k, Reg.LINK_STATUS]) [.link]) ∧
  (∀ (c : Cmd) (s : State), let k := c.b 16
    k < 2 → c.b 17 < 2 →
    s.may c 0x0302 .pfWc [] [(16, 1), (17, 1)]
      (s.mode = mConfig ∧ s.linkState = lStopped ∧ s.flag Reg.LINK_STATION F.LINK_STATION_COLD_START = true ∧ s.bankValid k = true ∧
        s.armed 0 = true) →
    s.answers (.linkStart c) fun t =>
      t.linkState = lListening ∧ t.bankUsed = k ∧ t.admCopy = c.b 17 ∧ t.link.count = 5 ∧ t.link.startCmd = some (c.as 0x0302) ∧
      t.actTime 0 = s.actTime 0 ∧ (s.armed 0 = true → t.actPeriod 0 = s.bankUs k * 16000)) ∧
  (∀ (c : Cmd) (s : State), s.may c 0x0303 .pfWc [] [] (s.mode = mConfig ∧ s.scheduled = true ∧ s.link.stopCmd = none) →
    s.answers (.linkStop c) fun t => t.link.stopCmd = some (c.as 0x0303) ∧ t.linkState = s.linkState ∧ s.keeps t (among []) [.link]) ∧
  (∀ (c : Cmd) (b : Nat) (s : State), c.b 16 = 0 →
    s.may c 0x0304 .pfWc [] [(16, 1)]
      (s.link.commit = none ∧ s.inService = true ∧ s.scheduled = true ∧ s.link.staged = some b ∧ s.bankValid b = true) →
    s.answers (.linkCommit c) fun t =>
      t.link.commit = some { cmd := c.as 0x0304 } ∧ t.flag Reg.LINK_STATUS F.LINK_STATUS_SWAP_PENDING = true ∧
      t.bankUsed = s.bankUsed ∧ s.keeps t (among [Reg.LINK_STATUS]) [.link]) ∧
  (∀ (c : Cmd) (s : State), c.b 16 = 1 →
    s.may c 0x0304 .pfWc [] [(16, 1)] (s.link.member = none ∧ s.inService = true ∧ s.scheduled = true) →
    s.answers (.linkCommit c) fun t => t.link.member = some (c.as 0x0304) ∧ t.admCopy = s.admCopy ∧ s.keeps t (among []) [.link])

/-- R196, R208, R225, R133: ports open and close by command and answer how many; LINK_NODE_CTRL ends a membership or asks for a new measurement;
LINK_MGMT queues its frame and waits for the reply. -/
def Obligations.LinkPortAndNodeCommands : Prop :=
  (∀ (c : Cmd) (s : State), c.b 16 < 4 → c.u 20 4 < 2 ^ s.nPorts →
    s.may c 0x0305 .pfWc [] [(16, 1), (20, 4)] (s.mode ≠ mBoot ∧ s.twinOn = false) →
    s.completes (.linkPortOpen c) (c.as 0x0305) stOK
        ((maskPorts (c.b 16) (c.u 20 4)).filter fun x => !s.portOpen x.1 x.2).length fun u =>
      (∀ ch p, ch < 2 → p < 20 → u.portState ch p =
        if (ch, p) ∈ maskPorts (c.b 16) (c.u 20 4) ∧ s.portState ch p = pClosed then pListen else s.portState ch p) ∧
      s.keeps u (fun o => doorReg o || decide (Reg.PORT_STATUS 0 0 ≤ o ∧ o < Reg.PORT_STATUS 1 20)) [.link]) ∧
  (∀ (c : Cmd) (s : State), c.b 16 < 4 → c.b 17 = 1 → c.u 20 4 < 2 ^ s.nPorts →
    s.may c 0x0306 .pfWc [] [(16, 1), (17, 1), (20, 4)] (s.mode ≠ mBoot) →
    s.completes (.linkPortClose c) (c.as 0x0306) stOK
        ((maskPorts (c.b 16) (c.u 20 4)).filter fun x => s.portOpen x.1 x.2).length fun u =>
      ∀ x ∈ maskPorts (c.b 16) (c.u 20 4), u.portState x.1 x.2 = pClosed) ∧
  (∀ (c : Cmd) (s : State), let n := c.b 16
    1 ≤ n → n ≤ 240 → c.b 18 < 4 → s.may c 0x0307 .pfWc [] [(16, 1), (17, 1), (18, 1)] (s.scheduled = true) →
    (c.b 17 = 0 → s.completes (.linkNodeCtrl c) (c.as 0x0307) stOK 0 fun u =>
      ∀ ch, ch < 2 → u.memb ch n =
        if bit (c.b 18) ch = true ∧ 1 ≤ s.memb ch n ∧ s.memb ch n ≤ 3 then 0 else s.memb ch n) ∧
    (c.b 17 = 2 → s.completes (.linkNodeCtrl c) (c.as 0x0307) stOK 0 fun u =>
      (∀ ch, ch < 2 → bit (c.b 18) ch = true → (u.ln ch n).remeasure = true) ∧ s.keeps u (among []) [.link])) ∧
  (∀ (c : Cmd) (s : State), let n := c.b 16
    1 ≤ n → n ≤ 240 → c.b 17 = 1 → c.u 22 2 ≤ 248 → c.u 24 8 + c.u 22 2 ≤ secureBase → s.memb 0 n = 3 →
    s.may c 0x0308 .pfWc [(c.u 24 8, c.u 22 2)] [(16, 1), (17, 1), (18, 2), (20, 2), (22, 2), (24, 8)] (s.fitsMgmt s.bankUsed n 8 = true) →
    s.answers (.linkMgmt c) fun t =>
      t.link.mgmt = s.link.mgmt ++ [⟨c.as 0x0308, n, s.link.nextTag, s.orbit⟩] ∧ t.link.nextTag = (s.link.nextTag + 1) % 256 ∧
      (t.lp 0 (s.nodePort s.bankUsed n)).queue = (s.lp 0 (s.nodePort s.bankUsed n)).queue ++
        [⟨2, kMgmt, n, mgmtPayload 1 s.link.nextTag (c.u 18 2) (c.u 20 2) (c.u 22 2) []⟩] ∧
      s.keeps t (among []) [.link])

/-- R168, R169, R171, R172, R176–R179: how the link starts and succeeds. The counts of LISTENING and CLAIMING lead to CLAIMING and RUNNING with the device
as master, orbit 0 and cycle 0; a better claim sets the count back to five; lets open, are sent, received once and close; a lost master stops a
backup. R168, R175: a backup takes its master's SERVE: it is forwarded, the orbit and cycle are the serve's. -/
def Obligations.LinkStartsServesAndSucceeds : Prop :=
  (∀ s : State, s.linkState = lListening → s.link.count = 0 →
    s.answers .listenCountExpire fun t => t.linkState = lClaiming ∧ t.link.count = 4 ∧ s.keeps t (among [Reg.LINK_STATUS]) [.link]) ∧
  (∀ s : State, s.linkState = lClaiming → s.link.count = 0 → s.link.startCmd = none →
    s.answers .claimCountExpire fun t =>
      t.linkState = lRunning ∧ t.orbit = 0 ∧ t.link.cycle = 0 ∧ t.fld Reg.LINK_STATUS F.LINK_STATUS_MASTER = s.station ∧
      s.keeps t (among [Reg.LINK_STATUS, Reg.LINK_ORBIT]) [.link]) ∧
  (∀ (ch p : Nat) (f : RawFrame) (s : State), ch < 2 → p < 20 → s.portOpen ch p = true → s.linkState = lListening → f.valid = true →
    f.kind = kClaim → s.link.claims = [] → leAt f.payload 8 8 ≠ s.mem.fuse.serial.toNat →
    oct f.payload 0 < s.fld Reg.LINK_STATION F.LINK_STATION_RANK → s.link.better < 7 →
    s.answers (.claimReceive ch p f) fun t =>
      t.linkState = lListening ∧ t.link.count = 5 ∧ t.link.better = s.link.better + 1 ∧ t.link.claims = [(ch, oct f.payload 1)] ∧
      s.keeps t (among [Reg.LINK_STATUS]) [.link]) ∧
  (∀ (ch : Nat) (s : State), ch < 2 → s.linkState = lFollowing → bit s.link.served ch = false → s.link.letAt = [] →
    s.answers (.letPhaseOpen ch) fun t => bit t.link.letOpen ch = true ∧ s.keeps t (fun _ => false) [.link]) ∧
  (∀ (ch : Nat) (s : State), ch < 2 →
    s.answers (.letPhaseClose ch) fun t => bit t.link.letOpen ch = false ∧ s.keeps t (fun _ => false) [.link]) ∧
  (∀ (ch p pos : Nat) (f : RawFrame) (s : State), ch < 2 → p < 20 → s.portOpen ch p = true → f.kind = kLet → s.linkState = lFollowing →
    bit s.link.letOpen ch = true → s.link.letAt = [] → sbChk f.start = true →
    s.answers (.letReceive ch p pos f) fun t =>
      t.link.letAt = [(ch, pos)] ∧ t.link.newMaster = some (s.link.newMaster.getD f.src) ∧
      (∀ d, d < 20 → d ≠ p → s.portOpen ch d = true → s.ownCh ch = true → Emit.forward ch d f ∈ t.egress) ∧
      s.keeps t (fun _ => false) [.link]) ∧
  (∀ s : State, let r := s.fld Reg.LINK_STATION F.LINK_STATION_RANK
    s.linkState = lFollowing → 1 ≤ r → s.link.served = 0 → s.link.letAt = [] → s.link.letOpen = 3 →
    s.answers .letSend fun t => t.link.newMaster = some s.station ∧ t.link.letAt = [(0, 8 * r), (1, 8 * r)] ∧ s.keeps t (fun _ => false) [.link]) ∧
  (∀ s : State, s.role ≠ 2 → s.linkState = lFollowing → s.fld Reg.LINK_CTRL F.LINK_CTRL_MASTER_LOSS ≤ s.link.lossCount →
    s.answers .masterLossExpire fun t => t.linkState = lStopped ∧ t.link.commit = none ∧ t.link.member = none) ∧
  (∀ (ch p : Nat) (pos : Int) (f : RawFrame) (s : State), ch < 2 → p < 20 → s.portOpen ch p = true → f.kind = kServe → f.valid = true →
    s.linkState = lFollowing → f.src = s.fld Reg.LINK_STATUS F.LINK_STATUS_MASTER → -2 ≤ pos → pos ≤ 2 →
    s.answers (.serveReceive ch p pos f) fun t =>
      bit t.link.served ch = true ∧ t.link.cycle = oct f.header 1 % 64 ∧ t.orbit = leAt f.payload 8 4 ∧
      (∀ d, d < 20 → d ≠ p → s.portOpen ch d = true → s.ownCh ch = true → Emit.forward ch d f ∈ t.egress) ∧
      s.keeps t (fun o => o == Reg.LINK_ORBIT) [.link])

/-- R198–R203: judging what arrives on a port. A start block within its entry's guard on its nominal start is followed; without an entry near it, it is
cut, recorded 0x0315 and counted a violation; a frame that overruns is cut; the winner of a round is granted; a copy for
the device is kept and counted for its entry; a missing one is counted. -/
def Obligations.FramesAreJudgedByTheSchedule : Prop :=
  (∀ (ch p pos : Nat) (st : List Byte) (e : Nat) (x : Ent) (s : State), ch < 2 → p < 20 → s.portOpen ch p = true → s.scheduled = true →
    s.portState ch p ≠ pContained → (s.lp ch p).meas = none → sbChk st = true → kindOk (sbKind st) = true → sbKind st = kData →
    s.nearest ch p pos = some (e, x) → x.typ ≠ 2 → x.kind = kData → sbSrc st = x.owner → s.memb ch (sbSrc st) = 3 →
    pos = x.start → sbLen st + 4 ≤ x.len →
    s.answers (.startBlockReceive ch p pos st) fun t =>
      (t.lp ch p).cur = some ⟨e, 0, false, false, false⟩ ∧ t.egress = s.egress ∧ t.log = s.log ∧
      s.keeps t (fun o => o == Reg.NODE_OFS (sbSrc st)) [.link]) ∧
  (∀ (ch p pos : Nat) (st : List Byte) (s : State), ch < 2 → p < 20 → s.portOpen ch p = true → s.scheduled = true →
    s.portState ch p ≠ pContained → (s.lp ch p).meas = none → sbKind st = kData → s.nearest ch p pos = none → s.memb ch (sbSrc st) = 3 →
    s.fld (Reg.PORT_STATUS ch p) F.PORT_STATUS_VIOL_ORBIT + 1 < s.fld Reg.LINK_CONTAIN F.LINK_CONTAIN_CONTAIN_LIMIT →
    s.answers (.startBlockReceive ch p pos st) fun t =>
      t.egress = .cut ch p :: s.egress ∧ (t.lp ch p).cur = none ∧ (t.lp ch p).violated = true ∧
      t.reg (Reg.PORT_VIOL ch p) = BitVec.ofNat 32 (satU 32 ((s.reg (Reg.PORT_VIOL ch p)).toNat + 1))) ∧
  (∀ (ch p : Nat) (q : LkCur) (x : Ent) (s : State), ch < 2 → p < 20 → (s.lp ch p).cur = some q → q.answer = false → s.scheduled = true →
    s.ent s.bankUsed q.ent = some x →
    s.answers (.frameOverrun ch p) fun t => Emit.cut ch p ∈ t.egress ∧ (t.lp ch p).cur = none) ∧
  (∀ (ch e i w pr : Nat) (q : LkCur) (s : State), w < 20 → ch < 2 → s.link.arb = [(ch, e, i, pr, w)] → (s.lp ch w).cur = some q →
    s.answers (.arbGrant ch e i) fun t =>
      (t.lp ch w).cur = some { q with granted := true } ∧ t.link.arb = [] ∧ s.keeps t (fun _ => false) [.link]) ∧
  (∀ (ch p kind : Nat) (i : Instr) (q : LkCur) (x : Ent) (f : RawFrame) (s : State),
    (i = .dataReceive ch p f ∧ kind = kData) ∨ (i = .arbReceive ch p f ∧ kind = kArb) → ch < 2 → p < 20 →
    (s.lp ch p).cur = some q → q.answer = false → (q.arb = false ∨ q.granted = true) → f.kind = kind → s.scheduled = true → s.link.cut = false →
    s.ent s.bankUsed q.ent = some x → f.valid = true → bit x.dest 20 = true → s.role < 2 →
    (∀ y ∈ s.link.copies, ¬ (y.src = f.src ∧ y.slot = f.slot)) →
    s.answers i fun t =>
      t.link.copies = s.link.copies ++ [⟨f.src, f.slot, ch, f⟩] ∧ t.link.got = (q.ent, ch) :: s.link.got ∧
      (t.lp ch p).cur = none ∧ (t.ln ch f.src).heard = true ∧ t.log = s.log ∧ s.keeps t (fun _ => false) [.link]) ∧
  (∀ (ch e : Nat) (x : Ent) (s : State), ch < 2 → e < s.fld (Reg.SB_COUNT s.bankUsed) F.SB_COUNT_N_ENTRIES → s.ent s.bankUsed e = some x →
    s.scheduled = true → x.fromNode = true → bit x.dest 20 = true → x.onCh ch = true → x.active s.link.cycle = true →
    (e, ch) ∉ s.link.got → s.ownCh ch = true → s.role < 2 → x.slot < 512 →
    s.answers (.entryMissing ch e) fun t =>
      (e, ch) ∈ t.link.got ∧ t.fld (Reg.LINK_MISS x.slot) (if ch = 0 then F.LINK_MISS_MISS_A else F.LINK_MISS_MISS_B) =
        satU 16 (s.fld (Reg.LINK_MISS x.slot) (if ch = 0 then F.LINK_MISS_MISS_A else F.LINK_MISS_MISS_B) + 1) ∧
      s.keeps t (fun o => o == Reg.LINK_MISS x.slot) [.link])

/-- R133, R142, R185–R191, R225: management and measurement. A first management frame for the device is counted; one without a reply for four
orbits answers TIMEOUT; a device MGMT entry carries the frame that waits; an answer inside its interval adds a measurement, an
unanswered probe is counted; every member is measured again when REPROBE has passed. -/
def Obligations.ManagementAndMeasurement : Prop :=
  (∀ (ch p : Nat) (q : LkCur) (x : Ent) (f : RawFrame) (s : State), ch < 2 → p < 20 → (s.lp ch p).cur = some q → q.answer = false →
    q.arb = false → f.kind = kMgmt → s.scheduled = true → s.ent s.bankUsed q.ent = some x → f.valid = true → bit x.dest 20 = true → s.role < 2 →
    (∀ y ∈ s.link.copies, ¬ (y.src = f.src ∧ y.slot = f.slot)) → f.dst = 0 → oct f.payload 0 = 7 →
    s.link.lists = [(oct f.payload 1, ch, f.src, 0)] →
    s.answers (.mgmtReceive ch p f) fun t => t.link.lists = [] ∧ bit (t.ln ch f.src).acked 0 = true ∧ s.keeps t (fun _ => false) [.link]) ∧
  (∀ (tag : Nat) (m : LkMgmt) (s : State), s.link.mgmt = [m] → m.tag = tag → 4 ≤ idxSub s.orbit m.orbit →
    s.completes (.linkMgmtTimeout tag) m.cmd stTimeout 0 fun u => u.link.mgmt = [] ∧ s.keeps u (fun _ => false) [.link]) ∧
  (∀ (e p : Nat) (m : LkMsg) (x : Ent) (s : State), s.ent s.bankUsed e = some x → s.scheduled = true →
    e < s.fld (Reg.SB_COUNT s.bankUsed) F.SB_COUNT_N_ENTRIES → x.fromDevice = true → x.kind = kMgmt → x.active s.link.cycle = true →
    (e, 2) ∉ s.link.got → s.heldOut = false → s.twinOn = false → p < 20 → x.onCh 0 = true → bit x.dest p = true → (s.lp 0 p).sending = true →
    s.portOpen 0 p = true → s.link.letAt = [] → (s.lp 0 p).queue = [m] → m.payload.length / 8 + 3 ≤ x.len →
    s.answers (.deviceMgmtSend e) fun t =>
      (t.lp 0 p).queue = [] ∧ Emit.frame 0 p x.start (s.mkFrame 0 m.kind x.slot m.dst 0 m.payload) ∈ t.egress ∧ (e, 2) ∈ t.link.got) ∧
  (∀ (ch p start seq : Nat) (t1 t2 : W64) (m : LkMeas) (f : RawFrame) (s : State), (s.lp ch p).meas = some m → m.out = some (t1, seq, start) →
    s.role < 2 → f.valid = true → f.kind = kSyncAnswer → f.src = m.node → leAt f.payload 4 2 = seq % 65536 → m.ms.length < 3 →
    ((start + 5 : Nat) * (s.bankUs s.bankUsed * 16000 : Nat) : Int) ≤ timeDiff t2 s.link.tk * blocksOf (s.bankUs s.bankUsed) →
    timeDiff t2 s.link.tk * blocksOf (s.bankUs s.bankUsed) + ((sbLen f.start + 4) * (s.bankUs s.bankUsed * 16000) : Nat) ≤
      ((start + 17 + 2 * s.fld Reg.LINK_JOIN F.LINK_JOIN_DELAY_MAX) * (s.bankUs s.bankUsed * 16000) : Nat) →
    s.answers (.syncAnswerReceive ch p t2 f) fun t =>
      (t.lp ch p).meas = some { m with ms := m.ms ++ [timeDiff t2 t1 - leAt f.payload 0 4], silent := 0, out := none } ∧
      s.keeps t (fun _ => false) [.link]) ∧
  (∀ (ch p : Nat) (m : LkMeas) (s : State), (s.lp ch p).meas = some m → m.out.isSome = true → m.silent < 7 →
    s.answers (.probeUnanswered ch p) fun t =>
      (t.lp ch p).meas = some { m with out := none, silent := m.silent + 1 } ∧ s.keeps t (fun _ => false) [.link]) ∧
  (∀ s : State, s.fld Reg.LINK_TIMERS F.LINK_TIMERS_REPROBE ≠ 0 → s.fld Reg.LINK_TIMERS F.LINK_TIMERS_REPROBE ≤ s.link.ticks →
    s.answers .reprobeExpire fun t =>
      t.link.ticks = 0 ∧ (∀ ch n, ch < 2 → n ≤ 240 → s.memb ch n = 3 → (t.ln ch n).remeasure = true) ∧ s.keeps t (fun _ => false) [.link])

/-- R193–R196: joining. A JOIN_REQ of a listed, scheduled and measured node grants it membership two orbits on; probation without a fault ends in
MEMBER; a silent member ends. R206, R207, R211: containment decays, a lost lane takes its port to LISTEN, acknowledgements are waited for in vain. -/
def Obligations.MembershipAndContainment : Prop :=
  (∀ (ch p n : Nat) (q : LkCur) (x : Ent) (f : RawFrame) (s : State), ch < 2 → p < 20 → (s.lp ch p).cur = some q → q.answer = false → q.arb = false →
    f.kind = kJoinReq → s.scheduled = true → s.ent s.bankUsed q.ent = some x → f.valid = true → bit x.dest 20 = true → s.role < 2 →
    (∀ y ∈ s.link.copies, ¬ (y.src = f.src ∧ y.slot = f.slot)) → n = oct f.payload 12 → 1 ≤ n → n ≤ 240 → f.payload.length = 24 →
    s.memb ch n = 0 → s.listed n = true → s.flag (Reg.ADM_CTRL s.admCopy n) F.ADM_CTRL_CHECK_SERIAL = false → s.sched s.bankUsed n = true →
    s.nodePort s.bankUsed n = p → (s.ln ch n).delay.isSome = true →
    s.answers (.joinReqReceive ch p f) fun t =>
      t.memb ch n = 1 ∧ t.joinPort n = p ∧ (t.ln ch n).serial = BitVec.ofNat 64 (leAt f.payload 0 8) ∧
      (t.ln ch n).grantOrbit = (s.orbit + 2) % 2 ^ 32) ∧
  (∀ (ch n : Nat) (s : State), ch < 2 → n ≤ 240 → s.memb ch n = 2 → (s.ln ch n).probLeft ≤ 1 → (s.ln ch n).bad = false →
    (s.ln ch n).edges ≤ s.fld Reg.LINK_JOIN F.LINK_JOIN_EDGE_MAX →
    s.answers (.probationEnd ch n) fun t => t.memb ch n = 3 ∧ t.nodeFailed n = 0 ∧ t.memb (1 - ch) n = s.memb (1 - ch) n) ∧
  (∀ (ch n : Nat) (s : State), ch < 2 → n ≤ 240 → s.memb ch n = 3 → s.fld Reg.LINK_JOIN F.LINK_JOIN_SILENT ≤ (s.ln ch n).silent →
    s.answers (.memberSilent ch n) fun t => t.memb ch n = 0 ∧ (t.ln ch n).delay = none ∧ t.memb (1 - ch) n = s.memb (1 - ch) n) ∧
  (∀ (ch p : Nat) (s : State), ch < 2 → p < 20 → s.fld Reg.LINK_CONTAIN F.LINK_CONTAIN_DECAY ≤ (s.lp ch p).clean →
    s.answers (.containDecay ch p) fun t =>
      t.fld (Reg.PORT_STATUS ch p) F.PORT_STATUS_CONTAIN_COUNT = s.fld (Reg.PORT_STATUS ch p) F.PORT_STATUS_CONTAIN_COUNT - 1 ∧
      (t.lp ch p).clean = 0 ∧ s.keeps t (fun o => o == Reg.PORT_STATUS ch p) [.link]) ∧
  (∀ (ch p : Nat) (s : State), ch < 2 → p < s.nPorts → s.flag (Reg.PORT_STATUS ch p) F.PORT_STATUS_LOCK = true →
    s.answers (.laneLost ch p false false) fun t =>
      t.laneLost ch p = true ∧ (t.lp ch p).cur = none ∧
      t.fld (Reg.PORT_ERR ch p) F.PORT_ERR_LOCK_LOSSES =
        satU F.PORT_ERR_LOCK_LOSSES.w (s.fld (Reg.PORT_ERR ch p) F.PORT_ERR_LOCK_LOSSES + 1) ∧
      s.keeps t (fun o => o == Reg.PORT_STATUS ch p || o == Reg.PORT_ERR ch p) [.link]) ∧
  (∀ (ch p : Nat) (s : State), ch < 2 → p < 20 → s.laneLost ch p = true → s.fld Reg.LINK_CTRL F.LINK_CTRL_LOCK_LOSS ≤ (s.lp ch p).lostFor →
    (s.lp ch p).lossDone = false → s.portState ch p = pListen →
    s.answers (.laneLossExpire ch p) fun t => t.portState ch p = pListen ∧ (t.lp ch p).lossDone = true) ∧
  (∀ (ch p : Nat) (s : State), ch < 2 → p < s.nPorts →
    s.answers (.blockLockGained ch p) fun t =>
      t.laneLost ch p = false ∧ (t.lp ch p).lostFor = 0 ∧ s.keeps t (fun o => o == Reg.PORT_STATUS ch p) [.link]) ∧
  (∀ (x : LkCommit) (s : State), s.link.commit = some x → x.announcing = false → s.fld Reg.LINK_JOIN F.LINK_JOIN_ACK_WAIT ≤ x.waited →
    s.allAcked (s.link.staged.getD 0) = false →
    s.completes .ackWaitExpire x.cmd stAborted 3 fun u =>
      u.link.commit = none ∧ u.flag Reg.LINK_STATUS F.LINK_STATUS_SWAP_PENDING = false ∧ s.keeps u (among [Reg.LINK_STATUS]) [.link])

/-! ### Motion groups (block 0x04) -/

/-- R235–R238: the commands that change a group's state. In each the group's new state, and no other group's, is as the table of R235 gives it. -/
def Obligations.GroupCommandsChangeState : Prop :=
  (∀ (c : Cmd) (s : State), let g := c.group
    g < s.nGroups → s.regionState 0x30 ≠ 2 → s.grpState g = gsDisabled →
    s.may c 0x0402 .any [] []
      (s.plannerLent = false ∧ mOperate ≤ s.mode ∧ (s.pg g).model.isSome = true ∧ s.phase g = phOff ∧ s.zoneNotArmed g = none ∧
        s.lostNode g = none) →
    s.answers (.grpEnable c) fun t =>
      t.grpState g = gsStandstill ∧ (t.srvGrp g).req = 1 ∧ (t.pg g).enable = some (c.as 0x0402) ∧
      (∀ h, h < 16 → h ≠ g → t.grpState h = s.grpState h ∧ t.pg h = s.pg h)) ∧
  (∀ (c : Cmd) (s : State), let g := c.group
    g < s.nGroups → s.regionState 0x30 ≠ 2 → s.may c 0x0403 .any [] [] (s.plannerLent = false ∧ s.grpState g ∈ [1, 3, 5]) →
    s.completes (.grpDisable c) (c.as 0x0403) stOK 0 fun u =>
      u.grpState g = gsDisabled ∧ (u.srvGrp g).req = 2 ∧ (u.pg g).queue = [] ∧ (u.pg g).holds = [] ∧
      (∀ h, h < 16 → h ≠ g → u.grpState h = s.grpState h ∧ u.pg h = s.pg h)) ∧
  (∀ (c : Cmd) (s : State), let g := c.group
    g < s.nGroups → s.regionState 0x30 ≠ 2 → c.b 16 = 0 → s.may c 0x0409 .any [] [(16, 1)] (s.plannerLent = false ∧ s.grpLive g = true) →
    s.completes (.grpStop c) (c.as 0x0409) stOK 0 fun u =>
      u.grpState g = gsDisabled ∧ (u.srvGrp g).req = 3 ∧ (u.pg g).queue = [] ∧
      (∀ h, h < 16 → h ≠ g → u.grpState h = s.grpState h ∧ u.pg h = s.pg h)) ∧
  (∀ (c : Cmd) (s : State), let g := c.group
    g < s.nGroups → s.regionState 0x30 ≠ 2 → c.b 16 = 1 ∨ c.b 16 = 2 → s.grpState g = gsMoving →
    s.may c 0x0409 .any [] [(16, 1)] (s.plannerLent = false) →
    s.answers (.grpStop c) fun t =>
      t.grpState g = gsStopping ∧ t.stopEnd g = (if c.b 16 = 1 then seDisabled else seStandstill) ∧ (t.pg g).queue = [] ∧
      (t.pg g).stops = (s.pg g).stops ++ [c.as 0x0409] ∧ (∀ h, h < 16 → h ≠ g → t.grpState h = s.grpState h ∧ t.pg h = s.pg h)) ∧
  (∀ (c : Cmd) (s : State), let g := c.group
    g < s.nGroups → s.grpState g = gsHolding → s.may c 0x040A .any [] [] True →
    s.completes (.grpHold c) (c.as 0x040A) stOK 0 fun u =>
      u.grpState g = gsHolding ∧ bit (u.holdCause g) hcHold = true ∧ s.keeps u (among [Reg.GRP_STATE g]) []) ∧
  (∀ (c : Cmd) (s : State), let g := c.group
    g < s.nGroups → s.regionState 0x30 ≠ 2 → s.grpState g = gsHolding → s.holdCause g = 1 → s.may c 0x040B .any [] [] True →
    s.completes (.grpResume c) (c.as 0x040B) stOK 0 fun u =>
      u.grpState g = gsMoving ∧ u.holdCause g = 0 ∧ (u.pg g).dir = 2 ∧ (∀ h, h < 16 → h ≠ g → u.grpState h = s.grpState h ∧ u.pg h = s.pg h)) ∧
  (∀ (c : Cmd) (s : State), let g := c.group
    g < s.nGroups → s.regionState 0x30 ≠ 2 → s.grpState g = gsFaulted → s.phase g = phOff → s.may c 0x040C .any [] [] (s.plannerLent = false) →
    s.completes (.grpClearFault c) (c.as 0x040C) stOK gsDisabled fun u =>
      u.grpState g = gsDisabled ∧ u.reg (Reg.GRP_FAULT g) = 0 ∧ u.fld (Reg.SRV_GRP_STATUS g) F.SRV_GRP_STATUS_CAUSE = 0)

/-- R230, R239, R240, R246, R250, R253: models, limits and moves. A model that passes its checks becomes the group's; a move whose record is good
stands last in the queue; a modification and new limits wait for their tick. -/
def Obligations.ModelsAndMovesAreTaken : Prop :=
  (∀ (c : Cmd) (s : State), let g := c.group; let a := c.u 24 8; let n := min (c.u 32 4) 2408; let l := s.sramRead a n
    g < s.nGroups → 0 < n → a + n ≤ secureBase → s.twin.feed = none → s.sramReady a n = true → s.poisoned a n = none →
    model1 l n = true → s.modelCheck (modelOf l) = 0 → (modelOf l).joints.any (fun j => (s.axisGroup j.axis).any (· != g)) = false →
    s.may c 0x0401 .pf [(a, n)] [(24, 8), (32, 4)] (s.grpState g = gsDisabled) →
    s.completes (.grpLoadModel c .pending) (c.as 0x0401) stOK 0 fun u =>
      (u.pg g).model = some (modelOf l) ∧ u.flag (Reg.GRP_MODEL g) F.GRP_MODEL_LOADED = true ∧
      (∀ h, h ≠ g → u.pg h = s.pg h) ∧ u.grpState g = s.grpState g) ∧
  (∀ (c : Cmd) (m : PlModel) (s : State), let g := c.group
    g < s.nGroups → s.grpState g ≤ 5 → (s.pg g).model = some m → c.b 16 = 255 →
    (∀ j ∈ m.joints, limitOk (c.u 24 8) j.vmax = true ∧ limitOk (c.u 32 8) j.amax = true ∧ limitOk (c.u 40 8) j.jmax = true) →
    m.joints ≠ [] → s.may c 0x0408 .any [] [(16, 1), (24, 8), (32, 8), (40, 8)] True →
    s.answers (.grpSetLimits c) fun t =>
      t.pg g = { s.pg g with changes := (s.pg g).changes ++ [⟨c.as 0x0408, [], false⟩] } ∧ (∀ h, h ≠ g → t.pg h = s.pg h) ∧
      s.keeps t (among []) [.pl]) ∧
  (∀ (kind op : Nat) (i : Instr) (c : Cmd) (m : PlModel) (s : State), let g := c.group; let a := c.u 24 8; let n := c.u 32 4; let l := s.sramRead a n
    (i = .moveJoint c .pending ∧ kind = 0 ∧ op = 0x0404) ∨ (i = .movePath c .pending ∧ kind = 1 ∧ op = 0x0405) ∨
      (i = .moveTrack c .pending ∧ kind = 2 ∧ op = 0x0406) →
    g < s.nGroups → 0 < n → n ≤ 320 → a + n ≤ secureBase → s.twin.feed = none → s.sramReady a n = true → s.poisoned a n = none →
    c.b 16 < 2 → (kind = 2 → c.b 16 = 0) → (s.pg g).model = some m → s.grpState g ∈ [1, 2, 3] → (s.pg g).queue.length < 16 →
    n = recLen kind m.joints.length → (kind = 0 → jointRecOk l m = true) →
    (kind = 1 → pathRecOk l = true ∧ s.pathOk g (leAt l 2 1) = true ∧ s.unplacedGroup g = false) → (kind = 2 → s.trackRecOk l m = true) →
    s.may c op .any [(a, n)] [(16, 1), (24, 8), (32, 4)] (s.plannerLent = false ∧ (kind = 0 ∨ s.mode ≠ mService)) →
    s.answers i fun t =>
      (t.pg g).queue = (s.pg g).queue ++ [⟨c.as op, kind, c.b 16 == 1, l, false⟩] ∧
      t.reg (Reg.GRP_QUEUE g) = BitVec.ofNat 32 ((16 - ((s.pg g).queue.length + 1)) * 256 + ((s.pg g).queue.length + 1)) ∧
      (∀ h, h ≠ g → t.pg h = s.pg h) ∧ t.grpState g = s.grpState g) ∧
  (∀ (c : Cmd) (m : PlModel) (mv : PlMove) (s : State), let g := c.group
    g < s.nGroups → s.grpState g ∈ [1, 2, 3] → c.b 16 = 0 → [24, 32, 40].all (fun o => dEq (c.u o 8) 0 || fractionOk (c.u o 8)) = true →
    (s.pg g).model = some m → (s.pg g).moveOf (c.u 20 4) = some mv →
    s.may c 0x0407 .any [] [(16, 1), (20, 4), (24, 8), (32, 8), (40, 8), (48, 8)] True →
    s.answers (.moveModify c .pending) fun t =>
      t.pg g = { s.pg g with changes := (s.pg g).changes ++ [⟨c.as 0x0407, [], false⟩] } ∧ s.keeps t (among []) [.pl])

/-- R263–R266: workspace zones. A group that does not hold a zone's token joins the zone's requests; a forced release gives the token back and records
0x0417; ZONE_SET enables a zone whose planes suit and that no group is in. R28, R234, R235, R320: the instants of a cycle and a tick. At the cut-off
the cycle is cut and the servo computes; at the deadline the optimiser stops and the plan is built; a ramp that ends takes its group to the state that
its stop names. -/
def Obligations.ZonesAndPlanningInstants : Prop :=
  (∀ (c : Cmd) (s : State), let g := c.group; let z := c.b 16
    g < s.nGroups → z < 64 → s.grpState g ≤ 4 → s.holdsZone g z = false → s.may c 0x040D .any [] [(16, 1)] True →
    s.answers (.zoneAcquire c) fun t =>
      (t.pz z).reqs = (s.pz z).reqs ++ [(s.pl.tick, g, some (c.as 0x040D))] ∧ bit (t.reg64 (Reg.GRP_WAIT g)).toNat z = true ∧
      s.keeps t (among [Reg.GRP_WAIT g, Reg.GRP_WAIT g + 4]) [.pl]) ∧
  (∀ (c : Cmd) (s : State), let g := c.group; let z := c.b 16
    g < s.nGroups → z < 64 → s.grpState g ≤ 5 → c.who = .pf → c.b 17 = 1 → s.zoneOwned z = true → s.zoneOwner z = g →
    s.may c 0x040E .any [] [(16, 1), (17, 1)] True →
    s.completes (.zoneRelease c) (c.as 0x040E) stOK 0 fun u =>
      u.zoneOwned z = false ∧ bit (u.reg64 (Reg.GRP_TOKENS g)).toNat z = false ∧
      s.keeps u (among [Reg.ZONE_CTRL z, Reg.GRP_TOKENS g, Reg.GRP_TOKENS g + 4]) []) ∧
  (∀ (c : Cmd) (s : State), let z := c.b 16
    z < 64 → c.b 17 < 2 →
    s.may c 0x040F .pf [] [(16, 1), (17, 1)]
      (if c.b 17 = 1 then s.planesOk z = true ∧ (∀ g ∈ s.groups, s.groupEnters g z (s.measNow g) = false)
        else s.zoneOwned z = false ∧ (s.pz z).reqs = []) →
    s.completes (.zoneSet c) (c.as 0x040F) stOK 0 fun u =>
      u.flag (Reg.ZONE_CTRL z) F.ZONE_CTRL_ENABLE = (c.b 17 == 1) ∧ s.keeps u (among [Reg.ZONE_CTRL z]) []) ∧
  (∀ (failed : List Nat) (s : State), s.armed 0 = true → s.link.cut = false →
    timePast (s.link.tk + BitVec.ofNat 64 s.cutoffUnits) s.cell = true → s.role < 2 →
    s.answers (.feedbackCutoff failed) fun t =>
      t = (({ s with link := { s.link with cut := true } } : State).srvCompute failed).tickFreeze ∧
      (s.pl.freezeDue = false → t.link.cut = true)) ∧
  (∀ (st : List (Nat × Nat)) (n : Nat) (d : Bool) (s : State), s.pl.deadlineDue = true → s.armed 1 = true → timePast s.deadlineAt s.cell = true →
    s.role < 2 →
    s.answers (.optimiserDeadline st n d) fun t =>
      t = ((((({ s with pl := { s.pl with deadlineDue := false } } : State).optDeadline st).planBuild.optIdle).sepPublish n d).sendTick)) ∧
  (∀ (g : Nat) (s : State), g < s.nGroups → s.regionState 0x30 ≠ 2 → s.grpState g = gsStopping → (s.pg g).dir = 1 → (s.pg g).u = d1 →
    s.stopEnd g = seStandstill →
    s.answers (.rampEnd g) fun t =>
      t.grpState g = gsStandstill ∧ (t.pg g).stops = [] ∧ (t.pg g).plan = .rest ∧ (∀ h, h < 16 → h ≠ g → t.pg h = s.pg h))

/-! ### The optimiser (block 0x05) -/

/-- R303, R307, R308, R335: programs and tables. A program that passes its checks fills its bank; a commit outside operation swaps the banks at once, in
operation it waits for its tick; a dynamic table that passes its checks becomes the group's; payloads wait; a solution is copied. R300, R312, R315,
R322, R325: the optimiser's events. A gravity job gives the bias torques at the measured position; an iteration of a solve moves it on and sets its
status by the residuals; a cluster that faults ends the solves on it with 0x0B. -/
def Obligations.OptimiserMovesOn : Prop :=
  (∀ (c : Cmd) (s : State), let b := c.b 16; let a := c.u 24 8; let n := c.u 32 4; let l := s.sramRead a n
    b < 2 → 0 < n → a + n ≤ secureBase → s.twin.feed = none → s.sramReady a n = true → s.poisoned a n = none → s.progCheck l n = 0 →
    s.may c 0x0501 .pf [(a, n)] [(16, 1), (24, 8), (32, 4)] (s.opt.commit = none ∧ ¬ (2 ≤ s.mode ∧ b = s.optUsed)) →
    s.completes (.optStage c .pending) (c.as 0x0501) stOK 0 fun u =>
      u.optBank b = l.take (leAt l 16 4) ∧ u.optBank (1 - b) = s.optBank (1 - b) ∧ u.reg (Reg.OPT_PROG_ID b) = BitVec.ofNat 32 (leAt l 8 4) ∧
      (b ≠ s.optUsed → u.optStagedOk = true) ∧ s.keeps u (among [Reg.OPT_CHECK, Reg.OPT_PROG_ID b, Reg.OPT_STATUS]) [.opt]) ∧
  (∀ (c : Cmd) (s : State), s.mode < mOperate → s.optUsed < 2 →
    s.may c 0x0502 .pf [] [] (s.opt.commit = none ∧ s.optStagedOk = true ∧ s.commitLacks = false) →
    s.completes (.optCommit c) (c.as 0x0502) stOK 0 fun u =>
      u.optUsed = 1 - s.optUsed ∧ u.opt.banks = s.opt.banks ∧ s.keeps u (among [Reg.OPT_STATUS]) [.opt]) ∧
  (∀ (c : Cmd) (s : State), mOperate ≤ s.mode → s.may c 0x0502 .pf [] [] (s.opt.commit = none ∧ s.optStagedOk = true ∧ s.commitLacks = false) →
    s.answers (.optCommit c) fun t =>
      t.opt.commit = some (c.as 0x0502) ∧ t.flag Reg.OPT_STATUS F.OPT_STATUS_COMMIT_PENDING = true ∧ t.optUsed = s.optUsed ∧
      s.keeps t (among [Reg.OPT_STATUS]) [.opt]) ∧
  (∀ (c : Cmd) (s : State), let g := c.group; let a := c.u 24 8; let n := min (c.u 32 4) 2180; let l := s.sramRead a n
    g < s.nGroups → 0 < n → a + n ≤ secureBase → s.twin.feed = none → s.sramReady a n = true → s.poisoned a n = none →
    dynCheck l n (s.groupAxes g).length = 0 →
    s.may c 0x0503 .pf [(a, n)] [(24, 8), (32, 4)] (s.grpState g = gsDisabled ∧ (s.pg g).model.isSome = true) →
    s.completes (.optLoadDyn c .pending) (c.as 0x0503) stOK 0 fun u =>
      (u.og g).dyn = some (dynOf l) ∧ (∀ h, h ≠ g → u.og h = s.og h) ∧ s.keeps u (among [Reg.OPT_GRP_DYN g]) [.opt]) ∧
  (∀ (c : Cmd) (s : State), let g := c.group
    g < s.nGroups → s.grpState g ≤ 4 → dNonneg (c.u 16 8) = true → [24, 32, 40].all (fun o => dFinite (c.u o 8)) = true →
    [48, 52, 56].all (fun o => dFinite (of32 (BitVec.ofNat 32 (c.u o 4)))) = true →
    s.may c 0x0504 .any [] [(16, 8), (24, 8), (32, 8), (40, 8), (48, 12)] (s.hasDyn g = true) →
    s.answers (.optSetPayload c) fun t =>
      t.og g = { s.og g with payload := (s.og g).payload ++ [c.as 0x0504] } ∧ s.keeps t (among []) [.opt]) ∧
  (∀ (c : Cmd) (x : OptSol) (s : State), let g := c.group; let a := c.u 24 8; let n := c.u 32 4
    g < s.nGroups → isSram a = false → (s.og g).sol = some x → (s.og g).returned = true → x.bytes.length ≤ n →
    s.may c 0x0505 .any [(a, n)] [(24, 8), (32, 4)] True →
    s.completes (.optCopySolution c) (c.as 0x0505) stOK 0 fun u =>
      u.egress = ((s.ready1 (c.as 0x0505)).hostWrite (fnOf c.who) (hostAddr a) x.bytes).egress ∧ s.keeps u (among []) []) ∧
  (∀ (g : Nat) (m : PlModel) (d : OptDyn) (v : List Nat) (s : State), s.groups.contains g = true → s.gravTurn g = true → (s.pg g).model = some m →
    (s.og g).dyn = some d → biasOf m d (s.pg g).measQ (zeros m.joints.length) = some v → v.all dFinite = true →
    s.answers (.gravityJobDone g) fun t =>
      (t.pg g).gravNext = some v ∧ (t.og g).gravDue = false ∧ s.keeps t (fun _ => false) [.pl, .opt]) ∧
  (∀ (g : Nat) (sv : OptSolve) (it : OptIter) (ap ad : Nat) (norms : List Nat) (s : State), (s.og g).solve = some sv → sv.status = 0 →
    s.solveTurn g sv = true →
    iterate (bit (tmFlags s.optProg sv.tmpl) 0) (tmOrder s.optProg sv.tmpl) sv.prob sv.it = .ok it ap ad norms →
    s.answers (.solveIterationDone g 0) fun t =>
      ∃ sv', (t.og g).solve = some sv' ∧ sv'.it = it ∧ sv'.iters = sv.iters + 1 ∧ sv'.norms = norms ∧
        (sv'.status = 1 ↔ dLe (nth norms 0) (tmReal s.optProg sv.tmpl 96) = true ∧ dLe (nth norms 1) (tmReal s.optProg sv.tmpl 104) = true ∧
          dLe (nth norms 2) (tmReal s.optProg sv.tmpl 112) = true)) ∧
  (∀ (k cause : Nat) (s : State), s.activeClu.contains k = true → s.opt.faulted.contains k = false → cause = 1 ∨ cause = 2 →
    s.answers (.clusterFault k cause) fun t =>
      t.opt.faulted = s.opt.faulted ++ [k] ∧
      (∀ g sv, g < s.nGroups → (s.og g).solve = some sv → sv.mask.contains k = true → (t.og g).solve = some { sv with status := 0x0B }) ∧
      s.keeps t (among []) [.opt])

/-! ### The servo engine (block 0x06) -/

/-- R356–R360, R377: swap sets. A commit in CONFIG swaps the set's bank at once, in operation it waits; a copy makes the other bank of every axis of the
set equal to the one in use. R31, R353, R354, R362–R366: the servo's events. A finished computation is no longer busy; one late at its limit loses its
axes; the time-outs of enabling and of the brakes are due at the next boundary; a device DATA entry leaves on every port of its destination. -/
def Obligations.ServoMovesOn : Prop :=
  (∀ (c : Cmd) (s : State), let q := c.b 16
    q < 32 → s.mode = mConfig → s.role = 0 → s.coefFail q (1 - s.setBank q) = none →
    s.may c 0x0601 .pfWc [] [(16, 1)] (∀ x ∈ s.srv.commits, x.1 ≠ q) →
    s.completes (.srvCommit c) (c.as 0x0601) stOK (1 - s.setBank q) fun u =>
      u.setBank q = 1 - s.setBank q ∧ (∀ p, p < 32 → p ≠ q → u.setBank p = s.setBank p) ∧
      (∀ a ∈ s.setAxes q, u.fld (Reg.SRV_AX_STATE a) F.SRV_AX_STATE_BANK = 1 - s.setBank q)) ∧
  (∀ (c : Cmd) (s : State), let q := c.b 16
    q < 32 → mOperate ≤ s.mode → s.coefFail q (1 - s.setBank q) = none →
    s.may c 0x0601 .pfWc [] [(16, 1)] (∀ x ∈ s.srv.commits, x.1 ≠ q) →
    s.answers (.srvCommit c) fun t =>
      t.srv.commits = s.srv.commits ++ [(q, c.as 0x0601)] ∧ bit (t.reg Reg.SRV_SWAP_PEND).toNat q = true ∧ t.setBank q = s.setBank q ∧
      s.keeps t (among [Reg.SRV_CHECK, Reg.SRV_SWAP_PEND]) [.srv]) ∧
  (∀ (c : Cmd) (s : State), let q := c.b 16
    q < 32 → s.may c 0x0602 .pfWc [] [(16, 1)] (∀ x ∈ s.srv.commits, x.1 ≠ q) →
    s.completes (.srvCopy c) (c.as 0x0602) stOK 0 fun u =>
      (∀ a ∈ s.setAxes q, ∀ i, i < 22 → u.reg (Reg.SRV_CF_KP (1 - s.setBank q) a + 4 * i) = s.reg (Reg.SRV_CF_KP (s.setBank q) a + 4 * i)) ∧
      s.keeps u (fun o => doorReg o || decide (Reg.SRV_CF_KP 0 0 ≤ o ∧ o < Reg.SRV_CF_KP 1 224)) []) ∧
  (∀ s : State, s.srv.busy = true → s.role = 0 → s.twinOn = false →
    s.answers .servoComputeDone fun t => t.srv.busy = false ∧ t.srv.nx = [] ∧ t.srv.lost = []) ∧
  (∀ s : State, s.srv.busy = true → timePast (s.link.tk + BitVec.ofNat 64 (s.bankUs s.bankUsed * 16000) - 6400) s.cell = true →
    s.answers (.servoOverrunCheck []) fun t => t.srv.busy = false ∧ t.srv.lost = []) ∧
  (∀ (g : Nat) (s : State), g < s.nGroups → s.phase g = phEnabling →
    timePast ((s.srvGrp g).entered + BitVec.ofNat 64 (s.fld Reg.SRV_CTRL F.SRV_CTRL_EN_TIMEOUT * 16000000)) s.cell = true →
    s.answers (.enableTimeout g) fun t => t.srvGrp g = { s.srvGrp g with due := true } ∧ s.keeps t (fun _ => false) [.srv]) ∧
  (∀ (g : Nat) (s : State), g < s.nGroups → s.phase g = phBraking → s.brakeCycles g ≤ (s.srvGrp g).age + 1 →
    s.answers (.brakeTimeExpire g) fun t => t.srvGrp g = { s.srvGrp g with due := true } ∧ s.keeps t (fun _ => false) [.srv]) ∧
  (∀ (e d : Nat) (x : Ent) (s : State), s.ent s.bankUsed e = some x → s.scheduled = true → e < s.fld (Reg.SB_COUNT s.bankUsed) F.SB_COUNT_N_ENTRIES →
    x.fromDevice = true → x.kind = kData → x.active s.link.cycle = true → (e, 2) ∉ s.link.got → s.heldOut = false → s.twinOn = false →
    s.twin.out ≠ 3 → d < 20 → x.onCh 0 = true → bit x.dest d = true → (s.lp 0 d).sending = true → s.portOpen 0 d = true → s.link.letAt = [] →
    s.answers (.deviceDataSend e) fun t =>
      (∃ n p, Emit.frame 0 d x.start (s.mkFrame 0 kData x.slot 255 n p) ∈ t.egress) ∧ (e, 2) ∈ t.link.got ∧ s.keeps t (fun _ => false) [.link])

/-! ### The separation monitor (block 0x07) -/

/-- R395, R411–R416, R420, R423: the monitor's commands wait for their boundary; a capsule change waits for its tick; a memory fault stops the monitor
at the next boundary; a fragment of a channel that is not enabled is discarded and counted. -/
def Obligations.SeparationCommandsTakeEffect : Prop :=
  (∀ (c : Cmd) (s : State), s.sepCheck = 0 → s.may c 0x0701 .pf [] [] (s.mode ≠ mBoot ∧ s.sepState = 0 ∧ s.sep.change = none) →
    s.answers (.sepEnable c) fun t =>
      t.sep = { s.sep with enable := some (c.as 0x0701), change := some 1 } ∧ s.keeps t (among []) [.sep]) ∧
  (∀ (c : Cmd) (s : State), s.may c 0x0702 .pf [] [] (s.sepState = 1 ∨ s.sepState = 2) →
    s.answers (.sepDisable c) fun t =>
      t.sep = { s.sep with disable := s.sep.disable ++ [c.as 0x0702], change := some 0 } ∧ s.keeps t (among []) [.sep]) ∧
  (∀ (c : Cmd) (s : State), let g := c.group
    g < s.nGroups → (∀ i, i < 16 → bit (c.u 16 2) i = true → s.capValid (16 * g + i) = true) →
    s.may c 0x0703 .any [] [(16, 2)] ((s.pg g).model.isSome = true) →
    s.answers (.sepCapEnable c) fun t => t.sep = { s.sep with capCmds := s.sep.capCmds ++ [c.as 0x0703] } ∧ s.keeps t (among []) [.sep]) ∧
  (∀ (c : Cmd) (s : State), let n := 2 * c.u 20 2 * c.u 22 2 * c.u 24 2
    c.b 16 + c.u 20 2 ≤ s.gridN 0 → c.b 17 + c.u 22 2 ≤ s.gridN 1 → c.b 18 + c.u 24 2 ≤ s.gridN 2 →
    c.u 20 2 * c.u 22 2 * c.u 24 2 ≤ 16384 → n ≤ c.u 40 4 → c.u 32 8 + n ≤ secureBase →
    s.may c 0x0704 .pf [(c.u 32 8, n)] [(16, 1), (17, 1), (18, 1), (20, 2), (22, 2), (24, 2), (32, 8), (40, 4)] (s.sepState = 2) →
    s.answers (.sepCopyField c) fun t =>
      t.sep.copies = s.sep.copies ++ [{ c.as 0x0704 with accepted := true }] ∧ s.keeps t (among []) [.sep]) ∧
  (∀ (m : Nat) (s : State), s.sepState = 1 ∨ s.sepState = 2 → m < 3 → s.sep.change ≠ some 4 →
    s.answers (.sepMemoryFault m) fun t => t.sep = { s.sep with change := some 4, busy := false } ∧ s.keeps t (among []) [.sep]) ∧
  (∀ (ch p k : Nat) (q : LkCur) (x : Ent) (f : RawFrame) (s : State), ch < 2 → p < 20 → (s.lp ch p).cur = some q → q.answer = false → q.arb = false →
    f.kind = kStream → s.scheduled = true → s.ent s.bankUsed q.ent = some x → f.valid = true → bit x.dest 20 = true → s.role < 2 →
    (∀ y ∈ s.link.copies, ¬ (y.src = f.src ∧ y.slot = f.slot)) → leAt f.payload 0 2 = k → k < 64 →
    s.flag (Reg.ACQ_STR_CFG k) F.ACQ_STR_CFG_ENABLE = false →
    s.answers (.streamFrameReceive ch p f) fun t =>
      t.fld (Reg.ACQ_STR_STAT k) F.ACQ_STR_STAT_DISCARDED =
        satU F.ACQ_STR_STAT_DISCARDED.w (s.fld (Reg.ACQ_STR_STAT k) F.ACQ_STR_STAT_DISCARDED + 1) ∧
      s.keeps t (fun o => o == Reg.ACQ_STR_STAT k) [.link])

/-! ### The safety island (block 0x08) -/

/-- R445, R447, R464–R467, R470, R473, R477: a command of block 0x08 that is admitted goes over the configuration port, and a die that is free takes
it at once; its answer stands with the message. A session opens and ends, a password is set, a zone is configured, records are staged, a
commit's write begins, zones arm, an unlock test begins, a log entry and a record are read. -/
def Obligations.DieTakesConfigurationCommands : Prop :=
  (∀ (c : Cmd) (s : State), s.sf.port = [] → s.sf.started = true → 8 ≤ c.b 18 → c.b 18 ≤ 32 → s.sf.session = none → s.sf.blocked = false →
    s.sf.hash = some (sha256 (s.sf.salt ++ leBytes (c.b 18) (c.u 24 32))) → s.may c 0x0801 .pf [] [(16, 2), (18, 1), (24, 32)] True →
    s.answers (.sfAuth c) fun t =>
      t.sf = { s.sf with session := some (c.u 16 2), fails := 0, port := [⟨some (c.as 0x0801), s.cell, s.u, false, some okAns⟩] } ∧
      s.keeps t (among []) [.sf]) ∧
  (∀ (c : Cmd) (s : State), s.sf.port = [] → s.sf.started = true → s.sf.session.isSome = true → s.may c 0x0802 .pf [] [] True →
    s.answers (.sfLogout c) fun t =>
      t.sf = { s.sf with session := none, port := [⟨some (c.as 0x0802), s.cell, s.u, false, some okAns⟩] } ∧ s.keeps t (among []) [.sf]) ∧
  (∀ (c : Cmd) (s : State), s.sf.port = [] → s.sf.started = true → 8 ≤ c.b 18 → c.b 18 ≤ 32 →
    s.sf.session.isSome = true ∨ s.sf.hash = none → s.may c 0x0803 .pf [] [(18, 1), (24, 32)] True →
    s.answers (.sfSetPassword c) fun t =>
      t.sf.salt.length = 16 ∧ t.sf.hash = some (sha256 (t.sf.salt ++ leBytes (c.b 18) (c.u 24 32))) ∧
      t.sf.logSeq = (s.sf.logSeq + 1) % 2 ^ 32 ∧ t.sf.port = [⟨some (c.as 0x0803), s.cell, s.u, false, some okAns⟩] ∧
      t.sf.session = s.sf.session ∧ t.sf.zones = s.sf.zones ∧ s.keeps t (among []) [.sf, .free]) ∧
  (∀ (c : Cmd) (s : State), let z := c.b 16
    s.sf.port = [] → s.sf.started = true → s.sf.session.isSome = true → z < 16 →
    (s.sfZone z).st = 1 ∨ (s.sfZone z).st = 2 ∧ (s.sfZone z).lock ≠ 5 ∧ (s.sfZone z).lock ≠ 6 →
    (∀ i, i < 24 → bit (zOut (s.sfRec 0 z)) i = true → s.outOff i = true) →
    s.may c 0x0804 .pf [] [(16, 1)] (s.mode ≠ mBoot ∧ s.zoneBusy z = none) →
    s.answers (.sfZoneBegin c) fun t =>
      (t.sfZone z).st = 3 ∧ (t.sfZone z).back = ((s.sfZone z).st, (s.sfZone z).lock) ∧ (t.sfZone z).run = false ∧
      t.sfStg 0 z = s.sfRec 0 z ∧ t.sf.recs = s.sf.recs ∧
      t.sf.port = [⟨some (c.as 0x0804), s.cell, s.u, false, some okAns⟩] ∧ s.keeps t (among []) [.sf]) ∧
  (∀ (c : Cmd) (s : State), let z := c.b 16; let r := recAt c 16
    s.sf.port = [] → s.sf.started = true → s.sf.session.isSome = true → z < 16 → (s.sfZone z).st = 3 →
    (∀ k i, k < 16 → i < 24 → k ≠ z → zEn (s.sfRec 0 k) = true → (s.sfZone k).st ≠ 3 → bit (zOut (s.sfRec 0 k)) i = true →
      bit (zOut (s.sfStg 0 z)) i = false ∧ bit (zOut r) i = false) →
    s.may c 0x0805 .pf [] [(16, 1), (24, 16)] True →
    s.answers (.sfZoneWrite c) fun t =>
      t.sfStg 0 z = r ∧ (∀ k i, i < 32 → (k, i) ≠ (0, z) → t.sfStg k i = s.sfStg k i) ∧ t.sf.recs = s.sf.recs ∧
      t.sf.port = [⟨some (c.as 0x0805), s.cell, s.u, false, some okAns⟩] ∧ s.keeps t (among []) [.sf]) ∧
  (∀ (kind op n : Nat) (zs : List Nat) (i : Instr) (c : Cmd) (s : State), let k := c.b 17
    (i = .sfPairWrite c ∧ kind = 1 ∧ op = 0x0806 ∧ n = 8 ∧ k < 32 ∧ zs = s.pairZones k) ∨
      (i = .sfBrkWrite c ∧ kind = 2 ∧ op = 0x0807 ∧ n = 8 ∧ k < 8 ∧ zs = s.brakeZones k ∧ zs ≠ []) ∨
      (i = .sfTpWrite c ∧ kind = 3 ∧ op = 0x0808 ∧ n = 4 ∧ k < 16 ∧ zs = s.srcZones k) →
    s.sf.port = [] → s.sf.started = true → s.sf.session.isSome = true → c.b 16 < 16 → (∀ z ∈ zs, (s.sfZone z).st = 3) →
    s.may c op .pf [] [(16, 1), (17, 1), (24, n)] True →
    s.answers i fun t =>
      t.sfStg kind k = recAt c n ∧ (∀ d j, j < 32 → (d, j) ≠ (kind, k) → t.sfStg d j = s.sfStg d j) ∧ t.sf.recs = s.sf.recs ∧
      t.sf.port = [⟨some (c.as op), s.cell, s.u, false, some okAns⟩] ∧ s.keeps t (among []) [.sf]) ∧
  (∀ (c : Cmd) (s : State), let z := c.b 16
    s.sf.port = [] → s.sf.started = true → s.sf.session.isSome = true → z < 16 → (s.sfZone z).st = 3 → s.commitCheck z = 0 →
    (∀ i, i < 24 → bit (zOut (s.sfRec 0 z)) i = true ∨ bit (zOut (s.sfStg 0 z)) i = true → s.outOff i = true) →
    s.may c 0x0809 .pf [] [(16, 1)] True →
    s.answers (.sfZoneCommit c) fun t =>
      t.sf = { s.sf with port := [⟨some (c.as 0x0809), s.cell, s.u, true, none⟩] } ∧ s.keeps t (among []) [.sf]) ∧
  (∀ (c : Cmd) (s : State), let z := c.b 16
    s.sf.port = [] → s.sf.started = true → s.sf.session.isSome = true → z < 16 → (s.sfZone z).st = 3 → s.may c 0x080A .pf [] [(16, 1)] True →
    s.answers (.sfZoneAbort c) fun t =>
      (t.sfZone z).st = (s.sfZone z).back.1 ∧ (t.sfZone z).lock = (s.sfZone z).back.2 ∧ (∀ k, k ≠ z → t.sfZone k = s.sfZone k) ∧
      t.sfStg 0 z = t.sfRec 0 z ∧ t.sf.recs = s.sf.recs ∧
      t.sf.port = [⟨some (c.as 0x080A), s.cell, s.u, false, some okAns⟩] ∧ s.keeps t (among []) [.sf]) ∧
  (∀ (c : Cmd) (s : State), s.sf.port = [] → s.sf.started = true → s.scanPairs = s → s.scanCouples = s →
    (∀ z, z < 16 → bit (c.u 16 2) z = true → (s.sfZone z).st = 1 ∧ s.armFail z = 0) → s.may c 0x080B .pf [] [(16, 2)] True →
    s.answers (.sfZoneReset c) fun t =>
      (∀ z, z < 16 → bit (c.u 16 2) z = true → (t.sfZone z).st = 0 ∧ (t.sfZone z).run = true) ∧
      t.sf.port = [⟨some (c.as 0x080B), s.cell, s.u, false, some okAns⟩] ∧ s.keeps t (among []) [.sf]) ∧
  (∀ (c : Cmd) (s : State), let z := c.b 16
    s.sf.port = [] → s.sf.started = true → s.sf.session.isSome = true → z < 16 → (s.sfZone z).st = 2 → zEn (s.sfRec 0 z) = true →
    (s.sfZone z).lock ≠ 5 → (s.sfZone z).lock ≠ 6 → s.may c 0x080C .pf [] [(16, 1)] True →
    s.answers (.sfZoneUnlock c) fun t =>
      t.sf.unlock = some z ∧
      (∀ i, i < 24 → t.sfOut i = if bit (zOut (s.sfRec 0 z)) i then { s.sfOut i with step := 1, unlock := true, onTest := 0 } else s.sfOut i) ∧
      t.sf.zones = s.sf.zones ∧ t.sf.port = [⟨some (c.as 0x080C), s.cell, s.u, false, none⟩] ∧ s.keeps t (among []) [.sf]) ∧
  (∀ (c : Cmd) (e : List Byte) (s : State), let a := c.u 24 8
    s.sf.port = [] → s.sf.started = true → c.b 16 < 64 → s.sf.log[c.b 16]? = some e → sramFits a 32 = true →
    s.may c 0x080D .pf [(a, 32)] [(16, 1), (24, 8)] True →
    s.answers (.sfLogRead c) fun t =>
      t.sf = { s.sf with port := [⟨some (c.as 0x080D), s.cell, s.u, false, some { status := stOK, data := e }⟩] } ∧ s.keeps t (among []) [.sf]) ∧
  (∀ (c : Cmd) (s : State), let a := c.u 24 8; let k := c.b 16; let i := c.b 17
    s.sf.port = [] → s.sf.started = true → k < 4 → i < sfCount k → c.b 18 = 0 → sramFits a (sfSize k) = true →
    s.may c 0x080E .pf [(a, sfSize k)] [(16, 1), (17, 1), (18, 1), (24, 8)] True →
    s.answers (.sfReadCfg c) fun t =>
      t.sf = { s.sf with port := [⟨some (c.as 0x080E), s.cell, s.u, false, some { status := stOK, data := s.sfRec k i }⟩] } ∧
      s.keeps t (among []) [.sf])

/-- R468–R470, R477: the die's answer to the only message of the port ends its command: with the answer's status and block-specific byte; a commit's write
makes the staged records of the zone's the ones in use and stores them in non-volatile memory, and a write that fails ends it with ABORTED; after 500
ms without an answer the command ends with TIMEOUT. R459, R460, R474, R475: a status frame that is right shows the die's zones and the request lines
that it sees; one that is wrong counts; 30 µs without one lose the path: every zone's report is STALE, SAFETY_PATH is set and event 0x0812 recorded. -/
def Obligations.DieAnswersAndWindow : Prop :=
  (∀ (c : Cmd) (m : SfMsg) (st blk : Nat) (s : State), s.sf.port = [m] → m.cmd = some c → m.commit = false → st ≠ stReject →
    m.ans = some { status := st, blk := blk } →
    s.answers (.sfConfigAnswer false) fun t => t = (s.complete c st blk).portNext ∧ t.sf = { s.sf with port := [] }) ∧
  (∀ (c : Cmd) (m : SfMsg) (s : State), let z := c.b 16
    s.sf.port = [m] → m.cmd = some c → m.commit = true → z < 16 →
    s.answers (.sfConfigAnswer false) fun t =>
      (∃ u : State, t = (u.complete c stOK 0).portNext ∧ s.keeps u (among []) [.sf]) ∧ t.sf.port = [] ∧
      (∀ k i, (k, i) ∈ zoneKeys s.sfStg z → t.sfRec k i = slice (s.sfStg k i) 0 (sfSize k)) ∧ t.sf.nvm.map SfNvm.recs = some t.sf.recs ∧
      (t.sfZone z).st ≠ 3 ∧ t.sf.logSeq = (s.sf.logSeq + 1) % 2 ^ 32) ∧
  (∀ (c : Cmd) (m : SfMsg) (s : State), s.sf.port = [m] → m.cmd = some c → m.commit = true →
    s.answers (.sfConfigAnswer true) fun t => t = (s.complete c stAborted 2).portNext ∧ t.sf = { s.sf with port := [] }) ∧
  (∀ (c : Cmd) (m : SfMsg) (s : State), s.sf.port = [m] → m.cmd = some c → m.sent + 8000000000 ≤ s.u →
    s.answers .sfConfigTimeout fun t =>
      t = ((s.post 0x0813 (srcBlock 8) (det [(16, 2, c.op)])).complete c stTimeout 0).portNext ∧ t.sf = { s.sf with port := [] }) ∧
  (∀ s : State, s.answers .sfSessionTimeout fun t => t = { s with sf := { s.sf with session := none } }) ∧
  (∀ s : State, s.answers .sfAuthBlockEnd fun t => t = { s with sf := { s.sf with blocked := false } }) ∧
  (∀ (rb : Readback) (s : State), s.sf.started = true →
    s.answers (.sfStatusFrame true rb) fun t =>
      t.sf.lastFrame = s.u ∧ t.sf.lost = false ∧ t.flag Reg.SF_STATUS F.SF_STATUS_PATH_OK = true ∧
      t.flag Reg.SF_STATUS F.SF_STATUS_SESSION = s.sf.session.isSome ∧
      (t.reg Reg.SF_REQ_SEEN) = BitVec.ofNat 32 s.sf.seen ∧
      (∀ z, z < 16 → (s.sfZone z).st < 4 → t.fld (Reg.SF_ZONE z) F.SF_ZONE_STATE = (s.sfZone z).st) ∧
      (∀ z, z < 16 → t.reg (Reg.SF_ZONE_CRC z) = BitVec.ofNat 32 (s.zoneCrc z)) ∧ t.sf.zones = s.sf.zones) ∧
  (∀ (rb : Readback) (s : State), s.sf.started = true →
    s.answers (.sfStatusFrame false rb) fun t =>
      t = { s.addSat Reg.SF_PATH F.SF_PATH_CRC_ERR 1 with sf := { s.sf with crcBad := true } }) ∧
  (∀ s : State, s.sf.lost = false → s.sf.lastFrame + 480000 ≤ s.u → s.mode = mOperate → bit s.defects dfSafety = false →
    s.answers .sfPathLoss fun t =>
      t.sf = { s.sf with lost := true } ∧ t.flag Reg.SF_STATUS F.SF_STATUS_PATH_OK = false ∧
      (∀ z, z < 16 → t.flag (Reg.SF_ZONE z) F.SF_ZONE_STALE = true ∧
        (s.fld (Reg.SF_ZONE z) F.SF_ZONE_STATE = 0 → t.fld (Reg.SF_ZONE z) F.SF_ZONE_STATE = 1)) ∧
      bit t.defects dfSafety = true ∧ t.mode = mDegraded)

/-- R436–R441, R444–R446, R457: what stops a zone. A pair that is ON and loses a channel leaves ON, and each ARMED zone of an emergency stop or curtain
among its inputs trips with cause 1; a zone of stop category 0 then has its outputs open. Timers of pairs and couples, a failed test pulse, a
stop delay that ends, and request lines do as their rules say. -/
def Obligations.InputsStopZones : Prop :=
  (∀ (p ch : Nat) (high : Bool) (s : State), s.dieRuns = true → p < 32 → ch < 2 → s.chHeld p ch = false → pKind (s.sfRec 1 p) ≠ 0 →
    s.answers (.sfInputEdge p ch high) fun t =>
      (if ch = 0 then (t.sfPair p).f1 = high else (t.sfPair p).f2 = high) ∧
      (∀ z, z < 16 → bit (zIn (s.sfRec 0 z)) p = true → pKind (s.sfRec 1 p) = 1 ∨ pKind (s.sfRec 1 p) = 4 → (s.sfPair p).st = 2 →
        high = (ch == 1 && pLogic (s.sfRec 1 p)) → (t.sfPair p).st ≠ 2 ∧ (t.sfZone z).st ≠ 0 ∧
        ((s.sfZone z).st = 0 → (t.sfZone z).st = 1 ∧ (t.sfZone z).trip = 1 ∧
          (zCat (s.sfRec 0 z) = 0 → ∀ i, i < 24 → s.outZone i = some z → (s.sfOut i).unlock = false → (t.sfOut i).sw = (false, false)))) ∧
      s.keeps t (fun _ => false) [.sf]) ∧
  (∀ (p : Nat) (s : State), s.dieRuns = true → p < 32 → pKind (s.sfRec 1 p) ≠ 0 → (s.sfPair p).st = 1 ∨ (s.sfPair p).st = 3 →
    s.chOn p 0 = true ∨ s.chOn p 1 = true →
    s.answers (.discrepancyTimeout p) fun t => (t.sfPair p).st = 4 ∧ (t.sfPair p).cause = 1 ∧ s.keeps t (fun _ => false) [.sf]) ∧
  (∀ (m : Nat) (s : State), s.dieRuns = true → m < 16 → (s.sfCouple m).st = 1 → s.isCouple m = true → s.scanPairs = s →
    (s.sfPair (2 * m)).st = 2 ∨ (s.sfPair (2 * m + 1)).st = 2 →
    s.answers (.twoHandTimeout m) fun t => (t.sfCouple m).st = 3 ∧ s.keeps t (fun _ => false) [.sf]) ∧
  (∀ (k : Nat) (s : State), s.dieRuns = true → k < 16 → bit (leAt (s.sfRec 3 k) 3 1) 0 = true → s.sf.tpLow = none →
    s.answers (.testPulseStart k) fun t => t.sf = { s.sf with tpLow := some k } ∧ t.egress = .ball "SF_TP" k 0 :: s.egress ∧
      s.keeps t (fun _ => false) [.sf]) ∧
  (∀ (p ch k : Nat) (s : State), s.dieRuns = true → p < 32 → ch < 2 → pKind (s.sfRec 1 p) ≠ 0 → s.sf.tpLow = some k →
    pSrc (s.sfRec 1 p) ch = some k → (s.sfPair p).st < 4 → s.chOn p 0 = true ∨ s.chOn p 1 = true →
    s.answers (.testPulseCheck p ch true) fun t =>
      (t.sfPair p).st = 4 ∧ (t.sfPair p).cause = 2 ∧ (t.sfPair p).chan = ch + 1 ∧ s.keeps t (fun _ => false) [.sf]) ∧
  (∀ (k : Nat) (s : State), s.sf.tpLow = some k →
    s.answers (.testPulseEnd k) fun t => t.sf.tpLow = none ∧ tabGet (fun _ => 0) t.sf.tpHold k = s.u + 1600000 ∧
      t.egress = .ball "SF_TP" k 1 :: s.egress ∧ s.keeps t (fun _ => false) [.sf]) ∧
  (∀ (z : Nat) (s : State), s.dieRuns = true → z < 16 → (s.sfZone z).delay = true → (s.sfZone z).st = 1 → zAuto (s.sfRec 0 z) = false →
    s.answers (.stopDelayExpire z) fun t =>
      (t.sfZone z).delay = false ∧ (t.sfZone z).run = false ∧
      (∀ i, i < 24 → s.outZone i = some z → (s.sfOut i).unlock = false → (t.sfOut i).sw = (false, false)) ∧ s.keeps t (fun _ => false) [.sf]) ∧
  (∀ (l : Nat) (s : State), s.dieRuns = true → l < 24 ∨ l = 31 →
    s.answers (.requestLineChange l true) fun t =>
      bit t.sf.seen l = true ∧ (∀ k, k ≠ l → bit t.sf.seen k = bit s.sf.seen k) ∧
      (l < 24 → (s.sfOut l).unlock = false → (t.sfOut l).sw = (false, false)) ∧ (l = 31 → ∀ z, z < 16 → (t.sfZone z).st ≠ 0) ∧
      s.keeps t (fun _ => false) [.sf])

/-- R433, R434, R449–R454, R462, R466: the outputs. A step of a closing test whose readback agrees leads to the next; a readback that does not agree, in a
closing test, an ON test or outside them, and a coil current out of range, open the output and lock its zone out with the cause of
the rule; DIE_FAULT locks every zone out and opens every output; at power-up every output is open and held lockouts stand. -/
def Obligations.OutputsAreTested : Prop :=
  (∀ (i : Nat) (s : State), s.dieRuns = true → i < 24 → 1 ≤ (s.sfOut i).step → (s.sfOut i).step ≤ 3 → (s.sfOut i).unlock = false →
    s.sf.unlock = none →
    s.answers (.closingTestStep i (rbOf (s.sfOut i).sw).1 (rbOf (s.sfOut i).sw).2) fun t =>
      t.sfOut i = { s.sfOut i with step := (s.sfOut i).step + 1 } ∧ (∀ k, k ≠ i → t.sfOut k = s.sfOut k) ∧ t.sf.zones = s.sf.zones ∧
      s.keeps t (fun _ => false) [.sf]) ∧
  (∀ (x y : Bool) (i z lock : Nat) (e : Instr) (s : State),
    (e = .closingTestStep i x y ∧ 1 ≤ (s.sfOut i).step ∧ (s.sfOut i).step ≤ 3 ∧ s.sf.unlock = none ∧ rbOf (s.sfOut i).sw ≠ (x, y) ∧ lock = 4) ∨
      (e = .onTestEnd i x y ∧ i < 16 ∧ ((s.sfOut i).onTest = 1 ∧ x = true ∨ (s.sfOut i).onTest = 2 ∧ y = false) ∧ lock = 2) ∨
      (e = .readbackFault i x y ∧ ((s.sfOut i).step = 0 ∨ (s.sfOut i).step = 4) ∧ (s.sfOut i).onTest = 0 ∧ rbOf (s.sfOut i).sw ≠ (x, y) ∧
        lock = (if i < 16 then 2 else 3)) →
    s.dieRuns = true → i < 24 → (s.sfOut i).unlock = false → (s.sfOut i).fault = false → s.outZone i = some z → (s.sfZone z).st ≤ 1 →
    s.answers e fun t =>
      (t.sfOut i).sw = (false, false) ∧ (t.sfOut i).fault = true ∧ (t.sfZone z).st = 2 ∧ (t.sfZone z).lock = lock ∧
      tabGet (fun _ => 0) t.sf.locks z = lock ∧ s.keeps t (fun _ => false) [.sf]) ∧
  (∀ (c ma z : Nat) (s : State), let i := 16 + c; let r := s.sfRec 2 c
    s.dieRuns = true → c < 8 →
    ((s.sfOut i).step = 4 ∧ (ma < leAt r 0 2 ∨ leAt r 2 2 < ma)) ∨ ((s.sfOut i).step = 0 ∧ leAt r 4 2 < ma) →
    (s.sfOut i).unlock = false → (s.sfOut i).fault = false → s.outZone i = some z → (s.sfZone z).st ≤ 1 →
    s.answers (.brakeCurrentFault c ma) fun t =>
      t.coil c = ma ∧ (t.sfOut i).sw = (false, false) ∧ (t.sfOut i).fault = true ∧ (t.sfZone z).st = 2 ∧ (t.sfZone z).lock = 3 ∧
      s.keeps t (fun _ => false) [.sf]) ∧
  (∀ (g z : Nat) (s : State), let o := s.sfOut g
    s.dieRuns = true → g < 16 → s.outZone g = some z → o.step = 4 → o.onTest = 0 → leAt (s.sfRec 0 z) 10 2 ≠ 0 →
    s.answers (.onTestStart g) fun t =>
      t.sfOut g = { o with onTest := if o.onLow then 2 else 1, onLow := !o.onLow } ∧ (t.sfOut g).sw = (o.onLow, !o.onLow) ∧
      (∀ k, k ≠ g → t.sfOut k = s.sfOut k) ∧ s.keeps t (fun _ => false) [.sf]) ∧
  (∀ (g : Nat) (x y : Bool) (s : State), s.dieRuns = true → g < 16 →
    ((s.sfOut g).onTest = 1 ∧ x = false) ∨ ((s.sfOut g).onTest = 2 ∧ y = true) →
    s.answers (.onTestEnd g x y) fun t =>
      t.sfOut g = { s.sfOut g with onTest := 0 } ∧ (∀ k, k ≠ g → t.sfOut k = s.sfOut k) ∧ t.sf.zones = s.sf.zones ∧
      s.keeps t (fun _ => false) [.sf]) ∧
  (∀ (k : Nat) (s : State), s.dieRuns = true → 1 ≤ k → k ≤ 5 →
    s.answers (.dieFault k) fun t =>
      t.sf.dieFault = k ∧ t.sf.session = none ∧ (∀ z, z < 16 → (t.sfZone z).st = 2 ∧ (t.sfZone z).lock = 5) ∧
      (∀ i, i < 24 → (t.sfOut i).sw = (false, false)) ∧ s.keeps t (fun _ => false) [.sf]) ∧
  (∀ (ok : Bool) (s : State), s.answers (.sfPowerUp ok) fun t =>
    t.sf.started = true ∧ t.sf.dieFault = (if ok then 0 else 5) ∧ t.sf.session = none ∧
    (∀ i, i < 24 → (t.sfOut i).sw = (false, false)) ∧
    (∀ z, z < 16 → (ok = false → (t.sfZone z).st = 2 ∧ (t.sfZone z).lock = 5) ∧
      (ok = true → s.sf.nvm = none → (t.sfZone z).st = 2 ∧ (t.sfZone z).lock = 7) ∧
      (ok = true → s.sf.nvm ≠ none → tabGet (fun _ => 0) s.sf.locks z ≠ 0 →
        (t.sfZone z).st = 2 ∧ (t.sfZone z).lock = tabGet (fun _ => 0) s.sf.locks z)) ∧
    s.keeps t (fun _ => false) [.sf])

/-! ### Local axes (block 0x09) -/

/-- R485–R490, R497, R498, R505, R512: counting. An edge of a running channel's input moves its count by one place of the wrap, forward or back as the
edge and INVERT say, and every armed entry at the new count that accepts any direction and does not re-arm fires and is disarmed; an illegal
transition and an impossible code leave the count, set their flag and record it. R494, R497, R500: a count that is set is the count and the unwrapped
count of its channel; a compare list that is enabled arms its valid entries, one that is disabled disarms all. -/
def Obligations.EdgesAndCountersMove : Prop :=
  (∀ (ch : Nat) (neg : Bool) (i : Instr) (s : State), let w := s.laW ch; let old := s.laCount ch
    ((∃ ab, i = .quadTransition ch ab ∧ s.laInput ch = 1 ∧
        (quadPlace (ab % 4) + 4 - quadPlace (s.laD ch % 2 * 2 + s.laD ch / 2 % 2)) % 4 = (if neg then 3 else 1)) ∨
      (i = .stepDirEdge ch neg ∧ s.laInput ch = 2) ∨ (i = .upDownEdge ch (!neg) neg ∧ s.laInput ch = 3) ∨
      (∃ code p q, i = .hallCodeChange ch code ∧ s.laInput ch = 4 ∧ hallPlace code = some p ∧ hallPlace (s.laCh ch).hall = some q ∧
        (p + 6 - q) % 6 = (if neg then 5 else 1)) ∨
      (i = .stepEmit ch ∧ s.laInput ch = 5 ∧ s.laMode ch = 1 ∧ s.laMismatch ch = false ∧ (s.reg64 (Reg.LA_CH_VWORD ch)).toInt ≠ 0 ∧
        neg = decide ((s.reg64 (Reg.LA_CH_VWORD ch)).toInt < 0))) →
    ch < 32 → s.laRun ch = true → old < w →
    s.answers i fun t => let back := neg != s.flag (Reg.LA_CH_CFG ch) F.LA_CH_CFG_INVERT
      t.laCount ch = (if back then (old + w - 1) % w else (old + 1) % w) ∧
      (t.laCh ch).unw = (s.laCh ch).unw + (if back then -1 else 1) ∧ t.flag (Reg.LA_CH_STATUS ch) F.LA_CH_STATUS_DIR = back ∧
      (∀ e, e < 64 → s.maskBit (Reg.LA_CH_CMP_ARMED ch) e = true → (s.reg (Reg.LA_CMP_POS ch e)).toNat = t.laCount ch →
        s.fld (Reg.LA_CMP_CTRL ch e) F.LA_CMP_CTRL_DIR = 0 → s.flag (Reg.LA_CMP_CTRL ch e) F.LA_CMP_CTRL_REARM = false →
        t.maskBit (Reg.LA_CH_CMP_ARMED ch) e = false) ∧
      (∀ k, k ≠ ch → t.laCh k = s.laCh k) ∧ s.keeps t (inBlock 9) [.la, .laPulse]) ∧
  (∀ (ch ab : Nat) (s : State), ch < 32 → s.laRun ch = true → s.laInput ch = 1 →
    (quadPlace (ab % 4) + 4 - quadPlace (s.laD ch % 2 * 2 + s.laD ch / 2 % 2)) % 4 = 2 →
    s.answers (.quadTransition ch ab) fun t =>
      t.laCount ch = s.laCount ch ∧ t.flag (Reg.LA_CH_ERR ch) F.LA_CH_ERR_ILLEGAL = true ∧ t.la = s.la ∧ s.keeps t (inBlock 9) []) ∧
  (∀ (ch code : Nat) (s : State), ch < 32 → s.laRun ch = true → s.laInput ch = 4 → hallPlace code = none →
    s.answers (.hallCodeChange ch code) fun t =>
      t.laCount ch = s.laCount ch ∧ t.flag (Reg.LA_CH_ERR ch) F.LA_CH_ERR_IMPOSSIBLE = true ∧ t.la = s.la ∧ s.keeps t (inBlock 9) []) ∧
  (∀ (ch : Nat) (neg : Bool) (s : State), ch < 32 → s.laRun ch = true → s.laMode ch = 1 → s.laInput ch ≠ 5 → s.laMismatch ch = false →
    (s.reg64 (Reg.LA_CH_VWORD ch)).toInt ≠ 0 → neg = decide ((s.reg64 (Reg.LA_CH_VWORD ch)).toInt < 0) → s.outHeld = false →
    s.answers (.stepEmit ch) fun t => t = s.emit (.step ch neg)) ∧
  (∀ (ch : Nat) (neg : Bool) (s : State), ch < 32 → s.laRun ch = true → s.laMode ch = 2 → s.laInput ch ≠ 5 → s.laMismatch ch = false →
    (s.reg64 (Reg.LA_CH_VWORD ch)).toInt ≠ 0 → neg = decide ((s.reg64 (Reg.LA_CH_VWORD ch)).toInt < 0) →
    s.answers (.stepEmit ch) fun t =>
      t.fld (Reg.LA_ST_STATUS ch) F.LA_ST_STATUS_MSTEP = (s.fld (Reg.LA_ST_STATUS ch) F.LA_ST_STATUS_MSTEP + (if neg then 63 else 1)) % 64 ∧
      t.laCount ch = s.laCount ch ∧ s.keeps t (fun o => o == Reg.LA_ST_STATUS ch) [.la]) ∧
  (∀ (c : Cmd) (s : State), let k := c.b 16; let v := c.u 20 4
    k < s.nLocal → v < s.laW k →
    s.may c 0x0901 .pfWc [] [(16, 1), (20, 4)] (s.flag (Reg.SRV_AX_CFG (192 + k)) F.SRV_AX_CFG_ACTIVE = false ∧ s.trackOn k = none) →
    s.completes (.laSetCount c) (c.as 0x0901) stOK 0 fun u =>
      u.laCount k = v ∧ (u.laCh k).unw = v ∧ (u.laCh k).lastIdx = none ∧ (∀ j, j ≠ k → u.laCh j = s.laCh j) ∧ s.keeps u (inBlock 9) [.la]) ∧
  (∀ (c : Cmd) (on : Bool) (s : State), let k := c.b 16
    k < s.nLocal → c.b 17 = b2n on → s.may c 0x0902 .pfWc [] [(16, 1), (17, 1)] (on = true → s.laRun k = true) →
    ∃ u : State, exec (.laCmpEnable c) s =
        .next (u.complete (c.as 0x0902) stOK (min 64 (popCount 64 (u.reg64 (Reg.LA_CH_CMP_BEHIND k)).toNat))) ∧
      u.cmpOn k = on ∧
      (∀ e, e < 64 → u.maskBit (Reg.LA_CH_CMP_ARMED k) e = (on && s.flag (Reg.LA_CMP_CTRL k e) F.LA_CMP_CTRL_VALID)) ∧
      s.keeps u (among [Reg.LA_CH_CMP_CTRL k, Reg.LA_CH_CMP_ARMED k, Reg.LA_CH_CMP_ARMED k + 4, Reg.LA_CH_CMP_BEHIND k,
        Reg.LA_CH_CMP_BEHIND k + 4]) [])

/-- R483, R491, R495, R496, R499, R506, R509–R511, R514: index, latch, receiver, compare pulse, chopper and gates. -/
def Obligations.LocalAxisEventsTakeEffect : Prop :=
  (∀ (o : Nat) (s : State), o < 16 → bit s.laPulse o = true →
    s.answers (.comparePulseEnd o) fun t =>
      bit (t.fld Reg.LA_OUT_STATE F.LA_OUT_STATE_LEVEL) o = false ∧ bit t.laPulse o = false ∧
      s.keeps t (fun r => r == Reg.LA_OUT_STATE) [.laPulse]) ∧
  (∀ (ch k : Nat) (s : State), ch < 32 → k < 2 → 1 ≤ s.laInput ch → s.laInput ch ≤ 4 →
    s.answers (.laRxFault ch k) fun t =>
      t.flag (Reg.LA_CH_ERR ch) F.LA_CH_ERR_RX_FAULT = true ∧ s.keeps t (among [Reg.LA_CH_ERR ch]) []) ∧
  (∀ (ch : Nat) (u : Int) (s : State), let d := (s.laCh ch).unw - u; let l := 4 * s.fld (Reg.LA_CH_LINES ch) F.LA_CH_LINES_LINES
    let tol := s.fld (Reg.LA_CH_LINES ch) F.LA_CH_LINES_LC_TOL
    ch < 32 → s.laRun ch = true → s.laInput ch = 1 → s.flag (Reg.LA_CH_LINES ch) F.LA_CH_LINES_LC_EN = true → (s.laCh ch).lastIdx = some u →
    s.answers (.laIndex ch) fun t =>
      t.reg (Reg.LA_CH_IDX ch) = BitVec.ofInt 32 d ∧ (t.laCh ch).lastIdx = some (s.laCh ch).unw ∧
      (l ≤ d.natAbs + tol → d.natAbs ≤ l + tol → t.reg (Reg.LA_CH_ERR ch) = s.reg (Reg.LA_CH_ERR ch)) ∧
      (d.natAbs + tol < l ∨ l + tol < d.natAbs → tol + 4 < d.natAbs → t.flag (Reg.LA_CH_ERR ch) F.LA_CH_ERR_LINE_COUNT = true) ∧
      t.laCount ch = s.laCount ch ∧ s.keeps t (inBlock 9) [.la]) ∧
  (∀ (ch pin age : Nat) (rising : Bool) (time : W64) (s : State), let cfg := Reg.LA_CH_LATCH_CFG ch
    ch < 32 → pin < 2 → s.flag cfg F.LA_CH_LATCH_CFG_ARM = true → s.laRun ch = true → s.fld cfg F.LA_CH_LATCH_CFG_SRC = pin →
    edgeOk (s.fld cfg F.LA_CH_LATCH_CFG_EDGE) rising = true → (s.laCh ch).latch.length < 4 →
    s.answers (.latchCapture ch pin rising age time) fun t =>
      (t.laCh ch).latch = (s.laCh ch).latch ++ [⟨s.countAgo ch age, time, rising, false⟩] ∧
      t.fld (Reg.LA_CH_LATCH_STAT ch) F.LA_CH_LATCH_STAT_LEVEL = (s.laCh ch).latch.length + 1 ∧
      t.flag cfg F.LA_CH_LATCH_CFG_ARM = s.flag cfg F.LA_CH_LATCH_CFG_CONT ∧ s.keeps t (inBlock 9) [.la]) ∧
  (∀ (ch pin age : Nat) (rising : Bool) (time : W64) (s : State), let cfg := Reg.LA_CH_LATCH_CFG ch
    ch < 32 → pin < 2 → s.flag cfg F.LA_CH_LATCH_CFG_ARM = true → s.laRun ch = true → s.fld cfg F.LA_CH_LATCH_CFG_SRC = pin →
    edgeOk (s.fld cfg F.LA_CH_LATCH_CFG_EDGE) rising = true → 4 ≤ (s.laCh ch).latch.length →
    s.answers (.latchCapture ch pin rising age time) fun t => (t.laCh ch).latch = (s.laCh ch).latch ∧ s.keeps t (inBlock 9) [.la]) ∧
  (∀ (ch ph i : Nat) (s : State), let x := (s.laCh ch).phase ph
    s.bridgeOn ch = true → ph < 2 → x.st = 1 → x.rev = false →
    2 * x.t.natAbs + 2 * s.phaseOfs ch ph + s.fld (Reg.LA_ST_CHOP ch) F.LA_ST_CHOP_HYST ≤ 2 * (i : Int) →
    s.answers (.chopComparator ch ph i) fun t =>
      (t.laCh ch).phase ph = { x with st := decayState (s.fld (Reg.LA_ST_CHOP ch) F.LA_ST_CHOP_DECAY) x.t } ∧
      (t.laCh ch).gates = phaseGates (t.laCh ch).phA.st + 16 * phaseGates (t.laCh ch).phB.st ∧ s.keeps t (fun _ => false) [.la]) ∧
  (∀ (ch ph : Nat) (s : State), let x := (s.laCh ch).phase ph
    s.bridgeOn ch = true → ph < 2 → 4 ≤ x.st → x.rev = false → s.fld (Reg.LA_ST_CHOP ch) F.LA_ST_CHOP_DECAY = 2 →
    s.answers (.chopFastEnd ch ph) fun t =>
      (t.laCh ch).phase ph = { x with st := 3 } ∧
      (t.laCh ch).gates = phaseGates (t.laCh ch).phA.st + 16 * phaseGates (t.laCh ch).phB.st ∧ s.keeps t (fun _ => false) [.la]) ∧
  (∀ (ch : Nat) (iv : Interval) (s : State), s.bridgeOn ch = true → iv.msA < 2 ^ 16 → iv.msB < 2 ^ 16 →
    s.answers (.adaptInterval ch iv) fun t =>
      t.fld (Reg.LA_ST_MEAS ch) F.LA_ST_MEAS_MEAN_A = iv.msA ∧ t.fld (Reg.LA_ST_MEAS ch) F.LA_ST_MEAS_MEAN_B = iv.msB ∧
      (iv.skipA = true → iv.skipB = true → t.reg (Reg.LA_ST_OFS ch) = s.reg (Reg.LA_ST_OFS ch)) ∧
      t.fld (Reg.LA_ST_RHO ch) F.LA_ST_RHO_RHO = min 255 ((iv.driveA + iv.driveB) * 256 / (2 * iv.samples)) ∧
      (t.laCh ch).cur = s.reg (Reg.LA_ST_CUR ch) ∧ (t.laCh ch).adapt = s.reg (Reg.LA_ST_ADAPT ch) ∧
      s.keeps t (fun o => [Reg.LA_ST_MEAS ch, Reg.LA_ST_OFS ch, Reg.LA_ST_RHO ch, Reg.LA_ST_STATUS ch].contains o) [.la]) ∧
  (∀ (ch ph i : Nat) (s : State), s.bridgeOn ch = true → s.fld (Reg.LA_ST_SENSE ch) F.LA_ST_SENSE_IOCP ≤ i →
    s.answers (.chopOvercurrent ch ph i) fun t =>
      (t.laCh ch).gates = 0 ∧ (t.laCh ch).phA.st = 0 ∧ (t.laCh ch).phB.st = 0 ∧ t.chopOff ch = true ∧
      t.flag (Reg.LA_CH_ERR ch) F.LA_CH_ERR_CHOP_FAULT = true ∧
      s.keeps t (among [Reg.LA_CH_ERR ch, Reg.LA_ST_STATUS ch]) [.la]) ∧
  (∀ (gap : Nat) (s : State), s.clk.ana ≠ 1 →
    s.answers (.analoguePathGap gap) fun t =>
      (∀ ch, ch < 32 → s.laRun ch = true → t.flag (Reg.LA_CH_ERR ch) F.LA_CH_ERR_PATH = true) ∧ bit t.defects dfAnalogue = true ∧
      t.la = s.la) ∧
  (∀ s : State, s.answers .analogueGateTimeout fun t =>
    (∀ ch, ch < 16 → (t.laCh ch).gates = 0) ∧ s.keeps t (fun _ => false) [.la])

/-! ### The acquisition engine (block 0x0A) -/

/-- R522, R523, R536, R539, R541, R549, R554: the commands of conversion sets and capture units, where each takes its effect. -/
def Obligations.AcquisitionCommandsTakeEffect : Prop :=
  (∀ (c : Cmd) (s : State), let k := c.b 16
    k < 16 → s.setRunning k = false → s.may c 0x0A01 .pfWc [] [(16, 1)] (s.setMode' k = 1 ∨ s.setMode' k = 2) →
    s.answers (.acqSetStart c) fun t =>
      t.setRunning k = true ∧
      t.aSet k = { s.aSet k with left := if s.setMode' k = 2 then none else some (s.fld (Reg.ACQ_SET_CFG k) F.ACQ_SET_CFG_COUNT)
                                 startCmd := some (c.as 0x0A01), syncAt := none } ∧
      s.keeps t (among [Reg.ACQ_SET_STATUS k]) [.acq]) ∧
  (∀ (c : Cmd) (s : State), let k := c.b 16
    k < 16 → (s.aSet k).queue = [] → s.may c 0x0A02 .pfWc [] [(16, 1)] (s.setRunning k = true ∧ (s.aSet k).stopCmd = none) →
    s.completes (.acqSetStop c) (c.as 0x0A02) stOK 0 fun u =>
      u.setRunning k = false ∧ (u.aSet k).left = none ∧ (u.aSet k).stopCmd = none ∧ s.keeps u (among [Reg.ACQ_SET_STATUS k]) [.acq]) ∧
  (∀ (c : Cmd) (s : State), let k := c.b 16
    k < 16 → (s.aSet k).queue ≠ [] → s.may c 0x0A02 .pfWc [] [(16, 1)] (s.setRunning k = true ∧ (s.aSet k).stopCmd = none) →
    s.answers (.acqSetStop c) fun t =>
      t.aSet k = { s.aSet k with stopCmd := some (c.as 0x0A02) } ∧ t.setRunning k = s.setRunning k ∧ s.keeps t (among []) [.acq]) ∧
  (∀ (c : Cmd) (s : State), let u := c.b 16
    u < 16 → s.armFails u = none → s.may c 0x0A03 .pfWc [] [(16, 1)] (s.uFree u = true) →
    s.completes (.acqArm c) (c.as 0x0A03) stOK 0 fun v =>
      v.uState u = (if s.uPre u = 0 then uReady else uFilling) ∧
      v.aU u = { fillT := s.cell, armT := s.cell, timeDone := timePast (s.reg64 (Reg.ACQ_U_TTIME u)) s.cell } ∧
      v.reg (Reg.ACQ_U_RECS u) = 0 ∧ v.reg (Reg.ACQ_U_STAT u) = 0 ∧ (∀ w, w ≠ u → v.aU w = s.aU w) ∧ s.keeps v (inBlock 10) [.acq]) ∧
  (∀ (c : Cmd) (n : Nat) (s : State), c.b 16 < 16 → s.armFails (c.b 16) = some n →
    s.may c 0x0A03 .pfWc [] [(16, 1)] (s.uFree (c.b 16) = true) →
    s.completes (.acqArm c) (c.as 0x0A03) (if n = 0x40 then 0x40 else stBad) (if n = 0x40 then 0 else n) fun v => s.keeps v (among []) []) ∧
  (∀ (c : Cmd) (s : State), let u := c.b 16
    u < 16 → s.uState u ∈ [uFilling, uReady, uRearm] → s.may c 0x0A04 .pfWc [] [(16, 1)] ((s.aU u).stopCmd = none) →
    s.completes (.acqStop c) (c.as 0x0A04) stOK 0 fun v =>
      v.uState u = uDone ∧ v.acq = s.acq ∧ s.keeps v (among [Reg.ACQ_U_STATE u, Reg.ACQ_STATUS]) []) ∧
  (∀ (c : Cmd) (s : State), let u := c.b 16
    u < 16 → s.uState u = uPost → s.may c 0x0A04 .pfWc [] [(16, 1)] ((s.aU u).stopCmd = none) →
    s.completes (.acqStop c) (c.as 0x0A04) stOK 0 fun v =>
      v.uState u = uDone ∧ v.reg (Reg.ACQ_U_RECS u) = s.reg (Reg.ACQ_U_RECS u) + 1 ∧ (v.aU u).trig = none) ∧
  (∀ (c : Cmd) (s : State), let u := c.b 16
    u < 16 → s.uState u = uReady → s.uStream u = false → s.flag (Reg.ACQ_U_MASK u) F.ACQ_U_MASK_EN = false →
    s.may c 0x0A05 .pfWc [] [(16, 1)] True →
    s.completes (.acqForce c) (c.as 0x0A05) stOK 0 fun v =>
      v.uState u = uPost ∧ (v.aU u).trig = some s.cell ∧ (v.aU u).short = false ∧
      s.keeps v (among [Reg.ACQ_U_STATE u, Reg.ACQ_STATUS]) [.acq]) ∧
  (∀ (c : Cmd) (p n : Nat) (s : State), let u := c.b 16; let seg := c.b 17; let a := c.u 24 8; let h := s.uBase u + 64 * seg; let f := n * s.uFS u
    u < 16 → (s.aU u).recs.find? (fun r => r.1 == seg) = some (seg, p, n) → 0 < f → 64 + f ≤ c.u 32 4 → p + n ≤ s.uCap u →
    isSram a = false → isSram h = true → isSram (s.uPlace u seg p) = true → s.twin.feed = none → s.sramReady h 64 = true →
    s.poisoned h 64 = none → s.sramReady (s.uPlace u seg p) f = true → s.poisoned (s.uPlace u seg p) f = none →
    s.may c 0x0A06 .pfWc [(a, c.u 32 4)] [(16, 1), (17, 1), (24, 8), (32, 4)] True →
    s.completes (.acqCopy c) (c.as 0x0A06) stOK 0 fun v =>
      v.egress = ((s.ready1 (c.as 0x0A06)).hostWrite (fnOf c.who) (hostAddr a) (s.sramRead h 64 ++ s.sramRead (s.uPlace u seg p) f)).egress ∧
      s.keeps v (among []) []) ∧
  (∀ (c : Cmd) (l : Nat) (s : State), l < 5 → s.tbMine l = false →
    s.may c 0x0A07 .pfWc [] [] (s.acq.calCmd = none ∧ s.tbOn = true ∧ s.syncSeen = true) →
    s.answers (.acqTbCal c) fun t =>
      t.acq.calCmd = some (c.as 0x0A07) ∧
      (∀ k, k < 5 → bit (t.fld Reg.ACQ_TB_STATUS F.ACQ_TB_STATUS_CAL_OK) k = s.tbMine k ∧ (t.tbLine k).done = s.tbMine k ∧
        (t.tbLine k).rounds = 0 ∧ (s.tbMine k = true → t.tbDelay k = 0)) ∧
      s.keeps t (inBlock 10) [.acq])

/-- R521–R525, R533, R536, R540, R543, R544: conversions, triggers by time, and what moves a unit through its states. R547–R551: the trigger bus. A pulse
of another peer triggers every unit that waits for its line, at its time less the line's delay; one of a wrong width is rejected; probes go out in a
calibration's window; a sync pulse gives the sets of MODE SYNC their start. -/
def Obligations.UnitsConvertAndTriggersReachThem : Prop :=
  (∀ (k : Nat) (xs : List (Nat × Int × Bool)) (s : State), k < 16 → s.setRunning k = true → (s.aSet k).stopCmd = none →
    (s.aSet k).startCmd = none → (∀ x ∈ xs, x.1 ∈ s.setChans k) →
    s.answers (.conversionSample k xs) fun t =>
      (t.aSet k).queue = (s.aSet k).queue ++ [(s.cell, xs.map fun x => (x.1, some (satS 16 x.2.1)))] ∧
      ((s.aSet k).left ≠ some 1 → (s.aSet k).left ≠ some 0 → t.setRunning k = true ∧ (t.aSet k).left = (s.aSet k).left.map (· - 1)) ∧
      ((s.aSet k).left = some 1 → t.setRunning k = false ∧ (t.aSet k).left = none) ∧
      (∀ x ∈ xs, satS 16 x.2.1 ≠ x.2.1 → t.flag (Reg.ACQ_AIN_STATUS x.1) F.ACQ_AIN_STATUS_OVR = true) ∧ s.keeps t (inBlock 10) [.acq]) ∧
  (∀ (k ch : Nat) (v : Int) (at_ : W64) (rest : List (W64 × List (Nat × Option Int))) (s : State), k < 16 → ch < 48 →
    (s.aSet k).queue = (at_, [(ch, some v)]) :: rest → 6400 ≤ timeDiff s.cell at_ →
    s.answers (.conversionReady k) fun t =>
      (t.aSet k).queue = rest ∧ t.fld (Reg.ACQ_AIN_STATUS ch) F.ACQ_AIN_STATUS_LAST = ofSigned 16 v ∧
      t.flag Reg.ACQ_STATUS F.ACQ_STATUS_PATH_OK = true) ∧
  (∀ (ns : Nat) (s : State), 1000 ≤ ns →
    s.answers (.acqPathGap ns) fun t =>
      t.flag Reg.ACQ_STATUS F.ACQ_STATUS_PATH_OK = false ∧
      (∀ k, k < 16 → (t.aSet k).queue = (s.aSet k).queue.map fun q => (q.1, q.2.map fun x => (x.1, none))) ∧
      (∀ k ch, k < 16 → s.setRunning k = true → ch ∈ s.setChans k → t.flag (Reg.ACQ_AIN_STATUS ch) F.ACQ_AIN_STATUS_PATH = true) ∧
      (s.clk.ana ≠ 1 → bit t.defects dfAnalogue = true)) ∧
  (∀ (u : Nat) (s : State), let at_ := s.reg64 (Reg.ACQ_U_TTIME u)
    u < 16 → s.uState u = uReady → s.uTrig u F.ACQ_U_TRIG_TYPE = 5 → (s.aU u).timeDone = false → timePast at_ s.cell = true →
    s.uStream u = false → s.flag (Reg.ACQ_U_MASK u) F.ACQ_U_MASK_EN = false →
    s.answers (.acqTimeTrigger u) fun t =>
      t.uState u = uPost ∧ (t.aU u).trig = some at_ ∧ (t.aU u).timeDone = true ∧
      s.keeps t (among [Reg.ACQ_U_STATE u, Reg.ACQ_STATUS]) [.acq]) ∧
  (∀ (u : Nat) (s : State), u < 16 → s.uState u = uFilling → s.uPre u ≤ (s.aU u).frames.length →
    s.answers (.acqPreFilled u) fun t =>
      t.uState u = uReady ∧ t.acq = s.acq ∧ s.keeps t (fun o => o == Reg.ACQ_U_STATE u || o == Reg.ACQ_STATUS) []) ∧
  (∀ (u : Nat) (s : State), u < 16 → s.uState u = uPost → s.uPostN u ≤ s.uPostHeld u →
    s.answers (.acqPostComplete u) fun t =>
      t.uState u = (if s.uCfg u F.ACQ_U_CFG_AUTO_REARM = 1 ∧ s.uSeg u + 1 < s.uSegs u then uRearm else uDone) ∧
      t.reg (Reg.ACQ_U_RECS u) = s.reg (Reg.ACQ_U_RECS u) + 1 ∧ (t.aU u).recNo = ((s.aU u).recNo + 1) % 65536 ∧ (t.aU u).trig = none) ∧
  (∀ (u : Nat) (last : W64) (s : State), u < 16 → s.uState u = uRearm → (s.aU u).lastT = some last → 12800 ≤ timeDiff s.cell last →
    s.answers (.acqRearmEnd u) fun t =>
      t.uState u = (if s.uPre u = 0 then uReady else uFilling) ∧ t.uSeg u = (s.uSeg u + 1) % 2 ^ F.ACQ_U_STATE_SEGMENT.w ∧
      (t.aU u).frames = [] ∧ (t.aU u).notBefore = some (last + 12800) ∧
      s.keeps t (fun o => o == Reg.ACQ_U_STATE u || o == Reg.ACQ_STATUS) [.acq]) ∧
  (∀ (ring u k n len : Nat) (addr : W64) (last : Bool) (rest : List (Nat × Nat × Bool)) (s : State),
    let size := 64 + n * s.uFS u; let o := s.chunkAt u k
    s.acq.order.find? (fun u => s.fld (Reg.ACQ_U_STREAM u) F.ACQ_U_STREAM_RING == ring) = some u → (s.aU u).closed = (k, n, last) :: rest →
    ring < 64 → s.ringOn 0 3 ring = true → s.devIdx 0 3 ring ≠ s.swIdx 0 3 ring → s.hostUp = true → size ≤ len → s.sramReady o size = true →
    s.poisoned o size = none → (s.aU u).stopCmd = none →
    s.answers (.streamChunkPost ring addr len) fun t =>
      (t.aU u).closed = rest ∧ t.acq.order.length + 1 = s.acq.order.length ∧ t.devIdx 0 3 ring = (s.devIdx 0 3 ring + 1) % 2 ^ 32 ∧
      (∀ e ∈ (s.hostWrite 0 addr (s.sramRead o size)).egress, e ∈ t.egress) ∧ s.keeps t answerReg [.host, .acq]) ∧
  (∀ (u : Nat) (s : State), u < 16 → s.uState u = uStreaming → 0 < s.uDec u →
    s.fillLe u (s.fld (Reg.ACQ_U_STREAM u) F.ACQ_U_STREAM_LOW) = true → (s.aU u).chunk = none →
    s.answers (.decRestore u) fun t =>
      t.uDec u = s.uDec u - 1 ∧ (t.aU u).decChanged = true ∧ s.keeps t (among [Reg.ACQ_U_STATE u]) [.acq]) ∧
  (∀ (l w u : Nat) (at_ : W64) (s : State), s.tbOn = true → l < 4 → 50 ≤ w → w ≤ 200 → s.tbMine l = false → u < 16 →
    s.uState u = uReady → s.uTrig u F.ACQ_U_TRIG_TYPE = 7 → s.uTrig u F.ACQ_U_TRIG_BUS_LINE = l → s.uStream u = false →
    s.flag (Reg.ACQ_U_MASK u) F.ACQ_U_MASK_EN = false →
    s.answers (.triggerBusPulse l w at_ false) fun t =>
      t.uState u = uPost ∧ (t.aU u).trig = some (at_ - BitVec.ofNat 64 (s.tbDelay l))) ∧
  (∀ (l w : Nat) (at_ : W64) (win : Bool) (s : State), s.tbOn = true → l < 4 → w < 50 ∨ 200 < w →
    s.answers (.triggerBusPulse l w at_ win) fun t =>
      t.fld Reg.ACQ_TB_STATUS F.ACQ_TB_STATUS_PULSE_ERR =
        satU F.ACQ_TB_STATUS_PULSE_ERR.w (s.fld Reg.ACQ_TB_STATUS F.ACQ_TB_STATUS_PULSE_ERR + 1) ∧
      t.acq = s.acq ∧ s.keeps t (among [Reg.ACQ_TB_STATUS]) []) ∧
  (∀ (l : Nat) (a at_ : W64) (s : State), let z := s.tbLine l
    s.acq.lastSync = some a → l < 5 → s.acq.calCmd.isSome = true → z.done = false → z.rounds < 8 →
    s.nearestSync (a - BitVec.ofNat 64 (s.tbDelay 4)) / max 1 s.syncPeriod % 16 = 0 →
    timeDiff at_ a = ((2 + 8 * l + s.fld Reg.ACQ_TB_CFG F.ACQ_TB_CFG_PEER) * 16000 : Nat) →
    s.answers (.tbCalProbe l at_) fun t =>
      t.tbLine l = { z with rounds := z.rounds + 1, probe := some at_ } ∧ t.egress = .busPulse l at_ :: s.egress ∧
      s.keeps t (fun _ => false) [.acq]) ∧
  (∀ (s : State), let sn := s.cell - BitVec.ofNat 64 (s.cell.toNat % s.syncPeriod)
    s.tbOn = true → s.tbMine 4 = true → s.syncPeriod ≠ 0 → s.cell.toNat % s.syncPeriod < 33 → s.acq.lastSync ≠ some sn →
    s.answers .syncPulseDrive fun t =>
      t.acq.lastSync = some sn ∧ t.egress = .syncPulse sn :: s.egress ∧ s.keeps t (inBlock 10) [.acq]) ∧
  (∀ (w : Nat) (at_ : W64) (s : State), let sn := at_ - BitVec.ofNat 64 (s.tbDelay 4)
    let st := sn + BitVec.ofNat 64 (s.fld Reg.ACQ_TB_CFG F.ACQ_TB_CFG_SYNC_LEAD * 16)
    s.tbOn = true → 50 ≤ w → w ≤ 200 → s.tbMine 4 = false →
    s.answers (.syncPulseReceive w at_) fun t =>
      t.acq.lastSync = some at_ ∧ t.reg64 Reg.ACQ_TB_SYNC_ERR = BitVec.ofNat 64 (s.nearestSync sn) - sn ∧
      (∀ k, k < 16 → s.setMode' k = 3 → timePast st s.cell = false → (t.aSet k).syncAt = some st) ∧ s.keeps t (inBlock 10) [.acq]) ∧
  (∀ (k : Nat) (at_ : W64) (s : State), k < 16 → (s.aSet k).syncAt = some at_ → s.setMode' k = 3 → timePast at_ s.cell = true →
    s.setRunning k = false →
    s.answers (.syncSetStart k) fun t =>
      t.setRunning k = true ∧
      t.aSet k = { s.aSet k with left := some (s.fld (Reg.ACQ_SET_CFG k) F.ACQ_SET_CFG_COUNT), startCmd := none, syncAt := none } ∧
      s.keeps t (among [Reg.ACQ_SET_STATUS k]) [.acq])

/-! ### Signal cores (block 0x0B) -/

/-- R564–R566: moves and the 16-bit arithmetic. Each writes its destination and the flags that the rules give (V and C where they leave them open, with a free
value), the PC moves on by one, and nothing else changes. -/
def Obligations.SignalCoresMoveAndCompute : Prop :=
  (∀ (c : Nat) (s : State), s.scRuns c 0 →
    s.answers (.isaNop c 0) fun t => s.scDone t c (s.scCore c) (s.scSr c) (s.scPc c + 1)) ∧
  (∀ (c d a x v w : Nat) (i : Instr) (s : State), d < 16 → a < 16 → x ≤ 0x28 →
    (i = .isaMov c 0 ∧ w = scWord 0x01 d a 0 0 ∧ v = s.scD c a) ∨ (i = .isaMovi c 0 ∧ v < 2 ^ 16 ∧ w = scWord 0x02 d 0 0 v) ∨
      (i = .isaMovsLoad c 0 ∧ w = scWord 0x03 d 0 0 (x * 2 ^ 16) ∧ v = s.scSp c x) →
    s.scRuns c w → s.answers i fun t => s.scDone t c ((s.scCore c).withD d v) (s.scSr c) (s.scPc c + 1)) ∧
  (∀ (c d x v w : Nat) (i : Instr) (s : State), d < 16 → x ≤ 0x28 →
    (i = .isaMovsStore c 0 ∧ w = scWord 0x04 d 0 0 (x * 2 ^ 16) ∧ v = s.scD c d) ∨
      (i = .isaMovsi c 0 ∧ v < 2 ^ 16 ∧ w = scWord 0x05 0 0 0 (x * 2 ^ 16 + v)) →
    s.scRuns c w →
    s.answers i fun t => s.scDone t c { s.scCore c with pend := [⟨1, .sp x, v⟩] } (s.scSr c) (s.scPc c + 1)) ∧
  (∀ (c d a b op : Nat) (sat : Bool) (x : Int) (i : Instr) (s : State), d < 16 → a < 16 → b < 16 →
    (i = .isaAdd c 0 ∧ op = 0x08 ∧ sat = false ∧ x = s.scDi c a + s.scDi c b) ∨
      (i = .isaAdds c 0 ∧ op = 0x0A ∧ sat = true ∧ x = s.scDi c a + s.scDi c b) ∨
      (i = .isaSub c 0 ∧ op = 0x09 ∧ sat = false ∧ x = s.scDi c a - s.scDi c b) ∨
      (i = .isaSubs c 0 ∧ op = 0x0B ∧ sat = true ∧ x = s.scDi c a - s.scDi c b) →
    s.scRuns c (scWord op d a b 0) →
    s.answers i fun t => let ov := decide (satS 16 x ≠ x); let v := w16 (if sat then satS 16 x else x)
      ∃ cy, cy < 2 ∧ (op = 0x08 ∨ op = 0x0A → cy = (s.scD c a + s.scD c b) / 2 ^ 16) ∧
        s.scDone t c ((s.scCore c).withD d v) (srWith ((s.scSr c / 16 * 16 + nz v + 2 * b2n ov + cy) % 2 ^ 16) srDsat (sat && ov))
          (s.scPc c + 1)) ∧
  (∀ (c d a b op low v : Nat) (i : Instr) (s : State), d < 16 → a < 16 →
    (low = 0 ∧ b < 16 ∧
      ((i = .isaAnd c 0 ∧ op = 0x0C ∧ v = (s.scD c a &&& s.scD c b)) ∨ (i = .isaOr c 0 ∧ op = 0x0D ∧ v = (s.scD c a ||| s.scD c b)) ∨
        (i = .isaXor c 0 ∧ op = 0x0E ∧ v = (s.scD c a ^^^ s.scD c b)))) ∨
      (b = 0 ∧ low ≤ 15 ∧
        ((i = .isaShl c 0 ∧ op = 0x0F ∧ v = s.scD c a * 2 ^ low % 2 ^ 16) ∨ (i = .isaAsr c 0 ∧ op = 0x10 ∧ v = w16 (s.scDi c a / 2 ^ low)) ∨
          (i = .isaLsr c 0 ∧ op = 0x11 ∧ v = s.scD c a / 2 ^ low))) →
    s.scRuns c (scWord op d a b low) →
    s.answers i fun t => ∃ f, f < 4 ∧
      s.scDone t c ((s.scCore c).withD d v) ((s.scSr c / 16 * 16 + nz v + f) % 2 ^ 16) (s.scPc c + 1)) ∧
  (∀ (c a b : Nat) (s : State), a < 16 → b < 16 → s.scRuns c (scWord 0x12 0 a b 0) →
    s.answers (.isaCmp c 0) fun t => let x := s.scDi c a - s.scDi c b
      ∃ cy, cy < 2 ∧
        s.scDone t c (s.scCore c) ((s.scSr c / 16 * 16 + nz (w16 x) + 2 * b2n (decide (satS 16 x ≠ x)) + cy) % 2 ^ 16) (s.scPc c + 1)) ∧
  (∀ (c d a op : Nat) (x : Int) (i : Instr) (s : State), d < 16 → a < 16 →
    (i = .isaAbs c 0 ∧ op = 0x13 ∧ x = (s.scDi c a).natAbs) ∨ (i = .isaNeg c 0 ∧ op = 0x14 ∧ x = -s.scDi c a) →
    s.scRuns c (scWord op d a 0 0) →
    s.answers i fun t => let ov := decide (satS 16 x ≠ x); let v := w16 (satS 16 x)
      ∃ cy, cy < 2 ∧ s.scDone t c ((s.scCore c).withD d v)
        (srWith ((s.scSr c / 16 * 16 + nz v + 2 * b2n ov + cy) % 2 ^ 16) srDsat ov) (s.scPc c + 1)) ∧
  (∀ (c d n sh : Nat) (s : State), d < 16 → n < 2 → sh ≤ 24 → s.scRuns c (scWord 0x26 d n 0 sh) →
    s.answers (.isaSat c 0) fun t => let a := (tabGet (fun _ => 0) (s.scCore c).accSat n).toInt
      let r := if sh = 0 then a else (a + 2 ^ (sh - 1)) / 2 ^ sh
      s.scDone t c ((s.scCore c).withD d (w16 (satS 16 r))) (srWith (s.scSr c) srDsat (decide (satS 16 r ≠ r))) (s.scPc c + 1))

/-- R558, R567–R569, R573: memory and accumulators. An access through an address register reaches its address (wrapped in its circle), and post-modifies it when
PM is 1; a loaded D register and what SAT sees of an accumulator land later; a multiplication adds to, takes from or replaces its accumulator,
saturated to 40 bits; an address that cannot be read is exception 2. -/
def Obligations.SignalCoresLoadStoreAndMultiply : Prop :=
  (∀ (c d i : Nat) (pm : Bool) (s : State), let a := (s.scAddr c i).1; let s1 := (s.scLoad c a).2
    d < 16 → i < 8 → scReadable a = true → s.scRuns c (scWord 0x18 d (2 * i + b2n pm) 0 0) →
    s.answers (.isaLd c 0) fun t =>
      s1.scDone t c { s1.scCore c with sp := s.scSpAfter c i pm (s1.scCore c).sp, pend := [⟨loadDelay a - 1, .d d, (s.scLoad c a).1⟩] }
        (srWith (s1.scSr c) srWrap (s.scAddr c i).2.1) (s.scPc c + 1)) ∧
  (∀ (c d i : Nat) (pm : Bool) (s : State), d < 16 → i < 8 → scReadable (s.scAddr c i).1 = false →
    s.scRuns c (scWord 0x18 d (2 * i + b2n pm) 0 0) → (s.scCore c).commit = none →
    s.answers (.isaLd c 0) fun t =>
      t.scState c = 3 ∧ t.fld (Reg.SC_EXC c) F.SC_EXC_CAUSE = 2 ∧ t.fld (Reg.SC_EXC c) F.SC_EXC_PC = s.scPc c ∧ t.scPc c = s.scPc c ∧
      t.scCore c = s.scCore c) ∧
  (∀ (c d i : Nat) (pm : Bool) (s : State), let a := (s.scAddr c i).1; let s1 := s.scStore c a (s.scD c d)
    d < 16 → i < 8 → scStorable a = true → s.scRuns c (scWord 0x19 d (2 * i + b2n pm) 0 0) →
    s.answers (.isaSt c 0) fun t =>
      s1.scDone t c { s1.scCore c with sp := s.scSpAfter c i pm (s1.scCore c).sp } (srWith (s1.scSr c) srWrap (s.scAddr c i).2.1)
        (s.scPc c + 1)) ∧
  (∀ (c n i : Nat) (pm : Bool) (s : State), let a := (s.scAddr c i).1; let b := s.scNext c i 1
    let s1 := (s.scLoad c a).2; let s2 := (s1.scLoad c b).2
    n < 8 → i < 8 → scReadable a = true → scReadable b = true → s.scRuns c (scWord 0x1A n (2 * i + b2n pm) 0 0) →
    s.answers (.isaLdP c 0) fun t =>
      s2.scDone t c { s2.scCore c with
          sp := s.scSpAfter c i pm (s2.scCore c).sp
          pend := [⟨loadDelay a - 1, .d (2 * n), (s.scLoad c a).1⟩, ⟨loadDelay b - 1, .d (2 * n + 1), (s1.scLoad c b).1⟩] }
        (srWith (s2.scSr c) srWrap (s.scAddr c i).2.1) (s.scPc c + 1)) ∧
  (∀ (c n i : Nat) (pm : Bool) (s : State), let a := (s.scAddr c i).1; let b := s.scNext c i 1
    let s2 := (s.scStore c a (s.scD c (2 * n))).scStore c b (s.scD c (2 * n + 1))
    n < 8 → i < 8 → scStorable a = true → scStorable b = true → s.scRuns c (scWord 0x1B n (2 * i + b2n pm) 0 0) →
    s.answers (.isaStP c 0) fun t =>
      s2.scDone t c { s2.scCore c with sp := s.scSpAfter c i pm (s2.scCore c).sp } (srWith (s2.scSr c) srWrap (s.scAddr c i).2.1)
        (s.scPc c + 1)) ∧
  (∀ (c n a b op : Nat) (x : Int) (i : Instr) (s : State), n < 2 → a < 16 → b < 16 →
    let p := s.scProduct c (s.scDi c a) (s.scDi c b)
    (i = .isaMpy c 0 ∧ op = 0x20 ∧ x = p) ∨ (i = .isaMac c 0 ∧ op = 0x21 ∧ x = s.scAcc c n + p) ∨
      (i = .isaMsu c 0 ∧ op = 0x22 ∧ x = s.scAcc c n - p) ∨ (i = .isaClr c 0 ∧ op = 0x25 ∧ a = 0 ∧ b = 0 ∧ x = 0) ∨
      (i = .isaLdacc c 0 ∧ op = 0x27 ∧ a < 8 ∧ b = 0 ∧ x = toSigned 32 (s.scD c (2 * a + 1) * 2 ^ 16 + s.scD c (2 * a))) →
    s.scRuns c (scWord op n a b 0) →
    s.answers i fun t =>
      s.scDone t c ((s.scCore c).withAcc n x) (srWith (s.scSr c) (6 + n) (decide (x ≠ satS 40 x))) (s.scPc c + 1)) ∧
  (∀ (c n i b : Nat) (pm : Bool) (s : State), let a := (s.scAddr c i).1; let s1 := (s.scLoad c a).2
    let x := s.scAcc c n + s.scProduct c (s.scDi c b) (toSigned 16 (s.scLoad c a).1)
    n < 2 → i < 8 → b < 16 → scReadable a = true → s.scRuns c (scWord 0x23 n (2 * i + b2n pm) b 0) →
    s.answers (.isaMacm c 0) fun t =>
      s1.scDone t c { (s1.scCore c).withAcc n x with sp := s.scSpAfter c i pm (s1.scCore c).sp }
        (srWith (srWith (s1.scSr c) srWrap (s.scAddr c i).2.1) (6 + n) (decide (x ≠ satS 40 x))) (s.scPc c + 1)) ∧
  (∀ (c n i j : Nat) (pm pj : Bool) (s : State), let a := (s.scAddr c i).1; let b := (s.scAddr c j).1; let dst := s.scNext c i 1
    let u := (s.scLoad c a).1; let s1 := (s.scLoad c a).2; let s3 := (s1.scLoad c b).2.scStore c dst u
    let x := s.scAcc c n + s.scProduct c (toSigned 16 u) (toSigned 16 (s1.scLoad c b).1)
    n < 2 → i < 8 → j < 8 → scReadable a = true → scReadable b = true → scStorable dst = true →
    s.scRuns c (scWord 0x24 n (2 * i + b2n pm) (2 * j + b2n pj) 0) →
    s.answers (.isaFtap c 0) fun t => let z := s3.scCore c
      s3.scDone t c { z.withAcc n x with sp := s.scSpAfter c j pj (s.scSpAfter c i pm z.sp) }
        (srWith (srWith (s3.scSr c) srWrap ((s.scAddr c i).2.1 || (s.scAddr c j).2.1)) (6 + n) (decide (x ≠ satS 40 x))) (s.scPc c + 1))

/-- R570–R572, R577, R580, R583: control. A branch takes effect after the instruction in its delay slot; loops start, repeat and end at their end address, where a
pending commit swaps the banks; RETI restores PC and SR after its slot; WAIT and HALT change the core's state; what R572 forbids, a full
or empty call stack and an undefined OP are exceptions. -/
def Obligations.SignalCoresBranchAndLoop : Prop :=
  (∀ (c k a op g : Nat) (i : Instr) (s : State), k < 8 → a < 2 ^ 13 →
    (i = .isaJmp c 0 ∧ op = 0x30 ∧ k = 0 ∧ g = a) ∨
      (i = .isaJcc c 0 ∧ op = 0x31 ∧ g = (if scCond (s.scSr c) k then a else s.scPc c + 2)) →
    s.scRuns c (scWord op k 0 0 a) →
    s.answers i fun t => s.scDone t c { s.scCore c with branch := some g } (s.scSr c) (s.scPc c + 1)) ∧
  (∀ (c a : Nat) (s : State), a < 2 ^ 13 → (s.scCore c).stack.length < 4 → s.scRuns c (scWord 0x32 0 0 0 a) →
    s.answers (.isaCall c 0) fun t =>
      s.scDone t c { s.scCore c with branch := some a, stack := (s.scPc c + 2) % 8192 :: (s.scCore c).stack } (s.scSr c) (s.scPc c + 1)) ∧
  (∀ (c a : Nat) (r : List Nat) (s : State), (s.scCore c).stack = a :: r → s.scRuns c (scWord 0x33 0 0 0 0) →
    s.answers (.isaRet c 0) fun t => s.scDone t c { s.scCore c with branch := some a, stack := r } (s.scSr c) (s.scPc c + 1)) ∧
  (∀ (c : Nat) (s : State), s.scRuns c (scWord 0x34 0 0 0 0) →
    s.answers (.isaReti c 0) fun t => s.scDone t c { s.scCore c with branch := some 0, reti := true } (s.scSr c) (s.scPc c + 1)) ∧
  (∀ (c g : Nat) (reti : Bool) (s : State), c < 8 → s.scState c = 1 → s.scFetch c = 0 → s.scAtEnd c 0 = false → s.scAtEnd c 1 = false →
    (s.scCore c).branch = some g → (s.scCore c).reti = reti → (s.scCore c).pend = [] → g < 2 ^ 13 →
    s.answers (.isaNop c 0) fun t =>
      s.scDone t c { s.scCore c with branch := none, reti := false }
        (if reti then (s.scSp c 0x22 ||| (s.scSr c &&& srSticky)) % 2 ^ 16 else s.scSr c) (if reti then s.scSp c 0x21 % 2 ^ 13 else g)) ∧
  (∀ (c n k a w : Nat) (i : Instr) (s : State), n < 2 → a < 2 ^ 13 → k < 2 ^ 13 →
    (n = 0 → bit (s.scSr c) srLA0 = false) → (n = 1 → bit (s.scSr c) srLA0 = true ∧ a ≤ s.scSp c 0x25) →
    (w = scWord (0x35 + n) 0 0 0 (k * 2 ^ 13 + a) ∧ i = (if n = 0 then .isaLoop0 c 0 else .isaLoop1 c 0)) ∨
      (∃ r, r < 16 ∧ w = scWord (0x37 + n) r 0 0 a ∧ k = s.scD c r % 2 ^ 13 ∧ i = (if n = 0 then .isaLoop0r c 0 else .isaLoop1r c 0)) →
    s.scRuns c w →
    s.answers i fun t => let x := if n = 0 then 0x23 else 0x26; let la := if n = 0 then srLA0 else srLA1
      (k = 0 → a < 0x1FFF → s.scDone t c (s.scCore c) (s.scSr c) (a + 1)) ∧
      (k ≠ 0 → t.scSp c x = k ∧ t.scSp c (x + 1) = s.scPc c + 1 ∧ t.scSp c (x + 2) = a ∧ bit (t.scSr c) la = true ∧
        t.scPc c = s.scPc c + 1 ∧ (t.scCore c).d = (s.scCore c).d ∧ (t.scCore c).acc = (s.scCore c).acc)) ∧
  (∀ (c : Nat) (s : State), c < 8 → s.scState c = 1 → s.scIntDue c = false → s.scFetch c = 0 → s.scAtEnd c 0 = true → s.scAtEnd c 1 = false →
    (s.scCore c).branch = none → (s.scCore c).reti = false → (s.scCore c).pend = [] → 1 < s.scSp c 0x23 →
    s.answers (.isaNop c 0) fun t =>
      t.scPc c = s.scSp c 0x24 % 2 ^ 13 ∧ t.scSp c 0x23 = s.scSp c 0x23 - 1 ∧ t.scSr c = s.scSr c ∧ (t.scCore c).d = (s.scCore c).d) ∧
  (∀ (c : Nat) (k : Cmd) (s : State), c < 8 → s.scState c = 1 → s.scIntDue c = false → s.scFetch c = 0 → s.scAtEnd c 0 = true →
    s.scAtEnd c 1 = false → (s.scCore c).branch = none → (s.scCore c).reti = false → (s.scCore c).pend = [] → s.scSp c 0x23 ≤ 1 →
    bit (s.scSr c) srInIsr = false → s.scWanted c = false → (s.scCore c).commit = some k →
    s.answers (.isaNop c 0) fun t =>
      t.fld (Reg.SC_STATE c) F.SC_STATE_BANK = 1 - s.fld (Reg.SC_STATE c) F.SC_STATE_BANK ∧
      t.scPc c = s.fld (Reg.SC_CFG c) F.SC_CFG_SWAP_ENTRY ∧ (t.scCore c).commit = none ∧ bit (t.scSr c) srLA0 = false ∧
      (t.scCore c).d = (s.scCore c).d) ∧
  (∀ (c st op : Nat) (i : Instr) (s : State), (i = .isaWait c 0 ∧ op = 0x39 ∧ st = 2) ∨ (i = .isaHalt c 0 ∧ op = 0x3A ∧ st = 0) →
    s.scRuns c (scWord op 0 0 0 0) →
    s.answers i fun t =>
      t.scState c = st ∧ t.scPc c = s.scPc c + 1 ∧ t.scCore c = { s.scCore c with loopEnd := false } ∧ t.scSr c = s.scSr c ∧
      s.keeps t (among [Reg.SC_STATE c, Reg.SC_BUSY c, Reg.SC_STATUS]) [.sc]) ∧
  (∀ (c cause w : Nat) (i : Instr) (s : State),
    (i = .isaCall c 0 ∧ 4 ≤ (s.scCore c).stack.length ∧ scOp w = 0x32 ∧ fmtB false true w = true ∧ cause = 3) ∨
      (i = .isaRet c 0 ∧ (s.scCore c).stack = [] ∧ w = scWord 0x33 0 0 0 0 ∧ cause = 4) ∨
      (i = .isaNop c 0 ∧ scDefined (scOp w) = false ∧ cause = 1) →
    s.scRuns c w → (s.scCore c).commit = none →
    s.answers i fun t =>
      t.scState c = 3 ∧ t.fld (Reg.SC_EXC c) F.SC_EXC_CAUSE = cause ∧ t.fld (Reg.SC_EXC c) F.SC_EXC_PC = s.scPc c ∧ t.scPc c = s.scPc c ∧
      t.scCore c = s.scCore c)

/-- R575, R576, R578, R580, R582–R584, R591: the commands of the signal cores and their interrupts. A load fills the staged bank; a commit swaps at once on a core that is
not running and waits on one that is; entry to a handler saves PC and SR, clears IE and the loop flags and sets IN_ISR. -/
def Obligations.SignalCoresTakeCommandsAndInterrupts : Prop :=
  (∀ (c : Cmd) (s : State), let k := c.b 16; let a := c.u 24 8; let n := c.u 32 4; let l := s.sramRead a n
    k < 8 → 0 < n → n % 4 = 0 → 4 * c.u 20 2 + n ≤ 32768 → a + n ≤ sramSize → s.twin.feed = none → s.sramReady a n = true →
    s.poisoned a n = none → crc32c l = c.u 36 4 →
    s.may c 0x0B01 .pfWc [(a, n)] [(16, 1), (20, 2), (24, 8), (32, 4), (36, 4)] ((s.scCore k).commit = none) →
    s.completes (.scLoad c .pending) (c.as 0x0B01) stOK 0 fun u =>
      u.scCore k = { s.scCore k with
        prog := progWrite (s.scCore k).prog ((1 - s.fld (Reg.SC_STATE k) F.SC_STATE_BANK) * 8192 + c.u 20 2) l } ∧
      s.keeps u (among []) [.sc]) ∧
  (∀ (c : Cmd) (s : State), let k := c.b 16; let b := 1 - s.fld (Reg.SC_STATE k) F.SC_STATE_BANK
    k < 8 → s.scState k = 0 ∨ s.scState k = 2 → s.may c 0x0B02 .pfWc [] [(16, 1)] ((s.scCore k).commit = none ∧ s.mode ≠ mBoot) →
    ∃ u : State, exec (.scCommit c) s = .next ((u.complete (c.as 0x0B02) stOK b).post 0x0B30 (srcSc k) (det [(16, 1, k), (17, 1, b)])) ∧
      u.fld (Reg.SC_STATE k) F.SC_STATE_BANK = b ∧ u.scPc k = s.fld (Reg.SC_CFG k) F.SC_CFG_SWAP_ENTRY ∧ (u.scCore k).commit = none ∧
      (u.scCore k).stack = [] ∧ (u.scCore k).d = (s.scCore k).d ∧ (u.scCore k).data = (s.scCore k).data ∧
      s.keeps u (among [Reg.SC_STATE k, Reg.SC_SR k]) [.sc]) ∧
  (∀ (c : Cmd) (s : State), let k := c.b 16
    k < 8 → s.scState k = 1 → s.may c 0x0B02 .pfWc [] [(16, 1)] ((s.scCore k).commit = none ∧ s.mode ≠ mBoot) →
    s.answers (.scCommit c) fun t =>
      t.scCore k = { s.scCore k with commit := some (c.as 0x0B02) } ∧ t.flag (Reg.SC_STATE k) F.SC_STATE_COMMIT_PEND = true ∧
      t.scPc k = s.scPc k ∧ s.keeps t (among [Reg.SC_STATE k]) [.sc]) ∧
  (∀ (c : Cmd) (s : State), let k := c.b 16
    k < 8 → c.u 20 2 < 8192 → s.may c 0x0B03 .pfWc [] [(16, 1), (20, 2)] (s.scState k = 0 ∨ s.scState k = 3) →
    s.completes (.scStart c) (c.as 0x0B03) stOK 0 fun u =>
      u.scState k = 1 ∧ u.scPc k = c.u 20 2 ∧ bit (u.scSr k) srIE = false ∧ (u.scCore k).stack = [] ∧ (u.scCore k).branch = none ∧
      s.keeps u (among [Reg.SC_STATE k, Reg.SC_SR k, Reg.SC_STATUS]) [.sc]) ∧
  (∀ (c : Cmd) (s : State), let k := c.b 16
    k < 8 → s.may c 0x0B04 .pfWc [] [(16, 1)] (s.scState k ∈ [1, 2, 3]) →
    s.completes (.scHalt c) (c.as 0x0B04) stOK 0 fun u =>
      u.scState k = 0 ∧ u.scPc k = s.scPc k ∧ s.keeps u (among [Reg.SC_STATE k, Reg.SC_SR k, Reg.SC_STATUS]) [.sc]) ∧
  (∀ (c : Cmd) (s : State), (∀ k, k < 8 → s.regionState (0x10 + k) ≠ 2) → s.may c 0x0B05 .pfWc [] [(16, 1)] True →
    s.completes (.scKick c) (c.as 0x0B05) stOK 0 fun u =>
      (∀ k, k < 8 → bit (u.scPending k) 3 = (bit (s.scPending k) 3 || bit (c.b 16) k)) ∧ u.sc = s.sc ∧ s.keeps u (inBlock 11) []) ∧
  (∀ (k : Nat) (s : State), k < 8 → s.reg (Reg.SC_TIMER k) ≠ 0 → s.regionState (0x10 + k) ≠ 2 →
    s.answers (.scTimerIrq k) fun t => bit (t.scPending k) 2 = true ∧ s.keeps t (fun o => o == Reg.SC_IRQ k) []) ∧
  (∀ (k l : Nat) (s : State), k < 8 → s.scLine k = some l → (s.scCore k).pend = [] → bit (s.scSr k) srIE = true → s.scSr k < 2 ^ 16 →
    (s.scState k = 1 ∧ (s.scCore k).branch = none) ∨ s.scState k = 2 →
    s.answers (.scInterruptEntry k) fun t =>
      t.scState k = 1 ∧ t.scPc k = 4 + 4 * l ∧ t.scSp k 0x21 = s.scPc k ∧ t.scSp k 0x22 = s.scSr k ∧ bit (t.scPending k) l = false ∧
      bit (t.scSr k) srIE = false ∧ bit (t.scSr k) srInIsr = true ∧ bit (t.scSr k) srLA0 = false ∧ bit (t.scSr k) srLA1 = false ∧
      (t.scCore k).d = (s.scCore k).d ∧ s.keeps t (inBlock 11) [.sc]) ∧
  (∀ (k l : Nat) (s : State), k < 8 → s.scLine k = some l → (s.scCore k).pend = [] → bit (s.scSr k) srIE = false → s.scState k = 2 →
    s.answers (.scInterruptEntry k) fun t =>
      t.scState k = 1 ∧ t.scPc k = s.scPc k ∧ t.scSr k = s.scSr k ∧ s.keeps t (among [Reg.SC_STATE k, Reg.SC_STATUS]) [.sc]) ∧
  (∀ (k : Nat) (c : Cmd) (s : State), k < 8 → (s.scCore k).commit = some c →
    s.completes (.scSwapTimeout k) c stAborted 3 fun u =>
      u.scCore k = { s.scCore k with commit := none } ∧ u.flag (Reg.SC_STATE k) F.SC_STATE_COMMIT_PEND = false ∧
      s.keeps u (fun o => o == Reg.SC_STATE k) [.sc])

/-! ### Work cores (block 0x0C) -/

/-- R644–R647: instructions of a work core. Computation, loads and stores of data RAM, jumps and branches, LR, SC and AMOs, environment calls, illegal
instructions, MRET and the interrupt of R658 do to its registers and its data RAM what the RISC-V manuals say (through the model's functions,
PRESUMED, notes/assumptions/79.md), and nothing else. -/
def Obligations.RiscVInstructionsExecute : Prop :=
  (∀ (c i : Nat) (v : W64) (s : State), let r := (s.core c).rv
    s.rvRuns c i → r.compute i = some v →
    s.answers (.riscvInstruction c []) fun t => s.rvStep t c { r.wx (bits i 11 7) v with pc := r.pc + 4 }) ∧
  (∀ (c rd a b : Nat) (s : State), let r := (s.core c).rv
    rd < 32 → a < 32 → b < 32 → s.rvRuns c (encR 0 b a 0 rd 0x33) →
    s.answers (.riscvInstruction c []) fun t => s.rvStep t c { r.wx rd (r.rx a + r.rx b) with pc := r.pc + 4 }) ∧
  (∀ (c i : Nat) (s : State), let r := (s.core c).rv; let p := (s.core c).rv.pc.toNat; let h := leAt (memRead (s.core c).iram p 2) 0 2
    c < 16 → s.coreRuns c = true → (s.core c).takesIrq = false → r.fetchOk p = true → h % 4 ≠ 3 → rvExpand h = some i →
    ∀ v, r.compute i = some v →
    s.answers (.riscvInstruction c []) fun t => s.rvStep t c { r.wx (bits i 11 7) v with pc := r.pc + 2 }) ∧
  (∀ (c f3 rd a imm : Nat) (s : State), let r := (s.core c).rv; let n := 2 ^ (f3 % 4); let x := (r.rx a + sx 12 imm).toNat
    f3 < 7 → rd < 32 → a < 32 → imm < 2 ^ 12 → s.rvRuns c (encI imm a f3 rd 0x03) → 0x100000 ≤ x → x + n ≤ 0x120000 → x % n = 0 →
    r.pmpOk r.dataMachine 1 x n = true →
    s.answers (.riscvInstruction c []) fun t =>
      s.rvStep t c { r.wx rd (rvExtend f3 (leAt (s.dram c (x - 0x100000) n) 0 n)) with pc := r.pc + 4 }) ∧
  (∀ (c f3 a b imm : Nat) (s : State), let r := (s.core c).rv; let n := 2 ^ f3; let x := (r.rx a + sx 12 imm).toNat
    f3 < 4 → a < 32 → b < 32 → imm < 2 ^ 12 → s.rvRuns c (encS imm b a f3 0x23) → 0x100000 ≤ x → x + n ≤ 0x120000 → x % n = 0 →
    r.pmpOk r.dataMachine 2 x n = true →
    s.answers (.riscvInstruction c []) fun t =>
      s.rvDone t c { s.core c with
        rv := RvSt.retired { r with pc := r.pc + 4 }
        dram := memWrite (s.core c).dram (x - 0x100000) (leBytes n ((r.rx b).toNat % 2 ^ (8 * n))) }) ∧
  (∀ (c f3 a b imm : Nat) (s : State), let r := (s.core c).rv
    f3 < 8 → f3 ≠ 2 → f3 ≠ 3 → a < 32 → b < 32 → imm < 2 ^ 13 → imm % 2 = 0 → s.rvRuns c (encB imm b a f3) →
    s.answers (.riscvInstruction c []) fun t =>
      s.rvStep t c { r with pc := r.pc + (if rvTaken f3 (r.rx a) (r.rx b) then sx 13 imm else 4) }) ∧
  (∀ (c rd imm : Nat) (s : State), let r := (s.core c).rv
    rd < 32 → imm < 2 ^ 21 → imm % 2 = 0 → s.rvRuns c (encJ imm rd) →
    s.answers (.riscvInstruction c []) fun t => s.rvStep t c { r.wx rd (r.pc + 4) with pc := r.pc + sx 21 imm }) ∧
  (∀ (c : Nat) (s : State), let r := (s.core c).rv
    s.rvRuns c 0x00000073 →
    s.answers (.riscvInstruction c []) fun t => s.rvDone t c { s.core c with rv := r.raise (if r.machine then 11 else 8) 0 }) ∧
  (∀ (c i : Nat) (s : State), let r := (s.core c).rv
    s.rvRuns c i → i % 128 ∈ [0x33, 0x3B, 0x13, 0x1B] → r.compute i = none →
    s.answers (.riscvInstruction c []) fun t => s.rvDone t c { s.core c with rv := r.raise 2 i }) ∧
  (∀ (c : Nat) (s : State), let r := (s.core c).rv
    s.rvRuns c 0x30200073 → r.machine = true →
    s.answers (.riscvInstruction c []) fun t => s.rvStep t c r.mret ∧ (t.core c).rv.pc = r.mepc) ∧
  (∀ (c : Nat) (errs : List (Nat × Bool)) (s : State), let r := (s.core c).rv
    c < 16 → s.coreRuns c = true → (s.core c).takesIrq = true →
    s.answers (.riscvInstruction c errs) fun t =>
      s.rvDone t c { s.core c with rv := r.enterTrap true 11 0 } ∧ (t.core c).rv.mepc = r.pc ∧
      (t.core c).rv.mcause = BitVec.ofNat 64 (11 + 2 ^ 63) ∧ (t.core c).rv.machine = true) ∧
  (∀ (c w ar rd a : Nat) (s : State), let r := (s.core c).rv; let n := 4 * w; let x := (r.rx a).toNat
    w = 1 ∨ w = 2 → ar < 4 → rd < 32 → a < 32 → s.rvRuns c (encR (0x08 + ar) 0 a (w + 1) rd 0x2F) → 0x100000 ≤ x → x + n ≤ 0x120000 → x % n = 0 →
    r.pmpOk r.dataMachine 1 x n = true →
    s.answers (.riscvInstruction c []) fun t =>
      s.rvStep t c { r.wx rd (rvExtend (w + 1) (leAt (s.dram c (x - 0x100000) n) 0 n)) with resv := some (x / 8 * 8, 8), pc := r.pc + 4 }) ∧
  (∀ (c w ar rd a b : Nat) (s : State), let r := (s.core c).rv; let n := 4 * w; let x := (r.rx a).toNat
    let held := decide (r.resv = some (x / 8 * 8, 8))
    w = 1 ∨ w = 2 → ar < 4 → rd < 32 → a < 32 → b < 32 → s.rvRuns c (encR (0x0C + ar) b a (w + 1) rd 0x2F) → 0x100000 ≤ x →
    x + n ≤ 0x120000 → x % n = 0 →
    r.pmpOk r.dataMachine 2 x n = true →
    s.answers (.riscvInstruction c []) fun t =>
      s.rvDone t c { s.core c with
        rv := RvSt.retired { r.wx rd (if held then 0 else 1) with resv := none, pc := r.pc + 4 }
        dram := if held then memWrite (s.core c).dram (x - 0x100000) (leBytes n ((r.rx b).toNat % 2 ^ (8 * n))) else (s.core c).dram }) ∧
  (∀ (c w f5 ar rd a b : Nat) (s : State), let r := (s.core c).rv; let n := 4 * w; let x := (r.rx a).toNat
    let old := leAt (s.dram c (x - 0x100000) n) 0 n
    w = 1 ∨ w = 2 → f5 ∈ [0x00, 0x01, 0x04, 0x08, 0x0C, 0x10, 0x14, 0x18, 0x1C] → ar < 4 → rd < 32 → a < 32 → b < 32 →
    s.rvRuns c (encR (4 * f5 + ar) b a (w + 1) rd 0x2F) → 0x100000 ≤ x → x + n ≤ 0x120000 → x % n = 0 → r.pmpOk r.dataMachine 3 x n = true →
    s.answers (.riscvInstruction c []) fun t =>
      s.rvDone t c { s.core c with
        rv := RvSt.retired { r.wx rd (rvExtend (w + 1) old) with pc := r.pc + 4 }
        dram := memWrite (s.core c).dram (x - 0x100000) (leBytes n (rvAmo f5 (8 * n) old ((r.rx b).toNat % 2 ^ (8 * n)))) })

/-- R649–R651, R660, R661, R670: the commands of work items. -/
def Obligations.WorkItemCommandsTakeEffect : Prop :=
  (∀ (c : Cmd) (s : State), let i := c.u 16 2; let entry := c.u 24 8; let stack := c.u 40 8
    i < 4096 → c.b 18 < 8 → c.b 19 < 16 → entry % 2 = 0 → entry < 0x20000 → stack % 16 = 0 → 0x100010 ≤ stack → stack ≤ 0x11F000 →
    c.u 20 2 ≠ 0 → (∀ k, k < 16 → s.regionState k ≠ 2) → s.may c 0x0C01 .pfWc [] [(16, 2), (18, 1), (19, 1), (20, 2), (24, 8), (32, 8), (40, 8)] (s.itemState i = iFree) →
    s.completes (.wiCreate c) (c.as 0x0C01) stOK 0 fun u =>
      u.itemState i = (if bit (c.b 19) 3 then iReady else iIdle) ∧ u.fld (Reg.WI_STATUS i) F.WI_STATUS_PRIO = c.b 18 ∧
      u.itemMask i = c.u 20 2 ∧ u.flag (Reg.WI_STATUS i) F.WI_STATUS_USER = bit (c.b 19) 0 ∧
      u.flag (Reg.WI_STATUS i) F.WI_STATUS_PREEMPT = bit (c.b 19) 1 ∧ u.flag (Reg.WI_STATUS i) F.WI_STATUS_ONESHOT = bit (c.b 19) 2 ∧
      (u.item i).entry = entry ∧ (u.item i).arg = BitVec.ofNat 64 (c.u 32 8) ∧ (u.item i).stack = stack ∧
      (∀ j, j < 4096 → j ≠ i → u.itemState j = s.itemState j ∧ u.item j = s.item j) ∧ s.keeps u (inBlock 12) [.wc]) ∧
  (∀ (c : Cmd) (s : State), let i := c.u 16 2
    i < 4096 → s.may c 0x0C02 .pfWc [] [(16, 2)] (s.itemState i = iIdle ∨ s.itemState i = iFaulted) →
    s.completes (.wiDelete c) (c.as 0x0C02) stOK 0 fun u =>
      u.itemState i = iFree ∧ s.keeps u (among [Reg.WI_STATUS i, Reg.SCH_STATUS]) []) ∧
  (∀ (c : Cmd) (s : State), let i := c.u 16 2; let st := s.itemState i
    i < 4096 → st ≠ iFree → st ≠ iFaulted → (∀ k, k < 16 → s.regionState k ≠ 2) → s.may c 0x0C03 .pfWc [] [(16, 2)] True →
    ∃ (b : Nat) (u : State), exec (.wiReady c) s = .next (u.complete (c.as 0x0C03) stOK b) ∧
      (st = iIdle → b = 0 ∧ u.itemState i = iReady) ∧ (st = iReady → b = 2 ∧ u.itemState i = iReady) ∧
      (st ≠ iIdle → st ≠ iReady → u.itemState i = st ∧ u.flag (Reg.WI_STATUS i) F.WI_STATUS_PENDING = true ∧
        b = (if s.flag (Reg.WI_STATUS i) F.WI_STATUS_PENDING then 2 else 1))) ∧
  (∀ (c : Cmd) (s : State), let w := c.u 16 2
    w < 1024 → c.u 20 2 = 1 → s.may c 0x0C04 .pfWc [] [(16, 2), (20, 2)] True →
    s.completes (.woSignal c) (c.as 0x0C04) stOK 0 fun u =>
      (∀ i, s.firstItem (s.waiters w) = some i → u.itemState i = iSuspended ∧ (u.item i).result = 0 ∧
        u.fld (Reg.WO_STATUS w) F.WO_STATUS_WAITERS = s.fld (Reg.WO_STATUS w) F.WO_STATUS_WAITERS - 1) ∧
      (s.firstItem (s.waiters w) = none → u.fld (Reg.WO_STATUS w) F.WO_STATUS_COUNT =
        satU F.WO_STATUS_COUNT.w (s.fld (Reg.WO_STATUS w) F.WO_STATUS_COUNT + 1) ∧ u.wc = s.wc) ∧
      s.keeps u (inBlock 12) [.wc])

/-- R664–R668: the states of work cores. Draining, resuming, reloading, faults and time-outs move a core as the rules say. -/
def Obligations.WorkCoresChangeState : Prop :=
  (∀ (c : Cmd) (s : State), let k := c.b 16
    k < 16 → 1 ≤ c.u 20 4 → c.u 20 4 ≤ 60000 → s.coreState k = kOnline → s.may c 0x0C05 .pf [] [(16, 1), (20, 4)] True →
    s.answers (.wcDrain c) fun t =>
      t.coreState k = kDraining ∧ (t.core k).drainWhy = 1 ∧ (t.core k).drainCmd = some (c.as 0x0C05) ∧
      (∀ j, j < 16 → j ≠ k → t.coreState j = s.coreState j ∧ t.core j = s.core j) ∧ s.keeps t (among [Reg.WC_STATE k]) [.wc]) ∧
  (∀ (c : Cmd) (s : State), let k := c.b 16
    k < 16 → c.b 17 < 2 → s.coreState k ∈ [kDraining, kOffline, kFaulted] → s.may c 0x0C06 .pf [] [(16, 1), (17, 1)] True →
    s.completes (.wcResume c) (c.as 0x0C06) stOK 0 fun u =>
      u.coreState k = (if s.coreState k = kDraining ∨ s.coreState k = kOffline ∧ c.b 17 = 0 then kOnline else kInit) ∧
      (s.coreState k = kFaulted → (u.core k).rv.pc = 0 ∧ (u.core k).rv.machine = true ∧ (u.core k).rv.rx 11 = 0)) ∧
  (∀ (c : Cmd) (s : State), let k := c.b 16; let a := c.u 24 8; let n := c.u 32 4; let save := c.u 40 8
    k < 16 → isSram a = true → n % 8 = 0 → n ≤ 0x20000 → a + n ≤ sramSize → save % 4096 = 0 → save + 0x20000 ≤ secureBase →
    s.sramReady a n = true → s.sramReady save 0x20000 = true → s.poisoned a n = none → s.coreState k = kOnline →
    s.may c 0x0C07 .pf [(a, n), (save, 0x20000)] [(16, 1), (20, 4), (24, 8), (32, 4), (36, 4), (40, 8)]
      ((s.core k).reload = none ∧ (s.core k).drainWhy ≠ 2 ∧ s.mode ≠ mBoot) →
    s.answers (.wcReload c) fun t =>
      t.coreState k = kDraining ∧ (t.core k).drainWhy = 2 ∧ (t.core k).drainCmd = some (c.as 0x0C07) ∧
      s.keeps t (among [Reg.WC_STATE k]) [.wc]) ∧
  (∀ (c : Cmd) (s : State), let k := c.b 16; let a := c.u 24 8; let n := c.u 32 4; let save := c.u 40 8
    k < 16 → isSram a = true → n % 8 = 0 → n ≤ 0x20000 → a + n ≤ sramSize → save % 4096 = 0 → save + 0x20000 ≤ secureBase →
    a + n ≤ save ∨ save + 0x20000 ≤ a → s.sramReady a n = true → s.sramReady save 0x20000 = true → s.poisoned a n = none →
    crc32c (s.sramRead a n) = c.u 36 4 → s.coreState k = kOffline →
    s.may c 0x0C07 .pf [(a, n), (save, 0x20000)] [(16, 1), (20, 4), (24, 8), (32, 4), (36, 4), (40, 8)]
      ((s.core k).reload = none ∧ (s.core k).drainWhy ≠ 2 ∧ s.mode ≠ mBoot) →
    s.answers (.wcReload c) fun t =>
      t.coreState k = kInit ∧ (t.core k).reload = some ⟨c.as 0x0C07, kOffline⟩ ∧ (t.core k).rv.pc = 0 ∧ (t.core k).rv.rx 11 = 1 ∧
      memRead (t.core k).iram 0 n = s.sramRead a n ∧ t.sramRead save 0x20000 = memRead (s.core k).iram 0 0x20000) ∧
  (∀ (k : Nat) (d : Cmd) (s : State), k < 16 → s.coreState k = kDraining → s.drained k = true → (s.core k).drainWhy = 1 →
    (s.core k).drainCmd = some d →
    s.completes (.drainComplete k) d stOK 0 fun u =>
      u.coreState k = kOffline ∧ (u.core k).drainCmd = none ∧ s.keeps u (among [Reg.WC_STATE k]) [.wc]) ∧
  (∀ (k : Nat) (d : Cmd) (s : State), k < 16 → s.coreState k = kDraining → (s.core k).drainWhy ≠ 3 → (s.core k).drainCmd = some d →
    s.completes (.drainTimeout k) d stTimeout 0 fun u =>
      u.coreState k = kOnline ∧ (u.core k).drainCmd = none ∧ s.keeps u (among [Reg.WC_STATE k]) [.wc]) ∧
  (∀ (k cause : Nat) (i : Instr) (s : State),
    (i = .wcCoreFault k cause ∧ s.coreState k ∈ [kInit, kOnline, kDraining, kReloading]) ∨
      (i = .schFaultStore k ∧ cause = 3 ∧ s.coreState k ∈ [kInit, kOnline, kDraining, kReloading]) ∨
      (i = .initTimeout k ∧ cause = 4 ∧ s.coreState k = kInit) →
    k < 16 → (s.core k).reload = none → (s.core k).drainCmd = none → (∀ j, j ∈ s.itemsOn k → (s.item j).waitOn < 1024) →
    s.answers i fun t =>
      t.coreState k = kFaulted ∧ t.fld (Reg.WC_FAULT k) F.WC_FAULT_CAUSE = cause % 2 ^ F.WC_FAULT_CAUSE.w ∧
      (∀ j, j ∈ s.itemsOn k → t.itemState j = iFaulted) ∧ (t.core k).frames = [] ∧ t.coreBusy k = false ∧
      s.keeps t (inBlock 12) [.wc]) ∧
  (∀ (k : Nat) (s : State), k < 16 → s.coreState k = kInit → (s.core k).reload = none →
    s.answers (.schOnlineStore k) fun t => t.coreState k = kOnline ∧ t.wc = s.wc ∧ s.keeps t (among [Reg.WC_STATE k]) []) ∧
  (∀ (k : Nat) (r : ReloadSt) (s : State), k < 16 → s.coreState k = kInit → (s.core k).reload = some r →
    s.completes (.schOnlineStore k) r.cmd stOK 0 fun u => u.coreState k = kOnline ∧ (u.core k).reload = none)

/-- R650–R663, R669: the scheduler. A dispatched item runs on a free core, from its entry or from its frame; the scheduler area's stores end, suspend or
block the item that runs, ready items and signal objects; a deadline and a long run take effect. -/
def Obligations.SchedulerMovesItems : Prop :=
  (∀ (i c : Nat) (s : State), (∀ k, k < 16 → (s.core k).notice = [] ∧ s.regionState k ≠ 2) →
    s.firstItem (s.waitingItems.filter fun j => (s.freeCoreFor j).isSome) = some i → s.freeCoreFor i = some c → c < 16 →
    s.answers .wiDispatch fun t =>
      t.itemState i = iRunning ∧ t.coreBusy c = true ∧ t.coreItem c = i ∧ t.fld (Reg.WI_STATUS i) F.WI_STATUS_LAST = c ∧
      (s.itemState i = iReady → (t.core c).rv.pc = BitVec.ofNat 64 (s.item i).entry ∧ (t.core c).rv.rx 10 = BitVec.ofNat 64 i ∧
        (t.core c).rv.rx 11 = (s.item i).arg ∧ (t.core c).rv.rx 2 = BitVec.ofNat 64 (s.item i).stack ∧
        (t.core c).rv.machine = !s.flag (Reg.WI_STATUS i) F.WI_STATUS_USER) ∧
      (s.itemState i = iSuspended → let d := s.dram c (frameAt (s.item i).frame) 288
        (t.core c).rv.pc = BitVec.ofNat 64 (leAt d 256 8) ∧ (∀ k, 1 ≤ k → k < 32 → (t.core c).rv.rx k = BitVec.ofNat 64 (leAt d (8 * k) 8)) ∧
        (t.core c).result = (s.item i).result ∧ (t.core c).frames = (s.core c).frames.filter fun p => p.2 != i)) ∧
  (∀ (c : Nat) (s : State), let i := s.coreItem c
    c < 16 → s.coreBusy c = true →
    s.answers (.schDoneStore c) fun t =>
      t.coreBusy c = false ∧
      t.itemState i = (if s.flag (Reg.WI_STATUS i) F.WI_STATUS_PENDING then iReady
        else if s.flag (Reg.WI_STATUS i) F.WI_STATUS_ONESHOT then iFree else iIdle) ∧
      t.flag (Reg.WI_STATUS i) F.WI_STATUS_PENDING = false) ∧
  (∀ (c n : Nat) (s : State), let i := s.coreItem c
    c < 16 → s.coreBusy c = true → s.freeFrame c = some n →
    s.answers (.schYieldStore c) fun t =>
      t.coreBusy c = false ∧ t.itemState i = iSuspended ∧ (t.item i).frame = n ∧ (t.core c).frames = (n, i) :: (s.core c).frames ∧
      t.dram c (frameAt n) 288 = contextBytes (s.core c).rv i (s.core c).result ∧ s.keeps t (inBlock 12) [.wc]) ∧
  (∀ (c v : Nat) (s : State), let i := v % 4096
    (s.itemState i = iIdle → s.answers (.schReadyStore c v) fun t => t.itemState i = iReady) ∧
    (s.itemState i = iFree ∨ s.itemState i = iFaulted → (∀ k, k < 16 → s.regionState k ≠ 2) →
      s.answers (.schReadyStore c v) fun t => t = s.postB 0x0C13 [(17, 1, 1), (18, 2, i), (20, 1, 0)])) ∧
  (∀ (c v : Nat) (s : State), let w := v % 1024
    c < 16 → s.coreBusy c = true → 0 < s.fld (Reg.WO_STATUS w) F.WO_STATUS_COUNT →
    s.answers (.schWaitStore c v) fun t =>
      t.fld (Reg.WO_STATUS w) F.WO_STATUS_COUNT = s.fld (Reg.WO_STATUS w) F.WO_STATUS_COUNT - 1 ∧ (t.core c).result = 0 ∧
      t.coreBusy c = true ∧ s.keeps t (fun o => o == Reg.WO_STATUS w) [.wc]) ∧
  (∀ (c v n : Nat) (s : State), let w := v % 1024; let i := s.coreItem c
    c < 16 → s.coreBusy c = true → s.fld (Reg.WO_STATUS w) F.WO_STATUS_COUNT = 0 →
    (s.core c).waitTmo = 0 ∨ timePast (s.core c).waitTmo s.cell = false → s.freeFrame c = some n →
    s.answers (.schWaitStore c v) fun t =>
      t.coreBusy c = false ∧ t.itemState i = iWaiting ∧ (t.item i).waitOn = w ∧ (t.item i).deadline = (s.core c).waitTmo ∧
      (t.core c).waitTmo = 0 ∧ t.dram c (frameAt n) 288 = contextBytes (s.core c).rv i (s.core c).result ∧ s.keeps t (inBlock 12) [.wc]) ∧
  (∀ (c v : Nat) (s : State), let w := v % 1024
    s.answers (.schSignalStore c v) fun t =>
      (∀ i, s.firstItem (s.waiters w) = some i → t.itemState i = iSuspended ∧ (t.item i).result = 0) ∧
      (s.firstItem (s.waiters w) = none → t = s.addSat (Reg.WO_STATUS w) F.WO_STATUS_COUNT 1)) ∧
  (∀ (c k go : Nat) (s : State), let d := memRead (s.core c).slotMem (k * 0x80) 64
    c < 16 → k < 4 → (s.slot c k).state ≠ 1 →
    s.answers (.slotGo c k go) fun t =>
      t = (s.setSlot c k ⟨1, if bit go 15 then some (go % 1024) else none⟩).takeCmds [cmdOf (.wc c) (.slot k) 0 d] ∧
      (opDefined (leAt d 0 2) = false → (t.slot c k).state = 2)) ∧
  (∀ (c k go : Nat) (s : State), c < 16 → k < 4 → (s.slot c k).state = 1 →
    s.answers (.slotGo c k go) fun t => t = s.storeRefused c (0x1050 + k * 0x80)) ∧
  (∀ (i : Nat) (s : State), let d := (s.item i).deadline
    i < 4096 → s.itemState i = iWaiting → d ≠ 0 → timePast (waitTick d) s.cell = true → (s.item i).waitOn < 1024 →
    s.answers (.waitDeadline i) fun t =>
      t.itemState i = iSuspended ∧ (t.item i).result = 1 ∧ s.keeps t (inBlock 12) [.wc]) ∧
  (∀ (c : Nat) (s : State), let i := s.coreItem c; let lim := s.fld Reg.SCH_CTRL F.SCH_CTRL_RUN_WARN
    s.coreBusy c = true → lim ≠ 0 → lim < (s.u - (s.item i).runFrom.toNat) / 16000 → (s.item i).warned = false →
    s.answers (.runWarnExpire c) fun t => t.item i = { s.item i with warned := true } ∧ s.keeps t (among []) [.wc])

/-! ### Block 0x0E: twin operation -/

/-- R703–R707, R720–R724, R730: beats, the paths they use, and a partner that is gone. A BEAT shows the partner's role and mode, the lane's delay and the
time error; a unit that learns that its partner is SOLO, or ACTIVE beside it while it has not HOME, becomes SOLO; a window without a beat of a path
counts it missed; FAIL_N of both: a STANDBY with SYNCED becomes ACTIVE, any other unit SOLO. -/
def Obligations.TwinPathsAreWatched : Prop :=
  (∀ (a : W64) (ns : Nat) (s : State),
    s.answers (.hbPulseReceive a ns) fun t =>
      (s.twinOn = true → (∃ w, w ∈ [200, 400, 600, 800] ∧ w ≤ ns + 50 ∧ ns ≤ w + 50) →
        t = s.modTwin fun z => { z with heard := z.heard ||| (2 * s.beatWindow a) }) ∧
      ((s.twinOn = false ∨ ∀ w, w ∈ [200, 400, 600, 800] → ¬ (w ≤ ns + 50 ∧ ns ≤ w + 50)) → t = s)) ∧
  (∀ (a : W64) (f : RawFrame) (back : Int) (s : State), let st := oct f.payload 8; let d := timeDiff a (BitVec.ofNat 64 (leAt f.payload 0 8))
    s.twinOn = true → f.valid = true → f.kind = 1 →
    (s.role = 0 ∨ (s.role = 1 ∧ st % 4 ≠ 0 ∧ (st % 4 = 1 → s.twinHome = true)) →
      s.answers (.beatReceive a f back) fun t =>
        t.fld Reg.TWIN_STATUS F.TWIN_STATUS_PARTNER_ROLE = st % 4 ∧ t.fld Reg.TWIN_STATUS F.TWIN_STATUS_PARTNER_MODE = st / 4 % 8 ∧
        t.fld Reg.TWIN_STATUS F.TWIN_STATUS_PARTNER_HOME = st / 64 % 2 ∧
        t.fld Reg.TWIN_DELAY F.TWIN_DELAY_T0 = (clampI 0 65535 ((d + back) / 2)).toNat ∧
        t.reg Reg.TWIN_TERR = BitVec.ofInt 32 (satS 32 ((d - back) / 2)) ∧ t.twin.partner = true ∧ t.twin.side = st / 128 ∧
        t.twin.station = f.src ∧ t.twin.psync = bit st 5 ∧ t.twin.defect = oct f.payload 9 ∧
        s.keeps t (fun o => o == Reg.TWIN_STATUS || o == Reg.TWIN_DELAY || o == Reg.TWIN_TERR) [.twin]) ∧
    (s.role = 1 → st % 4 = 0 ∨ (st % 4 = 1 ∧ s.twinHome = false) → s.answers (.beatReceive a f back) fun t => t.role = 0) ∧
    (s.role = 2 → s.twin.joinCmd = none →
      s.answers (.beatReceive a f back) fun t =>
        t.reg Reg.TWIN_TERR = BitVec.ofInt 32 (satS 32 ((d - back) / 2)) ∧ (t.view 0).slew = -((d - back) / 2) * 2 ^ 24 ∧
        (t.view 0).ofs = (s.view 0).ofs ∧
        t.twin.thetaRun = (if 64 < ((d - back) / 2).natAbs then s.twin.thetaRun + 1 else 0) ∧ t.twin.partner = true)) ∧
  (∀ (s : State), let n := s.failN; let n0 := satU 8 (s.fld Reg.TWIN_MISS F.TWIN_MISS_T0_RUN + 1)
    let nP := satU 8 (s.fld Reg.TWIN_MISS F.TWIN_MISS_PAIR_RUN + 1)
    s.twinOn = true → s.armed 0 = true → s.twin.closed = false → timePast (s.link.tk + 16000) s.cell = true → s.twin.pending = false →
    (bit s.twin.heard 0 = true → bit s.twin.heard 1 = true →
      s.answers .beatWindowClose fun t =>
        t.twin.closed = true ∧ t.fld Reg.TWIN_MISS F.TWIN_MISS_T0_RUN = 0 ∧ t.fld Reg.TWIN_MISS F.TWIN_MISS_PAIR_RUN = 0 ∧
        t.twin.runT0 = s.twin.runT0 + 1 ∧ t.twin.runPair = s.twin.runPair + 1 ∧
        (bit s.twin.lost 0 = false → t.flag Reg.TWIN_STATUS F.TWIN_STATUS_T0_OK = true) ∧
        s.keeps t (among [Reg.TWIN_MISS, Reg.TWIN_STATUS]) [.twin]) ∧
    (bit s.twin.heard 0 = false → bit s.twin.heard 1 = true → 0 < n → n ≤ n0 → bit s.twin.lost 0 = false →
      s.answers .beatWindowClose fun t =>
        t.twin.closed = true ∧ t.fld Reg.TWIN_MISS F.TWIN_MISS_T0_RUN = n0 ∧ bit t.twin.lost 0 = true ∧
        t.flag Reg.TWIN_STATUS F.TWIN_STATUS_T0_OK = false ∧ bit t.defects dfTwin = true ∧ t.role = s.role) ∧
    (bit s.twin.heard 0 = false → bit s.twin.heard 1 = false → n ≤ n0 → n ≤ nP →
      ¬ (n ≤ s.fld Reg.TWIN_MISS F.TWIN_MISS_T0_RUN ∧ n ≤ s.fld Reg.TWIN_MISS F.TWIN_MISS_PAIR_RUN) → 1 ≤ s.role →
      s.answers .beatWindowClose fun t =>
        t.role = (if s.role = 2 ∧ s.synced = true then 1 else 0) ∧
        (s.role = 2 → s.synced = true → t.synced = false ∧ t.twin.out = 3 ∧ t.modeOver = true ∧
          t.fld Reg.TWIN_SWITCH F.TWIN_SWITCH_ECLIPSE = satU 8 (s.cycleCount - s.twin.held.getD 0 - 1)))) ∧
  (∀ (z : Nat) (t0 : W64) (s : State), z < 16 → tabGet (fun _ => none) s.twin.differ z = some t0 → bit s.twin.noted z = false →
    timePast (t0 + 1600000000) s.cell = true →
    s.answers (.zoneMismatchExpire z) fun t =>
      t.twin = { s.twin with noted := setBit s.twin.noted z true } ∧
      t.log = (s.postB 0x0E16 [(16, 1, z), (17, 1, s.fld (Reg.SF_ZONE z) F.SF_ZONE_STATE), (18, 1, s.twin.zones / 4 ^ z % 4)]).log ∧
      s.keeps t (among []) [.twin]) ∧
  (∀ s : State, s.role = 2 → s.failN ≤ s.twin.without →
    s.answers .snapshotLoss fun t => t = { s with sf := { s.sf with forced := true } }) ∧
  (∀ (lane delay : Nat) (s : State), lane < 2 →
    (s.answers (.twinLaneLockChange lane true delay) fun t =>
      t.flag Reg.TWIN_STATUS (if lane = 0 then F.TWIN_STATUS_T0_UP else F.TWIN_STATUS_T1_UP) = true ∧
      t.fld Reg.TWIN_DELAY (if lane = 0 then F.TWIN_DELAY_T0 else F.TWIN_DELAY_T1) = satU 16 delay ∧
      s.keeps t (fun o => o == Reg.TWIN_STATUS || o == Reg.TWIN_DELAY) []) ∧
    (s.answers (.twinLaneLockChange lane false delay) fun t =>
      t.flag Reg.TWIN_STATUS (if lane = 0 then F.TWIN_STATUS_T0_UP else F.TWIN_STATUS_T1_UP) = false ∧
      t.synced = (s.synced && lane == 0) ∧ s.keeps t (among [Reg.TWIN_STATUS]) []))

/-- R709–R717, R122: the frames of the pair. A TX frame in time is held for its START; FB frames carry 14 records; a frame that the standby's star received is
taken as if the unit's own star had; a complete cycle part, a tick part and journal entries are taken and acknowledged; an invalid frame is foul
0x0E17. -/
def Obligations.TwinFramesAreTaken : Prop :=
  (∀ (i : Instr) (k lane : Nat) (f : RawFrame) (back : Int) (a : W64) (p : TickPart) (es : List JEntry) (n : Nat) (m : TwinMsg) (s : State),
    s.twinOn = true →
    (i = .beatReceive a f back ∧ f.valid = false ∧ k = f.kind ∧ lane = 0) ∨
    (2 ≤ s.role ∧ ((i = .txFrameReceive f ∧ f.valid = false ∧ k = f.kind ∧ lane = 0) ∨ (i = .cycFrameReceive lane f ∧ f.valid = false ∧ k = f.kind) ∨
      (i = .tickFrameReceive lane false p ∧ k = 7) ∨ (i = .jrnlFrameReceive lane false es ∧ k = 8))) ∨
    (s.role = 1 ∧ ((i = .fbFrameReceive lane f ∧ f.valid = false ∧ k = f.kind) ∨ (i = .rxFrameReceive lane false f ∧ k = 4) ∨
      (i = .portFrameReceive false [] [] [] ∧ k = 5 ∧ lane = 0) ∨ (i = .ackFrameReceive false n ∧ k = 9 ∧ lane = 0))) ∨
    (i = .controlFrameReceive false m ∧ k = 10 ∧ lane = 0) →
    s.answers i fun t => t = s.post 0x0E17 (srcTwin lane) (det [(16, 1, k), (17, 1, lane)])) ∧
  (∀ (f : RawFrame) (e : Nat) (x : Ent) (s : State), let b := oct f.header 1 / 64 % 2
    s.twinOn = true → 2 ≤ s.role → f.valid = true → f.kind = 2 → keyOf f = s.cycleKey →
    ((s.ents b).find? fun e => e.2.slot == f.slot && e.2.fromDevice) = some (e, x) →
    let inTime := timePast s.cell (s.link.tk + BitVec.ofNat 64 ((x.start - 2) * s.bankUs b * 16000 / blocksOf (s.bankUs b)))
    s.answers (.txFrameReceive f) fun t =>
      (inTime = true → t = s.modTwin fun z => { z with tx := z.tx ++ [⟨s.cycleKey, b, f.slot, oct f.header 5, f.aux, f.payload⟩] }) ∧
      (inTime = false → t.fld Reg.TWIN_FWD F.TWIN_FWD_TX_LATE = satU 8 (s.fld Reg.TWIN_FWD F.TWIN_FWD_TX_LATE + 1) ∧
        (x.kind ≠ kMgmt → t.twin = s.twin) ∧ s.keeps t (fun o => o == Reg.TWIN_FWD) [.twin])) ∧
  (∀ (lane : Nat) (s : State), s.twinOn = true → 2 ≤ s.role → lane < 2 →
    s.flag Reg.TWIN_STATUS (if lane = 0 then F.TWIN_STATUS_T0_UP else F.TWIN_STATUS_T1_UP) = true →
    s.answers (.fbFrameSend lane) fun t =>
      t.twin = (if s.twin.fb = [] then { s.twin with rx := s.twin.rx.drop 1 } else { s.twin with fb := s.twin.fb.drop 14 }) ∧
      (∀ x r, s.twin.fb = [] → s.twin.rx = x :: r → t.egress = .twinForward x.2.2 :: s.egress) ∧
      t.egress.length = s.egress.length + (if s.twin.fb = [] ∧ s.twin.rx = [] then 0 else 1) ∧ s.keeps t (fun _ => false) [.twin]) ∧
  (∀ (lane : Nat) (f : RawFrame) (s : State), s.twinOn = true → s.role = 1 → f.valid = true → f.kind = 3 → s.link.cut = false →
    keyOf f = s.cycleKey →
    s.answers (.fbFrameReceive lane f) fun t =>
      (∀ i, i < 14 → let w := leAt f.payload (2 * i) 2
        w ≠ 0xFFFF →
        (w % 512, w / 512 % 32, slice f.payload (32 + 16 * i) 16) ∈ t.twin.fwd ∧
        ∀ e x, ((s.ents s.bankUsed).find? fun e => e.2.slot == w % 512 && e.2.fromNode && e.2.active s.link.cycle) = some (e, x) →
          (e, s.farCh) ∈ t.link.got ∧ (t.ln s.farCh x.owner).heard = true) ∧
      s.keeps t (fun _ => false) [.twin, .link]) ∧
  (∀ (lane : Nat) (f : RawFrame) (e : Nat) (x : Ent) (i : Instr) (s : State), let c := s.farCh; let p := s.nodePort s.bankUsed f.src
    s.twinOn = true → s.role = 1 → f.valid = true →
    ((s.ents s.bankUsed).find? fun e => e.2.slot == f.slot && !e.2.fromDevice && e.2.onCh c) = some (e, x) →
    (f.kind = 4 ∧ i = .dataReceive c p f) ∨ (f.kind = 5 ∧ i = .arbReceive c p f) ∨ (f.kind = 6 ∧ i = .streamFrameReceive c p f) ∨
      (f.kind = 7 ∧ i = .mgmtReceive c p f) ∨ (f.kind = 8 ∧ i = .joinReqReceive c p f) →
    s.answers (.rxFrameReceive lane true f) fun t =>
      exec i (s.modLp c p fun z => { z with cur := some ⟨e, 0, false, true, false⟩ }) = .next t) ∧
  (∀ (x : PortRep) (s : State), s.twinOn = true → s.role = 1 → x.port < s.nPorts →
    s.answers (.portFrameReceive true [x] [] []) fun t =>
      t.reg (Reg.PORT_VIOL s.farCh x.port) = x.viol ∧
      (fldOf x.status F.PORT_STATUS_STATE = pClosed → t.portState s.farCh x.port = pClosed) ∧
      (fldOf x.status F.PORT_STATUS_STATE = pContained → t.portState s.farCh x.port = pContained)) ∧
  (∀ (lane : Nat) (f : RawFrame) (s : State), let k := leAt f.payload 0 8
    s.twinOn = true → 2 ≤ s.role → f.valid = true → f.kind = 6 → f.aux = 1 → f.slot = 0 → s.twin.frags = [] → s.twin.joinCmd = none →
    s.answers (.cycFrameReceive lane f) fun t =>
      t.twin.held = some k ∧ t.twin.without = 0 ∧ t.twin.parts = (if s.twin.held = some (k - 1) then s.twin.parts + 1 else 1) ∧
      t.reg64 Reg.TWIN_SNAP = BitVec.ofNat 64 k ∧ t.sf.forced = false) ∧
  (∀ (lane : Nat) (f : RawFrame) (s : State), s.twinOn = true → 2 ≤ s.role → f.valid = true → f.kind = 6 → f.slot = 0 → 1 < f.aux →
    s.twin.frags = [] →
    s.answers (.cycFrameReceive lane f) fun t => t = s.modTwin fun z => { z with frags := [(keyOf f, 0, f.aux, f.payload)] }) ∧
  (∀ (lane : Nat) (p : TickPart) (s : State), s.twinOn = true → 2 ≤ s.role →
    s.answers (.tickFrameReceive lane true p) fun t =>
      t.pl.tick = p.tick ∧ t.sep.runs = p.holds ∧ t.twin = s.twin ∧
      ∀ g z, p.grps = [(g, z)] → (t.pg g).plan = z.plan ∧ (t.pg g).q = (s.pg g).q ∧ (t.pg g).u = (s.pg g).u) ∧
  (∀ (lane o g : Nat) (v : Word) (md : Option PlModel) (s : State), s.twinOn = true → 2 ≤ s.role → s.twin.joinCmd = none →
    mirrored (blockOf o) = true → ownReg o = false →
    s.answers (.jrnlFrameReceive lane true [.reg o v, .model g md]) fun t =>
      t.reg o = v ∧ (t.pg g).model = md ∧ Emit.twinAck 2 ∈ t.egress ∧ s.keeps t (among [o, Reg.TWIN_STATUS]) [.pl]) ∧
  (∀ (n : Nat) (s : State), s.twinOn = true → s.role = 1 →
    s.answers (.ackFrameReceive true n) fun t =>
      t.twin = { s.twin with journal := s.twin.journal.drop n } ∧
      t.fld Reg.TWIN_JOURNAL F.TWIN_JOURNAL_ENTRIES = satU 16 (s.twin.journal.length - n) ∧
      s.keeps t (fun o => o == Reg.TWIN_JOURNAL) [])

/-- R707, R725–R727: how units join and hand over. TWIN_JOIN asks the partner, or is refused at once by the first check that fails; the active that admits
the request becomes ACTIVE and opens the ports; the unit accepted is REJOINING, follows the cell's time and link; a refusal ends the command with
status 0x40; a handover is pending on both sides until the orbit boundary, or withheld. -/
def Obligations.UnitsJoinAndHandOver : Prop :=
  (∀ (c : Cmd) (s : State),
    s.may c 0x0E01 .pf [] [] (s.mode = mConfig ∧ s.role = 0 ∧ s.twinOn = true ∧ s.twin.joinCmd = none ∧ s.linkState = lStopped ∧
      s.armedEntries = []) →
    ((s.wakeDom (domainOf 14)).joinCheck = 0 → s.answers (.twinJoin c) fun t =>
      t.twin.joinCmd = some (c.as 0x0E01) ∧
      Emit.twinControl (.joinRequest s.mem.fuse.part s.mem.fuse.step s.station (s.twinSide == 1) s.twinHome) ∈ t.egress ∧
      s.keeps t (among []) [.twin]) ∧
    (∀ n, (s.wakeDom (domainOf 14)).joinCheck = n → n ≠ 0 → s.completes (.twinJoin c) (c.as 0x0E01) 0x40 n fun u =>
      u.twin.joinCmd = s.twin.joinCmd ∧ s.keeps u (among []) [])) ∧
  (∀ (c : Cmd) (s : State),
    s.may c 0x0E02 .pf [] [] (s.twin.pending = false ∧ s.mode = mOperate ∧ s.role = 1 ∧
      s.fld Reg.TWIN_STATUS F.TWIN_STATUS_PARTNER_ROLE = 2 ∧ s.twin.psync = true) →
    s.answers (.twinHandover c) fun t =>
      t.twin.pending = true ∧ t.twin.auto = false ∧ t.twin.handCmd = some (c.as 0x0E02) ∧
      t.flag Reg.TWIN_STATUS F.TWIN_STATUS_HANDOVER_PENDING = true ∧ Emit.twinControl (.handover false) ∈ t.egress ∧
      s.keeps t (among [Reg.TWIN_STATUS]) [.twin]) ∧
  (∀ (part step station : Nat) (side home : Bool) (s : State), s.twinOn = true → s.role ≤ 1 →
    (s.admitCheck part step station side home = 0 →
      s.answers (.controlFrameReceive true (.joinRequest part step station side home)) fun t =>
        t.role = 1 ∧ t.twin.station = station ∧ t.twin.partner = true ∧
        ∀ p, p < s.nPorts → s.portOpen s.twinSide p = true → t.portOpen s.farCh p = true) ∧
    (∀ n, s.admitCheck part step station side home = n → n ≠ 0 →
      s.answers (.controlFrameReceive true (.joinRequest part step station side home)) fun t =>
        t = (s.postB 0x0E14 [(16, 1, n)]).emit (.twinControl (.joinRefuse n)))) ∧
  (∀ (station orbit cycle bank ports : Nat) (ofs rate : Int) (e0 e1 : W64 × W64) (s : State),
    s.twinOn = true → s.role = 0 → s.twin.joinCmd ≠ none →
    s.answers (.controlFrameReceive true (.joinAccept station ofs rate e0 e1 orbit cycle bank ports)) fun t =>
      t.role = 3 ∧ t.twin.station = station ∧ t.twin.joinCmd = s.twin.joinCmd ∧ (t.view 0).ofs = ofs ∧ (t.view 0).rate = rate ∧
      (t.view 0).slew = 0 ∧ t.actTime 0 = e0.1 ∧ t.armed 0 = true ∧ t.actTime 1 = e1.1 ∧ t.armed 1 = true ∧ t.linkState = lFollowing ∧
      t.reg Reg.LINK_ORBIT = BitVec.ofNat 32 orbit ∧ t.link.cycle = cycle ∧ (bank < 2 → t.bankUsed = bank) ∧
      ∀ p, p < s.nPorts → bit ports p = true → t.portOpen s.twinSide p = true) ∧
  (∀ (c : Cmd) (n : Nat) (s : State), s.twinOn = true → s.twin.joinCmd = some c →
    s.completes (.controlFrameReceive true (.joinRefuse n)) c 0x40 n fun u => u.twin.joinCmd = none ∧ s.keeps u (among []) [.twin]) ∧
  (∀ (auto : Bool) (s : State), s.twinOn = true → s.role = 1 ∨ s.role = 2 → s.twin.pending = false →
    s.answers (.controlFrameReceive true (.handover auto)) fun t =>
      t.twin = { s.twin with pending := true, auto := auto } ∧ t.flag Reg.TWIN_STATUS F.TWIN_STATUS_HANDOVER_PENDING = true ∧
      s.keeps t (among [Reg.TWIN_STATUS]) [.twin]) ∧
  (∀ (c : Cmd) (n : Nat) (s : State), s.twinOn = true → s.twin.pending = true → s.twin.handCmd = some c →
    s.completes (.controlFrameReceive true (.handoverOff n)) c stAborted n fun u =>
      u.twin.pending = false ∧ u.twin.handCmd = none ∧ u.flag Reg.TWIN_STATUS F.TWIN_STATUS_HANDOVER_PENDING = false ∧
      s.keeps u (among [Reg.TWIN_STATUS]) [.twin]) ∧
  (∀ (t0 : W64) (s : State), s.twin.since = some t0 → s.role = 2 →
    timePast (t0 + BitVec.ofNat 64 (s.fld Reg.TWIN_TIMING F.TWIN_TIMING_HOLDOFF * 16000000)) s.cell = true →
    s.answers .revertHoldoffExpire fun t =>
      t.twin = { s.twin with pending := true, auto := true, since := none } ∧
      t.flag Reg.TWIN_STATUS F.TWIN_STATUS_HANDOVER_PENDING = true ∧ t.flag Reg.TWIN_STATUS F.TWIN_STATUS_REVERT_PENDING = false ∧
      t.egress = .twinControl (.handover true) :: s.egress ∧ s.keeps t (among [Reg.TWIN_STATUS]) [.twin])
end

