-- ==== Sys2Proof/Laws/State.lean ====
section
/-!
SUPPORT. Each basic update of the state read through each part of it, so that no later proof unfolds an update.
-/
namespace Sys2Proof.Machine

variable (s : State)

@[simp] theorem State.setReg_log (o : Nat) (v : Word) : (s.setReg o v).log = s.log := rfl
@[simp] theorem State.setReg_host (o : Nat) (v : Word) : (s.setReg o v).host = s.host := rfl
@[simp] theorem State.setReg_time (o : Nat) (v : Word) : (s.setReg o v).time = s.time := rfl
@[simp] theorem State.setReg_wc (o : Nat) (v : Word) : (s.setReg o v).wc = s.wc := rfl
@[simp] theorem State.setReg_mem (o : Nat) (v : Word) : (s.setReg o v).mem = s.mem := rfl
@[simp] theorem State.setReg_sc (o : Nat) (v : Word) : (s.setReg o v).sc = s.sc := rfl
@[simp] theorem State.setReg_la (o : Nat) (v : Word) : (s.setReg o v).la = s.la := rfl
@[simp] theorem State.setReg_laPulse (o : Nat) (v : Word) : (s.setReg o v).laPulse = s.laPulse := rfl
@[simp] theorem State.setReg_acq (o : Nat) (v : Word) : (s.setReg o v).acq = s.acq := rfl
@[simp] theorem State.setReg_link (o : Nat) (v : Word) : (s.setReg o v).link = s.link := rfl
@[simp] theorem State.setReg_srv (o : Nat) (v : Word) : (s.setReg o v).srv = s.srv := rfl
@[simp] theorem State.setReg_pl (o : Nat) (v : Word) : (s.setReg o v).pl = s.pl := rfl
@[simp] theorem State.setReg_opt (o : Nat) (v : Word) : (s.setReg o v).opt = s.opt := rfl
@[simp] theorem State.setReg_sep (o : Nat) (v : Word) : (s.setReg o v).sep = s.sep := rfl
@[simp] theorem State.setReg_sf (o : Nat) (v : Word) : (s.setReg o v).sf = s.sf := rfl
@[simp] theorem State.setReg_twin (o : Nat) (v : Word) : (s.setReg o v).twin = s.twin := rfl
@[simp] theorem State.setReg_clk (o : Nat) (v : Word) : (s.setReg o v).clk = s.clk := rfl
@[simp] theorem State.setReg_modeCmd (o : Nat) (v : Word) : (s.setReg o v).modeCmd = s.modeCmd := rfl
@[simp] theorem State.setReg_modeOver (o : Nat) (v : Word) : (s.setReg o v).modeOver = s.modeOver := rfl
@[simp] theorem State.setReg_egress (o : Nat) (v : Word) : (s.setReg o v).egress = s.egress := rfl
@[simp] theorem State.setReg_free (o : Nat) (v : Word) : (s.setReg o v).free = s.free := rfl
@[simp] theorem State.setReg_pending (o : Nat) (v : Word) : (s.setReg o v).pending = s.pending := rfl

@[simp] theorem State.put_log (o : Nat) (f : Fld) (x : Nat) : (s.put o f x).log = s.log := rfl
@[simp] theorem State.put_host (o : Nat) (f : Fld) (x : Nat) : (s.put o f x).host = s.host := rfl
@[simp] theorem State.put_time (o : Nat) (f : Fld) (x : Nat) : (s.put o f x).time = s.time := rfl
@[simp] theorem State.put_wc (o : Nat) (f : Fld) (x : Nat) : (s.put o f x).wc = s.wc := rfl
@[simp] theorem State.put_mem (o : Nat) (f : Fld) (x : Nat) : (s.put o f x).mem = s.mem := rfl
@[simp] theorem State.put_sc (o : Nat) (f : Fld) (x : Nat) : (s.put o f x).sc = s.sc := rfl
@[simp] theorem State.put_la (o : Nat) (f : Fld) (x : Nat) : (s.put o f x).la = s.la := rfl
@[simp] theorem State.put_laPulse (o : Nat) (f : Fld) (x : Nat) : (s.put o f x).laPulse = s.laPulse := rfl
@[simp] theorem State.put_acq (o : Nat) (f : Fld) (x : Nat) : (s.put o f x).acq = s.acq := rfl
@[simp] theorem State.put_link (o : Nat) (f : Fld) (x : Nat) : (s.put o f x).link = s.link := rfl
@[simp] theorem State.put_srv (o : Nat) (f : Fld) (x : Nat) : (s.put o f x).srv = s.srv := rfl
@[simp] theorem State.put_pl (o : Nat) (f : Fld) (x : Nat) : (s.put o f x).pl = s.pl := rfl
@[simp] theorem State.put_opt (o : Nat) (f : Fld) (x : Nat) : (s.put o f x).opt = s.opt := rfl
@[simp] theorem State.put_sep (o : Nat) (f : Fld) (x : Nat) : (s.put o f x).sep = s.sep := rfl
@[simp] theorem State.put_sf (o : Nat) (f : Fld) (x : Nat) : (s.put o f x).sf = s.sf := rfl
@[simp] theorem State.put_twin (o : Nat) (f : Fld) (x : Nat) : (s.put o f x).twin = s.twin := rfl
@[simp] theorem State.put_clk (o : Nat) (f : Fld) (x : Nat) : (s.put o f x).clk = s.clk := rfl
@[simp] theorem State.put_modeCmd (o : Nat) (f : Fld) (x : Nat) : (s.put o f x).modeCmd = s.modeCmd := rfl
@[simp] theorem State.put_modeOver (o : Nat) (f : Fld) (x : Nat) : (s.put o f x).modeOver = s.modeOver := rfl
@[simp] theorem State.put_egress (o : Nat) (f : Fld) (x : Nat) : (s.put o f x).egress = s.egress := rfl
@[simp] theorem State.put_free (o : Nat) (f : Fld) (x : Nat) : (s.put o f x).free = s.free := rfl
@[simp] theorem State.put_pending (o : Nat) (f : Fld) (x : Nat) : (s.put o f x).pending = s.pending := rfl

@[simp] theorem State.addSat_log (o : Nat) (f : Fld) (n : Nat) : (s.addSat o f n).log = s.log := rfl
@[simp] theorem State.addSat_host (o : Nat) (f : Fld) (n : Nat) : (s.addSat o f n).host = s.host := rfl
@[simp] theorem State.addSat_time (o : Nat) (f : Fld) (n : Nat) : (s.addSat o f n).time = s.time := rfl
@[simp] theorem State.addSat_wc (o : Nat) (f : Fld) (n : Nat) : (s.addSat o f n).wc = s.wc := rfl
@[simp] theorem State.addSat_mem (o : Nat) (f : Fld) (n : Nat) : (s.addSat o f n).mem = s.mem := rfl
@[simp] theorem State.addSat_sc (o : Nat) (f : Fld) (n : Nat) : (s.addSat o f n).sc = s.sc := rfl
@[simp] theorem State.addSat_la (o : Nat) (f : Fld) (n : Nat) : (s.addSat o f n).la = s.la := rfl
@[simp] theorem State.addSat_laPulse (o : Nat) (f : Fld) (n : Nat) : (s.addSat o f n).laPulse = s.laPulse := rfl
@[simp] theorem State.addSat_acq (o : Nat) (f : Fld) (n : Nat) : (s.addSat o f n).acq = s.acq := rfl
@[simp] theorem State.addSat_link (o : Nat) (f : Fld) (n : Nat) : (s.addSat o f n).link = s.link := rfl
@[simp] theorem State.addSat_srv (o : Nat) (f : Fld) (n : Nat) : (s.addSat o f n).srv = s.srv := rfl
@[simp] theorem State.addSat_pl (o : Nat) (f : Fld) (n : Nat) : (s.addSat o f n).pl = s.pl := rfl
@[simp] theorem State.addSat_opt (o : Nat) (f : Fld) (n : Nat) : (s.addSat o f n).opt = s.opt := rfl
@[simp] theorem State.addSat_sep (o : Nat) (f : Fld) (n : Nat) : (s.addSat o f n).sep = s.sep := rfl
@[simp] theorem State.addSat_sf (o : Nat) (f : Fld) (n : Nat) : (s.addSat o f n).sf = s.sf := rfl
@[simp] theorem State.addSat_twin (o : Nat) (f : Fld) (n : Nat) : (s.addSat o f n).twin = s.twin := rfl
@[simp] theorem State.addSat_clk (o : Nat) (f : Fld) (n : Nat) : (s.addSat o f n).clk = s.clk := rfl
@[simp] theorem State.addSat_modeCmd (o : Nat) (f : Fld) (n : Nat) : (s.addSat o f n).modeCmd = s.modeCmd := rfl
@[simp] theorem State.addSat_modeOver (o : Nat) (f : Fld) (n : Nat) : (s.addSat o f n).modeOver = s.modeOver := rfl
@[simp] theorem State.addSat_egress (o : Nat) (f : Fld) (n : Nat) : (s.addSat o f n).egress = s.egress := rfl
@[simp] theorem State.addSat_free (o : Nat) (f : Fld) (n : Nat) : (s.addSat o f n).free = s.free := rfl
@[simp] theorem State.addSat_pending (o : Nat) (f : Fld) (n : Nat) : (s.addSat o f n).pending = s.pending := rfl

@[simp] theorem State.addWrap_log (o : Nat) (f : Fld) : (s.addWrap o f).log = s.log := rfl
@[simp] theorem State.addWrap_host (o : Nat) (f : Fld) : (s.addWrap o f).host = s.host := rfl
@[simp] theorem State.addWrap_time (o : Nat) (f : Fld) : (s.addWrap o f).time = s.time := rfl
@[simp] theorem State.addWrap_wc (o : Nat) (f : Fld) : (s.addWrap o f).wc = s.wc := rfl
@[simp] theorem State.addWrap_mem (o : Nat) (f : Fld) : (s.addWrap o f).mem = s.mem := rfl
@[simp] theorem State.addWrap_sc (o : Nat) (f : Fld) : (s.addWrap o f).sc = s.sc := rfl
@[simp] theorem State.addWrap_la (o : Nat) (f : Fld) : (s.addWrap o f).la = s.la := rfl
@[simp] theorem State.addWrap_laPulse (o : Nat) (f : Fld) : (s.addWrap o f).laPulse = s.laPulse := rfl
@[simp] theorem State.addWrap_acq (o : Nat) (f : Fld) : (s.addWrap o f).acq = s.acq := rfl
@[simp] theorem State.addWrap_link (o : Nat) (f : Fld) : (s.addWrap o f).link = s.link := rfl
@[simp] theorem State.addWrap_srv (o : Nat) (f : Fld) : (s.addWrap o f).srv = s.srv := rfl
@[simp] theorem State.addWrap_pl (o : Nat) (f : Fld) : (s.addWrap o f).pl = s.pl := rfl
@[simp] theorem State.addWrap_opt (o : Nat) (f : Fld) : (s.addWrap o f).opt = s.opt := rfl
@[simp] theorem State.addWrap_sep (o : Nat) (f : Fld) : (s.addWrap o f).sep = s.sep := rfl
@[simp] theorem State.addWrap_sf (o : Nat) (f : Fld) : (s.addWrap o f).sf = s.sf := rfl
@[simp] theorem State.addWrap_twin (o : Nat) (f : Fld) : (s.addWrap o f).twin = s.twin := rfl
@[simp] theorem State.addWrap_clk (o : Nat) (f : Fld) : (s.addWrap o f).clk = s.clk := rfl
@[simp] theorem State.addWrap_modeCmd (o : Nat) (f : Fld) : (s.addWrap o f).modeCmd = s.modeCmd := rfl
@[simp] theorem State.addWrap_modeOver (o : Nat) (f : Fld) : (s.addWrap o f).modeOver = s.modeOver := rfl
@[simp] theorem State.addWrap_egress (o : Nat) (f : Fld) : (s.addWrap o f).egress = s.egress := rfl
@[simp] theorem State.addWrap_free (o : Nat) (f : Fld) : (s.addWrap o f).free = s.free := rfl
@[simp] theorem State.addWrap_pending (o : Nat) (f : Fld) : (s.addWrap o f).pending = s.pending := rfl

@[simp] theorem State.setReg64_log (o : Nat) (v : W64) : (s.setReg64 o v).log = s.log := rfl
@[simp] theorem State.setReg64_host (o : Nat) (v : W64) : (s.setReg64 o v).host = s.host := rfl
@[simp] theorem State.setReg64_time (o : Nat) (v : W64) : (s.setReg64 o v).time = s.time := rfl
@[simp] theorem State.setReg64_wc (o : Nat) (v : W64) : (s.setReg64 o v).wc = s.wc := rfl
@[simp] theorem State.setReg64_mem (o : Nat) (v : W64) : (s.setReg64 o v).mem = s.mem := rfl
@[simp] theorem State.setReg64_sc (o : Nat) (v : W64) : (s.setReg64 o v).sc = s.sc := rfl
@[simp] theorem State.setReg64_la (o : Nat) (v : W64) : (s.setReg64 o v).la = s.la := rfl
@[simp] theorem State.setReg64_laPulse (o : Nat) (v : W64) : (s.setReg64 o v).laPulse = s.laPulse := rfl
@[simp] theorem State.setReg64_acq (o : Nat) (v : W64) : (s.setReg64 o v).acq = s.acq := rfl
@[simp] theorem State.setReg64_link (o : Nat) (v : W64) : (s.setReg64 o v).link = s.link := rfl
@[simp] theorem State.setReg64_srv (o : Nat) (v : W64) : (s.setReg64 o v).srv = s.srv := rfl
@[simp] theorem State.setReg64_pl (o : Nat) (v : W64) : (s.setReg64 o v).pl = s.pl := rfl
@[simp] theorem State.setReg64_opt (o : Nat) (v : W64) : (s.setReg64 o v).opt = s.opt := rfl
@[simp] theorem State.setReg64_sep (o : Nat) (v : W64) : (s.setReg64 o v).sep = s.sep := rfl
@[simp] theorem State.setReg64_sf (o : Nat) (v : W64) : (s.setReg64 o v).sf = s.sf := rfl
@[simp] theorem State.setReg64_twin (o : Nat) (v : W64) : (s.setReg64 o v).twin = s.twin := rfl
@[simp] theorem State.setReg64_clk (o : Nat) (v : W64) : (s.setReg64 o v).clk = s.clk := rfl
@[simp] theorem State.setReg64_modeCmd (o : Nat) (v : W64) : (s.setReg64 o v).modeCmd = s.modeCmd := rfl
@[simp] theorem State.setReg64_modeOver (o : Nat) (v : W64) : (s.setReg64 o v).modeOver = s.modeOver := rfl
@[simp] theorem State.setReg64_egress (o : Nat) (v : W64) : (s.setReg64 o v).egress = s.egress := rfl
@[simp] theorem State.setReg64_free (o : Nat) (v : W64) : (s.setReg64 o v).free = s.free := rfl
@[simp] theorem State.setReg64_pending (o : Nat) (v : W64) : (s.setReg64 o v).pending = s.pending := rfl

@[simp] theorem State.clearRegs_log (lo hi : Nat) : (s.clearRegs lo hi).log = s.log := rfl
@[simp] theorem State.clearRegs_host (lo hi : Nat) : (s.clearRegs lo hi).host = s.host := rfl
@[simp] theorem State.clearRegs_time (lo hi : Nat) : (s.clearRegs lo hi).time = s.time := rfl
@[simp] theorem State.clearRegs_wc (lo hi : Nat) : (s.clearRegs lo hi).wc = s.wc := rfl
@[simp] theorem State.clearRegs_mem (lo hi : Nat) : (s.clearRegs lo hi).mem = s.mem := rfl
@[simp] theorem State.clearRegs_sc (lo hi : Nat) : (s.clearRegs lo hi).sc = s.sc := rfl
@[simp] theorem State.clearRegs_la (lo hi : Nat) : (s.clearRegs lo hi).la = s.la := rfl
@[simp] theorem State.clearRegs_laPulse (lo hi : Nat) : (s.clearRegs lo hi).laPulse = s.laPulse := rfl
@[simp] theorem State.clearRegs_acq (lo hi : Nat) : (s.clearRegs lo hi).acq = s.acq := rfl
@[simp] theorem State.clearRegs_link (lo hi : Nat) : (s.clearRegs lo hi).link = s.link := rfl
@[simp] theorem State.clearRegs_srv (lo hi : Nat) : (s.clearRegs lo hi).srv = s.srv := rfl
@[simp] theorem State.clearRegs_pl (lo hi : Nat) : (s.clearRegs lo hi).pl = s.pl := rfl
@[simp] theorem State.clearRegs_opt (lo hi : Nat) : (s.clearRegs lo hi).opt = s.opt := rfl
@[simp] theorem State.clearRegs_sep (lo hi : Nat) : (s.clearRegs lo hi).sep = s.sep := rfl
@[simp] theorem State.clearRegs_sf (lo hi : Nat) : (s.clearRegs lo hi).sf = s.sf := rfl
@[simp] theorem State.clearRegs_twin (lo hi : Nat) : (s.clearRegs lo hi).twin = s.twin := rfl
@[simp] theorem State.clearRegs_clk (lo hi : Nat) : (s.clearRegs lo hi).clk = s.clk := rfl
@[simp] theorem State.clearRegs_modeCmd (lo hi : Nat) : (s.clearRegs lo hi).modeCmd = s.modeCmd := rfl
@[simp] theorem State.clearRegs_modeOver (lo hi : Nat) : (s.clearRegs lo hi).modeOver = s.modeOver := rfl
@[simp] theorem State.clearRegs_egress (lo hi : Nat) : (s.clearRegs lo hi).egress = s.egress := rfl
@[simp] theorem State.clearRegs_free (lo hi : Nat) : (s.clearRegs lo hi).free = s.free := rfl
@[simp] theorem State.clearRegs_pending (lo hi : Nat) : (s.clearRegs lo hi).pending = s.pending := rfl

@[simp] theorem State.emit_regs (e : Emit) : (s.emit e).regs = s.regs := rfl
@[simp] theorem State.emit_log (e : Emit) : (s.emit e).log = s.log := rfl
@[simp] theorem State.emit_host (e : Emit) : (s.emit e).host = s.host := rfl
@[simp] theorem State.emit_time (e : Emit) : (s.emit e).time = s.time := rfl
@[simp] theorem State.emit_wc (e : Emit) : (s.emit e).wc = s.wc := rfl
@[simp] theorem State.emit_mem (e : Emit) : (s.emit e).mem = s.mem := rfl
@[simp] theorem State.emit_sc (e : Emit) : (s.emit e).sc = s.sc := rfl
@[simp] theorem State.emit_la (e : Emit) : (s.emit e).la = s.la := rfl
@[simp] theorem State.emit_laPulse (e : Emit) : (s.emit e).laPulse = s.laPulse := rfl
@[simp] theorem State.emit_acq (e : Emit) : (s.emit e).acq = s.acq := rfl
@[simp] theorem State.emit_link (e : Emit) : (s.emit e).link = s.link := rfl
@[simp] theorem State.emit_srv (e : Emit) : (s.emit e).srv = s.srv := rfl
@[simp] theorem State.emit_pl (e : Emit) : (s.emit e).pl = s.pl := rfl
@[simp] theorem State.emit_opt (e : Emit) : (s.emit e).opt = s.opt := rfl
@[simp] theorem State.emit_sep (e : Emit) : (s.emit e).sep = s.sep := rfl
@[simp] theorem State.emit_sf (e : Emit) : (s.emit e).sf = s.sf := rfl
@[simp] theorem State.emit_twin (e : Emit) : (s.emit e).twin = s.twin := rfl
@[simp] theorem State.emit_clk (e : Emit) : (s.emit e).clk = s.clk := rfl
@[simp] theorem State.emit_modeCmd (e : Emit) : (s.emit e).modeCmd = s.modeCmd := rfl
@[simp] theorem State.emit_modeOver (e : Emit) : (s.emit e).modeOver = s.modeOver := rfl
@[simp] theorem State.emit_egress (e : Emit) : (s.emit e).egress = e :: s.egress := rfl
@[simp] theorem State.emit_free (e : Emit) : (s.emit e).free = s.free := rfl
@[simp] theorem State.emit_pending (e : Emit) : (s.emit e).pending = s.pending := rfl
@[simp] theorem State.emit_reg (e : Emit) (r : Nat) : (s.emit e).reg r = s.reg r := rfl
@[simp] theorem State.emit_fld (e : Emit) (r : Nat) (x : Fld) : (s.emit e).fld r x = s.fld r x := rfl
@[simp] theorem State.emit_flag (e : Emit) (r : Nat) (x : Fld) : (s.emit e).flag r x = s.flag r x := rfl

@[simp] theorem State.withPending_regs (q : List Instr) : (s.withPending q).regs = s.regs := rfl
@[simp] theorem State.withPending_log (q : List Instr) : (s.withPending q).log = s.log := rfl
@[simp] theorem State.withPending_host (q : List Instr) : (s.withPending q).host = s.host := rfl
@[simp] theorem State.withPending_time (q : List Instr) : (s.withPending q).time = s.time := rfl
@[simp] theorem State.withPending_wc (q : List Instr) : (s.withPending q).wc = s.wc := rfl
@[simp] theorem State.withPending_mem (q : List Instr) : (s.withPending q).mem = s.mem := rfl
@[simp] theorem State.withPending_sc (q : List Instr) : (s.withPending q).sc = s.sc := rfl
@[simp] theorem State.withPending_la (q : List Instr) : (s.withPending q).la = s.la := rfl
@[simp] theorem State.withPending_laPulse (q : List Instr) : (s.withPending q).laPulse = s.laPulse := rfl
@[simp] theorem State.withPending_acq (q : List Instr) : (s.withPending q).acq = s.acq := rfl
@[simp] theorem State.withPending_link (q : List Instr) : (s.withPending q).link = s.link := rfl
@[simp] theorem State.withPending_srv (q : List Instr) : (s.withPending q).srv = s.srv := rfl
@[simp] theorem State.withPending_pl (q : List Instr) : (s.withPending q).pl = s.pl := rfl
@[simp] theorem State.withPending_opt (q : List Instr) : (s.withPending q).opt = s.opt := rfl
@[simp] theorem State.withPending_sep (q : List Instr) : (s.withPending q).sep = s.sep := rfl
@[simp] theorem State.withPending_sf (q : List Instr) : (s.withPending q).sf = s.sf := rfl
@[simp] theorem State.withPending_twin (q : List Instr) : (s.withPending q).twin = s.twin := rfl
@[simp] theorem State.withPending_clk (q : List Instr) : (s.withPending q).clk = s.clk := rfl
@[simp] theorem State.withPending_modeCmd (q : List Instr) : (s.withPending q).modeCmd = s.modeCmd := rfl
@[simp] theorem State.withPending_modeOver (q : List Instr) : (s.withPending q).modeOver = s.modeOver := rfl
@[simp] theorem State.withPending_egress (q : List Instr) : (s.withPending q).egress = s.egress := rfl
@[simp] theorem State.withPending_free (q : List Instr) : (s.withPending q).free = s.free := rfl
@[simp] theorem State.withPending_pending (q : List Instr) : (s.withPending q).pending = q := rfl
@[simp] theorem State.withPending_reg (q : List Instr) (r : Nat) : (s.withPending q).reg r = s.reg r := rfl
@[simp] theorem State.withPending_fld (q : List Instr) (r : Nat) (x : Fld) : (s.withPending q).fld r x = s.fld r x := rfl
@[simp] theorem State.withPending_flag (q : List Instr) (r : Nat) (x : Fld) : (s.withPending q).flag r x = s.flag r x := rfl

@[simp] theorem State.modCore_regs (c : Nat) (f : CoreSt → CoreSt) : (s.modCore c f).regs = s.regs := rfl
@[simp] theorem State.modCore_log (c : Nat) (f : CoreSt → CoreSt) : (s.modCore c f).log = s.log := rfl
@[simp] theorem State.modCore_host (c : Nat) (f : CoreSt → CoreSt) : (s.modCore c f).host = s.host := rfl
@[simp] theorem State.modCore_time (c : Nat) (f : CoreSt → CoreSt) : (s.modCore c f).time = s.time := rfl
@[simp] theorem State.modCore_mem (c : Nat) (f : CoreSt → CoreSt) : (s.modCore c f).mem = s.mem := rfl
@[simp] theorem State.modCore_sc (c : Nat) (f : CoreSt → CoreSt) : (s.modCore c f).sc = s.sc := rfl
@[simp] theorem State.modCore_la (c : Nat) (f : CoreSt → CoreSt) : (s.modCore c f).la = s.la := rfl
@[simp] theorem State.modCore_laPulse (c : Nat) (f : CoreSt → CoreSt) : (s.modCore c f).laPulse = s.laPulse := rfl
@[simp] theorem State.modCore_acq (c : Nat) (f : CoreSt → CoreSt) : (s.modCore c f).acq = s.acq := rfl
@[simp] theorem State.modCore_link (c : Nat) (f : CoreSt → CoreSt) : (s.modCore c f).link = s.link := rfl
@[simp] theorem State.modCore_srv (c : Nat) (f : CoreSt → CoreSt) : (s.modCore c f).srv = s.srv := rfl
@[simp] theorem State.modCore_pl (c : Nat) (f : CoreSt → CoreSt) : (s.modCore c f).pl = s.pl := rfl
@[simp] theorem State.modCore_opt (c : Nat) (f : CoreSt → CoreSt) : (s.modCore c f).opt = s.opt := rfl
@[simp] theorem State.modCore_sep (c : Nat) (f : CoreSt → CoreSt) : (s.modCore c f).sep = s.sep := rfl
@[simp] theorem State.modCore_sf (c : Nat) (f : CoreSt → CoreSt) : (s.modCore c f).sf = s.sf := rfl
@[simp] theorem State.modCore_twin (c : Nat) (f : CoreSt → CoreSt) : (s.modCore c f).twin = s.twin := rfl
@[simp] theorem State.modCore_clk (c : Nat) (f : CoreSt → CoreSt) : (s.modCore c f).clk = s.clk := rfl
@[simp] theorem State.modCore_modeCmd (c : Nat) (f : CoreSt → CoreSt) : (s.modCore c f).modeCmd = s.modeCmd := rfl
@[simp] theorem State.modCore_modeOver (c : Nat) (f : CoreSt → CoreSt) : (s.modCore c f).modeOver = s.modeOver := rfl
@[simp] theorem State.modCore_egress (c : Nat) (f : CoreSt → CoreSt) : (s.modCore c f).egress = s.egress := rfl
@[simp] theorem State.modCore_free (c : Nat) (f : CoreSt → CoreSt) : (s.modCore c f).free = s.free := rfl
@[simp] theorem State.modCore_pending (c : Nat) (f : CoreSt → CoreSt) : (s.modCore c f).pending = s.pending := rfl
@[simp] theorem State.modCore_reg (c : Nat) (f : CoreSt → CoreSt) (r : Nat) : (s.modCore c f).reg r = s.reg r := rfl
@[simp] theorem State.modCore_fld (c : Nat) (f : CoreSt → CoreSt) (r : Nat) (x : Fld) : (s.modCore c f).fld r x = s.fld r x := rfl
@[simp] theorem State.modCore_flag (c : Nat) (f : CoreSt → CoreSt) (r : Nat) (x : Fld) : (s.modCore c f).flag r x = s.flag r x := rfl

@[simp] theorem State.modItem_regs (i : Nat) (f : ItemSt → ItemSt) : (s.modItem i f).regs = s.regs := rfl
@[simp] theorem State.modItem_log (i : Nat) (f : ItemSt → ItemSt) : (s.modItem i f).log = s.log := rfl
@[simp] theorem State.modItem_host (i : Nat) (f : ItemSt → ItemSt) : (s.modItem i f).host = s.host := rfl
@[simp] theorem State.modItem_time (i : Nat) (f : ItemSt → ItemSt) : (s.modItem i f).time = s.time := rfl
@[simp] theorem State.modItem_mem (i : Nat) (f : ItemSt → ItemSt) : (s.modItem i f).mem = s.mem := rfl
@[simp] theorem State.modItem_sc (i : Nat) (f : ItemSt → ItemSt) : (s.modItem i f).sc = s.sc := rfl
@[simp] theorem State.modItem_la (i : Nat) (f : ItemSt → ItemSt) : (s.modItem i f).la = s.la := rfl
@[simp] theorem State.modItem_laPulse (i : Nat) (f : ItemSt → ItemSt) : (s.modItem i f).laPulse = s.laPulse := rfl
@[simp] theorem State.modItem_acq (i : Nat) (f : ItemSt → ItemSt) : (s.modItem i f).acq = s.acq := rfl
@[simp] theorem State.modItem_link (i : Nat) (f : ItemSt → ItemSt) : (s.modItem i f).link = s.link := rfl
@[simp] theorem State.modItem_srv (i : Nat) (f : ItemSt → ItemSt) : (s.modItem i f).srv = s.srv := rfl
@[simp] theorem State.modItem_pl (i : Nat) (f : ItemSt → ItemSt) : (s.modItem i f).pl = s.pl := rfl
@[simp] theorem State.modItem_opt (i : Nat) (f : ItemSt → ItemSt) : (s.modItem i f).opt = s.opt := rfl
@[simp] theorem State.modItem_sep (i : Nat) (f : ItemSt → ItemSt) : (s.modItem i f).sep = s.sep := rfl
@[simp] theorem State.modItem_sf (i : Nat) (f : ItemSt → ItemSt) : (s.modItem i f).sf = s.sf := rfl
@[simp] theorem State.modItem_twin (i : Nat) (f : ItemSt → ItemSt) : (s.modItem i f).twin = s.twin := rfl
@[simp] theorem State.modItem_clk (i : Nat) (f : ItemSt → ItemSt) : (s.modItem i f).clk = s.clk := rfl
@[simp] theorem State.modItem_modeCmd (i : Nat) (f : ItemSt → ItemSt) : (s.modItem i f).modeCmd = s.modeCmd := rfl
@[simp] theorem State.modItem_modeOver (i : Nat) (f : ItemSt → ItemSt) : (s.modItem i f).modeOver = s.modeOver := rfl
@[simp] theorem State.modItem_egress (i : Nat) (f : ItemSt → ItemSt) : (s.modItem i f).egress = s.egress := rfl
@[simp] theorem State.modItem_free (i : Nat) (f : ItemSt → ItemSt) : (s.modItem i f).free = s.free := rfl
@[simp] theorem State.modItem_pending (i : Nat) (f : ItemSt → ItemSt) : (s.modItem i f).pending = s.pending := rfl
@[simp] theorem State.modItem_reg (i : Nat) (f : ItemSt → ItemSt) (r : Nat) : (s.modItem i f).reg r = s.reg r := rfl
@[simp] theorem State.modItem_fld (i : Nat) (f : ItemSt → ItemSt) (r : Nat) (x : Fld) : (s.modItem i f).fld r x = s.fld r x := rfl
@[simp] theorem State.modItem_flag (i : Nat) (f : ItemSt → ItemSt) (r : Nat) (x : Fld) : (s.modItem i f).flag r x = s.flag r x := rfl

@[simp] theorem State.modRegion_regs (k : Nat) (f : RegionSt → RegionSt) : (s.modRegion k f).regs = s.regs := rfl
@[simp] theorem State.modRegion_log (k : Nat) (f : RegionSt → RegionSt) : (s.modRegion k f).log = s.log := rfl
@[simp] theorem State.modRegion_host (k : Nat) (f : RegionSt → RegionSt) : (s.modRegion k f).host = s.host := rfl
@[simp] theorem State.modRegion_time (k : Nat) (f : RegionSt → RegionSt) : (s.modRegion k f).time = s.time := rfl
@[simp] theorem State.modRegion_wc (k : Nat) (f : RegionSt → RegionSt) : (s.modRegion k f).wc = s.wc := rfl
@[simp] theorem State.modRegion_sc (k : Nat) (f : RegionSt → RegionSt) : (s.modRegion k f).sc = s.sc := rfl
@[simp] theorem State.modRegion_la (k : Nat) (f : RegionSt → RegionSt) : (s.modRegion k f).la = s.la := rfl
@[simp] theorem State.modRegion_laPulse (k : Nat) (f : RegionSt → RegionSt) : (s.modRegion k f).laPulse = s.laPulse := rfl
@[simp] theorem State.modRegion_acq (k : Nat) (f : RegionSt → RegionSt) : (s.modRegion k f).acq = s.acq := rfl
@[simp] theorem State.modRegion_link (k : Nat) (f : RegionSt → RegionSt) : (s.modRegion k f).link = s.link := rfl
@[simp] theorem State.modRegion_srv (k : Nat) (f : RegionSt → RegionSt) : (s.modRegion k f).srv = s.srv := rfl
@[simp] theorem State.modRegion_pl (k : Nat) (f : RegionSt → RegionSt) : (s.modRegion k f).pl = s.pl := rfl
@[simp] theorem State.modRegion_opt (k : Nat) (f : RegionSt → RegionSt) : (s.modRegion k f).opt = s.opt := rfl
@[simp] theorem State.modRegion_sep (k : Nat) (f : RegionSt → RegionSt) : (s.modRegion k f).sep = s.sep := rfl
@[simp] theorem State.modRegion_sf (k : Nat) (f : RegionSt → RegionSt) : (s.modRegion k f).sf = s.sf := rfl
@[simp] theorem State.modRegion_twin (k : Nat) (f : RegionSt → RegionSt) : (s.modRegion k f).twin = s.twin := rfl
@[simp] theorem State.modRegion_clk (k : Nat) (f : RegionSt → RegionSt) : (s.modRegion k f).clk = s.clk := rfl
@[simp] theorem State.modRegion_modeCmd (k : Nat) (f : RegionSt → RegionSt) : (s.modRegion k f).modeCmd = s.modeCmd := rfl
@[simp] theorem State.modRegion_modeOver (k : Nat) (f : RegionSt → RegionSt) : (s.modRegion k f).modeOver = s.modeOver := rfl
@[simp] theorem State.modRegion_egress (k : Nat) (f : RegionSt → RegionSt) : (s.modRegion k f).egress = s.egress := rfl
@[simp] theorem State.modRegion_free (k : Nat) (f : RegionSt → RegionSt) : (s.modRegion k f).free = s.free := rfl
@[simp] theorem State.modRegion_pending (k : Nat) (f : RegionSt → RegionSt) : (s.modRegion k f).pending = s.pending := rfl
@[simp] theorem State.modRegion_reg (k : Nat) (f : RegionSt → RegionSt) (r : Nat) : (s.modRegion k f).reg r = s.reg r := rfl
@[simp] theorem State.modRegion_fld (k : Nat) (f : RegionSt → RegionSt) (r : Nat) (x : Fld) : (s.modRegion k f).fld r x = s.fld r x := rfl
@[simp] theorem State.modRegion_flag (k : Nat) (f : RegionSt → RegionSt) (r : Nat) (x : Fld) : (s.modRegion k f).flag r x = s.flag r x := rfl

@[simp] theorem State.modSc_regs (c : Nat) (f : ScSt → ScSt) : (s.modSc c f).regs = s.regs := rfl
@[simp] theorem State.modSc_log (c : Nat) (f : ScSt → ScSt) : (s.modSc c f).log = s.log := rfl
@[simp] theorem State.modSc_host (c : Nat) (f : ScSt → ScSt) : (s.modSc c f).host = s.host := rfl
@[simp] theorem State.modSc_time (c : Nat) (f : ScSt → ScSt) : (s.modSc c f).time = s.time := rfl
@[simp] theorem State.modSc_wc (c : Nat) (f : ScSt → ScSt) : (s.modSc c f).wc = s.wc := rfl
@[simp] theorem State.modSc_mem (c : Nat) (f : ScSt → ScSt) : (s.modSc c f).mem = s.mem := rfl
@[simp] theorem State.modSc_la (c : Nat) (f : ScSt → ScSt) : (s.modSc c f).la = s.la := rfl
@[simp] theorem State.modSc_laPulse (c : Nat) (f : ScSt → ScSt) : (s.modSc c f).laPulse = s.laPulse := rfl
@[simp] theorem State.modSc_acq (c : Nat) (f : ScSt → ScSt) : (s.modSc c f).acq = s.acq := rfl
@[simp] theorem State.modSc_link (c : Nat) (f : ScSt → ScSt) : (s.modSc c f).link = s.link := rfl
@[simp] theorem State.modSc_srv (c : Nat) (f : ScSt → ScSt) : (s.modSc c f).srv = s.srv := rfl
@[simp] theorem State.modSc_pl (c : Nat) (f : ScSt → ScSt) : (s.modSc c f).pl = s.pl := rfl
@[simp] theorem State.modSc_opt (c : Nat) (f : ScSt → ScSt) : (s.modSc c f).opt = s.opt := rfl
@[simp] theorem State.modSc_sep (c : Nat) (f : ScSt → ScSt) : (s.modSc c f).sep = s.sep := rfl
@[simp] theorem State.modSc_sf (c : Nat) (f : ScSt → ScSt) : (s.modSc c f).sf = s.sf := rfl
@[simp] theorem State.modSc_twin (c : Nat) (f : ScSt → ScSt) : (s.modSc c f).twin = s.twin := rfl
@[simp] theorem State.modSc_clk (c : Nat) (f : ScSt → ScSt) : (s.modSc c f).clk = s.clk := rfl
@[simp] theorem State.modSc_modeCmd (c : Nat) (f : ScSt → ScSt) : (s.modSc c f).modeCmd = s.modeCmd := rfl
@[simp] theorem State.modSc_modeOver (c : Nat) (f : ScSt → ScSt) : (s.modSc c f).modeOver = s.modeOver := rfl
@[simp] theorem State.modSc_egress (c : Nat) (f : ScSt → ScSt) : (s.modSc c f).egress = s.egress := rfl
@[simp] theorem State.modSc_free (c : Nat) (f : ScSt → ScSt) : (s.modSc c f).free = s.free := rfl
@[simp] theorem State.modSc_pending (c : Nat) (f : ScSt → ScSt) : (s.modSc c f).pending = s.pending := rfl
@[simp] theorem State.modSc_reg (c : Nat) (f : ScSt → ScSt) (r : Nat) : (s.modSc c f).reg r = s.reg r := rfl
@[simp] theorem State.modSc_fld (c : Nat) (f : ScSt → ScSt) (r : Nat) (x : Fld) : (s.modSc c f).fld r x = s.fld r x := rfl
@[simp] theorem State.modSc_flag (c : Nat) (f : ScSt → ScSt) (r : Nat) (x : Fld) : (s.modSc c f).flag r x = s.flag r x := rfl

@[simp] theorem State.modLa_regs (c : Nat) (f : LaSt → LaSt) : (s.modLa c f).regs = s.regs := rfl
@[simp] theorem State.modLa_log (c : Nat) (f : LaSt → LaSt) : (s.modLa c f).log = s.log := rfl
@[simp] theorem State.modLa_host (c : Nat) (f : LaSt → LaSt) : (s.modLa c f).host = s.host := rfl
@[simp] theorem State.modLa_time (c : Nat) (f : LaSt → LaSt) : (s.modLa c f).time = s.time := rfl
@[simp] theorem State.modLa_wc (c : Nat) (f : LaSt → LaSt) : (s.modLa c f).wc = s.wc := rfl
@[simp] theorem State.modLa_mem (c : Nat) (f : LaSt → LaSt) : (s.modLa c f).mem = s.mem := rfl
@[simp] theorem State.modLa_sc (c : Nat) (f : LaSt → LaSt) : (s.modLa c f).sc = s.sc := rfl
@[simp] theorem State.modLa_laPulse (c : Nat) (f : LaSt → LaSt) : (s.modLa c f).laPulse = s.laPulse := rfl
@[simp] theorem State.modLa_acq (c : Nat) (f : LaSt → LaSt) : (s.modLa c f).acq = s.acq := rfl
@[simp] theorem State.modLa_link (c : Nat) (f : LaSt → LaSt) : (s.modLa c f).link = s.link := rfl
@[simp] theorem State.modLa_srv (c : Nat) (f : LaSt → LaSt) : (s.modLa c f).srv = s.srv := rfl
@[simp] theorem State.modLa_pl (c : Nat) (f : LaSt → LaSt) : (s.modLa c f).pl = s.pl := rfl
@[simp] theorem State.modLa_opt (c : Nat) (f : LaSt → LaSt) : (s.modLa c f).opt = s.opt := rfl
@[simp] theorem State.modLa_sep (c : Nat) (f : LaSt → LaSt) : (s.modLa c f).sep = s.sep := rfl
@[simp] theorem State.modLa_sf (c : Nat) (f : LaSt → LaSt) : (s.modLa c f).sf = s.sf := rfl
@[simp] theorem State.modLa_twin (c : Nat) (f : LaSt → LaSt) : (s.modLa c f).twin = s.twin := rfl
@[simp] theorem State.modLa_clk (c : Nat) (f : LaSt → LaSt) : (s.modLa c f).clk = s.clk := rfl
@[simp] theorem State.modLa_modeCmd (c : Nat) (f : LaSt → LaSt) : (s.modLa c f).modeCmd = s.modeCmd := rfl
@[simp] theorem State.modLa_modeOver (c : Nat) (f : LaSt → LaSt) : (s.modLa c f).modeOver = s.modeOver := rfl
@[simp] theorem State.modLa_egress (c : Nat) (f : LaSt → LaSt) : (s.modLa c f).egress = s.egress := rfl
@[simp] theorem State.modLa_free (c : Nat) (f : LaSt → LaSt) : (s.modLa c f).free = s.free := rfl
@[simp] theorem State.modLa_pending (c : Nat) (f : LaSt → LaSt) : (s.modLa c f).pending = s.pending := rfl
@[simp] theorem State.modLa_reg (c : Nat) (f : LaSt → LaSt) (r : Nat) : (s.modLa c f).reg r = s.reg r := rfl
@[simp] theorem State.modLa_fld (c : Nat) (f : LaSt → LaSt) (r : Nat) (x : Fld) : (s.modLa c f).fld r x = s.fld r x := rfl
@[simp] theorem State.modLa_flag (c : Nat) (f : LaSt → LaSt) (r : Nat) (x : Fld) : (s.modLa c f).flag r x = s.flag r x := rfl

@[simp] theorem State.modAU_regs (u : Nat) (f : AcqU → AcqU) : (s.modAU u f).regs = s.regs := rfl
@[simp] theorem State.modAU_log (u : Nat) (f : AcqU → AcqU) : (s.modAU u f).log = s.log := rfl
@[simp] theorem State.modAU_host (u : Nat) (f : AcqU → AcqU) : (s.modAU u f).host = s.host := rfl
@[simp] theorem State.modAU_time (u : Nat) (f : AcqU → AcqU) : (s.modAU u f).time = s.time := rfl
@[simp] theorem State.modAU_wc (u : Nat) (f : AcqU → AcqU) : (s.modAU u f).wc = s.wc := rfl
@[simp] theorem State.modAU_mem (u : Nat) (f : AcqU → AcqU) : (s.modAU u f).mem = s.mem := rfl
@[simp] theorem State.modAU_sc (u : Nat) (f : AcqU → AcqU) : (s.modAU u f).sc = s.sc := rfl
@[simp] theorem State.modAU_la (u : Nat) (f : AcqU → AcqU) : (s.modAU u f).la = s.la := rfl
@[simp] theorem State.modAU_laPulse (u : Nat) (f : AcqU → AcqU) : (s.modAU u f).laPulse = s.laPulse := rfl
@[simp] theorem State.modAU_link (u : Nat) (f : AcqU → AcqU) : (s.modAU u f).link = s.link := rfl
@[simp] theorem State.modAU_srv (u : Nat) (f : AcqU → AcqU) : (s.modAU u f).srv = s.srv := rfl
@[simp] theorem State.modAU_pl (u : Nat) (f : AcqU → AcqU) : (s.modAU u f).pl = s.pl := rfl
@[simp] theorem State.modAU_opt (u : Nat) (f : AcqU → AcqU) : (s.modAU u f).opt = s.opt := rfl
@[simp] theorem State.modAU_sep (u : Nat) (f : AcqU → AcqU) : (s.modAU u f).sep = s.sep := rfl
@[simp] theorem State.modAU_sf (u : Nat) (f : AcqU → AcqU) : (s.modAU u f).sf = s.sf := rfl
@[simp] theorem State.modAU_twin (u : Nat) (f : AcqU → AcqU) : (s.modAU u f).twin = s.twin := rfl
@[simp] theorem State.modAU_clk (u : Nat) (f : AcqU → AcqU) : (s.modAU u f).clk = s.clk := rfl
@[simp] theorem State.modAU_modeCmd (u : Nat) (f : AcqU → AcqU) : (s.modAU u f).modeCmd = s.modeCmd := rfl
@[simp] theorem State.modAU_modeOver (u : Nat) (f : AcqU → AcqU) : (s.modAU u f).modeOver = s.modeOver := rfl
@[simp] theorem State.modAU_egress (u : Nat) (f : AcqU → AcqU) : (s.modAU u f).egress = s.egress := rfl
@[simp] theorem State.modAU_free (u : Nat) (f : AcqU → AcqU) : (s.modAU u f).free = s.free := rfl
@[simp] theorem State.modAU_pending (u : Nat) (f : AcqU → AcqU) : (s.modAU u f).pending = s.pending := rfl
@[simp] theorem State.modAU_reg (u : Nat) (f : AcqU → AcqU) (r : Nat) : (s.modAU u f).reg r = s.reg r := rfl
@[simp] theorem State.modAU_fld (u : Nat) (f : AcqU → AcqU) (r : Nat) (x : Fld) : (s.modAU u f).fld r x = s.fld r x := rfl
@[simp] theorem State.modAU_flag (u : Nat) (f : AcqU → AcqU) (r : Nat) (x : Fld) : (s.modAU u f).flag r x = s.flag r x := rfl

@[simp] theorem State.modASet_regs (k : Nat) (f : AcqSet → AcqSet) : (s.modASet k f).regs = s.regs := rfl
@[simp] theorem State.modASet_log (k : Nat) (f : AcqSet → AcqSet) : (s.modASet k f).log = s.log := rfl
@[simp] theorem State.modASet_host (k : Nat) (f : AcqSet → AcqSet) : (s.modASet k f).host = s.host := rfl
@[simp] theorem State.modASet_time (k : Nat) (f : AcqSet → AcqSet) : (s.modASet k f).time = s.time := rfl
@[simp] theorem State.modASet_wc (k : Nat) (f : AcqSet → AcqSet) : (s.modASet k f).wc = s.wc := rfl
@[simp] theorem State.modASet_mem (k : Nat) (f : AcqSet → AcqSet) : (s.modASet k f).mem = s.mem := rfl
@[simp] theorem State.modASet_sc (k : Nat) (f : AcqSet → AcqSet) : (s.modASet k f).sc = s.sc := rfl
@[simp] theorem State.modASet_la (k : Nat) (f : AcqSet → AcqSet) : (s.modASet k f).la = s.la := rfl
@[simp] theorem State.modASet_laPulse (k : Nat) (f : AcqSet → AcqSet) : (s.modASet k f).laPulse = s.laPulse := rfl
@[simp] theorem State.modASet_link (k : Nat) (f : AcqSet → AcqSet) : (s.modASet k f).link = s.link := rfl
@[simp] theorem State.modASet_srv (k : Nat) (f : AcqSet → AcqSet) : (s.modASet k f).srv = s.srv := rfl
@[simp] theorem State.modASet_pl (k : Nat) (f : AcqSet → AcqSet) : (s.modASet k f).pl = s.pl := rfl
@[simp] theorem State.modASet_opt (k : Nat) (f : AcqSet → AcqSet) : (s.modASet k f).opt = s.opt := rfl
@[simp] theorem State.modASet_sep (k : Nat) (f : AcqSet → AcqSet) : (s.modASet k f).sep = s.sep := rfl
@[simp] theorem State.modASet_sf (k : Nat) (f : AcqSet → AcqSet) : (s.modASet k f).sf = s.sf := rfl
@[simp] theorem State.modASet_twin (k : Nat) (f : AcqSet → AcqSet) : (s.modASet k f).twin = s.twin := rfl
@[simp] theorem State.modASet_clk (k : Nat) (f : AcqSet → AcqSet) : (s.modASet k f).clk = s.clk := rfl
@[simp] theorem State.modASet_modeCmd (k : Nat) (f : AcqSet → AcqSet) : (s.modASet k f).modeCmd = s.modeCmd := rfl
@[simp] theorem State.modASet_modeOver (k : Nat) (f : AcqSet → AcqSet) : (s.modASet k f).modeOver = s.modeOver := rfl
@[simp] theorem State.modASet_egress (k : Nat) (f : AcqSet → AcqSet) : (s.modASet k f).egress = s.egress := rfl
@[simp] theorem State.modASet_free (k : Nat) (f : AcqSet → AcqSet) : (s.modASet k f).free = s.free := rfl
@[simp] theorem State.modASet_pending (k : Nat) (f : AcqSet → AcqSet) : (s.modASet k f).pending = s.pending := rfl
@[simp] theorem State.modASet_reg (k : Nat) (f : AcqSet → AcqSet) (r : Nat) : (s.modASet k f).reg r = s.reg r := rfl
@[simp] theorem State.modASet_fld (k : Nat) (f : AcqSet → AcqSet) (r : Nat) (x : Fld) : (s.modASet k f).fld r x = s.fld r x := rfl
@[simp] theorem State.modASet_flag (k : Nat) (f : AcqSet → AcqSet) (r : Nat) (x : Fld) : (s.modASet k f).flag r x = s.flag r x := rfl

@[simp] theorem State.modAStr_regs (c : Nat) (f : AcqStr → AcqStr) : (s.modAStr c f).regs = s.regs := rfl
@[simp] theorem State.modAStr_log (c : Nat) (f : AcqStr → AcqStr) : (s.modAStr c f).log = s.log := rfl
@[simp] theorem State.modAStr_host (c : Nat) (f : AcqStr → AcqStr) : (s.modAStr c f).host = s.host := rfl
@[simp] theorem State.modAStr_time (c : Nat) (f : AcqStr → AcqStr) : (s.modAStr c f).time = s.time := rfl
@[simp] theorem State.modAStr_wc (c : Nat) (f : AcqStr → AcqStr) : (s.modAStr c f).wc = s.wc := rfl
@[simp] theorem State.modAStr_mem (c : Nat) (f : AcqStr → AcqStr) : (s.modAStr c f).mem = s.mem := rfl
@[simp] theorem State.modAStr_sc (c : Nat) (f : AcqStr → AcqStr) : (s.modAStr c f).sc = s.sc := rfl
@[simp] theorem State.modAStr_la (c : Nat) (f : AcqStr → AcqStr) : (s.modAStr c f).la = s.la := rfl
@[simp] theorem State.modAStr_laPulse (c : Nat) (f : AcqStr → AcqStr) : (s.modAStr c f).laPulse = s.laPulse := rfl
@[simp] theorem State.modAStr_link (c : Nat) (f : AcqStr → AcqStr) : (s.modAStr c f).link = s.link := rfl
@[simp] theorem State.modAStr_srv (c : Nat) (f : AcqStr → AcqStr) : (s.modAStr c f).srv = s.srv := rfl
@[simp] theorem State.modAStr_pl (c : Nat) (f : AcqStr → AcqStr) : (s.modAStr c f).pl = s.pl := rfl
@[simp] theorem State.modAStr_opt (c : Nat) (f : AcqStr → AcqStr) : (s.modAStr c f).opt = s.opt := rfl
@[simp] theorem State.modAStr_sep (c : Nat) (f : AcqStr → AcqStr) : (s.modAStr c f).sep = s.sep := rfl
@[simp] theorem State.modAStr_sf (c : Nat) (f : AcqStr → AcqStr) : (s.modAStr c f).sf = s.sf := rfl
@[simp] theorem State.modAStr_twin (c : Nat) (f : AcqStr → AcqStr) : (s.modAStr c f).twin = s.twin := rfl
@[simp] theorem State.modAStr_clk (c : Nat) (f : AcqStr → AcqStr) : (s.modAStr c f).clk = s.clk := rfl
@[simp] theorem State.modAStr_modeCmd (c : Nat) (f : AcqStr → AcqStr) : (s.modAStr c f).modeCmd = s.modeCmd := rfl
@[simp] theorem State.modAStr_modeOver (c : Nat) (f : AcqStr → AcqStr) : (s.modAStr c f).modeOver = s.modeOver := rfl
@[simp] theorem State.modAStr_egress (c : Nat) (f : AcqStr → AcqStr) : (s.modAStr c f).egress = s.egress := rfl
@[simp] theorem State.modAStr_free (c : Nat) (f : AcqStr → AcqStr) : (s.modAStr c f).free = s.free := rfl
@[simp] theorem State.modAStr_pending (c : Nat) (f : AcqStr → AcqStr) : (s.modAStr c f).pending = s.pending := rfl
@[simp] theorem State.modAStr_reg (c : Nat) (f : AcqStr → AcqStr) (r : Nat) : (s.modAStr c f).reg r = s.reg r := rfl
@[simp] theorem State.modAStr_fld (c : Nat) (f : AcqStr → AcqStr) (r : Nat) (x : Fld) : (s.modAStr c f).fld r x = s.fld r x := rfl
@[simp] theorem State.modAStr_flag (c : Nat) (f : AcqStr → AcqStr) (r : Nat) (x : Fld) : (s.modAStr c f).flag r x = s.flag r x := rfl

@[simp] theorem State.modLp_regs (c p : Nat) (f : LkPort → LkPort) : (s.modLp c p f).regs = s.regs := rfl
@[simp] theorem State.modLp_log (c p : Nat) (f : LkPort → LkPort) : (s.modLp c p f).log = s.log := rfl
@[simp] theorem State.modLp_host (c p : Nat) (f : LkPort → LkPort) : (s.modLp c p f).host = s.host := rfl
@[simp] theorem State.modLp_time (c p : Nat) (f : LkPort → LkPort) : (s.modLp c p f).time = s.time := rfl
@[simp] theorem State.modLp_wc (c p : Nat) (f : LkPort → LkPort) : (s.modLp c p f).wc = s.wc := rfl
@[simp] theorem State.modLp_mem (c p : Nat) (f : LkPort → LkPort) : (s.modLp c p f).mem = s.mem := rfl
@[simp] theorem State.modLp_sc (c p : Nat) (f : LkPort → LkPort) : (s.modLp c p f).sc = s.sc := rfl
@[simp] theorem State.modLp_la (c p : Nat) (f : LkPort → LkPort) : (s.modLp c p f).la = s.la := rfl
@[simp] theorem State.modLp_laPulse (c p : Nat) (f : LkPort → LkPort) : (s.modLp c p f).laPulse = s.laPulse := rfl
@[simp] theorem State.modLp_acq (c p : Nat) (f : LkPort → LkPort) : (s.modLp c p f).acq = s.acq := rfl
@[simp] theorem State.modLp_srv (c p : Nat) (f : LkPort → LkPort) : (s.modLp c p f).srv = s.srv := rfl
@[simp] theorem State.modLp_pl (c p : Nat) (f : LkPort → LkPort) : (s.modLp c p f).pl = s.pl := rfl
@[simp] theorem State.modLp_opt (c p : Nat) (f : LkPort → LkPort) : (s.modLp c p f).opt = s.opt := rfl
@[simp] theorem State.modLp_sep (c p : Nat) (f : LkPort → LkPort) : (s.modLp c p f).sep = s.sep := rfl
@[simp] theorem State.modLp_sf (c p : Nat) (f : LkPort → LkPort) : (s.modLp c p f).sf = s.sf := rfl
@[simp] theorem State.modLp_twin (c p : Nat) (f : LkPort → LkPort) : (s.modLp c p f).twin = s.twin := rfl
@[simp] theorem State.modLp_clk (c p : Nat) (f : LkPort → LkPort) : (s.modLp c p f).clk = s.clk := rfl
@[simp] theorem State.modLp_modeCmd (c p : Nat) (f : LkPort → LkPort) : (s.modLp c p f).modeCmd = s.modeCmd := rfl
@[simp] theorem State.modLp_modeOver (c p : Nat) (f : LkPort → LkPort) : (s.modLp c p f).modeOver = s.modeOver := rfl
@[simp] theorem State.modLp_egress (c p : Nat) (f : LkPort → LkPort) : (s.modLp c p f).egress = s.egress := rfl
@[simp] theorem State.modLp_free (c p : Nat) (f : LkPort → LkPort) : (s.modLp c p f).free = s.free := rfl
@[simp] theorem State.modLp_pending (c p : Nat) (f : LkPort → LkPort) : (s.modLp c p f).pending = s.pending := rfl
@[simp] theorem State.modLp_reg (c p : Nat) (f : LkPort → LkPort) (r : Nat) : (s.modLp c p f).reg r = s.reg r := rfl
@[simp] theorem State.modLp_fld (c p : Nat) (f : LkPort → LkPort) (r : Nat) (x : Fld) : (s.modLp c p f).fld r x = s.fld r x := rfl
@[simp] theorem State.modLp_flag (c p : Nat) (f : LkPort → LkPort) (r : Nat) (x : Fld) : (s.modLp c p f).flag r x = s.flag r x := rfl

@[simp] theorem State.modLn_regs (c n : Nat) (f : LkNode → LkNode) : (s.modLn c n f).regs = s.regs := rfl
@[simp] theorem State.modLn_log (c n : Nat) (f : LkNode → LkNode) : (s.modLn c n f).log = s.log := rfl
@[simp] theorem State.modLn_host (c n : Nat) (f : LkNode → LkNode) : (s.modLn c n f).host = s.host := rfl
@[simp] theorem State.modLn_time (c n : Nat) (f : LkNode → LkNode) : (s.modLn c n f).time = s.time := rfl
@[simp] theorem State.modLn_wc (c n : Nat) (f : LkNode → LkNode) : (s.modLn c n f).wc = s.wc := rfl
@[simp] theorem State.modLn_mem (c n : Nat) (f : LkNode → LkNode) : (s.modLn c n f).mem = s.mem := rfl
@[simp] theorem State.modLn_sc (c n : Nat) (f : LkNode → LkNode) : (s.modLn c n f).sc = s.sc := rfl
@[simp] theorem State.modLn_la (c n : Nat) (f : LkNode → LkNode) : (s.modLn c n f).la = s.la := rfl
@[simp] theorem State.modLn_laPulse (c n : Nat) (f : LkNode → LkNode) : (s.modLn c n f).laPulse = s.laPulse := rfl
@[simp] theorem State.modLn_acq (c n : Nat) (f : LkNode → LkNode) : (s.modLn c n f).acq = s.acq := rfl
@[simp] theorem State.modLn_srv (c n : Nat) (f : LkNode → LkNode) : (s.modLn c n f).srv = s.srv := rfl
@[simp] theorem State.modLn_pl (c n : Nat) (f : LkNode → LkNode) : (s.modLn c n f).pl = s.pl := rfl
@[simp] theorem State.modLn_opt (c n : Nat) (f : LkNode → LkNode) : (s.modLn c n f).opt = s.opt := rfl
@[simp] theorem State.modLn_sep (c n : Nat) (f : LkNode → LkNode) : (s.modLn c n f).sep = s.sep := rfl
@[simp] theorem State.modLn_sf (c n : Nat) (f : LkNode → LkNode) : (s.modLn c n f).sf = s.sf := rfl
@[simp] theorem State.modLn_twin (c n : Nat) (f : LkNode → LkNode) : (s.modLn c n f).twin = s.twin := rfl
@[simp] theorem State.modLn_clk (c n : Nat) (f : LkNode → LkNode) : (s.modLn c n f).clk = s.clk := rfl
@[simp] theorem State.modLn_modeCmd (c n : Nat) (f : LkNode → LkNode) : (s.modLn c n f).modeCmd = s.modeCmd := rfl
@[simp] theorem State.modLn_modeOver (c n : Nat) (f : LkNode → LkNode) : (s.modLn c n f).modeOver = s.modeOver := rfl
@[simp] theorem State.modLn_egress (c n : Nat) (f : LkNode → LkNode) : (s.modLn c n f).egress = s.egress := rfl
@[simp] theorem State.modLn_free (c n : Nat) (f : LkNode → LkNode) : (s.modLn c n f).free = s.free := rfl
@[simp] theorem State.modLn_pending (c n : Nat) (f : LkNode → LkNode) : (s.modLn c n f).pending = s.pending := rfl
@[simp] theorem State.modLn_reg (c n : Nat) (f : LkNode → LkNode) (r : Nat) : (s.modLn c n f).reg r = s.reg r := rfl
@[simp] theorem State.modLn_fld (c n : Nat) (f : LkNode → LkNode) (r : Nat) (x : Fld) : (s.modLn c n f).fld r x = s.fld r x := rfl
@[simp] theorem State.modLn_flag (c n : Nat) (f : LkNode → LkNode) (r : Nat) (x : Fld) : (s.modLn c n f).flag r x = s.flag r x := rfl

@[simp] theorem State.modLink_regs (f : LinkSt → LinkSt) : (s.modLink f).regs = s.regs := rfl
@[simp] theorem State.modLink_log (f : LinkSt → LinkSt) : (s.modLink f).log = s.log := rfl
@[simp] theorem State.modLink_host (f : LinkSt → LinkSt) : (s.modLink f).host = s.host := rfl
@[simp] theorem State.modLink_time (f : LinkSt → LinkSt) : (s.modLink f).time = s.time := rfl
@[simp] theorem State.modLink_wc (f : LinkSt → LinkSt) : (s.modLink f).wc = s.wc := rfl
@[simp] theorem State.modLink_mem (f : LinkSt → LinkSt) : (s.modLink f).mem = s.mem := rfl
@[simp] theorem State.modLink_sc (f : LinkSt → LinkSt) : (s.modLink f).sc = s.sc := rfl
@[simp] theorem State.modLink_la (f : LinkSt → LinkSt) : (s.modLink f).la = s.la := rfl
@[simp] theorem State.modLink_laPulse (f : LinkSt → LinkSt) : (s.modLink f).laPulse = s.laPulse := rfl
@[simp] theorem State.modLink_acq (f : LinkSt → LinkSt) : (s.modLink f).acq = s.acq := rfl
@[simp] theorem State.modLink_link (f : LinkSt → LinkSt) : (s.modLink f).link = f s.link := rfl
@[simp] theorem State.modLink_srv (f : LinkSt → LinkSt) : (s.modLink f).srv = s.srv := rfl
@[simp] theorem State.modLink_pl (f : LinkSt → LinkSt) : (s.modLink f).pl = s.pl := rfl
@[simp] theorem State.modLink_opt (f : LinkSt → LinkSt) : (s.modLink f).opt = s.opt := rfl
@[simp] theorem State.modLink_sep (f : LinkSt → LinkSt) : (s.modLink f).sep = s.sep := rfl
@[simp] theorem State.modLink_sf (f : LinkSt → LinkSt) : (s.modLink f).sf = s.sf := rfl
@[simp] theorem State.modLink_twin (f : LinkSt → LinkSt) : (s.modLink f).twin = s.twin := rfl
@[simp] theorem State.modLink_clk (f : LinkSt → LinkSt) : (s.modLink f).clk = s.clk := rfl
@[simp] theorem State.modLink_modeCmd (f : LinkSt → LinkSt) : (s.modLink f).modeCmd = s.modeCmd := rfl
@[simp] theorem State.modLink_modeOver (f : LinkSt → LinkSt) : (s.modLink f).modeOver = s.modeOver := rfl
@[simp] theorem State.modLink_egress (f : LinkSt → LinkSt) : (s.modLink f).egress = s.egress := rfl
@[simp] theorem State.modLink_free (f : LinkSt → LinkSt) : (s.modLink f).free = s.free := rfl
@[simp] theorem State.modLink_pending (f : LinkSt → LinkSt) : (s.modLink f).pending = s.pending := rfl
@[simp] theorem State.modLink_reg (f : LinkSt → LinkSt) (r : Nat) : (s.modLink f).reg r = s.reg r := rfl
@[simp] theorem State.modLink_fld (f : LinkSt → LinkSt) (r : Nat) (x : Fld) : (s.modLink f).fld r x = s.fld r x := rfl
@[simp] theorem State.modLink_flag (f : LinkSt → LinkSt) (r : Nat) (x : Fld) : (s.modLink f).flag r x = s.flag r x := rfl

@[simp] theorem State.modPl_regs (f : PlSt → PlSt) : (s.modPl f).regs = s.regs := rfl
@[simp] theorem State.modPl_log (f : PlSt → PlSt) : (s.modPl f).log = s.log := rfl
@[simp] theorem State.modPl_host (f : PlSt → PlSt) : (s.modPl f).host = s.host := rfl
@[simp] theorem State.modPl_time (f : PlSt → PlSt) : (s.modPl f).time = s.time := rfl
@[simp] theorem State.modPl_wc (f : PlSt → PlSt) : (s.modPl f).wc = s.wc := rfl
@[simp] theorem State.modPl_mem (f : PlSt → PlSt) : (s.modPl f).mem = s.mem := rfl
@[simp] theorem State.modPl_sc (f : PlSt → PlSt) : (s.modPl f).sc = s.sc := rfl
@[simp] theorem State.modPl_la (f : PlSt → PlSt) : (s.modPl f).la = s.la := rfl
@[simp] theorem State.modPl_laPulse (f : PlSt → PlSt) : (s.modPl f).laPulse = s.laPulse := rfl
@[simp] theorem State.modPl_acq (f : PlSt → PlSt) : (s.modPl f).acq = s.acq := rfl
@[simp] theorem State.modPl_link (f : PlSt → PlSt) : (s.modPl f).link = s.link := rfl
@[simp] theorem State.modPl_srv (f : PlSt → PlSt) : (s.modPl f).srv = s.srv := rfl
@[simp] theorem State.modPl_pl (f : PlSt → PlSt) : (s.modPl f).pl = f s.pl := rfl
@[simp] theorem State.modPl_opt (f : PlSt → PlSt) : (s.modPl f).opt = s.opt := rfl
@[simp] theorem State.modPl_sep (f : PlSt → PlSt) : (s.modPl f).sep = s.sep := rfl
@[simp] theorem State.modPl_sf (f : PlSt → PlSt) : (s.modPl f).sf = s.sf := rfl
@[simp] theorem State.modPl_twin (f : PlSt → PlSt) : (s.modPl f).twin = s.twin := rfl
@[simp] theorem State.modPl_clk (f : PlSt → PlSt) : (s.modPl f).clk = s.clk := rfl
@[simp] theorem State.modPl_modeCmd (f : PlSt → PlSt) : (s.modPl f).modeCmd = s.modeCmd := rfl
@[simp] theorem State.modPl_modeOver (f : PlSt → PlSt) : (s.modPl f).modeOver = s.modeOver := rfl
@[simp] theorem State.modPl_egress (f : PlSt → PlSt) : (s.modPl f).egress = s.egress := rfl
@[simp] theorem State.modPl_free (f : PlSt → PlSt) : (s.modPl f).free = s.free := rfl
@[simp] theorem State.modPl_pending (f : PlSt → PlSt) : (s.modPl f).pending = s.pending := rfl
@[simp] theorem State.modPl_reg (f : PlSt → PlSt) (r : Nat) : (s.modPl f).reg r = s.reg r := rfl
@[simp] theorem State.modPl_fld (f : PlSt → PlSt) (r : Nat) (x : Fld) : (s.modPl f).fld r x = s.fld r x := rfl
@[simp] theorem State.modPl_flag (f : PlSt → PlSt) (r : Nat) (x : Fld) : (s.modPl f).flag r x = s.flag r x := rfl

@[simp] theorem State.modPg_regs (g : Nat) (f : PlGrp → PlGrp) : (s.modPg g f).regs = s.regs := rfl
@[simp] theorem State.modPg_log (g : Nat) (f : PlGrp → PlGrp) : (s.modPg g f).log = s.log := rfl
@[simp] theorem State.modPg_host (g : Nat) (f : PlGrp → PlGrp) : (s.modPg g f).host = s.host := rfl
@[simp] theorem State.modPg_time (g : Nat) (f : PlGrp → PlGrp) : (s.modPg g f).time = s.time := rfl
@[simp] theorem State.modPg_wc (g : Nat) (f : PlGrp → PlGrp) : (s.modPg g f).wc = s.wc := rfl
@[simp] theorem State.modPg_mem (g : Nat) (f : PlGrp → PlGrp) : (s.modPg g f).mem = s.mem := rfl
@[simp] theorem State.modPg_sc (g : Nat) (f : PlGrp → PlGrp) : (s.modPg g f).sc = s.sc := rfl
@[simp] theorem State.modPg_la (g : Nat) (f : PlGrp → PlGrp) : (s.modPg g f).la = s.la := rfl
@[simp] theorem State.modPg_laPulse (g : Nat) (f : PlGrp → PlGrp) : (s.modPg g f).laPulse = s.laPulse := rfl
@[simp] theorem State.modPg_acq (g : Nat) (f : PlGrp → PlGrp) : (s.modPg g f).acq = s.acq := rfl
@[simp] theorem State.modPg_link (g : Nat) (f : PlGrp → PlGrp) : (s.modPg g f).link = s.link := rfl
@[simp] theorem State.modPg_srv (g : Nat) (f : PlGrp → PlGrp) : (s.modPg g f).srv = s.srv := rfl
@[simp] theorem State.modPg_opt (g : Nat) (f : PlGrp → PlGrp) : (s.modPg g f).opt = s.opt := rfl
@[simp] theorem State.modPg_sep (g : Nat) (f : PlGrp → PlGrp) : (s.modPg g f).sep = s.sep := rfl
@[simp] theorem State.modPg_sf (g : Nat) (f : PlGrp → PlGrp) : (s.modPg g f).sf = s.sf := rfl
@[simp] theorem State.modPg_twin (g : Nat) (f : PlGrp → PlGrp) : (s.modPg g f).twin = s.twin := rfl
@[simp] theorem State.modPg_clk (g : Nat) (f : PlGrp → PlGrp) : (s.modPg g f).clk = s.clk := rfl
@[simp] theorem State.modPg_modeCmd (g : Nat) (f : PlGrp → PlGrp) : (s.modPg g f).modeCmd = s.modeCmd := rfl
@[simp] theorem State.modPg_modeOver (g : Nat) (f : PlGrp → PlGrp) : (s.modPg g f).modeOver = s.modeOver := rfl
@[simp] theorem State.modPg_egress (g : Nat) (f : PlGrp → PlGrp) : (s.modPg g f).egress = s.egress := rfl
@[simp] theorem State.modPg_free (g : Nat) (f : PlGrp → PlGrp) : (s.modPg g f).free = s.free := rfl
@[simp] theorem State.modPg_pending (g : Nat) (f : PlGrp → PlGrp) : (s.modPg g f).pending = s.pending := rfl
@[simp] theorem State.modPg_reg (g : Nat) (f : PlGrp → PlGrp) (r : Nat) : (s.modPg g f).reg r = s.reg r := rfl
@[simp] theorem State.modPg_fld (g : Nat) (f : PlGrp → PlGrp) (r : Nat) (x : Fld) : (s.modPg g f).fld r x = s.fld r x := rfl
@[simp] theorem State.modPg_flag (g : Nat) (f : PlGrp → PlGrp) (r : Nat) (x : Fld) : (s.modPg g f).flag r x = s.flag r x := rfl

@[simp] theorem State.modOpt_regs (f : OptSt → OptSt) : (s.modOpt f).regs = s.regs := rfl
@[simp] theorem State.modOpt_log (f : OptSt → OptSt) : (s.modOpt f).log = s.log := rfl
@[simp] theorem State.modOpt_host (f : OptSt → OptSt) : (s.modOpt f).host = s.host := rfl
@[simp] theorem State.modOpt_time (f : OptSt → OptSt) : (s.modOpt f).time = s.time := rfl
@[simp] theorem State.modOpt_wc (f : OptSt → OptSt) : (s.modOpt f).wc = s.wc := rfl
@[simp] theorem State.modOpt_mem (f : OptSt → OptSt) : (s.modOpt f).mem = s.mem := rfl
@[simp] theorem State.modOpt_sc (f : OptSt → OptSt) : (s.modOpt f).sc = s.sc := rfl
@[simp] theorem State.modOpt_la (f : OptSt → OptSt) : (s.modOpt f).la = s.la := rfl
@[simp] theorem State.modOpt_laPulse (f : OptSt → OptSt) : (s.modOpt f).laPulse = s.laPulse := rfl
@[simp] theorem State.modOpt_acq (f : OptSt → OptSt) : (s.modOpt f).acq = s.acq := rfl
@[simp] theorem State.modOpt_link (f : OptSt → OptSt) : (s.modOpt f).link = s.link := rfl
@[simp] theorem State.modOpt_srv (f : OptSt → OptSt) : (s.modOpt f).srv = s.srv := rfl
@[simp] theorem State.modOpt_pl (f : OptSt → OptSt) : (s.modOpt f).pl = s.pl := rfl
@[simp] theorem State.modOpt_opt (f : OptSt → OptSt) : (s.modOpt f).opt = f s.opt := rfl
@[simp] theorem State.modOpt_sep (f : OptSt → OptSt) : (s.modOpt f).sep = s.sep := rfl
@[simp] theorem State.modOpt_sf (f : OptSt → OptSt) : (s.modOpt f).sf = s.sf := rfl
@[simp] theorem State.modOpt_twin (f : OptSt → OptSt) : (s.modOpt f).twin = s.twin := rfl
@[simp] theorem State.modOpt_clk (f : OptSt → OptSt) : (s.modOpt f).clk = s.clk := rfl
@[simp] theorem State.modOpt_modeCmd (f : OptSt → OptSt) : (s.modOpt f).modeCmd = s.modeCmd := rfl
@[simp] theorem State.modOpt_modeOver (f : OptSt → OptSt) : (s.modOpt f).modeOver = s.modeOver := rfl
@[simp] theorem State.modOpt_egress (f : OptSt → OptSt) : (s.modOpt f).egress = s.egress := rfl
@[simp] theorem State.modOpt_free (f : OptSt → OptSt) : (s.modOpt f).free = s.free := rfl
@[simp] theorem State.modOpt_pending (f : OptSt → OptSt) : (s.modOpt f).pending = s.pending := rfl
@[simp] theorem State.modOpt_reg (f : OptSt → OptSt) (r : Nat) : (s.modOpt f).reg r = s.reg r := rfl
@[simp] theorem State.modOpt_fld (f : OptSt → OptSt) (r : Nat) (x : Fld) : (s.modOpt f).fld r x = s.fld r x := rfl
@[simp] theorem State.modOpt_flag (f : OptSt → OptSt) (r : Nat) (x : Fld) : (s.modOpt f).flag r x = s.flag r x := rfl

@[simp] theorem State.modOg_regs (g : Nat) (f : OptGrp → OptGrp) : (s.modOg g f).regs = s.regs := rfl
@[simp] theorem State.modOg_log (g : Nat) (f : OptGrp → OptGrp) : (s.modOg g f).log = s.log := rfl
@[simp] theorem State.modOg_host (g : Nat) (f : OptGrp → OptGrp) : (s.modOg g f).host = s.host := rfl
@[simp] theorem State.modOg_time (g : Nat) (f : OptGrp → OptGrp) : (s.modOg g f).time = s.time := rfl
@[simp] theorem State.modOg_wc (g : Nat) (f : OptGrp → OptGrp) : (s.modOg g f).wc = s.wc := rfl
@[simp] theorem State.modOg_mem (g : Nat) (f : OptGrp → OptGrp) : (s.modOg g f).mem = s.mem := rfl
@[simp] theorem State.modOg_sc (g : Nat) (f : OptGrp → OptGrp) : (s.modOg g f).sc = s.sc := rfl
@[simp] theorem State.modOg_la (g : Nat) (f : OptGrp → OptGrp) : (s.modOg g f).la = s.la := rfl
@[simp] theorem State.modOg_laPulse (g : Nat) (f : OptGrp → OptGrp) : (s.modOg g f).laPulse = s.laPulse := rfl
@[simp] theorem State.modOg_acq (g : Nat) (f : OptGrp → OptGrp) : (s.modOg g f).acq = s.acq := rfl
@[simp] theorem State.modOg_link (g : Nat) (f : OptGrp → OptGrp) : (s.modOg g f).link = s.link := rfl
@[simp] theorem State.modOg_srv (g : Nat) (f : OptGrp → OptGrp) : (s.modOg g f).srv = s.srv := rfl
@[simp] theorem State.modOg_pl (g : Nat) (f : OptGrp → OptGrp) : (s.modOg g f).pl = s.pl := rfl
@[simp] theorem State.modOg_sep (g : Nat) (f : OptGrp → OptGrp) : (s.modOg g f).sep = s.sep := rfl
@[simp] theorem State.modOg_sf (g : Nat) (f : OptGrp → OptGrp) : (s.modOg g f).sf = s.sf := rfl
@[simp] theorem State.modOg_twin (g : Nat) (f : OptGrp → OptGrp) : (s.modOg g f).twin = s.twin := rfl
@[simp] theorem State.modOg_clk (g : Nat) (f : OptGrp → OptGrp) : (s.modOg g f).clk = s.clk := rfl
@[simp] theorem State.modOg_modeCmd (g : Nat) (f : OptGrp → OptGrp) : (s.modOg g f).modeCmd = s.modeCmd := rfl
@[simp] theorem State.modOg_modeOver (g : Nat) (f : OptGrp → OptGrp) : (s.modOg g f).modeOver = s.modeOver := rfl
@[simp] theorem State.modOg_egress (g : Nat) (f : OptGrp → OptGrp) : (s.modOg g f).egress = s.egress := rfl
@[simp] theorem State.modOg_free (g : Nat) (f : OptGrp → OptGrp) : (s.modOg g f).free = s.free := rfl
@[simp] theorem State.modOg_pending (g : Nat) (f : OptGrp → OptGrp) : (s.modOg g f).pending = s.pending := rfl
@[simp] theorem State.modOg_reg (g : Nat) (f : OptGrp → OptGrp) (r : Nat) : (s.modOg g f).reg r = s.reg r := rfl
@[simp] theorem State.modOg_fld (g : Nat) (f : OptGrp → OptGrp) (r : Nat) (x : Fld) : (s.modOg g f).fld r x = s.fld r x := rfl
@[simp] theorem State.modOg_flag (g : Nat) (f : OptGrp → OptGrp) (r : Nat) (x : Fld) : (s.modOg g f).flag r x = s.flag r x := rfl

@[simp] theorem State.modSep_regs (f : SepSt → SepSt) : (s.modSep f).regs = s.regs := rfl
@[simp] theorem State.modSep_log (f : SepSt → SepSt) : (s.modSep f).log = s.log := rfl
@[simp] theorem State.modSep_host (f : SepSt → SepSt) : (s.modSep f).host = s.host := rfl
@[simp] theorem State.modSep_time (f : SepSt → SepSt) : (s.modSep f).time = s.time := rfl
@[simp] theorem State.modSep_wc (f : SepSt → SepSt) : (s.modSep f).wc = s.wc := rfl
@[simp] theorem State.modSep_mem (f : SepSt → SepSt) : (s.modSep f).mem = s.mem := rfl
@[simp] theorem State.modSep_sc (f : SepSt → SepSt) : (s.modSep f).sc = s.sc := rfl
@[simp] theorem State.modSep_la (f : SepSt → SepSt) : (s.modSep f).la = s.la := rfl
@[simp] theorem State.modSep_laPulse (f : SepSt → SepSt) : (s.modSep f).laPulse = s.laPulse := rfl
@[simp] theorem State.modSep_acq (f : SepSt → SepSt) : (s.modSep f).acq = s.acq := rfl
@[simp] theorem State.modSep_link (f : SepSt → SepSt) : (s.modSep f).link = s.link := rfl
@[simp] theorem State.modSep_srv (f : SepSt → SepSt) : (s.modSep f).srv = s.srv := rfl
@[simp] theorem State.modSep_pl (f : SepSt → SepSt) : (s.modSep f).pl = s.pl := rfl
@[simp] theorem State.modSep_opt (f : SepSt → SepSt) : (s.modSep f).opt = s.opt := rfl
@[simp] theorem State.modSep_sep (f : SepSt → SepSt) : (s.modSep f).sep = f s.sep := rfl
@[simp] theorem State.modSep_sf (f : SepSt → SepSt) : (s.modSep f).sf = s.sf := rfl
@[simp] theorem State.modSep_twin (f : SepSt → SepSt) : (s.modSep f).twin = s.twin := rfl
@[simp] theorem State.modSep_clk (f : SepSt → SepSt) : (s.modSep f).clk = s.clk := rfl
@[simp] theorem State.modSep_modeCmd (f : SepSt → SepSt) : (s.modSep f).modeCmd = s.modeCmd := rfl
@[simp] theorem State.modSep_modeOver (f : SepSt → SepSt) : (s.modSep f).modeOver = s.modeOver := rfl
@[simp] theorem State.modSep_egress (f : SepSt → SepSt) : (s.modSep f).egress = s.egress := rfl
@[simp] theorem State.modSep_free (f : SepSt → SepSt) : (s.modSep f).free = s.free := rfl
@[simp] theorem State.modSep_pending (f : SepSt → SepSt) : (s.modSep f).pending = s.pending := rfl
@[simp] theorem State.modSep_reg (f : SepSt → SepSt) (r : Nat) : (s.modSep f).reg r = s.reg r := rfl
@[simp] theorem State.modSep_fld (f : SepSt → SepSt) (r : Nat) (x : Fld) : (s.modSep f).fld r x = s.fld r x := rfl
@[simp] theorem State.modSep_flag (f : SepSt → SepSt) (r : Nat) (x : Fld) : (s.modSep f).flag r x = s.flag r x := rfl

@[simp] theorem State.modSrv_regs (f : SrvSt → SrvSt) : (s.modSrv f).regs = s.regs := rfl
@[simp] theorem State.modSrv_log (f : SrvSt → SrvSt) : (s.modSrv f).log = s.log := rfl
@[simp] theorem State.modSrv_host (f : SrvSt → SrvSt) : (s.modSrv f).host = s.host := rfl
@[simp] theorem State.modSrv_time (f : SrvSt → SrvSt) : (s.modSrv f).time = s.time := rfl
@[simp] theorem State.modSrv_wc (f : SrvSt → SrvSt) : (s.modSrv f).wc = s.wc := rfl
@[simp] theorem State.modSrv_mem (f : SrvSt → SrvSt) : (s.modSrv f).mem = s.mem := rfl
@[simp] theorem State.modSrv_sc (f : SrvSt → SrvSt) : (s.modSrv f).sc = s.sc := rfl
@[simp] theorem State.modSrv_la (f : SrvSt → SrvSt) : (s.modSrv f).la = s.la := rfl
@[simp] theorem State.modSrv_laPulse (f : SrvSt → SrvSt) : (s.modSrv f).laPulse = s.laPulse := rfl
@[simp] theorem State.modSrv_acq (f : SrvSt → SrvSt) : (s.modSrv f).acq = s.acq := rfl
@[simp] theorem State.modSrv_link (f : SrvSt → SrvSt) : (s.modSrv f).link = s.link := rfl
@[simp] theorem State.modSrv_srv (f : SrvSt → SrvSt) : (s.modSrv f).srv = f s.srv := rfl
@[simp] theorem State.modSrv_pl (f : SrvSt → SrvSt) : (s.modSrv f).pl = s.pl := rfl
@[simp] theorem State.modSrv_opt (f : SrvSt → SrvSt) : (s.modSrv f).opt = s.opt := rfl
@[simp] theorem State.modSrv_sep (f : SrvSt → SrvSt) : (s.modSrv f).sep = s.sep := rfl
@[simp] theorem State.modSrv_sf (f : SrvSt → SrvSt) : (s.modSrv f).sf = s.sf := rfl
@[simp] theorem State.modSrv_twin (f : SrvSt → SrvSt) : (s.modSrv f).twin = s.twin := rfl
@[simp] theorem State.modSrv_clk (f : SrvSt → SrvSt) : (s.modSrv f).clk = s.clk := rfl
@[simp] theorem State.modSrv_modeCmd (f : SrvSt → SrvSt) : (s.modSrv f).modeCmd = s.modeCmd := rfl
@[simp] theorem State.modSrv_modeOver (f : SrvSt → SrvSt) : (s.modSrv f).modeOver = s.modeOver := rfl
@[simp] theorem State.modSrv_egress (f : SrvSt → SrvSt) : (s.modSrv f).egress = s.egress := rfl
@[simp] theorem State.modSrv_free (f : SrvSt → SrvSt) : (s.modSrv f).free = s.free := rfl
@[simp] theorem State.modSrv_pending (f : SrvSt → SrvSt) : (s.modSrv f).pending = s.pending := rfl
@[simp] theorem State.modSrv_reg (f : SrvSt → SrvSt) (r : Nat) : (s.modSrv f).reg r = s.reg r := rfl
@[simp] theorem State.modSrv_fld (f : SrvSt → SrvSt) (r : Nat) (x : Fld) : (s.modSrv f).fld r x = s.fld r x := rfl
@[simp] theorem State.modSrv_flag (f : SrvSt → SrvSt) (r : Nat) (x : Fld) : (s.modSrv f).flag r x = s.flag r x := rfl

@[simp] theorem State.modSf_regs (f : SfSt → SfSt) : (s.modSf f).regs = s.regs := rfl
@[simp] theorem State.modSf_log (f : SfSt → SfSt) : (s.modSf f).log = s.log := rfl
@[simp] theorem State.modSf_host (f : SfSt → SfSt) : (s.modSf f).host = s.host := rfl
@[simp] theorem State.modSf_time (f : SfSt → SfSt) : (s.modSf f).time = s.time := rfl
@[simp] theorem State.modSf_wc (f : SfSt → SfSt) : (s.modSf f).wc = s.wc := rfl
@[simp] theorem State.modSf_mem (f : SfSt → SfSt) : (s.modSf f).mem = s.mem := rfl
@[simp] theorem State.modSf_sc (f : SfSt → SfSt) : (s.modSf f).sc = s.sc := rfl
@[simp] theorem State.modSf_la (f : SfSt → SfSt) : (s.modSf f).la = s.la := rfl
@[simp] theorem State.modSf_laPulse (f : SfSt → SfSt) : (s.modSf f).laPulse = s.laPulse := rfl
@[simp] theorem State.modSf_acq (f : SfSt → SfSt) : (s.modSf f).acq = s.acq := rfl
@[simp] theorem State.modSf_link (f : SfSt → SfSt) : (s.modSf f).link = s.link := rfl
@[simp] theorem State.modSf_srv (f : SfSt → SfSt) : (s.modSf f).srv = s.srv := rfl
@[simp] theorem State.modSf_pl (f : SfSt → SfSt) : (s.modSf f).pl = s.pl := rfl
@[simp] theorem State.modSf_opt (f : SfSt → SfSt) : (s.modSf f).opt = s.opt := rfl
@[simp] theorem State.modSf_sep (f : SfSt → SfSt) : (s.modSf f).sep = s.sep := rfl
@[simp] theorem State.modSf_sf (f : SfSt → SfSt) : (s.modSf f).sf = f s.sf := rfl
@[simp] theorem State.modSf_twin (f : SfSt → SfSt) : (s.modSf f).twin = s.twin := rfl
@[simp] theorem State.modSf_clk (f : SfSt → SfSt) : (s.modSf f).clk = s.clk := rfl
@[simp] theorem State.modSf_modeCmd (f : SfSt → SfSt) : (s.modSf f).modeCmd = s.modeCmd := rfl
@[simp] theorem State.modSf_modeOver (f : SfSt → SfSt) : (s.modSf f).modeOver = s.modeOver := rfl
@[simp] theorem State.modSf_egress (f : SfSt → SfSt) : (s.modSf f).egress = s.egress := rfl
@[simp] theorem State.modSf_free (f : SfSt → SfSt) : (s.modSf f).free = s.free := rfl
@[simp] theorem State.modSf_pending (f : SfSt → SfSt) : (s.modSf f).pending = s.pending := rfl
@[simp] theorem State.modSf_reg (f : SfSt → SfSt) (r : Nat) : (s.modSf f).reg r = s.reg r := rfl
@[simp] theorem State.modSf_fld (f : SfSt → SfSt) (r : Nat) (x : Fld) : (s.modSf f).fld r x = s.fld r x := rfl
@[simp] theorem State.modSf_flag (f : SfSt → SfSt) (r : Nat) (x : Fld) : (s.modSf f).flag r x = s.flag r x := rfl

@[simp] theorem State.modTwin_regs (f : TwinSt → TwinSt) : (s.modTwin f).regs = s.regs := rfl
@[simp] theorem State.modTwin_log (f : TwinSt → TwinSt) : (s.modTwin f).log = s.log := rfl
@[simp] theorem State.modTwin_host (f : TwinSt → TwinSt) : (s.modTwin f).host = s.host := rfl
@[simp] theorem State.modTwin_time (f : TwinSt → TwinSt) : (s.modTwin f).time = s.time := rfl
@[simp] theorem State.modTwin_wc (f : TwinSt → TwinSt) : (s.modTwin f).wc = s.wc := rfl
@[simp] theorem State.modTwin_mem (f : TwinSt → TwinSt) : (s.modTwin f).mem = s.mem := rfl
@[simp] theorem State.modTwin_sc (f : TwinSt → TwinSt) : (s.modTwin f).sc = s.sc := rfl
@[simp] theorem State.modTwin_la (f : TwinSt → TwinSt) : (s.modTwin f).la = s.la := rfl
@[simp] theorem State.modTwin_laPulse (f : TwinSt → TwinSt) : (s.modTwin f).laPulse = s.laPulse := rfl
@[simp] theorem State.modTwin_acq (f : TwinSt → TwinSt) : (s.modTwin f).acq = s.acq := rfl
@[simp] theorem State.modTwin_link (f : TwinSt → TwinSt) : (s.modTwin f).link = s.link := rfl
@[simp] theorem State.modTwin_srv (f : TwinSt → TwinSt) : (s.modTwin f).srv = s.srv := rfl
@[simp] theorem State.modTwin_pl (f : TwinSt → TwinSt) : (s.modTwin f).pl = s.pl := rfl
@[simp] theorem State.modTwin_opt (f : TwinSt → TwinSt) : (s.modTwin f).opt = s.opt := rfl
@[simp] theorem State.modTwin_sep (f : TwinSt → TwinSt) : (s.modTwin f).sep = s.sep := rfl
@[simp] theorem State.modTwin_sf (f : TwinSt → TwinSt) : (s.modTwin f).sf = s.sf := rfl
@[simp] theorem State.modTwin_twin (f : TwinSt → TwinSt) : (s.modTwin f).twin = f s.twin := rfl
@[simp] theorem State.modTwin_clk (f : TwinSt → TwinSt) : (s.modTwin f).clk = s.clk := rfl
@[simp] theorem State.modTwin_modeCmd (f : TwinSt → TwinSt) : (s.modTwin f).modeCmd = s.modeCmd := rfl
@[simp] theorem State.modTwin_modeOver (f : TwinSt → TwinSt) : (s.modTwin f).modeOver = s.modeOver := rfl
@[simp] theorem State.modTwin_egress (f : TwinSt → TwinSt) : (s.modTwin f).egress = s.egress := rfl
@[simp] theorem State.modTwin_free (f : TwinSt → TwinSt) : (s.modTwin f).free = s.free := rfl
@[simp] theorem State.modTwin_pending (f : TwinSt → TwinSt) : (s.modTwin f).pending = s.pending := rfl
@[simp] theorem State.modTwin_reg (f : TwinSt → TwinSt) (r : Nat) : (s.modTwin f).reg r = s.reg r := rfl
@[simp] theorem State.modTwin_fld (f : TwinSt → TwinSt) (r : Nat) (x : Fld) : (s.modTwin f).fld r x = s.fld r x := rfl
@[simp] theorem State.modTwin_flag (f : TwinSt → TwinSt) (r : Nat) (x : Fld) : (s.modTwin f).flag r x = s.flag r x := rfl

@[simp] theorem State.modCk_regs (f : CkSt → CkSt) : (s.modCk f).regs = s.regs := rfl
@[simp] theorem State.modCk_log (f : CkSt → CkSt) : (s.modCk f).log = s.log := rfl
@[simp] theorem State.modCk_host (f : CkSt → CkSt) : (s.modCk f).host = s.host := rfl
@[simp] theorem State.modCk_time (f : CkSt → CkSt) : (s.modCk f).time = s.time := rfl
@[simp] theorem State.modCk_wc (f : CkSt → CkSt) : (s.modCk f).wc = s.wc := rfl
@[simp] theorem State.modCk_mem (f : CkSt → CkSt) : (s.modCk f).mem = s.mem := rfl
@[simp] theorem State.modCk_sc (f : CkSt → CkSt) : (s.modCk f).sc = s.sc := rfl
@[simp] theorem State.modCk_la (f : CkSt → CkSt) : (s.modCk f).la = s.la := rfl
@[simp] theorem State.modCk_laPulse (f : CkSt → CkSt) : (s.modCk f).laPulse = s.laPulse := rfl
@[simp] theorem State.modCk_acq (f : CkSt → CkSt) : (s.modCk f).acq = s.acq := rfl
@[simp] theorem State.modCk_link (f : CkSt → CkSt) : (s.modCk f).link = s.link := rfl
@[simp] theorem State.modCk_srv (f : CkSt → CkSt) : (s.modCk f).srv = s.srv := rfl
@[simp] theorem State.modCk_pl (f : CkSt → CkSt) : (s.modCk f).pl = s.pl := rfl
@[simp] theorem State.modCk_opt (f : CkSt → CkSt) : (s.modCk f).opt = s.opt := rfl
@[simp] theorem State.modCk_sep (f : CkSt → CkSt) : (s.modCk f).sep = s.sep := rfl
@[simp] theorem State.modCk_sf (f : CkSt → CkSt) : (s.modCk f).sf = s.sf := rfl
@[simp] theorem State.modCk_twin (f : CkSt → CkSt) : (s.modCk f).twin = s.twin := rfl
@[simp] theorem State.modCk_clk (f : CkSt → CkSt) : (s.modCk f).clk = f s.clk := rfl
@[simp] theorem State.modCk_modeCmd (f : CkSt → CkSt) : (s.modCk f).modeCmd = s.modeCmd := rfl
@[simp] theorem State.modCk_modeOver (f : CkSt → CkSt) : (s.modCk f).modeOver = s.modeOver := rfl
@[simp] theorem State.modCk_egress (f : CkSt → CkSt) : (s.modCk f).egress = s.egress := rfl
@[simp] theorem State.modCk_free (f : CkSt → CkSt) : (s.modCk f).free = s.free := rfl
@[simp] theorem State.modCk_pending (f : CkSt → CkSt) : (s.modCk f).pending = s.pending := rfl
@[simp] theorem State.modCk_reg (f : CkSt → CkSt) (r : Nat) : (s.modCk f).reg r = s.reg r := rfl
@[simp] theorem State.modCk_fld (f : CkSt → CkSt) (r : Nat) (x : Fld) : (s.modCk f).fld r x = s.fld r x := rfl
@[simp] theorem State.modCk_flag (f : CkSt → CkSt) (r : Nat) (x : Fld) : (s.modCk f).flag r x = s.flag r x := rfl

end Sys2Proof.Machine
end

