-- ==== Sys2Proof/Laws/Tab.lean ====
section
/-!
SUPPORT. The laws of sparse tables: what a read answers after a write or a clear, and that both keep the canonical form.
-/
namespace Sys2Proof.Machine

variable {α : Type} (d : Nat → α)

theorem tabGet_filter_ne (t : Tab α) (k j : Nat) (h : j ≠ k) : tabGet d (t.filter fun e => e.1 != k) j = tabGet d t j := by
  induction t with
  | nil => rfl
  | cons e t ih =>
    by_cases he : e.1 = k
    · have : e.1 ≠ j := fun x => h (x ▸ he)
      simp [he, tabGet, ih, Ne.symm h]
    · simp [he, tabGet, ih]

theorem tabGet_filter_self (t : Tab α) (k : Nat) : tabGet d (t.filter fun e => e.1 != k) k = d k := by
  induction t with
  | nil => rfl
  | cons e t ih =>
    by_cases he : e.1 = k
    · simp [he, ih]
    · simp [he, tabGet, ih]

/-- A read after a write of the same key answers what was written. -/
theorem tabGet_tabSet_self [DecidableEq α] (t : Tab α) (k : Nat) (v : α) : tabGet d (tabSet d t k v) k = v := by
  induction t with
  | nil => by_cases h : v = d k <;> simp [tabSet, tabGet, h]
  | cons e t ih =>
    obtain ⟨i, w⟩ := e
    by_cases hi : i < k
    · simp [tabSet, hi, tabGet, ih, Nat.ne_of_lt hi]
    · by_cases h : v = d k
      · simp only [tabSet, hi, if_false, h, if_true]
        exact tabGet_filter_self d _ k
      · simp [tabSet, hi, h, tabGet]

/-- A write leaves every other key. -/
theorem tabGet_tabSet_of_ne [DecidableEq α] (t : Tab α) (k j : Nat) (v : α) (h : j ≠ k) :
    tabGet d (tabSet d t k v) j = tabGet d t j := by
  induction t with
  | nil => by_cases hv : v = d k <;> simp [tabSet, tabGet, hv, Ne.symm h]
  | cons e t ih =>
    obtain ⟨i, w⟩ := e
    by_cases hi : i < k
    · simp [tabSet, hi, tabGet, ih]
    · have hf := tabGet_filter_ne d ((i, w) :: t) k j h
      by_cases hv : v = d k
      · simp only [tabSet, hi, if_false, hv, if_true]
        exact hf
      · simp only [tabSet, hi, if_false, hv]
        rw [tabGet, if_neg (Ne.symm h), hf]

theorem tabGet_tabSet [DecidableEq α] (t : Tab α) (k j : Nat) (v : α) :
    tabGet d (tabSet d t k v) j = if j = k then v else tabGet d t j := by
  by_cases h : j = k
  · subst h; simp [tabGet_tabSet_self]
  · simp [h, tabGet_tabSet_of_ne]

/-- After a clear the keys of its range read as unlisted, the others as before. -/
theorem tabGet_tabClear (t : Tab α) (lo hi j : Nat) :
    tabGet d (tabClear lo hi t) j = if lo ≤ j ∧ j < hi then d j else tabGet d t j := by
  unfold tabClear
  induction t with
  | nil => simp [tabGet]
  | cons e t ih =>
    obtain ⟨i, w⟩ := e
    by_cases hc : i < lo ∨ hi ≤ i
    · have hb : (decide (i < lo) || decide (hi ≤ i)) = true := by simpa using hc
      rw [List.filter_cons, if_pos hb, tabGet, tabGet, ih]
      by_cases hij : i = j
      · subst hij; rw [if_pos rfl, if_neg (by omega), if_pos rfl]
      · rw [if_neg hij, if_neg hij]
    · have hb : ¬ (decide (i < lo) || decide (hi ≤ i)) = true := by simpa using hc
      rw [List.filter_cons, if_neg hb, ih, tabGet]
      by_cases hij : i = j
      · subst hij; rw [if_pos (by omega), if_pos (by omega)]
      · rw [if_neg hij]

variable [DecidableEq α]

theorem tabWf_mono {t : Tab α} {lo hi : Nat} (h : lo ≤ hi) (w : tabWf d hi t = true) : tabWf d lo t = true := by
  cases t with
  | nil => rfl
  | cons e t => obtain ⟨i, v⟩ := e; simp [tabWf] at *; exact ⟨⟨by omega, w.1.2⟩, w.2⟩

theorem tabWf_filter {t : Tab α} (p : Nat × α → Bool) {lo : Nat} (w : tabWf d lo t = true) : tabWf d lo (t.filter p) = true := by
  induction t generalizing lo with
  | nil => rfl
  | cons e t ih =>
    obtain ⟨i, v⟩ := e
    simp [tabWf] at w
    by_cases hp : p (i, v) = true
    · simp [hp, tabWf]; exact ⟨w.1, ih w.2⟩
    · simp [hp]; exact tabWf_mono d (by omega) (ih w.2)

theorem tabWf_filter_above {t : Tab α} {lo : Nat} (w : tabWf d lo t = true) (k : Nat) (h : k ≤ lo) :
    tabWf d (k + 1) (t.filter fun e => e.1 != k) = true := by
  cases t with
  | nil => rfl
  | cons e t =>
    obtain ⟨i, v⟩ := e
    simp [tabWf] at w
    by_cases hp : i = k
    · subst hp; simp; exact tabWf_filter d _ w.2
    · simp [hp, tabWf]
      exact ⟨⟨by omega, w.1.2⟩, tabWf_filter d _ w.2⟩

/-- A write keeps the canonical form. -/
theorem tabWf_tabSet {t : Tab α} {lo : Nat} (w : tabWf d lo t = true) (k : Nat) (h : lo ≤ k) (v : α) : tabWf d lo (tabSet d t k v) = true := by
  induction t generalizing lo with
  | nil => by_cases hv : v = d k <;> simp [tabSet, tabWf, hv, h]
  | cons e t ih =>
    obtain ⟨i, x⟩ := e
    have w' := w
    simp [tabWf] at w
    by_cases hi : i < k
    · simp [tabSet, hi, tabWf]; exact ⟨w.1, ih w.2 (by omega)⟩
    · have wk : tabWf d k ((i, x) :: t) = true := by simp [tabWf]; exact ⟨⟨by omega, w.1.2⟩, w.2⟩
      have wf := tabWf_filter_above d wk k (Nat.le_refl k)
      by_cases hv : v = d k
      · simp only [tabSet, hi, if_false, hv, if_true]; exact tabWf_mono d (by omega) wf
      · simp only [tabSet, hi, if_false, hv]; simp only [tabWf, h, decide_true, ne_eq, hv, not_false_eq_true, wf, Bool.and_self]

/-- A clear keeps the canonical form. -/
theorem tabWf_tabClear {t : Tab α} {lo : Nat} (w : tabWf d lo t = true) (a b : Nat) : tabWf d lo (tabClear a b t) = true :=
  tabWf_filter d _ w

end Sys2Proof.Machine
end

