-- ==== Sys2Proof/Laws/Registers.lean ====
section
/-!
SUPPORT. The register file: what a register and a field read after a write, what recording a foul and waking a domain can change, and
that each keeps the canonical form.
-/
namespace Sys2Proof.Machine

/-! ### Fields of a word -/

theorem fldOf_lt (v : Word) (f : Fld) : fldOf v f < 2 ^ f.w := Nat.mod_lt _ (Nat.two_pow_pos _)

/-- A word is its bits above a field, the field, and its bits below. -/
theorem fldOf_parts (n lo w : Nat) : n = n / 2 ^ (lo + w) * 2 ^ (lo + w) + n / 2 ^ lo % 2 ^ w * 2 ^ lo + n % 2 ^ lo := by
  have h1 := Nat.div_add_mod n (2 ^ lo)
  have h2 := Nat.div_add_mod (n / 2 ^ lo) (2 ^ w)
  have h3 : n / 2 ^ lo / 2 ^ w = n / 2 ^ (lo + w) := by rw [Nat.div_div_eq_div_mul, ← Nat.pow_add]
  rw [h3] at h2
  have h4 : 2 ^ lo * (n / 2 ^ lo) = n / 2 ^ (lo + w) * 2 ^ (lo + w) + n / 2 ^ lo % 2 ^ w * 2 ^ lo := by
    conv => lhs; rw [← h2]
    simp only [Nat.mul_add, Nat.pow_add, Nat.mul_comm, Nat.mul_assoc]
  omega

/-- A word with a field replaced, as a number. -/
theorem fldPut_toNat (v : Word) (f : Fld) (x : Nat) (h : f.lo + f.w ≤ 32) :
    (fldPut v f x).toNat = v.toNat / 2 ^ (f.lo + f.w) * 2 ^ (f.lo + f.w) + x % 2 ^ f.w * 2 ^ f.lo + v.toNat % 2 ^ f.lo := by
  have hp := fldOf_parts v.toNat f.lo f.w
  have hx : x % 2 ^ f.w < 2 ^ f.w := Nat.mod_lt _ (Nat.two_pow_pos _)
  have hl : v.toNat % 2 ^ f.lo < 2 ^ f.lo := Nat.mod_lt _ (Nat.two_pow_pos _)
  have hv : v.toNat < 2 ^ 32 := v.isLt
  have h32 : (2 : Nat) ^ 32 = 2 ^ (32 - (f.lo + f.w)) * 2 ^ (f.lo + f.w) := by rw [← Nat.pow_add]; congr 1; omega
  have hq : v.toNat / 2 ^ (f.lo + f.w) < 2 ^ (32 - (f.lo + f.w)) := by
    apply Nat.div_lt_of_lt_mul; rw [Nat.mul_comm, ← h32]; exact hv
  have hlow : x % 2 ^ f.w * 2 ^ f.lo + v.toNat % 2 ^ f.lo < 2 ^ (f.lo + f.w) := by
    have h1 : (x % 2 ^ f.w + 1) * 2 ^ f.lo ≤ 2 ^ f.w * 2 ^ f.lo := Nat.mul_le_mul_right _ hx
    rw [Nat.add_mul, Nat.one_mul] at h1
    rw [Nat.pow_add, Nat.mul_comm (2 ^ f.lo)]
    omega
  have hb : v.toNat / 2 ^ (f.lo + f.w) * 2 ^ (f.lo + f.w) + (x % 2 ^ f.w * 2 ^ f.lo + v.toNat % 2 ^ f.lo) < 2 ^ 32 := by
    have h1 : (v.toNat / 2 ^ (f.lo + f.w) + 1) * 2 ^ (f.lo + f.w) ≤ 2 ^ (32 - (f.lo + f.w)) * 2 ^ (f.lo + f.w) := Nat.mul_le_mul_right _ hq
    rw [Nat.add_mul, Nat.one_mul, ← h32] at h1
    omega
  unfold fldPut fldOf
  rw [BitVec.toNat_ofNat]
  have : v.toNat - v.toNat / 2 ^ f.lo % 2 ^ f.w * 2 ^ f.lo + x % 2 ^ f.w * 2 ^ f.lo =
      v.toNat / 2 ^ (f.lo + f.w) * 2 ^ (f.lo + f.w) + x % 2 ^ f.w * 2 ^ f.lo + v.toNat % 2 ^ f.lo := by omega
  rw [this]
  exact Nat.mod_eq_of_lt (by omega)

/-- A field reads what was put into it. -/
theorem fldOf_fldPut_self (v : Word) (f : Fld) (x : Nat) (h : f.lo + f.w ≤ 32) : fldOf (fldPut v f x) f = x % 2 ^ f.w := by
  have hx : x % 2 ^ f.w < 2 ^ f.w := Nat.mod_lt _ (Nat.two_pow_pos _)
  have hl : v.toNat % 2 ^ f.lo < 2 ^ f.lo := Nat.mod_lt _ (Nat.two_pow_pos _)
  unfold fldOf
  rw [fldPut_toNat v f x h]
  have : v.toNat / 2 ^ (f.lo + f.w) * 2 ^ (f.lo + f.w) + x % 2 ^ f.w * 2 ^ f.lo + v.toNat % 2 ^ f.lo =
      2 ^ f.lo * (2 ^ f.w * (v.toNat / 2 ^ (f.lo + f.w)) + x % 2 ^ f.w) + v.toNat % 2 ^ f.lo := by
    simp only [Nat.pow_add, Nat.mul_add, Nat.mul_comm, Nat.mul_assoc]
  rw [this, Nat.mul_add_div (Nat.two_pow_pos _), Nat.div_eq_of_lt hl, Nat.add_zero, Nat.mul_add_mod, Nat.mod_eq_of_lt hx]

/-- A field below or above keeps its value. -/
theorem fldOf_fldPut_of_disjoint (v : Word) (f g : Fld) (x : Nat) (h : f.lo + f.w ≤ 32) (d : g.lo + g.w ≤ f.lo ∨ f.lo + f.w ≤ g.lo) :
    fldOf (fldPut v f x) g = fldOf v g := by
  have hx : x % 2 ^ f.w < 2 ^ f.w := Nat.mod_lt _ (Nat.two_pow_pos _)
  have hl : v.toNat % 2 ^ f.lo < 2 ^ f.lo := Nat.mod_lt _ (Nat.two_pow_pos _)
  unfold fldOf
  rw [fldPut_toNat v f x h]
  rcases d with d | d
  · -- the field lies below: both words agree modulo 2 ^ f.lo
    have key : ∀ n m : Nat, n % 2 ^ f.lo = m % 2 ^ f.lo → n / 2 ^ g.lo % 2 ^ g.w = m / 2 ^ g.lo % 2 ^ g.w := by
      intro n m e
      have r (k : Nat) : k / 2 ^ g.lo % 2 ^ g.w = k % 2 ^ f.lo / 2 ^ g.lo % 2 ^ g.w := by
        have e1 : k / 2 ^ g.lo % 2 ^ g.w = k % 2 ^ (g.lo + g.w) / 2 ^ g.lo := by
          rw [Nat.pow_add, Nat.mod_mul_right_div_self]
        have e2 : k % 2 ^ f.lo % 2 ^ (g.lo + g.w) = k % 2 ^ (g.lo + g.w) := Nat.mod_mod_of_dvd _ (Nat.pow_dvd_pow 2 d)
        have e3 : k % 2 ^ f.lo / 2 ^ g.lo % 2 ^ g.w = k % 2 ^ f.lo % 2 ^ (g.lo + g.w) / 2 ^ g.lo := by
          rw [Nat.pow_add, Nat.mod_mul_right_div_self]
        rw [e1, e3, e2]
      rw [r n, r m, e]
    apply key
    have : v.toNat / 2 ^ (f.lo + f.w) * 2 ^ (f.lo + f.w) + x % 2 ^ f.w * 2 ^ f.lo + v.toNat % 2 ^ f.lo =
        2 ^ f.lo * (2 ^ f.w * (v.toNat / 2 ^ (f.lo + f.w)) + x % 2 ^ f.w) + v.toNat % 2 ^ f.lo := by
      simp only [Nat.pow_add, Nat.mul_add, Nat.mul_comm, Nat.mul_assoc]
    rw [this, Nat.mul_add_mod, Nat.mod_mod]
  · -- the field lies above: both words agree above 2 ^ (f.lo + f.w)
    have e (n : Nat) : n / 2 ^ g.lo = n / 2 ^ (f.lo + f.w) / 2 ^ (g.lo - (f.lo + f.w)) := by
      rw [Nat.div_div_eq_div_mul, ← Nat.pow_add]; congr 2; omega
    have hlow : x % 2 ^ f.w * 2 ^ f.lo + v.toNat % 2 ^ f.lo < 2 ^ (f.lo + f.w) := by
      have h1 : (x % 2 ^ f.w + 1) * 2 ^ f.lo ≤ 2 ^ f.w * 2 ^ f.lo := Nat.mul_le_mul_right _ hx
      rw [Nat.add_mul, Nat.one_mul] at h1
      rw [Nat.pow_add, Nat.mul_comm (2 ^ f.lo)]
      omega
    rw [e, e v.toNat]
    have : (v.toNat / 2 ^ (f.lo + f.w) * 2 ^ (f.lo + f.w) + x % 2 ^ f.w * 2 ^ f.lo + v.toNat % 2 ^ f.lo) / 2 ^ (f.lo + f.w) =
        v.toNat / 2 ^ (f.lo + f.w) := by
      rw [Nat.add_assoc, Nat.mul_comm (v.toNat / 2 ^ (f.lo + f.w)), Nat.mul_add_div (Nat.two_pow_pos _), Nat.div_eq_of_lt hlow, Nat.add_zero]
    rw [this]

/-! ### Registers -/

variable (s : State)

theorem State.reg_setReg (o r : Nat) (v : Word) : (s.setReg o v).reg r = if r = o then v else s.reg r := tabGet_tabSet _ _ _ _ _

@[simp] theorem State.reg_setReg_self (o : Nat) (v : Word) : (s.setReg o v).reg o = v := tabGet_tabSet_self _ _ _ _

theorem State.reg_setReg_of_ne {o r : Nat} (h : r ≠ o) (v : Word) : (s.setReg o v).reg r = s.reg r := tabGet_tabSet_of_ne _ _ _ _ _ h

theorem State.reg_put_of_ne {o r : Nat} (h : r ≠ o) (f : Fld) (x : Nat) : (s.put o f x).reg r = s.reg r := s.reg_setReg_of_ne h _

theorem State.fld_put_self (o : Nat) (f : Fld) (x : Nat) (h : f.lo + f.w ≤ 32) : (s.put o f x).fld o f = x % 2 ^ f.w := by
  unfold State.fld State.put; rw [State.reg_setReg_self]; exact fldOf_fldPut_self _ _ _ h

theorem State.fld_put_of_ne {o r : Nat} (h : r ≠ o) (f g : Fld) (x : Nat) : (s.put o f x).fld r g = s.fld r g := by
  unfold State.fld; rw [State.reg_put_of_ne s h]

theorem State.fld_put_of_disjoint (o : Nat) (f g : Fld) (x : Nat) (h : f.lo + f.w ≤ 32) (d : g.lo + g.w ≤ f.lo ∨ f.lo + f.w ≤ g.lo) :
    (s.put o f x).fld o g = s.fld o g := by
  unfold State.fld State.put; rw [State.reg_setReg_self]; exact fldOf_fldPut_of_disjoint _ _ _ _ h d

theorem State.regsWf_setReg {s : State} (w : s.regsWf) (o : Nat) (v : Word) : (s.setReg o v).regsWf := tabWf_tabSet _ w o (Nat.zero_le _) v

theorem State.regsWf_put {s : State} (w : s.regsWf) (o : Nat) (f : Fld) (x : Nat) : (s.put o f x).regsWf := State.regsWf_setReg w o _

theorem State.regsWf_clearRegs {s : State} (w : s.regsWf) (lo hi : Nat) : (s.clearRegs lo hi).regsWf := tabWf_tabClear _ w lo hi

theorem State.reset_regsWf : State.reset.regsWf := rfl

end Sys2Proof.Machine
end

