-- ==== Sys2Proof/Laws/Answers.lean ====
section
/-!
SUPPORT. What the shared operations that record, wake, signal, answer and journal can change: every other part of the state reads as
before, the register table keeps its canonical form; and when a judged command runs.
-/
namespace Sys2Proof.Machine

variable (s : State)

@[simp] theorem State.post_host (code src : Nat) (d : BitVec 128) : (s.post code src d).host = s.host := by simp only [State.post]; split <;> rfl
@[simp] theorem State.post_time (code src : Nat) (d : BitVec 128) : (s.post code src d).time = s.time := by simp only [State.post]; split <;> rfl
@[simp] theorem State.post_wc (code src : Nat) (d : BitVec 128) : (s.post code src d).wc = s.wc := by simp only [State.post]; split <;> rfl
@[simp] theorem State.post_mem (code src : Nat) (d : BitVec 128) : (s.post code src d).mem = s.mem := by simp only [State.post]; split <;> rfl
@[simp] theorem State.post_sc (code src : Nat) (d : BitVec 128) : (s.post code src d).sc = s.sc := by simp only [State.post]; split <;> rfl
@[simp] theorem State.post_la (code src : Nat) (d : BitVec 128) : (s.post code src d).la = s.la := by simp only [State.post]; split <;> rfl
@[simp] theorem State.post_laPulse (code src : Nat) (d : BitVec 128) : (s.post code src d).laPulse = s.laPulse := by simp only [State.post]; split <;> rfl
@[simp] theorem State.post_acq (code src : Nat) (d : BitVec 128) : (s.post code src d).acq = s.acq := by simp only [State.post]; split <;> rfl
@[simp] theorem State.post_link (code src : Nat) (d : BitVec 128) : (s.post code src d).link = s.link := by simp only [State.post]; split <;> rfl
@[simp] theorem State.post_srv (code src : Nat) (d : BitVec 128) : (s.post code src d).srv = s.srv := by simp only [State.post]; split <;> rfl
@[simp] theorem State.post_pl (code src : Nat) (d : BitVec 128) : (s.post code src d).pl = s.pl := by simp only [State.post]; split <;> rfl
@[simp] theorem State.post_opt (code src : Nat) (d : BitVec 128) : (s.post code src d).opt = s.opt := by simp only [State.post]; split <;> rfl
@[simp] theorem State.post_sep (code src : Nat) (d : BitVec 128) : (s.post code src d).sep = s.sep := by simp only [State.post]; split <;> rfl
@[simp] theorem State.post_sf (code src : Nat) (d : BitVec 128) : (s.post code src d).sf = s.sf := by simp only [State.post]; split <;> rfl
@[simp] theorem State.post_twin (code src : Nat) (d : BitVec 128) : (s.post code src d).twin = s.twin := by simp only [State.post]; split <;> rfl
@[simp] theorem State.post_clk (code src : Nat) (d : BitVec 128) : (s.post code src d).clk = s.clk := by simp only [State.post]; split <;> rfl
@[simp] theorem State.post_modeCmd (code src : Nat) (d : BitVec 128) : (s.post code src d).modeCmd = s.modeCmd := by simp only [State.post]; split <;> rfl
@[simp] theorem State.post_modeOver (code src : Nat) (d : BitVec 128) : (s.post code src d).modeOver = s.modeOver := by simp only [State.post]; split <;> rfl
@[simp] theorem State.post_egress (code src : Nat) (d : BitVec 128) : (s.post code src d).egress = s.egress := by simp only [State.post]; split <;> rfl
@[simp] theorem State.post_free (code src : Nat) (d : BitVec 128) : (s.post code src d).free = s.free := by simp only [State.post]; split <;> rfl
@[simp] theorem State.post_pending (code src : Nat) (d : BitVec 128) : (s.post code src d).pending = s.pending := by simp only [State.post]; split <;> rfl

theorem State.regsWf_post {s : State} (w : s.regsWf) (code src : Nat) (d : BitVec 128) : (s.post code src d).regsWf := by
  simp only [State.post]; split
  · exact w
  · exact State.regsWf_setReg (s := { s with log := _ }) w _ _

@[simp] theorem State.postB_host (code : Nat) (d : List (Nat × Nat × Nat)) : (s.postB code d).host = s.host := by simp [State.postB]
@[simp] theorem State.postB_time (code : Nat) (d : List (Nat × Nat × Nat)) : (s.postB code d).time = s.time := by simp [State.postB]
@[simp] theorem State.postB_wc (code : Nat) (d : List (Nat × Nat × Nat)) : (s.postB code d).wc = s.wc := by simp [State.postB]
@[simp] theorem State.postB_mem (code : Nat) (d : List (Nat × Nat × Nat)) : (s.postB code d).mem = s.mem := by simp [State.postB]
@[simp] theorem State.postB_sc (code : Nat) (d : List (Nat × Nat × Nat)) : (s.postB code d).sc = s.sc := by simp [State.postB]
@[simp] theorem State.postB_la (code : Nat) (d : List (Nat × Nat × Nat)) : (s.postB code d).la = s.la := by simp [State.postB]
@[simp] theorem State.postB_laPulse (code : Nat) (d : List (Nat × Nat × Nat)) : (s.postB code d).laPulse = s.laPulse := by simp [State.postB]
@[simp] theorem State.postB_acq (code : Nat) (d : List (Nat × Nat × Nat)) : (s.postB code d).acq = s.acq := by simp [State.postB]
@[simp] theorem State.postB_link (code : Nat) (d : List (Nat × Nat × Nat)) : (s.postB code d).link = s.link := by simp [State.postB]
@[simp] theorem State.postB_srv (code : Nat) (d : List (Nat × Nat × Nat)) : (s.postB code d).srv = s.srv := by simp [State.postB]
@[simp] theorem State.postB_pl (code : Nat) (d : List (Nat × Nat × Nat)) : (s.postB code d).pl = s.pl := by simp [State.postB]
@[simp] theorem State.postB_opt (code : Nat) (d : List (Nat × Nat × Nat)) : (s.postB code d).opt = s.opt := by simp [State.postB]
@[simp] theorem State.postB_sep (code : Nat) (d : List (Nat × Nat × Nat)) : (s.postB code d).sep = s.sep := by simp [State.postB]
@[simp] theorem State.postB_sf (code : Nat) (d : List (Nat × Nat × Nat)) : (s.postB code d).sf = s.sf := by simp [State.postB]
@[simp] theorem State.postB_twin (code : Nat) (d : List (Nat × Nat × Nat)) : (s.postB code d).twin = s.twin := by simp [State.postB]
@[simp] theorem State.postB_clk (code : Nat) (d : List (Nat × Nat × Nat)) : (s.postB code d).clk = s.clk := by simp [State.postB]
@[simp] theorem State.postB_modeCmd (code : Nat) (d : List (Nat × Nat × Nat)) : (s.postB code d).modeCmd = s.modeCmd := by simp [State.postB]
@[simp] theorem State.postB_modeOver (code : Nat) (d : List (Nat × Nat × Nat)) : (s.postB code d).modeOver = s.modeOver := by simp [State.postB]
@[simp] theorem State.postB_egress (code : Nat) (d : List (Nat × Nat × Nat)) : (s.postB code d).egress = s.egress := by simp [State.postB]
@[simp] theorem State.postB_free (code : Nat) (d : List (Nat × Nat × Nat)) : (s.postB code d).free = s.free := by simp [State.postB]
@[simp] theorem State.postB_pending (code : Nat) (d : List (Nat × Nat × Nat)) : (s.postB code d).pending = s.pending := by simp [State.postB]

theorem State.regsWf_postB {s : State} (w : s.regsWf) (code : Nat) (d : List (Nat × Nat × Nat)) : (s.postB code d).regsWf := State.regsWf_post w _ _ _

@[simp] theorem State.setDom_host (d st : Nat) : (s.setDom d st).host = s.host := by simp only [State.setDom]; split <;> simp
@[simp] theorem State.setDom_time (d st : Nat) : (s.setDom d st).time = s.time := by simp only [State.setDom]; split <;> simp
@[simp] theorem State.setDom_wc (d st : Nat) : (s.setDom d st).wc = s.wc := by simp only [State.setDom]; split <;> simp
@[simp] theorem State.setDom_mem (d st : Nat) : (s.setDom d st).mem = s.mem := by simp only [State.setDom]; split <;> simp
@[simp] theorem State.setDom_sc (d st : Nat) : (s.setDom d st).sc = s.sc := by simp only [State.setDom]; split <;> simp
@[simp] theorem State.setDom_la (d st : Nat) : (s.setDom d st).la = s.la := by simp only [State.setDom]; split <;> simp
@[simp] theorem State.setDom_laPulse (d st : Nat) : (s.setDom d st).laPulse = s.laPulse := by simp only [State.setDom]; split <;> simp
@[simp] theorem State.setDom_acq (d st : Nat) : (s.setDom d st).acq = s.acq := by simp only [State.setDom]; split <;> simp
@[simp] theorem State.setDom_link (d st : Nat) : (s.setDom d st).link = s.link := by simp only [State.setDom]; split <;> simp
@[simp] theorem State.setDom_srv (d st : Nat) : (s.setDom d st).srv = s.srv := by simp only [State.setDom]; split <;> simp
@[simp] theorem State.setDom_pl (d st : Nat) : (s.setDom d st).pl = s.pl := by simp only [State.setDom]; split <;> simp
@[simp] theorem State.setDom_opt (d st : Nat) : (s.setDom d st).opt = s.opt := by simp only [State.setDom]; split <;> simp
@[simp] theorem State.setDom_sep (d st : Nat) : (s.setDom d st).sep = s.sep := by simp only [State.setDom]; split <;> simp
@[simp] theorem State.setDom_sf (d st : Nat) : (s.setDom d st).sf = s.sf := by simp only [State.setDom]; split <;> simp
@[simp] theorem State.setDom_twin (d st : Nat) : (s.setDom d st).twin = s.twin := by simp only [State.setDom]; split <;> simp
@[simp] theorem State.setDom_clk (d st : Nat) : (s.setDom d st).clk = s.clk := by simp only [State.setDom]; split <;> simp
@[simp] theorem State.setDom_modeCmd (d st : Nat) : (s.setDom d st).modeCmd = s.modeCmd := by simp only [State.setDom]; split <;> simp
@[simp] theorem State.setDom_modeOver (d st : Nat) : (s.setDom d st).modeOver = s.modeOver := by simp only [State.setDom]; split <;> simp
@[simp] theorem State.setDom_egress (d st : Nat) : (s.setDom d st).egress = s.egress := by simp only [State.setDom]; split <;> simp
@[simp] theorem State.setDom_free (d st : Nat) : (s.setDom d st).free = s.free := by simp only [State.setDom]; split <;> simp
@[simp] theorem State.setDom_pending (d st : Nat) : (s.setDom d st).pending = s.pending := by simp only [State.setDom]; split <;> simp

theorem State.regsWf_setDom {s : State} (w : s.regsWf) (d st : Nat) : (s.setDom d st).regsWf := by
  simp only [State.setDom]; split
  · exact w
  · exact State.regsWf_postB (State.regsWf_put w _ _ _) _ _

@[simp] theorem State.wakeDom_host (d : Nat) : (s.wakeDom d).host = s.host := by simp only [State.wakeDom]; split <;> simp
@[simp] theorem State.wakeDom_time (d : Nat) : (s.wakeDom d).time = s.time := by simp only [State.wakeDom]; split <;> simp
@[simp] theorem State.wakeDom_wc (d : Nat) : (s.wakeDom d).wc = s.wc := by simp only [State.wakeDom]; split <;> simp
@[simp] theorem State.wakeDom_mem (d : Nat) : (s.wakeDom d).mem = s.mem := by simp only [State.wakeDom]; split <;> simp
@[simp] theorem State.wakeDom_sc (d : Nat) : (s.wakeDom d).sc = s.sc := by simp only [State.wakeDom]; split <;> simp
@[simp] theorem State.wakeDom_la (d : Nat) : (s.wakeDom d).la = s.la := by simp only [State.wakeDom]; split <;> simp
@[simp] theorem State.wakeDom_laPulse (d : Nat) : (s.wakeDom d).laPulse = s.laPulse := by simp only [State.wakeDom]; split <;> simp
@[simp] theorem State.wakeDom_acq (d : Nat) : (s.wakeDom d).acq = s.acq := by simp only [State.wakeDom]; split <;> simp
@[simp] theorem State.wakeDom_link (d : Nat) : (s.wakeDom d).link = s.link := by simp only [State.wakeDom]; split <;> simp
@[simp] theorem State.wakeDom_srv (d : Nat) : (s.wakeDom d).srv = s.srv := by simp only [State.wakeDom]; split <;> simp
@[simp] theorem State.wakeDom_pl (d : Nat) : (s.wakeDom d).pl = s.pl := by simp only [State.wakeDom]; split <;> simp
@[simp] theorem State.wakeDom_opt (d : Nat) : (s.wakeDom d).opt = s.opt := by simp only [State.wakeDom]; split <;> simp
@[simp] theorem State.wakeDom_sep (d : Nat) : (s.wakeDom d).sep = s.sep := by simp only [State.wakeDom]; split <;> simp
@[simp] theorem State.wakeDom_sf (d : Nat) : (s.wakeDom d).sf = s.sf := by simp only [State.wakeDom]; split <;> simp
@[simp] theorem State.wakeDom_twin (d : Nat) : (s.wakeDom d).twin = s.twin := by simp only [State.wakeDom]; split <;> simp
@[simp] theorem State.wakeDom_clk (d : Nat) : (s.wakeDom d).clk = s.clk := by simp only [State.wakeDom]; split <;> simp
@[simp] theorem State.wakeDom_modeCmd (d : Nat) : (s.wakeDom d).modeCmd = s.modeCmd := by simp only [State.wakeDom]; split <;> simp
@[simp] theorem State.wakeDom_modeOver (d : Nat) : (s.wakeDom d).modeOver = s.modeOver := by simp only [State.wakeDom]; split <;> simp
@[simp] theorem State.wakeDom_egress (d : Nat) : (s.wakeDom d).egress = s.egress := by simp only [State.wakeDom]; split <;> simp
@[simp] theorem State.wakeDom_free (d : Nat) : (s.wakeDom d).free = s.free := by simp only [State.wakeDom]; split <;> simp
@[simp] theorem State.wakeDom_pending (d : Nat) : (s.wakeDom d).pending = s.pending := by simp only [State.wakeDom]; split <;> simp

theorem State.regsWf_wakeDom {s : State} (w : s.regsWf) (d : Nat) : (s.wakeDom d).regsWf := by
  simp only [State.wakeDom]; split
  · exact State.regsWf_setDom (State.regsWf_put w _ _ _) _ _
  · exact w

@[simp] theorem State.msix_log (fn v : Nat) : (s.msix fn v).log = s.log := by simp only [State.msix]; split <;> simp
@[simp] theorem State.msix_host (fn v : Nat) : (s.msix fn v).host = s.host := by simp only [State.msix]; split <;> simp
@[simp] theorem State.msix_time (fn v : Nat) : (s.msix fn v).time = s.time := by simp only [State.msix]; split <;> simp
@[simp] theorem State.msix_wc (fn v : Nat) : (s.msix fn v).wc = s.wc := by simp only [State.msix]; split <;> simp
@[simp] theorem State.msix_mem (fn v : Nat) : (s.msix fn v).mem = s.mem := by simp only [State.msix]; split <;> simp
@[simp] theorem State.msix_sc (fn v : Nat) : (s.msix fn v).sc = s.sc := by simp only [State.msix]; split <;> simp
@[simp] theorem State.msix_la (fn v : Nat) : (s.msix fn v).la = s.la := by simp only [State.msix]; split <;> simp
@[simp] theorem State.msix_laPulse (fn v : Nat) : (s.msix fn v).laPulse = s.laPulse := by simp only [State.msix]; split <;> simp
@[simp] theorem State.msix_acq (fn v : Nat) : (s.msix fn v).acq = s.acq := by simp only [State.msix]; split <;> simp
@[simp] theorem State.msix_link (fn v : Nat) : (s.msix fn v).link = s.link := by simp only [State.msix]; split <;> simp
@[simp] theorem State.msix_srv (fn v : Nat) : (s.msix fn v).srv = s.srv := by simp only [State.msix]; split <;> simp
@[simp] theorem State.msix_pl (fn v : Nat) : (s.msix fn v).pl = s.pl := by simp only [State.msix]; split <;> simp
@[simp] theorem State.msix_opt (fn v : Nat) : (s.msix fn v).opt = s.opt := by simp only [State.msix]; split <;> simp
@[simp] theorem State.msix_sep (fn v : Nat) : (s.msix fn v).sep = s.sep := by simp only [State.msix]; split <;> simp
@[simp] theorem State.msix_sf (fn v : Nat) : (s.msix fn v).sf = s.sf := by simp only [State.msix]; split <;> simp
@[simp] theorem State.msix_twin (fn v : Nat) : (s.msix fn v).twin = s.twin := by simp only [State.msix]; split <;> simp
@[simp] theorem State.msix_clk (fn v : Nat) : (s.msix fn v).clk = s.clk := by simp only [State.msix]; split <;> simp
@[simp] theorem State.msix_modeCmd (fn v : Nat) : (s.msix fn v).modeCmd = s.modeCmd := by simp only [State.msix]; split <;> simp
@[simp] theorem State.msix_modeOver (fn v : Nat) : (s.msix fn v).modeOver = s.modeOver := by simp only [State.msix]; split <;> simp
@[simp] theorem State.msix_free (fn v : Nat) : (s.msix fn v).free = s.free := by simp only [State.msix]; split <;> simp
@[simp] theorem State.msix_pending (fn v : Nat) : (s.msix fn v).pending = s.pending := by simp only [State.msix]; split <;> simp

theorem State.regsWf_msix {s : State} (w : s.regsWf) (fn v : Nat) : (s.msix fn v).regsWf := by
  simp only [State.msix]; split
  · exact State.regsWf_setReg w _ _
  · exact w

@[simp] theorem State.setMod_regs (fn ty r : Nat) (m : ModSt) : (s.setMod fn ty r m).regs = s.regs := rfl
@[simp] theorem State.setMod_log (fn ty r : Nat) (m : ModSt) : (s.setMod fn ty r m).log = s.log := rfl
@[simp] theorem State.setMod_time (fn ty r : Nat) (m : ModSt) : (s.setMod fn ty r m).time = s.time := rfl
@[simp] theorem State.setMod_wc (fn ty r : Nat) (m : ModSt) : (s.setMod fn ty r m).wc = s.wc := rfl
@[simp] theorem State.setMod_mem (fn ty r : Nat) (m : ModSt) : (s.setMod fn ty r m).mem = s.mem := rfl
@[simp] theorem State.setMod_sc (fn ty r : Nat) (m : ModSt) : (s.setMod fn ty r m).sc = s.sc := rfl
@[simp] theorem State.setMod_la (fn ty r : Nat) (m : ModSt) : (s.setMod fn ty r m).la = s.la := rfl
@[simp] theorem State.setMod_laPulse (fn ty r : Nat) (m : ModSt) : (s.setMod fn ty r m).laPulse = s.laPulse := rfl
@[simp] theorem State.setMod_acq (fn ty r : Nat) (m : ModSt) : (s.setMod fn ty r m).acq = s.acq := rfl
@[simp] theorem State.setMod_link (fn ty r : Nat) (m : ModSt) : (s.setMod fn ty r m).link = s.link := rfl
@[simp] theorem State.setMod_srv (fn ty r : Nat) (m : ModSt) : (s.setMod fn ty r m).srv = s.srv := rfl
@[simp] theorem State.setMod_pl (fn ty r : Nat) (m : ModSt) : (s.setMod fn ty r m).pl = s.pl := rfl
@[simp] theorem State.setMod_opt (fn ty r : Nat) (m : ModSt) : (s.setMod fn ty r m).opt = s.opt := rfl
@[simp] theorem State.setMod_sep (fn ty r : Nat) (m : ModSt) : (s.setMod fn ty r m).sep = s.sep := rfl
@[simp] theorem State.setMod_sf (fn ty r : Nat) (m : ModSt) : (s.setMod fn ty r m).sf = s.sf := rfl
@[simp] theorem State.setMod_twin (fn ty r : Nat) (m : ModSt) : (s.setMod fn ty r m).twin = s.twin := rfl
@[simp] theorem State.setMod_clk (fn ty r : Nat) (m : ModSt) : (s.setMod fn ty r m).clk = s.clk := rfl
@[simp] theorem State.setMod_modeCmd (fn ty r : Nat) (m : ModSt) : (s.setMod fn ty r m).modeCmd = s.modeCmd := rfl
@[simp] theorem State.setMod_modeOver (fn ty r : Nat) (m : ModSt) : (s.setMod fn ty r m).modeOver = s.modeOver := rfl
@[simp] theorem State.setMod_egress (fn ty r : Nat) (m : ModSt) : (s.setMod fn ty r m).egress = s.egress := rfl
@[simp] theorem State.setMod_free (fn ty r : Nat) (m : ModSt) : (s.setMod fn ty r m).free = s.free := rfl
@[simp] theorem State.setMod_pending (fn ty r : Nat) (m : ModSt) : (s.setMod fn ty r m).pending = s.pending := rfl

theorem State.regsWf_setMod {s : State} (w : s.regsWf) (fn ty r : Nat) (m : ModSt) : (s.setMod fn ty r m).regsWf := w

@[simp] theorem State.signal_log (fn ty r : Nat) : (s.signal fn ty r).log = s.log := by simp [State.signal]
@[simp] theorem State.signal_time (fn ty r : Nat) : (s.signal fn ty r).time = s.time := by simp [State.signal]
@[simp] theorem State.signal_wc (fn ty r : Nat) : (s.signal fn ty r).wc = s.wc := by simp [State.signal]
@[simp] theorem State.signal_mem (fn ty r : Nat) : (s.signal fn ty r).mem = s.mem := by simp [State.signal]
@[simp] theorem State.signal_sc (fn ty r : Nat) : (s.signal fn ty r).sc = s.sc := by simp [State.signal]
@[simp] theorem State.signal_la (fn ty r : Nat) : (s.signal fn ty r).la = s.la := by simp [State.signal]
@[simp] theorem State.signal_laPulse (fn ty r : Nat) : (s.signal fn ty r).laPulse = s.laPulse := by simp [State.signal]
@[simp] theorem State.signal_acq (fn ty r : Nat) : (s.signal fn ty r).acq = s.acq := by simp [State.signal]
@[simp] theorem State.signal_link (fn ty r : Nat) : (s.signal fn ty r).link = s.link := by simp [State.signal]
@[simp] theorem State.signal_srv (fn ty r : Nat) : (s.signal fn ty r).srv = s.srv := by simp [State.signal]
@[simp] theorem State.signal_pl (fn ty r : Nat) : (s.signal fn ty r).pl = s.pl := by simp [State.signal]
@[simp] theorem State.signal_opt (fn ty r : Nat) : (s.signal fn ty r).opt = s.opt := by simp [State.signal]
@[simp] theorem State.signal_sep (fn ty r : Nat) : (s.signal fn ty r).sep = s.sep := by simp [State.signal]
@[simp] theorem State.signal_sf (fn ty r : Nat) : (s.signal fn ty r).sf = s.sf := by simp [State.signal]
@[simp] theorem State.signal_twin (fn ty r : Nat) : (s.signal fn ty r).twin = s.twin := by simp [State.signal]
@[simp] theorem State.signal_clk (fn ty r : Nat) : (s.signal fn ty r).clk = s.clk := by simp [State.signal]
@[simp] theorem State.signal_modeCmd (fn ty r : Nat) : (s.signal fn ty r).modeCmd = s.modeCmd := by simp [State.signal]
@[simp] theorem State.signal_modeOver (fn ty r : Nat) : (s.signal fn ty r).modeOver = s.modeOver := by simp [State.signal]
@[simp] theorem State.signal_free (fn ty r : Nat) : (s.signal fn ty r).free = s.free := by simp [State.signal]
@[simp] theorem State.signal_pending (fn ty r : Nat) : (s.signal fn ty r).pending = s.pending := by simp [State.signal]

theorem State.regsWf_signal {s : State} (w : s.regsWf) (fn ty r : Nat) : (s.signal fn ty r).regsWf := State.regsWf_msix w _ _

@[simp] theorem State.ringAdvance_log (fn ty r : Nat) (now : Bool) : (s.ringAdvance fn ty r now).log = s.log := by simp only [State.ringAdvance]; split <;> simp
@[simp] theorem State.ringAdvance_time (fn ty r : Nat) (now : Bool) : (s.ringAdvance fn ty r now).time = s.time := by simp only [State.ringAdvance]; split <;> simp
@[simp] theorem State.ringAdvance_wc (fn ty r : Nat) (now : Bool) : (s.ringAdvance fn ty r now).wc = s.wc := by simp only [State.ringAdvance]; split <;> simp
@[simp] theorem State.ringAdvance_mem (fn ty r : Nat) (now : Bool) : (s.ringAdvance fn ty r now).mem = s.mem := by simp only [State.ringAdvance]; split <;> simp
@[simp] theorem State.ringAdvance_sc (fn ty r : Nat) (now : Bool) : (s.ringAdvance fn ty r now).sc = s.sc := by simp only [State.ringAdvance]; split <;> simp
@[simp] theorem State.ringAdvance_la (fn ty r : Nat) (now : Bool) : (s.ringAdvance fn ty r now).la = s.la := by simp only [State.ringAdvance]; split <;> simp
@[simp] theorem State.ringAdvance_laPulse (fn ty r : Nat) (now : Bool) : (s.ringAdvance fn ty r now).laPulse = s.laPulse := by simp only [State.ringAdvance]; split <;> simp
@[simp] theorem State.ringAdvance_acq (fn ty r : Nat) (now : Bool) : (s.ringAdvance fn ty r now).acq = s.acq := by simp only [State.ringAdvance]; split <;> simp
@[simp] theorem State.ringAdvance_link (fn ty r : Nat) (now : Bool) : (s.ringAdvance fn ty r now).link = s.link := by simp only [State.ringAdvance]; split <;> simp
@[simp] theorem State.ringAdvance_srv (fn ty r : Nat) (now : Bool) : (s.ringAdvance fn ty r now).srv = s.srv := by simp only [State.ringAdvance]; split <;> simp
@[simp] theorem State.ringAdvance_pl (fn ty r : Nat) (now : Bool) : (s.ringAdvance fn ty r now).pl = s.pl := by simp only [State.ringAdvance]; split <;> simp
@[simp] theorem State.ringAdvance_opt (fn ty r : Nat) (now : Bool) : (s.ringAdvance fn ty r now).opt = s.opt := by simp only [State.ringAdvance]; split <;> simp
@[simp] theorem State.ringAdvance_sep (fn ty r : Nat) (now : Bool) : (s.ringAdvance fn ty r now).sep = s.sep := by simp only [State.ringAdvance]; split <;> simp
@[simp] theorem State.ringAdvance_sf (fn ty r : Nat) (now : Bool) : (s.ringAdvance fn ty r now).sf = s.sf := by simp only [State.ringAdvance]; split <;> simp
@[simp] theorem State.ringAdvance_twin (fn ty r : Nat) (now : Bool) : (s.ringAdvance fn ty r now).twin = s.twin := by simp only [State.ringAdvance]; split <;> simp
@[simp] theorem State.ringAdvance_clk (fn ty r : Nat) (now : Bool) : (s.ringAdvance fn ty r now).clk = s.clk := by simp only [State.ringAdvance]; split <;> simp
@[simp] theorem State.ringAdvance_modeCmd (fn ty r : Nat) (now : Bool) : (s.ringAdvance fn ty r now).modeCmd = s.modeCmd := by simp only [State.ringAdvance]; split <;> simp
@[simp] theorem State.ringAdvance_modeOver (fn ty r : Nat) (now : Bool) : (s.ringAdvance fn ty r now).modeOver = s.modeOver := by simp only [State.ringAdvance]; split <;> simp
@[simp] theorem State.ringAdvance_free (fn ty r : Nat) (now : Bool) : (s.ringAdvance fn ty r now).free = s.free := by simp only [State.ringAdvance]; split <;> simp
@[simp] theorem State.ringAdvance_pending (fn ty r : Nat) (now : Bool) : (s.ringAdvance fn ty r now).pending = s.pending := by simp only [State.ringAdvance]; split <;> simp

theorem State.regsWf_ringAdvance {s : State} (w : s.regsWf) (fn ty r : Nat) (now : Bool) : (s.ringAdvance fn ty r now).regsWf := by
  simp only [State.ringAdvance]; split
  · apply State.regsWf_signal; exact State.regsWf_setReg w _ _
  · exact State.regsWf_setReg w _ _

@[simp] theorem State.ringPush_log (fn ty r : Nat) (data : List Byte) (now : Bool) : (s.ringPush fn ty r data now).log = s.log := by simp [State.ringPush]
@[simp] theorem State.ringPush_time (fn ty r : Nat) (data : List Byte) (now : Bool) : (s.ringPush fn ty r data now).time = s.time := by simp [State.ringPush]
@[simp] theorem State.ringPush_wc (fn ty r : Nat) (data : List Byte) (now : Bool) : (s.ringPush fn ty r data now).wc = s.wc := by simp [State.ringPush]
@[simp] theorem State.ringPush_mem (fn ty r : Nat) (data : List Byte) (now : Bool) : (s.ringPush fn ty r data now).mem = s.mem := by simp [State.ringPush]
@[simp] theorem State.ringPush_sc (fn ty r : Nat) (data : List Byte) (now : Bool) : (s.ringPush fn ty r data now).sc = s.sc := by simp [State.ringPush]
@[simp] theorem State.ringPush_la (fn ty r : Nat) (data : List Byte) (now : Bool) : (s.ringPush fn ty r data now).la = s.la := by simp [State.ringPush]
@[simp] theorem State.ringPush_laPulse (fn ty r : Nat) (data : List Byte) (now : Bool) : (s.ringPush fn ty r data now).laPulse = s.laPulse := by simp [State.ringPush]
@[simp] theorem State.ringPush_acq (fn ty r : Nat) (data : List Byte) (now : Bool) : (s.ringPush fn ty r data now).acq = s.acq := by simp [State.ringPush]
@[simp] theorem State.ringPush_link (fn ty r : Nat) (data : List Byte) (now : Bool) : (s.ringPush fn ty r data now).link = s.link := by simp [State.ringPush]
@[simp] theorem State.ringPush_srv (fn ty r : Nat) (data : List Byte) (now : Bool) : (s.ringPush fn ty r data now).srv = s.srv := by simp [State.ringPush]
@[simp] theorem State.ringPush_pl (fn ty r : Nat) (data : List Byte) (now : Bool) : (s.ringPush fn ty r data now).pl = s.pl := by simp [State.ringPush]
@[simp] theorem State.ringPush_opt (fn ty r : Nat) (data : List Byte) (now : Bool) : (s.ringPush fn ty r data now).opt = s.opt := by simp [State.ringPush]
@[simp] theorem State.ringPush_sep (fn ty r : Nat) (data : List Byte) (now : Bool) : (s.ringPush fn ty r data now).sep = s.sep := by simp [State.ringPush]
@[simp] theorem State.ringPush_sf (fn ty r : Nat) (data : List Byte) (now : Bool) : (s.ringPush fn ty r data now).sf = s.sf := by simp [State.ringPush]
@[simp] theorem State.ringPush_twin (fn ty r : Nat) (data : List Byte) (now : Bool) : (s.ringPush fn ty r data now).twin = s.twin := by simp [State.ringPush]
@[simp] theorem State.ringPush_clk (fn ty r : Nat) (data : List Byte) (now : Bool) : (s.ringPush fn ty r data now).clk = s.clk := by simp [State.ringPush]
@[simp] theorem State.ringPush_modeCmd (fn ty r : Nat) (data : List Byte) (now : Bool) : (s.ringPush fn ty r data now).modeCmd = s.modeCmd := by simp [State.ringPush]
@[simp] theorem State.ringPush_modeOver (fn ty r : Nat) (data : List Byte) (now : Bool) : (s.ringPush fn ty r data now).modeOver = s.modeOver := by simp [State.ringPush]
@[simp] theorem State.ringPush_free (fn ty r : Nat) (data : List Byte) (now : Bool) : (s.ringPush fn ty r data now).free = s.free := by simp [State.ringPush]
@[simp] theorem State.ringPush_pending (fn ty r : Nat) (data : List Byte) (now : Bool) : (s.ringPush fn ty r data now).pending = s.pending := by simp [State.ringPush]

theorem State.regsWf_ringPush {s : State} (w : s.regsWf) (fn ty r : Nat) (data : List Byte) (now : Bool) : (s.ringPush fn ty r data now).regsWf := State.regsWf_ringAdvance (s := State.emit _ _) w _ _ _ _

@[simp] theorem State.ringPost_log (fn ty r : Nat) (data : List Byte) (now : Bool) : (s.ringPost fn ty r data now).log = s.log := by simp only [State.ringPost]; split <;> simp
@[simp] theorem State.ringPost_time (fn ty r : Nat) (data : List Byte) (now : Bool) : (s.ringPost fn ty r data now).time = s.time := by simp only [State.ringPost]; split <;> simp
@[simp] theorem State.ringPost_wc (fn ty r : Nat) (data : List Byte) (now : Bool) : (s.ringPost fn ty r data now).wc = s.wc := by simp only [State.ringPost]; split <;> simp
@[simp] theorem State.ringPost_mem (fn ty r : Nat) (data : List Byte) (now : Bool) : (s.ringPost fn ty r data now).mem = s.mem := by simp only [State.ringPost]; split <;> simp
@[simp] theorem State.ringPost_sc (fn ty r : Nat) (data : List Byte) (now : Bool) : (s.ringPost fn ty r data now).sc = s.sc := by simp only [State.ringPost]; split <;> simp
@[simp] theorem State.ringPost_la (fn ty r : Nat) (data : List Byte) (now : Bool) : (s.ringPost fn ty r data now).la = s.la := by simp only [State.ringPost]; split <;> simp
@[simp] theorem State.ringPost_laPulse (fn ty r : Nat) (data : List Byte) (now : Bool) : (s.ringPost fn ty r data now).laPulse = s.laPulse := by simp only [State.ringPost]; split <;> simp
@[simp] theorem State.ringPost_acq (fn ty r : Nat) (data : List Byte) (now : Bool) : (s.ringPost fn ty r data now).acq = s.acq := by simp only [State.ringPost]; split <;> simp
@[simp] theorem State.ringPost_link (fn ty r : Nat) (data : List Byte) (now : Bool) : (s.ringPost fn ty r data now).link = s.link := by simp only [State.ringPost]; split <;> simp
@[simp] theorem State.ringPost_srv (fn ty r : Nat) (data : List Byte) (now : Bool) : (s.ringPost fn ty r data now).srv = s.srv := by simp only [State.ringPost]; split <;> simp
@[simp] theorem State.ringPost_pl (fn ty r : Nat) (data : List Byte) (now : Bool) : (s.ringPost fn ty r data now).pl = s.pl := by simp only [State.ringPost]; split <;> simp
@[simp] theorem State.ringPost_opt (fn ty r : Nat) (data : List Byte) (now : Bool) : (s.ringPost fn ty r data now).opt = s.opt := by simp only [State.ringPost]; split <;> simp
@[simp] theorem State.ringPost_sep (fn ty r : Nat) (data : List Byte) (now : Bool) : (s.ringPost fn ty r data now).sep = s.sep := by simp only [State.ringPost]; split <;> simp
@[simp] theorem State.ringPost_sf (fn ty r : Nat) (data : List Byte) (now : Bool) : (s.ringPost fn ty r data now).sf = s.sf := by simp only [State.ringPost]; split <;> simp
@[simp] theorem State.ringPost_twin (fn ty r : Nat) (data : List Byte) (now : Bool) : (s.ringPost fn ty r data now).twin = s.twin := by simp only [State.ringPost]; split <;> simp
@[simp] theorem State.ringPost_clk (fn ty r : Nat) (data : List Byte) (now : Bool) : (s.ringPost fn ty r data now).clk = s.clk := by simp only [State.ringPost]; split <;> simp
@[simp] theorem State.ringPost_modeCmd (fn ty r : Nat) (data : List Byte) (now : Bool) : (s.ringPost fn ty r data now).modeCmd = s.modeCmd := by simp only [State.ringPost]; split <;> simp
@[simp] theorem State.ringPost_modeOver (fn ty r : Nat) (data : List Byte) (now : Bool) : (s.ringPost fn ty r data now).modeOver = s.modeOver := by simp only [State.ringPost]; split <;> simp
@[simp] theorem State.ringPost_free (fn ty r : Nat) (data : List Byte) (now : Bool) : (s.ringPost fn ty r data now).free = s.free := by simp only [State.ringPost]; split <;> simp
@[simp] theorem State.ringPost_pending (fn ty r : Nat) (data : List Byte) (now : Bool) : (s.ringPost fn ty r data now).pending = s.pending := by simp only [State.ringPost]; split <;> simp

theorem State.regsWf_ringPost {s : State} (w : s.regsWf) (fn ty r : Nat) (data : List Byte) (now : Bool) : (s.ringPost fn ty r data now).regsWf := by
  simp only [State.ringPost]; split
  · exact State.regsWf_ringPush w _ _ _ _ _
  · exact w

@[simp] theorem State.setItemState_log (i st : Nat) : (s.setItemState i st).log = s.log := by simp [State.setItemState]
@[simp] theorem State.setItemState_host (i st : Nat) : (s.setItemState i st).host = s.host := by simp [State.setItemState]
@[simp] theorem State.setItemState_time (i st : Nat) : (s.setItemState i st).time = s.time := by simp [State.setItemState]
@[simp] theorem State.setItemState_wc (i st : Nat) : (s.setItemState i st).wc = s.wc := by simp [State.setItemState]
@[simp] theorem State.setItemState_mem (i st : Nat) : (s.setItemState i st).mem = s.mem := by simp [State.setItemState]
@[simp] theorem State.setItemState_sc (i st : Nat) : (s.setItemState i st).sc = s.sc := by simp [State.setItemState]
@[simp] theorem State.setItemState_la (i st : Nat) : (s.setItemState i st).la = s.la := by simp [State.setItemState]
@[simp] theorem State.setItemState_laPulse (i st : Nat) : (s.setItemState i st).laPulse = s.laPulse := by simp [State.setItemState]
@[simp] theorem State.setItemState_acq (i st : Nat) : (s.setItemState i st).acq = s.acq := by simp [State.setItemState]
@[simp] theorem State.setItemState_link (i st : Nat) : (s.setItemState i st).link = s.link := by simp [State.setItemState]
@[simp] theorem State.setItemState_srv (i st : Nat) : (s.setItemState i st).srv = s.srv := by simp [State.setItemState]
@[simp] theorem State.setItemState_pl (i st : Nat) : (s.setItemState i st).pl = s.pl := by simp [State.setItemState]
@[simp] theorem State.setItemState_opt (i st : Nat) : (s.setItemState i st).opt = s.opt := by simp [State.setItemState]
@[simp] theorem State.setItemState_sep (i st : Nat) : (s.setItemState i st).sep = s.sep := by simp [State.setItemState]
@[simp] theorem State.setItemState_sf (i st : Nat) : (s.setItemState i st).sf = s.sf := by simp [State.setItemState]
@[simp] theorem State.setItemState_twin (i st : Nat) : (s.setItemState i st).twin = s.twin := by simp [State.setItemState]
@[simp] theorem State.setItemState_clk (i st : Nat) : (s.setItemState i st).clk = s.clk := by simp [State.setItemState]
@[simp] theorem State.setItemState_modeCmd (i st : Nat) : (s.setItemState i st).modeCmd = s.modeCmd := by simp [State.setItemState]
@[simp] theorem State.setItemState_modeOver (i st : Nat) : (s.setItemState i st).modeOver = s.modeOver := by simp [State.setItemState]
@[simp] theorem State.setItemState_egress (i st : Nat) : (s.setItemState i st).egress = s.egress := by simp [State.setItemState]
@[simp] theorem State.setItemState_free (i st : Nat) : (s.setItemState i st).free = s.free := by simp [State.setItemState]
@[simp] theorem State.setItemState_pending (i st : Nat) : (s.setItemState i st).pending = s.pending := by simp [State.setItemState]

theorem State.regsWf_setItemState {s : State} (w : s.regsWf) (i st : Nat) : (s.setItemState i st).regsWf := State.regsWf_put (State.regsWf_put (State.regsWf_put w _ _ _) _ _ _) _ _ _

@[simp] theorem State.enqueue_regs (i : Nat) : (s.enqueue i).regs = s.regs := rfl
@[simp] theorem State.enqueue_log (i : Nat) : (s.enqueue i).log = s.log := rfl
@[simp] theorem State.enqueue_host (i : Nat) : (s.enqueue i).host = s.host := rfl
@[simp] theorem State.enqueue_time (i : Nat) : (s.enqueue i).time = s.time := rfl
@[simp] theorem State.enqueue_mem (i : Nat) : (s.enqueue i).mem = s.mem := rfl
@[simp] theorem State.enqueue_sc (i : Nat) : (s.enqueue i).sc = s.sc := rfl
@[simp] theorem State.enqueue_la (i : Nat) : (s.enqueue i).la = s.la := rfl
@[simp] theorem State.enqueue_laPulse (i : Nat) : (s.enqueue i).laPulse = s.laPulse := rfl
@[simp] theorem State.enqueue_acq (i : Nat) : (s.enqueue i).acq = s.acq := rfl
@[simp] theorem State.enqueue_link (i : Nat) : (s.enqueue i).link = s.link := rfl
@[simp] theorem State.enqueue_srv (i : Nat) : (s.enqueue i).srv = s.srv := rfl
@[simp] theorem State.enqueue_pl (i : Nat) : (s.enqueue i).pl = s.pl := rfl
@[simp] theorem State.enqueue_opt (i : Nat) : (s.enqueue i).opt = s.opt := rfl
@[simp] theorem State.enqueue_sep (i : Nat) : (s.enqueue i).sep = s.sep := rfl
@[simp] theorem State.enqueue_sf (i : Nat) : (s.enqueue i).sf = s.sf := rfl
@[simp] theorem State.enqueue_twin (i : Nat) : (s.enqueue i).twin = s.twin := rfl
@[simp] theorem State.enqueue_clk (i : Nat) : (s.enqueue i).clk = s.clk := rfl
@[simp] theorem State.enqueue_modeCmd (i : Nat) : (s.enqueue i).modeCmd = s.modeCmd := rfl
@[simp] theorem State.enqueue_modeOver (i : Nat) : (s.enqueue i).modeOver = s.modeOver := rfl
@[simp] theorem State.enqueue_egress (i : Nat) : (s.enqueue i).egress = s.egress := rfl
@[simp] theorem State.enqueue_free (i : Nat) : (s.enqueue i).free = s.free := rfl
@[simp] theorem State.enqueue_pending (i : Nat) : (s.enqueue i).pending = s.pending := rfl

theorem State.regsWf_enqueue {s : State} (w : s.regsWf) (i : Nat) : (s.enqueue i).regsWf := w

@[simp] theorem State.makeReady_host (i : Nat) : (s.makeReady i).host = s.host := by simp [State.makeReady]
@[simp] theorem State.makeReady_time (i : Nat) : (s.makeReady i).time = s.time := by simp [State.makeReady]
@[simp] theorem State.makeReady_mem (i : Nat) : (s.makeReady i).mem = s.mem := by simp [State.makeReady]
@[simp] theorem State.makeReady_sc (i : Nat) : (s.makeReady i).sc = s.sc := by simp [State.makeReady]
@[simp] theorem State.makeReady_la (i : Nat) : (s.makeReady i).la = s.la := by simp [State.makeReady]
@[simp] theorem State.makeReady_laPulse (i : Nat) : (s.makeReady i).laPulse = s.laPulse := by simp [State.makeReady]
@[simp] theorem State.makeReady_acq (i : Nat) : (s.makeReady i).acq = s.acq := by simp [State.makeReady]
@[simp] theorem State.makeReady_link (i : Nat) : (s.makeReady i).link = s.link := by simp [State.makeReady]
@[simp] theorem State.makeReady_srv (i : Nat) : (s.makeReady i).srv = s.srv := by simp [State.makeReady]
@[simp] theorem State.makeReady_pl (i : Nat) : (s.makeReady i).pl = s.pl := by simp [State.makeReady]
@[simp] theorem State.makeReady_opt (i : Nat) : (s.makeReady i).opt = s.opt := by simp [State.makeReady]
@[simp] theorem State.makeReady_sep (i : Nat) : (s.makeReady i).sep = s.sep := by simp [State.makeReady]
@[simp] theorem State.makeReady_sf (i : Nat) : (s.makeReady i).sf = s.sf := by simp [State.makeReady]
@[simp] theorem State.makeReady_twin (i : Nat) : (s.makeReady i).twin = s.twin := by simp [State.makeReady]
@[simp] theorem State.makeReady_clk (i : Nat) : (s.makeReady i).clk = s.clk := by simp [State.makeReady]
@[simp] theorem State.makeReady_modeCmd (i : Nat) : (s.makeReady i).modeCmd = s.modeCmd := by simp [State.makeReady]
@[simp] theorem State.makeReady_modeOver (i : Nat) : (s.makeReady i).modeOver = s.modeOver := by simp [State.makeReady]
@[simp] theorem State.makeReady_egress (i : Nat) : (s.makeReady i).egress = s.egress := by simp [State.makeReady]
@[simp] theorem State.makeReady_free (i : Nat) : (s.makeReady i).free = s.free := by simp [State.makeReady]
@[simp] theorem State.makeReady_pending (i : Nat) : (s.makeReady i).pending = s.pending := by simp [State.makeReady]

theorem State.regsWf_makeReady {s : State} (w : s.regsWf) (i : Nat) : (s.makeReady i).regsWf := State.regsWf_setItemState (State.regsWf_wakeDom w _) _ _

@[simp] theorem State.makeSuspended_log (i res : Nat) : (s.makeSuspended i res).log = s.log := by simp [State.makeSuspended]
@[simp] theorem State.makeSuspended_host (i res : Nat) : (s.makeSuspended i res).host = s.host := by simp [State.makeSuspended]
@[simp] theorem State.makeSuspended_time (i res : Nat) : (s.makeSuspended i res).time = s.time := by simp [State.makeSuspended]
@[simp] theorem State.makeSuspended_mem (i res : Nat) : (s.makeSuspended i res).mem = s.mem := by simp [State.makeSuspended]
@[simp] theorem State.makeSuspended_sc (i res : Nat) : (s.makeSuspended i res).sc = s.sc := by simp [State.makeSuspended]
@[simp] theorem State.makeSuspended_la (i res : Nat) : (s.makeSuspended i res).la = s.la := by simp [State.makeSuspended]
@[simp] theorem State.makeSuspended_laPulse (i res : Nat) : (s.makeSuspended i res).laPulse = s.laPulse := by simp [State.makeSuspended]
@[simp] theorem State.makeSuspended_acq (i res : Nat) : (s.makeSuspended i res).acq = s.acq := by simp [State.makeSuspended]
@[simp] theorem State.makeSuspended_link (i res : Nat) : (s.makeSuspended i res).link = s.link := by simp [State.makeSuspended]
@[simp] theorem State.makeSuspended_srv (i res : Nat) : (s.makeSuspended i res).srv = s.srv := by simp [State.makeSuspended]
@[simp] theorem State.makeSuspended_pl (i res : Nat) : (s.makeSuspended i res).pl = s.pl := by simp [State.makeSuspended]
@[simp] theorem State.makeSuspended_opt (i res : Nat) : (s.makeSuspended i res).opt = s.opt := by simp [State.makeSuspended]
@[simp] theorem State.makeSuspended_sep (i res : Nat) : (s.makeSuspended i res).sep = s.sep := by simp [State.makeSuspended]
@[simp] theorem State.makeSuspended_sf (i res : Nat) : (s.makeSuspended i res).sf = s.sf := by simp [State.makeSuspended]
@[simp] theorem State.makeSuspended_twin (i res : Nat) : (s.makeSuspended i res).twin = s.twin := by simp [State.makeSuspended]
@[simp] theorem State.makeSuspended_clk (i res : Nat) : (s.makeSuspended i res).clk = s.clk := by simp [State.makeSuspended]
@[simp] theorem State.makeSuspended_modeCmd (i res : Nat) : (s.makeSuspended i res).modeCmd = s.modeCmd := by simp [State.makeSuspended]
@[simp] theorem State.makeSuspended_modeOver (i res : Nat) : (s.makeSuspended i res).modeOver = s.modeOver := by simp [State.makeSuspended]
@[simp] theorem State.makeSuspended_egress (i res : Nat) : (s.makeSuspended i res).egress = s.egress := by simp [State.makeSuspended]
@[simp] theorem State.makeSuspended_free (i res : Nat) : (s.makeSuspended i res).free = s.free := by simp [State.makeSuspended]
@[simp] theorem State.makeSuspended_pending (i res : Nat) : (s.makeSuspended i res).pending = s.pending := by simp [State.makeSuspended]

theorem State.regsWf_makeSuspended {s : State} (w : s.regsWf) (i res : Nat) : (s.makeSuspended i res).regsWf := State.regsWf_setItemState w _ _

@[simp] theorem State.endWait_log (i res : Nat) : (s.endWait i res).log = s.log := by simp [State.endWait]
@[simp] theorem State.endWait_host (i res : Nat) : (s.endWait i res).host = s.host := by simp [State.endWait]
@[simp] theorem State.endWait_time (i res : Nat) : (s.endWait i res).time = s.time := by simp [State.endWait]
@[simp] theorem State.endWait_mem (i res : Nat) : (s.endWait i res).mem = s.mem := by simp [State.endWait]
@[simp] theorem State.endWait_sc (i res : Nat) : (s.endWait i res).sc = s.sc := by simp [State.endWait]
@[simp] theorem State.endWait_la (i res : Nat) : (s.endWait i res).la = s.la := by simp [State.endWait]
@[simp] theorem State.endWait_laPulse (i res : Nat) : (s.endWait i res).laPulse = s.laPulse := by simp [State.endWait]
@[simp] theorem State.endWait_acq (i res : Nat) : (s.endWait i res).acq = s.acq := by simp [State.endWait]
@[simp] theorem State.endWait_link (i res : Nat) : (s.endWait i res).link = s.link := by simp [State.endWait]
@[simp] theorem State.endWait_srv (i res : Nat) : (s.endWait i res).srv = s.srv := by simp [State.endWait]
@[simp] theorem State.endWait_pl (i res : Nat) : (s.endWait i res).pl = s.pl := by simp [State.endWait]
@[simp] theorem State.endWait_opt (i res : Nat) : (s.endWait i res).opt = s.opt := by simp [State.endWait]
@[simp] theorem State.endWait_sep (i res : Nat) : (s.endWait i res).sep = s.sep := by simp [State.endWait]
@[simp] theorem State.endWait_sf (i res : Nat) : (s.endWait i res).sf = s.sf := by simp [State.endWait]
@[simp] theorem State.endWait_twin (i res : Nat) : (s.endWait i res).twin = s.twin := by simp [State.endWait]
@[simp] theorem State.endWait_clk (i res : Nat) : (s.endWait i res).clk = s.clk := by simp [State.endWait]
@[simp] theorem State.endWait_modeCmd (i res : Nat) : (s.endWait i res).modeCmd = s.modeCmd := by simp [State.endWait]
@[simp] theorem State.endWait_modeOver (i res : Nat) : (s.endWait i res).modeOver = s.modeOver := by simp [State.endWait]
@[simp] theorem State.endWait_egress (i res : Nat) : (s.endWait i res).egress = s.egress := by simp [State.endWait]
@[simp] theorem State.endWait_free (i res : Nat) : (s.endWait i res).free = s.free := by simp [State.endWait]
@[simp] theorem State.endWait_pending (i res : Nat) : (s.endWait i res).pending = s.pending := by simp [State.endWait]

theorem State.regsWf_endWait {s : State} (w : s.regsWf) (i res : Nat) : (s.endWait i res).regsWf := State.regsWf_makeSuspended (State.regsWf_put w _ _ _) _ _

@[simp] theorem State.signalObj_log (o : Nat) : (s.signalObj o).log = s.log := by simp only [State.signalObj]; split <;> simp
@[simp] theorem State.signalObj_host (o : Nat) : (s.signalObj o).host = s.host := by simp only [State.signalObj]; split <;> simp
@[simp] theorem State.signalObj_time (o : Nat) : (s.signalObj o).time = s.time := by simp only [State.signalObj]; split <;> simp
@[simp] theorem State.signalObj_mem (o : Nat) : (s.signalObj o).mem = s.mem := by simp only [State.signalObj]; split <;> simp
@[simp] theorem State.signalObj_sc (o : Nat) : (s.signalObj o).sc = s.sc := by simp only [State.signalObj]; split <;> simp
@[simp] theorem State.signalObj_la (o : Nat) : (s.signalObj o).la = s.la := by simp only [State.signalObj]; split <;> simp
@[simp] theorem State.signalObj_laPulse (o : Nat) : (s.signalObj o).laPulse = s.laPulse := by simp only [State.signalObj]; split <;> simp
@[simp] theorem State.signalObj_acq (o : Nat) : (s.signalObj o).acq = s.acq := by simp only [State.signalObj]; split <;> simp
@[simp] theorem State.signalObj_link (o : Nat) : (s.signalObj o).link = s.link := by simp only [State.signalObj]; split <;> simp
@[simp] theorem State.signalObj_srv (o : Nat) : (s.signalObj o).srv = s.srv := by simp only [State.signalObj]; split <;> simp
@[simp] theorem State.signalObj_pl (o : Nat) : (s.signalObj o).pl = s.pl := by simp only [State.signalObj]; split <;> simp
@[simp] theorem State.signalObj_opt (o : Nat) : (s.signalObj o).opt = s.opt := by simp only [State.signalObj]; split <;> simp
@[simp] theorem State.signalObj_sep (o : Nat) : (s.signalObj o).sep = s.sep := by simp only [State.signalObj]; split <;> simp
@[simp] theorem State.signalObj_sf (o : Nat) : (s.signalObj o).sf = s.sf := by simp only [State.signalObj]; split <;> simp
@[simp] theorem State.signalObj_twin (o : Nat) : (s.signalObj o).twin = s.twin := by simp only [State.signalObj]; split <;> simp
@[simp] theorem State.signalObj_clk (o : Nat) : (s.signalObj o).clk = s.clk := by simp only [State.signalObj]; split <;> simp
@[simp] theorem State.signalObj_modeCmd (o : Nat) : (s.signalObj o).modeCmd = s.modeCmd := by simp only [State.signalObj]; split <;> simp
@[simp] theorem State.signalObj_modeOver (o : Nat) : (s.signalObj o).modeOver = s.modeOver := by simp only [State.signalObj]; split <;> simp
@[simp] theorem State.signalObj_egress (o : Nat) : (s.signalObj o).egress = s.egress := by simp only [State.signalObj]; split <;> simp
@[simp] theorem State.signalObj_free (o : Nat) : (s.signalObj o).free = s.free := by simp only [State.signalObj]; split <;> simp
@[simp] theorem State.signalObj_pending (o : Nat) : (s.signalObj o).pending = s.pending := by simp only [State.signalObj]; split <;> simp

theorem State.regsWf_signalObj {s : State} (w : s.regsWf) (o : Nat) : (s.signalObj o).regsWf := by
  simp only [State.signalObj]; split
  · exact State.regsWf_endWait w _ _
  · exact State.regsWf_put w _ _ _

@[simp] theorem State.setSlot_log (c k : Nat) (x : SlotSt) : (s.setSlot c k x).log = s.log := by simp [State.setSlot]
@[simp] theorem State.setSlot_host (c k : Nat) (x : SlotSt) : (s.setSlot c k x).host = s.host := by simp [State.setSlot]
@[simp] theorem State.setSlot_time (c k : Nat) (x : SlotSt) : (s.setSlot c k x).time = s.time := by simp [State.setSlot]
@[simp] theorem State.setSlot_mem (c k : Nat) (x : SlotSt) : (s.setSlot c k x).mem = s.mem := by simp [State.setSlot]
@[simp] theorem State.setSlot_sc (c k : Nat) (x : SlotSt) : (s.setSlot c k x).sc = s.sc := by simp [State.setSlot]
@[simp] theorem State.setSlot_la (c k : Nat) (x : SlotSt) : (s.setSlot c k x).la = s.la := by simp [State.setSlot]
@[simp] theorem State.setSlot_laPulse (c k : Nat) (x : SlotSt) : (s.setSlot c k x).laPulse = s.laPulse := by simp [State.setSlot]
@[simp] theorem State.setSlot_acq (c k : Nat) (x : SlotSt) : (s.setSlot c k x).acq = s.acq := by simp [State.setSlot]
@[simp] theorem State.setSlot_link (c k : Nat) (x : SlotSt) : (s.setSlot c k x).link = s.link := by simp [State.setSlot]
@[simp] theorem State.setSlot_srv (c k : Nat) (x : SlotSt) : (s.setSlot c k x).srv = s.srv := by simp [State.setSlot]
@[simp] theorem State.setSlot_pl (c k : Nat) (x : SlotSt) : (s.setSlot c k x).pl = s.pl := by simp [State.setSlot]
@[simp] theorem State.setSlot_opt (c k : Nat) (x : SlotSt) : (s.setSlot c k x).opt = s.opt := by simp [State.setSlot]
@[simp] theorem State.setSlot_sep (c k : Nat) (x : SlotSt) : (s.setSlot c k x).sep = s.sep := by simp [State.setSlot]
@[simp] theorem State.setSlot_sf (c k : Nat) (x : SlotSt) : (s.setSlot c k x).sf = s.sf := by simp [State.setSlot]
@[simp] theorem State.setSlot_twin (c k : Nat) (x : SlotSt) : (s.setSlot c k x).twin = s.twin := by simp [State.setSlot]
@[simp] theorem State.setSlot_clk (c k : Nat) (x : SlotSt) : (s.setSlot c k x).clk = s.clk := by simp [State.setSlot]
@[simp] theorem State.setSlot_modeCmd (c k : Nat) (x : SlotSt) : (s.setSlot c k x).modeCmd = s.modeCmd := by simp [State.setSlot]
@[simp] theorem State.setSlot_modeOver (c k : Nat) (x : SlotSt) : (s.setSlot c k x).modeOver = s.modeOver := by simp [State.setSlot]
@[simp] theorem State.setSlot_egress (c k : Nat) (x : SlotSt) : (s.setSlot c k x).egress = s.egress := by simp [State.setSlot]
@[simp] theorem State.setSlot_free (c k : Nat) (x : SlotSt) : (s.setSlot c k x).free = s.free := by simp [State.setSlot]
@[simp] theorem State.setSlot_pending (c k : Nat) (x : SlotSt) : (s.setSlot c k x).pending = s.pending := by simp [State.setSlot]

theorem State.regsWf_setSlot {s : State} (w : s.regsWf) (c k : Nat) (x : SlotSt) : (s.setSlot c k x).regsWf := State.regsWf_put (s := State.modCore _ _ _) w _ _ _

/-- What stays. -/
theorem State.complete_same (c : Cmd) (st b : Nat) :
    (s.complete c st b).time = s.time ∧ (s.complete c st b).mem = s.mem ∧ (s.complete c st b).sc = s.sc ∧ (s.complete c st b).la = s.la ∧ (s.complete c st b).laPulse = s.laPulse ∧ (s.complete c st b).acq = s.acq ∧ (s.complete c st b).link = s.link ∧ (s.complete c st b).srv = s.srv ∧ (s.complete c st b).pl = s.pl ∧ (s.complete c st b).opt = s.opt ∧ (s.complete c st b).sep = s.sep ∧ (s.complete c st b).sf = s.sf ∧ (s.complete c st b).twin = s.twin ∧ (s.complete c st b).clk = s.clk ∧ (s.complete c st b).modeCmd = s.modeCmd ∧ (s.complete c st b).modeOver = s.modeOver ∧ (s.complete c st b).free = s.free ∧ (s.complete c st b).pending = s.pending := by simp only [State.complete]; split <;> (try split) <;> (try split) <;> (try split) <;> simp
@[simp] theorem State.complete_time (c : Cmd) (st b : Nat) : (s.complete c st b).time = s.time := (s.complete_same c st b).1
@[simp] theorem State.complete_mem (c : Cmd) (st b : Nat) : (s.complete c st b).mem = s.mem := (s.complete_same c st b).2.1
@[simp] theorem State.complete_sc (c : Cmd) (st b : Nat) : (s.complete c st b).sc = s.sc := (s.complete_same c st b).2.2.1
@[simp] theorem State.complete_la (c : Cmd) (st b : Nat) : (s.complete c st b).la = s.la := (s.complete_same c st b).2.2.2.1
@[simp] theorem State.complete_laPulse (c : Cmd) (st b : Nat) : (s.complete c st b).laPulse = s.laPulse := (s.complete_same c st b).2.2.2.2.1
@[simp] theorem State.complete_acq (c : Cmd) (st b : Nat) : (s.complete c st b).acq = s.acq := (s.complete_same c st b).2.2.2.2.2.1
@[simp] theorem State.complete_link (c : Cmd) (st b : Nat) : (s.complete c st b).link = s.link := (s.complete_same c st b).2.2.2.2.2.2.1
@[simp] theorem State.complete_srv (c : Cmd) (st b : Nat) : (s.complete c st b).srv = s.srv := (s.complete_same c st b).2.2.2.2.2.2.2.1
@[simp] theorem State.complete_pl (c : Cmd) (st b : Nat) : (s.complete c st b).pl = s.pl := (s.complete_same c st b).2.2.2.2.2.2.2.2.1
@[simp] theorem State.complete_opt (c : Cmd) (st b : Nat) : (s.complete c st b).opt = s.opt := (s.complete_same c st b).2.2.2.2.2.2.2.2.2.1
@[simp] theorem State.complete_sep (c : Cmd) (st b : Nat) : (s.complete c st b).sep = s.sep := (s.complete_same c st b).2.2.2.2.2.2.2.2.2.2.1
@[simp] theorem State.complete_sf (c : Cmd) (st b : Nat) : (s.complete c st b).sf = s.sf := (s.complete_same c st b).2.2.2.2.2.2.2.2.2.2.2.1
@[simp] theorem State.complete_twin (c : Cmd) (st b : Nat) : (s.complete c st b).twin = s.twin := (s.complete_same c st b).2.2.2.2.2.2.2.2.2.2.2.2.1
@[simp] theorem State.complete_clk (c : Cmd) (st b : Nat) : (s.complete c st b).clk = s.clk := (s.complete_same c st b).2.2.2.2.2.2.2.2.2.2.2.2.2.1
@[simp] theorem State.complete_modeCmd (c : Cmd) (st b : Nat) : (s.complete c st b).modeCmd = s.modeCmd := (s.complete_same c st b).2.2.2.2.2.2.2.2.2.2.2.2.2.2.1
@[simp] theorem State.complete_modeOver (c : Cmd) (st b : Nat) : (s.complete c st b).modeOver = s.modeOver := (s.complete_same c st b).2.2.2.2.2.2.2.2.2.2.2.2.2.2.2.1
@[simp] theorem State.complete_free (c : Cmd) (st b : Nat) : (s.complete c st b).free = s.free := (s.complete_same c st b).2.2.2.2.2.2.2.2.2.2.2.2.2.2.2.2.1
@[simp] theorem State.complete_pending (c : Cmd) (st b : Nat) : (s.complete c st b).pending = s.pending := (s.complete_same c st b).2.2.2.2.2.2.2.2.2.2.2.2.2.2.2.2.2

theorem State.regsWf_complete {s : State} (w : s.regsWf) (c : Cmd) (st b : Nat) : (s.complete c st b).regsWf := by
  simp only [State.complete]
  split
  · exact w
  · split
    · exact w
    · split
      · exact w
      · split
        · apply State.regsWf_ringPost; exact w
        · apply State.regsWf_post; exact w
    · split
      · split
        · apply State.regsWf_signalObj; apply State.regsWf_setSlot; exact w
        · apply State.regsWf_setSlot; exact w
      · exact w
    · split
      · apply State.regsWf_ringPost; exact w
      · apply State.regsWf_post; exact w

/-- What stays. -/
theorem State.refuse_same (c : Cmd) (v : Verdict) :
    (s.refuse c v).time = s.time ∧ (s.refuse c v).mem = s.mem ∧ (s.refuse c v).sc = s.sc ∧ (s.refuse c v).la = s.la ∧ (s.refuse c v).laPulse = s.laPulse ∧ (s.refuse c v).acq = s.acq ∧ (s.refuse c v).link = s.link ∧ (s.refuse c v).srv = s.srv ∧ (s.refuse c v).pl = s.pl ∧ (s.refuse c v).opt = s.opt ∧ (s.refuse c v).sep = s.sep ∧ (s.refuse c v).sf = s.sf ∧ (s.refuse c v).twin = s.twin ∧ (s.refuse c v).clk = s.clk ∧ (s.refuse c v).modeCmd = s.modeCmd ∧ (s.refuse c v).modeOver = s.modeOver ∧ (s.refuse c v).free = s.free ∧ (s.refuse c v).pending = s.pending := by cases v <;> simp [State.refuse]
@[simp] theorem State.refuse_time (c : Cmd) (v : Verdict) : (s.refuse c v).time = s.time := (s.refuse_same c v).1
@[simp] theorem State.refuse_mem (c : Cmd) (v : Verdict) : (s.refuse c v).mem = s.mem := (s.refuse_same c v).2.1
@[simp] theorem State.refuse_sc (c : Cmd) (v : Verdict) : (s.refuse c v).sc = s.sc := (s.refuse_same c v).2.2.1
@[simp] theorem State.refuse_la (c : Cmd) (v : Verdict) : (s.refuse c v).la = s.la := (s.refuse_same c v).2.2.2.1
@[simp] theorem State.refuse_laPulse (c : Cmd) (v : Verdict) : (s.refuse c v).laPulse = s.laPulse := (s.refuse_same c v).2.2.2.2.1
@[simp] theorem State.refuse_acq (c : Cmd) (v : Verdict) : (s.refuse c v).acq = s.acq := (s.refuse_same c v).2.2.2.2.2.1
@[simp] theorem State.refuse_link (c : Cmd) (v : Verdict) : (s.refuse c v).link = s.link := (s.refuse_same c v).2.2.2.2.2.2.1
@[simp] theorem State.refuse_srv (c : Cmd) (v : Verdict) : (s.refuse c v).srv = s.srv := (s.refuse_same c v).2.2.2.2.2.2.2.1
@[simp] theorem State.refuse_pl (c : Cmd) (v : Verdict) : (s.refuse c v).pl = s.pl := (s.refuse_same c v).2.2.2.2.2.2.2.2.1
@[simp] theorem State.refuse_opt (c : Cmd) (v : Verdict) : (s.refuse c v).opt = s.opt := (s.refuse_same c v).2.2.2.2.2.2.2.2.2.1
@[simp] theorem State.refuse_sep (c : Cmd) (v : Verdict) : (s.refuse c v).sep = s.sep := (s.refuse_same c v).2.2.2.2.2.2.2.2.2.2.1
@[simp] theorem State.refuse_sf (c : Cmd) (v : Verdict) : (s.refuse c v).sf = s.sf := (s.refuse_same c v).2.2.2.2.2.2.2.2.2.2.2.1
@[simp] theorem State.refuse_twin (c : Cmd) (v : Verdict) : (s.refuse c v).twin = s.twin := (s.refuse_same c v).2.2.2.2.2.2.2.2.2.2.2.2.1
@[simp] theorem State.refuse_clk (c : Cmd) (v : Verdict) : (s.refuse c v).clk = s.clk := (s.refuse_same c v).2.2.2.2.2.2.2.2.2.2.2.2.2.1
@[simp] theorem State.refuse_modeCmd (c : Cmd) (v : Verdict) : (s.refuse c v).modeCmd = s.modeCmd := (s.refuse_same c v).2.2.2.2.2.2.2.2.2.2.2.2.2.2.1
@[simp] theorem State.refuse_modeOver (c : Cmd) (v : Verdict) : (s.refuse c v).modeOver = s.modeOver := (s.refuse_same c v).2.2.2.2.2.2.2.2.2.2.2.2.2.2.2.1
@[simp] theorem State.refuse_free (c : Cmd) (v : Verdict) : (s.refuse c v).free = s.free := (s.refuse_same c v).2.2.2.2.2.2.2.2.2.2.2.2.2.2.2.2.1
@[simp] theorem State.refuse_pending (c : Cmd) (v : Verdict) : (s.refuse c v).pending = s.pending := (s.refuse_same c v).2.2.2.2.2.2.2.2.2.2.2.2.2.2.2.2.2

theorem State.regsWf_refuse {s : State} (w : s.regsWf) (c : Cmd) (v : Verdict) : (s.refuse c v).regsWf := by
  cases v <;> simp only [State.refuse]
  all_goals first
    | exact State.regsWf_complete w _ _ _
    | exact State.regsWf_complete (State.regsWf_post w _ _ _) _ _ _

@[simp] theorem State.showJournal_log : (s.showJournal).log = s.log := by simp [State.showJournal]
@[simp] theorem State.showJournal_host : (s.showJournal).host = s.host := by simp [State.showJournal]
@[simp] theorem State.showJournal_time : (s.showJournal).time = s.time := by simp [State.showJournal]
@[simp] theorem State.showJournal_wc : (s.showJournal).wc = s.wc := by simp [State.showJournal]
@[simp] theorem State.showJournal_mem : (s.showJournal).mem = s.mem := by simp [State.showJournal]
@[simp] theorem State.showJournal_sc : (s.showJournal).sc = s.sc := by simp [State.showJournal]
@[simp] theorem State.showJournal_la : (s.showJournal).la = s.la := by simp [State.showJournal]
@[simp] theorem State.showJournal_laPulse : (s.showJournal).laPulse = s.laPulse := by simp [State.showJournal]
@[simp] theorem State.showJournal_acq : (s.showJournal).acq = s.acq := by simp [State.showJournal]
@[simp] theorem State.showJournal_link : (s.showJournal).link = s.link := by simp [State.showJournal]
@[simp] theorem State.showJournal_srv : (s.showJournal).srv = s.srv := by simp [State.showJournal]
@[simp] theorem State.showJournal_pl : (s.showJournal).pl = s.pl := by simp [State.showJournal]
@[simp] theorem State.showJournal_opt : (s.showJournal).opt = s.opt := by simp [State.showJournal]
@[simp] theorem State.showJournal_sep : (s.showJournal).sep = s.sep := by simp [State.showJournal]
@[simp] theorem State.showJournal_sf : (s.showJournal).sf = s.sf := by simp [State.showJournal]
@[simp] theorem State.showJournal_twin : (s.showJournal).twin = s.twin := by simp [State.showJournal]
@[simp] theorem State.showJournal_clk : (s.showJournal).clk = s.clk := by simp [State.showJournal]
@[simp] theorem State.showJournal_modeCmd : (s.showJournal).modeCmd = s.modeCmd := by simp [State.showJournal]
@[simp] theorem State.showJournal_modeOver : (s.showJournal).modeOver = s.modeOver := by simp [State.showJournal]
@[simp] theorem State.showJournal_egress : (s.showJournal).egress = s.egress := by simp [State.showJournal]
@[simp] theorem State.showJournal_free : (s.showJournal).free = s.free := by simp [State.showJournal]
@[simp] theorem State.showJournal_pending : (s.showJournal).pending = s.pending := by simp [State.showJournal]

theorem State.regsWf_showJournal {s : State} (w : s.regsWf) : (s.showJournal).regsWf := State.regsWf_put (State.regsWf_put w _ _ _) _ _ _

@[simp] theorem State.journal_log (e : JEntry) : (s.journal e).log = s.log := by simp [State.journal]
@[simp] theorem State.journal_host (e : JEntry) : (s.journal e).host = s.host := by simp [State.journal]
@[simp] theorem State.journal_time (e : JEntry) : (s.journal e).time = s.time := by simp [State.journal]
@[simp] theorem State.journal_wc (e : JEntry) : (s.journal e).wc = s.wc := by simp [State.journal]
@[simp] theorem State.journal_mem (e : JEntry) : (s.journal e).mem = s.mem := by simp [State.journal]
@[simp] theorem State.journal_sc (e : JEntry) : (s.journal e).sc = s.sc := by simp [State.journal]
@[simp] theorem State.journal_la (e : JEntry) : (s.journal e).la = s.la := by simp [State.journal]
@[simp] theorem State.journal_laPulse (e : JEntry) : (s.journal e).laPulse = s.laPulse := by simp [State.journal]
@[simp] theorem State.journal_acq (e : JEntry) : (s.journal e).acq = s.acq := by simp [State.journal]
@[simp] theorem State.journal_link (e : JEntry) : (s.journal e).link = s.link := by simp [State.journal]
@[simp] theorem State.journal_srv (e : JEntry) : (s.journal e).srv = s.srv := by simp [State.journal]
@[simp] theorem State.journal_pl (e : JEntry) : (s.journal e).pl = s.pl := by simp [State.journal]
@[simp] theorem State.journal_opt (e : JEntry) : (s.journal e).opt = s.opt := by simp [State.journal]
@[simp] theorem State.journal_sep (e : JEntry) : (s.journal e).sep = s.sep := by simp [State.journal]
@[simp] theorem State.journal_sf (e : JEntry) : (s.journal e).sf = s.sf := by simp [State.journal]
@[simp] theorem State.journal_clk (e : JEntry) : (s.journal e).clk = s.clk := by simp [State.journal]
@[simp] theorem State.journal_modeCmd (e : JEntry) : (s.journal e).modeCmd = s.modeCmd := by simp [State.journal]
@[simp] theorem State.journal_modeOver (e : JEntry) : (s.journal e).modeOver = s.modeOver := by simp [State.journal]
@[simp] theorem State.journal_free (e : JEntry) : (s.journal e).free = s.free := by simp [State.journal]
@[simp] theorem State.journal_pending (e : JEntry) : (s.journal e).pending = s.pending := by simp [State.journal]

theorem State.regsWf_journal {s : State} (w : s.regsWf) (e : JEntry) : (s.journal e).regsWf := State.regsWf_showJournal (s := State.emit _ _) w

@[simp] theorem State.journalCmd_log (c : Cmd) (d : List Byte) : (s.journalCmd c d).log = s.log := by simp only [State.journalCmd]; split <;> simp
@[simp] theorem State.journalCmd_host (c : Cmd) (d : List Byte) : (s.journalCmd c d).host = s.host := by simp only [State.journalCmd]; split <;> simp
@[simp] theorem State.journalCmd_time (c : Cmd) (d : List Byte) : (s.journalCmd c d).time = s.time := by simp only [State.journalCmd]; split <;> simp
@[simp] theorem State.journalCmd_wc (c : Cmd) (d : List Byte) : (s.journalCmd c d).wc = s.wc := by simp only [State.journalCmd]; split <;> simp
@[simp] theorem State.journalCmd_mem (c : Cmd) (d : List Byte) : (s.journalCmd c d).mem = s.mem := by simp only [State.journalCmd]; split <;> simp
@[simp] theorem State.journalCmd_sc (c : Cmd) (d : List Byte) : (s.journalCmd c d).sc = s.sc := by simp only [State.journalCmd]; split <;> simp
@[simp] theorem State.journalCmd_la (c : Cmd) (d : List Byte) : (s.journalCmd c d).la = s.la := by simp only [State.journalCmd]; split <;> simp
@[simp] theorem State.journalCmd_laPulse (c : Cmd) (d : List Byte) : (s.journalCmd c d).laPulse = s.laPulse := by simp only [State.journalCmd]; split <;> simp
@[simp] theorem State.journalCmd_acq (c : Cmd) (d : List Byte) : (s.journalCmd c d).acq = s.acq := by simp only [State.journalCmd]; split <;> simp
@[simp] theorem State.journalCmd_link (c : Cmd) (d : List Byte) : (s.journalCmd c d).link = s.link := by simp only [State.journalCmd]; split <;> simp
@[simp] theorem State.journalCmd_srv (c : Cmd) (d : List Byte) : (s.journalCmd c d).srv = s.srv := by simp only [State.journalCmd]; split <;> simp
@[simp] theorem State.journalCmd_pl (c : Cmd) (d : List Byte) : (s.journalCmd c d).pl = s.pl := by simp only [State.journalCmd]; split <;> simp
@[simp] theorem State.journalCmd_opt (c : Cmd) (d : List Byte) : (s.journalCmd c d).opt = s.opt := by simp only [State.journalCmd]; split <;> simp
@[simp] theorem State.journalCmd_sep (c : Cmd) (d : List Byte) : (s.journalCmd c d).sep = s.sep := by simp only [State.journalCmd]; split <;> simp
@[simp] theorem State.journalCmd_sf (c : Cmd) (d : List Byte) : (s.journalCmd c d).sf = s.sf := by simp only [State.journalCmd]; split <;> simp
@[simp] theorem State.journalCmd_clk (c : Cmd) (d : List Byte) : (s.journalCmd c d).clk = s.clk := by simp only [State.journalCmd]; split <;> simp
@[simp] theorem State.journalCmd_modeCmd (c : Cmd) (d : List Byte) : (s.journalCmd c d).modeCmd = s.modeCmd := by simp only [State.journalCmd]; split <;> simp
@[simp] theorem State.journalCmd_modeOver (c : Cmd) (d : List Byte) : (s.journalCmd c d).modeOver = s.modeOver := by simp only [State.journalCmd]; split <;> simp
@[simp] theorem State.journalCmd_free (c : Cmd) (d : List Byte) : (s.journalCmd c d).free = s.free := by simp only [State.journalCmd]; split <;> simp
@[simp] theorem State.journalCmd_pending (c : Cmd) (d : List Byte) : (s.journalCmd c d).pending = s.pending := by simp only [State.journalCmd]; split <;> simp

theorem State.regsWf_journalCmd {s : State} (w : s.regsWf) (c : Cmd) (d : List Byte) : (s.journalCmd c d).regsWf := by
  simp only [State.journalCmd]; split
  · exact State.regsWf_journal w _
  · exact w

/-- Recording a foul changes no register but the count of drops. -/
theorem State.post_reg_of_ne (code src : Nat) (d : BitVec 128) {o : Nat} (h : o ≠ Reg.FOUL_DROPPED) : (s.post code src d).reg o = s.reg o := by
  simp only [State.post]; split
  · rfl
  · exact State.reg_setReg_of_ne _ h _

theorem State.postB_reg_of_ne (code : Nat) (d : List (Nat × Nat × Nat)) {o : Nat} (h : o ≠ Reg.FOUL_DROPPED) : (s.postB code d).reg o = s.reg o :=
  s.post_reg_of_ne _ _ _ h

/-- A change of a domain's state changes no register but the domain's and the count of drops. -/
theorem State.setDom_reg_of_ne (d st : Nat) {o : Nat} (h : o ≠ Reg.FOUL_DROPPED) (k : o ≠ Reg.PWR_DOMAIN d) : (s.setDom d st).reg o = s.reg o := by
  simp only [State.setDom]; split
  · rfl
  · rw [State.postB_reg_of_ne _ _ _ h, State.reg_put_of_ne _ k]

/-- Waking a domain changes no register but the domain's and the count of drops. -/
theorem State.wakeDom_reg_of_ne (d : Nat) {o : Nat} (h : o ≠ Reg.FOUL_DROPPED) (k : o ≠ Reg.PWR_DOMAIN d) : (s.wakeDom d).reg o = s.reg o := by
  simp only [State.wakeDom]; split
  · rw [State.setDom_reg_of_ne _ _ _ h k]; exact State.reg_put_of_ne _ k _ _
  · rfl

/-- A domain that is not STOPPED stays as it is. -/
theorem State.wakeDom_of_ne (d : Nat) (h : s.domState d ≠ 1) : s.wakeDom d = s := if_neg h

/-! ### Judging a command (R49, R51, R750) -/

/-- A command that was accepted before is not judged again. -/
theorem State.judge_accepted (c : Cmd) (l : List (Bool × Verdict)) (run : State → State) (h : c.accepted = true) :
    s.judge c l run = run (s.ready1 c) := by
  simp [State.judge, State.ready1, h]

/-- A command whose block answers and whose checks all pass runs in the state of `ready1`. -/
theorem State.judge_passed (c : Cmd) (l : List (Bool × Verdict)) (run : State → State) (h : c.accepted = false)
    (a : (s.wakeDom (domainOf (c.op / 256))).blockAway (c.op / 256) = false) (p : firstFail l = none) :
    s.judge c l run = run (s.ready1 c) := by
  simp [State.judge, State.ready1, h, a, p]

/-- A command whose check fails is refused with that check's answer. -/
theorem State.judge_failed (c : Cmd) (l : List (Bool × Verdict)) (run : State → State) (v : Verdict) (h : c.accepted = false)
    (a : (s.wakeDom (domainOf (c.op / 256))).blockAway (c.op / 256) = false) (p : firstFail l = some v) :
    s.judge c l run = (s.wakeDom (domainOf (c.op / 256))).refuse c v := by
  simp [State.judge, h, a, p]

theorem firstFail_append (l m : List (Bool × Verdict)) : firstFail (l ++ m) = (firstFail l).or (firstFail m) := by
  induction l with
  | nil => rfl
  | cons e l ih => obtain ⟨b, v⟩ := e; cases b <;> simp [firstFail, ih]

end Sys2Proof.Machine
end

