-- ==== Sys2Proof/Laws/Memory.lean ====
section
/-!
SUPPORT. The byte memories: a read after a write, and that every operation on shared SRAM, on the work cores' RAM and on their command
slots keeps the canonical form.
-/
namespace Sys2Proof.Machine

/-! ### One memory -/

/-- A write of octets keeps the canonical form. -/
theorem memWrite_wf {m : Tab Byte} (w : Memory.wf m = true) (o : Nat) (l : List Byte) : Memory.wf (memWrite m o l) = true := by
  induction l generalizing m o with
  | nil => exact w
  | cons b l ih => exact ih (tabWf_tabSet _ w o (Nat.zero_le _) b) (o + 1)

/-- A clear keeps the canonical form. -/
theorem memClear_wf {m : Tab Byte} (w : Memory.wf m = true) (lo hi : Nat) : Memory.wf (tabClear lo hi m) = true := tabWf_tabClear _ w lo hi

/-- An octet after a write: the octet written there, else the octet before. -/
theorem memGet_memWrite (m : Tab Byte) (o : Nat) (l : List Byte) (j : Nat) :
    tabGet (fun _ => (0 : Byte)) (memWrite m o l) j =
      if o ≤ j ∧ j < o + l.length then l.getD (j - o) 0 else tabGet (fun _ => 0) m j := by
  induction l generalizing m o with
  | nil => rw [if_neg (by simp only [List.length_nil]; omega)]; rfl
  | cons b l ih =>
    rw [memWrite, ih]
    by_cases h1 : o + 1 ≤ j ∧ j < o + 1 + l.length
    · rw [if_pos h1, if_pos (by simp; omega)]
      obtain ⟨k, rfl⟩ : ∃ k, j = o + 1 + k := ⟨j - (o + 1), by omega⟩
      rw [show o + 1 + k - (o + 1) = k by omega, show o + 1 + k - o = k + 1 by omega]
      rfl
    · rw [if_neg h1, tabGet_tabSet]
      by_cases h2 : j = o
      · subst h2; rw [if_pos rfl, if_pos (by simp), Nat.sub_self]; rfl
      · rw [if_neg h2, if_neg (by simp; omega)]

/-- A range reads what was written to it. -/
theorem memRead_memWrite_self (m : Tab Byte) (o : Nat) (l : List Byte) : memRead (memWrite m o l) o l.length = l := by
  apply List.ext_getElem
  · simp [memRead]
  · intro i h1 h2
    simp only [memRead, List.getElem_map, List.getElem_range, memGet_memWrite]
    rw [if_pos (by omega), show o + i - o = i by omega]
    simp [List.getD, h2]

/-- A range apart from what was written reads as before. -/
theorem memRead_memWrite_of_disjoint (m : Tab Byte) (o p n : Nat) (l : List Byte) (h : p + n ≤ o ∨ o + l.length ≤ p) :
    memRead (memWrite m o l) p n = memRead m p n := by
  unfold memRead
  apply List.map_congr_left
  intro k hk
  rw [memGet_memWrite, if_neg (by have := List.mem_range.mp hk; omega)]

@[simp] theorem memRead_length (m : Tab Byte) (o n : Nat) : (memRead m o n).length = n := by simp [memRead]

/-! ### Folds -/

/-- What every pass of a loop keeps, the loop keeps. -/
theorem forEach_keeps {α σ : Type} (P : σ → Prop) (l : List α) (f : α → σ → σ) (s : σ) (h : P s) (k : ∀ a s, P s → P (f a s)) :
    P (forEach l s f) := by
  induction l generalizing s with
  | nil => exact h
  | cons a l ih => exact ih _ (k a s h)

/-! ### Shared SRAM (R672–R682) -/

variable {s : State}

theorem State.breakResv_mem (s : State) (o n : Nat) : (s.breakResv o n).mem = s.mem := by
  refine forEach_keeps (fun t : State => t.mem = s.mem) _ _ s rfl ?_
  intro c t h
  dsimp only
  split
  · split
    · exact h
    · exact h
  · exact h

/-- The octets of shared SRAM after a write. -/
theorem State.sramWrite_sram (s : State) (o : Nat) (d : List Byte) : (s.sramWrite o d).mem.sram = memWrite s.mem.sram o d := by
  show memWrite (s.breakResv o d.length).mem.sram o d = _
  rw [State.breakResv_mem]

theorem State.sramWf_sramWrite (w : s.sramWf) (o : Nat) (d : List Byte) : (s.sramWrite o d).sramWf := by
  unfold State.sramWf; rw [State.sramWrite_sram]; exact memWrite_wf w o d

theorem State.sramWf_clearGroup (w : s.sramWf) (g : Nat) : (s.clearGroup g).sramWf := memClear_wf w _ _

theorem State.sramWf_clearSecure (w : s.sramWf) : s.clearSecure.sramWf := memClear_wf w _ _

@[simp] theorem State.setGroup_mem (s : State) (g st : Nat) : (s.setGroup g st).mem = s.mem := by
  simp only [State.setGroup]; split <;> simp

theorem State.sramWf_wakeGroup (w : s.sramWf) (g : Nat) : (s.wakeGroup g).sramWf := by
  simp only [State.wakeGroup]
  split
  · unfold State.sramWf; rw [State.setGroup_mem]; exact w
  · split
    · unfold State.sramWf; rw [State.setGroup_mem]; exact State.sramWf_clearGroup w g
    · exact w

theorem State.sramWf_sramWait (w : s.sramWf) (o n : Nat) (a : MemAccess) : (s.sramWait o n a).sramWf :=
  forEach_keeps State.sramWf _ _ s w fun g _ h => State.sramWf_wakeGroup h g

theorem State.sramWf_devWrite (w : s.sramWf) (o : Nat) (d : List Byte) : (s.devWrite o d).sramWf := by
  unfold State.devWrite; split
  · exact State.sramWf_sramWrite w o d
  · exact State.sramWf_sramWait w _ _ _

theorem State.reset_sramWf : State.reset.sramWf := rfl

/-! ### The work cores' memories (R646, R663) -/

/-- Every byte memory of a work core is canonical. -/
def CoreSt.memWf (z : CoreSt) : Prop := Memory.wf z.iram = true ∧ Memory.wf z.dram = true ∧ Memory.wf z.slotMem = true

theorem State.core_modCore (s : State) (c k : Nat) (f : CoreSt → CoreSt) : (s.modCore c f).core k = if k = c then f (s.core c) else s.core k :=
  tabGet_tabSet _ _ _ _ _

theorem State.memWf_modCore (h : ∀ k, (s.core k).memWf) (c : Nat) (f : CoreSt → CoreSt) (w : (f (s.core c)).memWf) :
    ∀ k, ((s.modCore c f).core k).memWf := by
  intro k; rw [State.core_modCore]; split
  · exact w
  · exact h k

theorem CoreSt.memWf_iram {z : CoreSt} (w : z.memWf) (o : Nat) (d : List Byte) : { z with iram := memWrite z.iram o d }.memWf :=
  ⟨memWrite_wf w.1 o d, w.2⟩

theorem CoreSt.memWf_dram {z : CoreSt} (w : z.memWf) (o : Nat) (d : List Byte) : { z with dram := memWrite z.dram o d }.memWf :=
  ⟨w.1, memWrite_wf w.2.1 o d, w.2.2⟩

theorem CoreSt.memWf_slot {z : CoreSt} (w : z.memWf) (o : Nat) (d : List Byte) : { z with slotMem := memWrite z.slotMem o d }.memWf :=
  ⟨w.1, w.2.1, memWrite_wf w.2.2 o d⟩

theorem State.memWf_dramWrite (h : ∀ k, (s.core k).memWf) (c o : Nat) (d : List Byte) : ∀ k, ((s.dramWrite c o d).core k).memWf :=
  State.memWf_modCore h c _ (CoreSt.memWf_dram (h c) o d)

theorem State.reset_memWf (k : Nat) : (State.reset.core k).memWf := ⟨rfl, rfl, rfl⟩

/-! ### Parts kept by number, after one of them changes -/

theorem State.item_modItem (s : State) (i k : Nat) (f : ItemSt → ItemSt) : (s.modItem i f).item k = if k = i then f (s.item i) else s.item k :=
  tabGet_tabSet _ _ _ _ _
theorem State.scCore_modSc (s : State) (c k : Nat) (f : ScSt → ScSt) : (s.modSc c f).scCore k = if k = c then f (s.scCore c) else s.scCore k :=
  tabGet_tabSet _ _ _ _ _
theorem State.laCh_modLa (s : State) (c k : Nat) (f : LaSt → LaSt) : (s.modLa c f).laCh k = if k = c then f (s.laCh c) else s.laCh k :=
  tabGet_tabSet _ _ _ _ _
theorem State.aU_modAU (s : State) (u k : Nat) (f : AcqU → AcqU) : (s.modAU u f).aU k = if k = u then f (s.aU u) else s.aU k :=
  tabGet_tabSet _ _ _ _ _
theorem State.aSet_modASet (s : State) (n k : Nat) (f : AcqSet → AcqSet) : (s.modASet n f).aSet k = if k = n then f (s.aSet n) else s.aSet k :=
  tabGet_tabSet _ _ _ _ _
theorem State.pg_modPg (s : State) (g k : Nat) (f : PlGrp → PlGrp) : (s.modPg g f).pg k = if k = g then f (s.pg g) else s.pg k :=
  tabGet_tabSet _ _ _ _ _
theorem State.og_modOg (s : State) (g k : Nat) (f : OptGrp → OptGrp) : (s.modOg g f).og k = if k = g then f (s.og g) else s.og k :=
  tabGet_tabSet _ _ _ _ _
theorem State.region_modRegion (s : State) (r k : Nat) (f : RegionSt → RegionSt) :
    (s.modRegion r f).region k = if k = r then f (s.region r) else s.region k :=
  tabGet_tabSet _ _ _ _ _

end Sys2Proof.Machine
end

