-- ==== Sys2Proof/WellFormed.lean ====
section
/-!
DEFINITION. Which terms of the syntax are commands and events that this device can meet: operands within the widths
and ranges that the spec gives them. A descriptor is 64 octets whose fields have the widths of R616; initiators are
the PF, VFs 1 to 16, work cores 0 to 15 and the device itself; a frame has the octets of R117 to R121.
-/
namespace Sys2Proof
open Machine

/-- An initiator of the larger part (R2, R54). -/
def Init.wf : Init → Bool
  | .pf => true
  | .vf n => decide (1 ≤ n ∧ n ≤ 16)
  | .wc c => decide (c < 16)
  | .dev => true

/-- A completion port: 16 command rings of the PF at most (R609), 4 command slots of a work core (R663). -/
def CmdPort.wf : CmdPort → Bool
  | .ring r => decide (r < 16)
  | .slot k => decide (k < 4)
  | .none => true
  | .twin => true

/-- A descriptor's fields have the widths of R616, and its port is its issuer's. -/
def Cmd.wf (c : Cmd) : Bool :=
  c.who.wf && c.port.wf && decide (c.op < 0x10000) && decide (c.flags < 0x100) && decide (c.group < 0x100) &&
    (match c.who, c.port with
      | .wc _, .ring _ => false
      | .pf, .slot _ => false
      | .vf _, .slot _ => false
      | _, _ => true)

/-- A frame's start block has 7 octets beside its type, and its payload whole 64-bit blocks (R117–R120). -/
def RawFrame.wf (f : RawFrame) : Bool :=
  decide (f.start.length = 7) && decide (f.header.length % 8 = 0) && decide (f.payload.length % 8 = 0)

/-- A readback names STO groups and brake channels in 24 bits, and at most 8 coil currents. -/
def Readback.wf (r : Readback) : Bool := decide (r.x < 2 ^ 24) && decide (r.y < 2 ^ 24) && decide (r.ma.length ≤ 8)

/-- A command or event that this device can meet. -/
def Instr.wf : Instr → Bool
  | .registerWrite who _ size _ => who.wf && decide (1 ≤ size ∧ size ≤ 8)
  | .unmappedRead who _ => who.wf
  | .pairLoRead who _ => who.wf
  | .pairHiRead who _ => who.wf
  | .pairLoWrite who _ _ => who.wf
  | .pairHiWrite who _ _ => who.wf
  | .rcRegisterRead who _ => who.wf
  | .lockBitSet who _ _ => who.wf
  | .foulQueueMove block => decide (block < 16)
  | .supervisionTick => true
  | .defectClear who _ => who.wf
  | .setDeviceMode c => c.wf
  | .foulFlush c => c.wf
  | .powerOnResetPd0 => true
  | .timeSlew c => c.wf
  | .timeSetRate c => c.wf
  | .timeStep c => c.wf
  | .slewComplete view => decide (view < 2)
  | .timeSnap who _ => who.wf
  | .discSampleCommit who _ => who.wf
  | .plantHoldoverEnter => true
  | .timedCommandExecute => true
  | .actArm c => c.wf
  | .actDisarm c => c.wf
  | .actionFire entry => decide (entry < 256)
  | .linkStage c => c.wf
  | .linkStart c => c.wf
  | .linkStop c => c.wf
  | .linkCommit c => c.wf
  | .linkPortOpen c => c.wf
  | .linkPortClose c => c.wf
  | .linkNodeCtrl c => c.wf
  | .linkMgmt c => c.wf
  | .listenCountExpire => true
  | .claimCountExpire => true
  | .startBlockReceive ch port _ _ => decide (ch < 2) && decide (port < 20)
  | .frameOverrun ch port => decide (ch < 2) && decide (port < 20)
  | .arbGrant ch e _ => decide (ch < 2) && decide (e < 512)
  | .serveReceive ch port _ f => decide (ch < 2) && decide (port < 20) && f.wf
  | .letReceive ch port _ f => decide (ch < 2) && decide (port < 20) && f.wf
  | .letPhaseOpen ch => decide (ch < 2)
  | .letPhaseClose ch => decide (ch < 2)
  | .letSend => true
  | .masterLossExpire => true
  | .claimReceive ch port f => decide (ch < 2) && decide (port < 20) && f.wf
  | .dataReceive ch port f => decide (ch < 2) && decide (port < 20) && f.wf
  | .arbReceive ch port f => decide (ch < 2) && decide (port < 20) && f.wf
  | .streamFrameReceive ch port f => decide (ch < 2) && decide (port < 20) && f.wf
  | .mgmtReceive ch port f => decide (ch < 2) && decide (port < 20) && f.wf
  | .linkMgmtTimeout _ => true
  | .joinReqReceive ch port f => decide (ch < 2) && decide (port < 20) && f.wf
  | .syncAnswerReceive ch port _ f => decide (ch < 2) && decide (port < 20) && f.wf
  | .probeUnanswered ch port => decide (ch < 2) && decide (port < 20)
  | .reprobeExpire => true
  | .entryMissing ch e => decide (ch < 2) && decide (e < 512)
  | .deviceDataSend e => decide (e < 512)
  | .deviceMgmtSend e => decide (e < 512)
  | .probationEnd ch n => decide (ch < 2) && decide (n ≤ 240)
  | .memberSilent ch n => decide (ch < 2) && decide (n ≤ 240)
  | .containDecay ch port => decide (ch < 2) && decide (port < 20)
  | .laneLost ch port _ _ => decide (ch < 2) && decide (port < 20)
  | .laneLossExpire ch port => decide (ch < 2) && decide (port < 20)
  | .ackWaitExpire => true
  | .grpLoadModel c _ => c.wf
  | .grpEnable c => c.wf
  | .grpDisable c => c.wf
  | .moveJoint c _ => c.wf
  | .movePath c _ => c.wf
  | .moveTrack c _ => c.wf
  | .moveModify c _ => c.wf
  | .grpSetLimits c => c.wf
  | .grpStop c => c.wf
  | .grpHold c => c.wf
  | .grpResume c => c.wf
  | .grpClearFault c => c.wf
  | .zoneAcquire c => c.wf
  | .zoneRelease c => c.wf
  | .zoneSet c => c.wf
  | .feedbackCutoff _ => true
  | .optimiserDeadline _ _ _ => true
  | .rampEnd g => decide (g < 16)
  | .optStage c _ => c.wf
  | .optCommit c => c.wf
  | .optLoadDyn c _ => c.wf
  | .optSetPayload c => c.wf
  | .optCopySolution c => c.wf
  | .gravityJobDone g => decide (g < 16)
  | .solveIterationDone g corr => decide (g < 16) && decide (corr < 256)
  | .deadlinePctWrite who _ => who.wf
  | .clusterFault clu cause => decide (clu < 8) && decide (cause < 256)
  | .srvCommit c => c.wf
  | .srvCopy c => c.wf
  | .srvAxCfgWrite who a _ => who.wf && decide (a < 224)
  | .servoComputeDone => true
  | .servoOverrunCheck _ => true
  | .enableTimeout g => decide (g < 16)
  | .brakeTimeExpire g => decide (g < 16)
  | .sepEnable c => c.wf
  | .sepDisable c => c.wf
  | .sepCapEnable c => c.wf
  | .sepCopyField c => c.wf
  | .sepMemoryFault _ => true
  | .sfAuth c => c.wf
  | .sfLogout c => c.wf
  | .sfSetPassword c => c.wf
  | .sfZoneBegin c => c.wf
  | .sfZoneWrite c => c.wf
  | .sfPairWrite c => c.wf
  | .sfBrkWrite c => c.wf
  | .sfTpWrite c => c.wf
  | .sfZoneCommit c => c.wf
  | .sfZoneAbort c => c.wf
  | .sfZoneReset c => c.wf
  | .sfZoneUnlock c => c.wf
  | .sfLogRead c => c.wf
  | .sfReadCfg c => c.wf
  | .sfInputEdge pair ch _ => decide (pair < 32) && decide (ch < 2)
  | .discrepancyTimeout pair => decide (pair < 32)
  | .twoHandTimeout couple => decide (couple < 16)
  | .testPulseStart src => decide (src < 16)
  | .testPulseCheck pair ch _ => decide (pair < 32) && decide (ch < 2)
  | .testPulseEnd src => decide (src < 16)
  | .stopDelayExpire zone => decide (zone < 16)
  | .closingTestStep out _ _ => decide (out < 24)
  | .onTestStart group => decide (group < 24)
  | .onTestEnd group _ _ => decide (group < 24)
  | .readbackFault out _ _ => decide (out < 24)
  | .brakeCurrentFault brake ma => decide (brake < 8) && decide (ma < 2 ^ 16)
  | .requestLineChange line _ => decide (line < 25)
  | .dieFault cause => decide (cause < 256)
  | .sfPowerUp _ => true
  | .sfStatusFrame _ rb => rb.wf
  | .sfPathLoss => true
  | .sfConfigAnswer _ => true
  | .sfConfigTimeout => true
  | .sfSessionTimeout => true
  | .sfAuthBlockEnd => true
  | .laSetCount c => c.wf
  | .laCmpEnable c => c.wf
  | .laRunWrite who ch _ => who.wf && decide (ch < 32)
  | .laCmpCtrlWrite who ch e _ => who.wf && decide (ch < 32) && decide (e < 64)
  | .laErrClear who ch _ => who.wf && decide (ch < 32)
  | .quadTransition ch ab => decide (ch < 32) && decide (ab < 4)
  | .stepDirEdge ch _ => decide (ch < 32)
  | .upDownEdge ch _ _ => decide (ch < 32)
  | .hallCodeChange ch code => decide (ch < 32) && decide (code < 8)
  | .comparePulseEnd out => decide (out < 16)
  | .laRxFault ch input => decide (ch < 32) && decide (input < 4)
  | .laIndex ch => decide (ch < 32)
  | .latchCapture ch pin _ _ _ => decide (ch < 32) && decide (pin < 3)
  | .latchTimeHiRead who ch => who.wf && decide (ch < 32)
  | .stepEmit ch => decide (ch < 32)
  | .chopComparator ch ph i => decide (ch < 32) && decide (ph < 2) && decide (i < 2 ^ 16)
  | .chopFastEnd ch ph => decide (ch < 32) && decide (ph < 2)
  | .adaptInterval ch _ => decide (ch < 32)
  | .chopOvercurrent ch ph i => decide (ch < 32) && decide (ph < 2) && decide (i < 2 ^ 16)
  | .analoguePathGap _ => true
  | .analogueGateTimeout => true
  | .acqSetStart c => c.wf
  | .acqSetStop c => c.wf
  | .acqArm c => c.wf
  | .acqStop c => c.wf
  | .acqForce c => c.wf
  | .acqCopy c => c.wf
  | .acqTbCal c => c.wf
  | .conversionSample set _ => decide (set < 16)
  | .conversionReady set => decide (set < 16)
  | .acqPathGap _ => true
  | .acqTimeTrigger u => decide (u < 16)
  | .acqPreFilled u => decide (u < 16)
  | .acqPostComplete u => decide (u < 16)
  | .acqRearmEnd u => decide (u < 16)
  | .streamChunkPost ring _ _ => decide (ring < 64)
  | .decRestore u => decide (u < 16)
  | .acqLostHiRead who u => who.wf && decide (u < 16)
  | .triggerBusPulse line width _ _ => decide (line < 5) && decide (width < 2 ^ 16)
  | .tbCalProbe line _ => decide (line < 5)
  | .syncPulseDrive => true
  | .syncPulseReceive width _ => decide (width < 2 ^ 16)
  | .syncSetStart set => decide (set < 16)
  | .scLoad c _ => c.wf
  | .scCommit c => c.wf
  | .scStart c => c.wf
  | .scHalt c => c.wf
  | .scKick c => c.wf
  | .scInCfgWrite who core f _ => who.wf && decide (core < 8) && decide (f < 4)
  | .scTimerIrq core => decide (core < 8)
  | .scInterruptEntry core => decide (core < 8)
  | .scSwapTimeout core => decide (core < 8)
  | .isaNop core ecc => decide (core < 8) && decide (ecc < 2 ^ 16)
  | .isaMov core ecc => decide (core < 8) && decide (ecc < 2 ^ 16)
  | .isaMovi core ecc => decide (core < 8) && decide (ecc < 2 ^ 16)
  | .isaMovsLoad core ecc => decide (core < 8) && decide (ecc < 2 ^ 16)
  | .isaMovsStore core ecc => decide (core < 8) && decide (ecc < 2 ^ 16)
  | .isaMovsi core ecc => decide (core < 8) && decide (ecc < 2 ^ 16)
  | .isaAdd core ecc => decide (core < 8) && decide (ecc < 2 ^ 16)
  | .isaSub core ecc => decide (core < 8) && decide (ecc < 2 ^ 16)
  | .isaAdds core ecc => decide (core < 8) && decide (ecc < 2 ^ 16)
  | .isaSubs core ecc => decide (core < 8) && decide (ecc < 2 ^ 16)
  | .isaAnd core ecc => decide (core < 8) && decide (ecc < 2 ^ 16)
  | .isaOr core ecc => decide (core < 8) && decide (ecc < 2 ^ 16)
  | .isaXor core ecc => decide (core < 8) && decide (ecc < 2 ^ 16)
  | .isaShl core ecc => decide (core < 8) && decide (ecc < 2 ^ 16)
  | .isaAsr core ecc => decide (core < 8) && decide (ecc < 2 ^ 16)
  | .isaLsr core ecc => decide (core < 8) && decide (ecc < 2 ^ 16)
  | .isaCmp core ecc => decide (core < 8) && decide (ecc < 2 ^ 16)
  | .isaAbs core ecc => decide (core < 8) && decide (ecc < 2 ^ 16)
  | .isaNeg core ecc => decide (core < 8) && decide (ecc < 2 ^ 16)
  | .isaLd core ecc => decide (core < 8) && decide (ecc < 2 ^ 16)
  | .isaSt core ecc => decide (core < 8) && decide (ecc < 2 ^ 16)
  | .isaLdP core ecc => decide (core < 8) && decide (ecc < 2 ^ 16)
  | .isaStP core ecc => decide (core < 8) && decide (ecc < 2 ^ 16)
  | .isaMpy core ecc => decide (core < 8) && decide (ecc < 2 ^ 16)
  | .isaMac core ecc => decide (core < 8) && decide (ecc < 2 ^ 16)
  | .isaMsu core ecc => decide (core < 8) && decide (ecc < 2 ^ 16)
  | .isaMacm core ecc => decide (core < 8) && decide (ecc < 2 ^ 16)
  | .isaFtap core ecc => decide (core < 8) && decide (ecc < 2 ^ 16)
  | .isaClr core ecc => decide (core < 8) && decide (ecc < 2 ^ 16)
  | .isaSat core ecc => decide (core < 8) && decide (ecc < 2 ^ 16)
  | .isaLdacc core ecc => decide (core < 8) && decide (ecc < 2 ^ 16)
  | .isaJmp core ecc => decide (core < 8) && decide (ecc < 2 ^ 16)
  | .isaJcc core ecc => decide (core < 8) && decide (ecc < 2 ^ 16)
  | .isaCall core ecc => decide (core < 8) && decide (ecc < 2 ^ 16)
  | .isaRet core ecc => decide (core < 8) && decide (ecc < 2 ^ 16)
  | .isaReti core ecc => decide (core < 8) && decide (ecc < 2 ^ 16)
  | .isaLoop0 core ecc => decide (core < 8) && decide (ecc < 2 ^ 16)
  | .isaLoop1 core ecc => decide (core < 8) && decide (ecc < 2 ^ 16)
  | .isaLoop0r core ecc => decide (core < 8) && decide (ecc < 2 ^ 16)
  | .isaLoop1r core ecc => decide (core < 8) && decide (ecc < 2 ^ 16)
  | .isaWait core ecc => decide (core < 8) && decide (ecc < 2 ^ 16)
  | .isaHalt core ecc => decide (core < 8) && decide (ecc < 2 ^ 16)
  | .heNop c => c.wf
  | .heCopy c _ => c.wf
  | .doorbellWrite who _ size _ => who.wf && decide (1 ≤ size ∧ size ≤ 8)
  | .ringCtrlWrite who ty r _ => who.wf && decide (ty < 4) && decide (r < 64)
  | .descriptorFetch fn r => decide (fn ≤ 16) && decide (r < 64)
  | .fenceRelease fn r => decide (fn ≤ 16 ∨ (32 ≤ fn ∧ fn < 48)) && decide (r < 64)
  | .msixModerationTimeout fn ty r => decide (fn ≤ 16) && decide (ty < 4) && decide (r < 64)
  | .vfFlr n => decide (1 ≤ n ∧ n ≤ 16)
  | .vfEnableChange n => decide (n ≤ 16)
  | .pcieReset _ => true
  | .pcieLinkChange width speed _ => decide (width < 2 ^ 16) && decide (speed < 16)
  | .heWdKick who _ => who.wf
  | .hostWatchdogExpire => true
  | .bar4Read _ _ _ => true
  | .bar4Write _ _ => true
  | .bootLoad who _ => who.wf
  | .commitSvn who _ => who.wf
  | .flashReadDone _ => true
  | .bootSelfTestDone _ => true
  | .wiCreate c => c.wf
  | .wiDelete c => c.wf
  | .wiReady c => c.wf
  | .woSignal c => c.wf
  | .wcDrain c => c.wf
  | .wcResume c => c.wf
  | .wcReload c => c.wf
  | .wiDispatch => true
  | .schDoneStore core => decide (core < 16)
  | .schYieldStore core => decide (core < 16)
  | .schReadyStore core v => decide (core < 16) && decide (v < 2 ^ 64)
  | .schWaitStore core v => decide (core < 16) && decide (v < 2 ^ 64)
  | .schSignalStore core v => decide (core < 16) && decide (v < 2 ^ 64)
  | .schOnlineStore core => decide (core < 16)
  | .schFaultStore core => decide (core < 16)
  | .slotGo core slot go => decide (core < 16) && decide (slot < 4) && decide (go < 2 ^ 16)
  | .waitDeadline i => decide (i < 4096)
  | .initTimeout core => decide (core < 16)
  | .drainComplete core => decide (core < 16)
  | .drainTimeout core => decide (core < 16)
  | .wcCoreFault core cause => decide (core < 16) && decide (1 ≤ cause ∧ cause ≤ 2)
  | .runWarnExpire core => decide (core < 16)
  | .riscvInstruction core _ => decide (core < 16)
  | .memGroupSet c => c.wf
  | .mstRun c => c.wf
  | .mstCancel c => c.wf
  | .lcAdvance c => c.wf
  | .lcResetDelay => true
  | .memErrAddrRead who => who.wf
  | .scrubRead _ => true
  | .groupWakeDone g => decide (g < 16)
  | .groupClearDone g => decide (g < 16)
  | .retentionLost g => decide (g < 16)
  | .tamperInput cause => decide (1 ≤ cause ∧ cause ≤ 3)
  | .wipeComplete => true
  | .mstSliceLend r => decide (r < 64)
  | .mstSliceEnd r _ => decide (r < 64)
  | .mstRetryExpire r => decide (r < 64)
  | .mstGapExpire r => decide (r < 64)
  | .outOfUseTestDone r _ => decide (r < 64)
  | .twinJoin c => c.wf
  | .twinHandover c => c.wf
  | .beatReceive _ f _ => f.wf
  | .hbPulseReceive _ _ => true
  | .beatWindowClose => true
  | .txFrameReceive f => f.wf
  | .fbFrameSend lane => decide (lane < 2)
  | .fbFrameReceive lane f => decide (lane < 2) && f.wf
  | .rxFrameReceive lane _ f => decide (lane < 2) && f.wf
  | .portFrameReceive _ _ _ _ => true
  | .cycFrameReceive lane f => decide (lane < 2) && f.wf
  | .tickFrameReceive lane _ _ => decide (lane < 2)
  | .jrnlFrameReceive lane _ _ => decide (lane < 2)
  | .ackFrameReceive _ _ => true
  | .controlFrameReceive _ _ => true
  | .revertHoldoffExpire => true
  | .zoneMismatchExpire zone => decide (zone < 16)
  | .snapshotLoss => true
  | .ckDomainSet c => c.wf
  | .ckDeviceReset c => c.wf
  | .deviceResetDelay => true
  | .resetNAssert => true
  | .pwrFailAssert => true
  | .supplyTrip rail => decide (rail < 16)
  | .refClkLoss => true
  | .refClkReturn => true
  | .clockMonitorWindow lock _ => decide (lock < 128)
  | .domainAutoStop d => decide (2 ≤ d ∧ d ≤ 6)
  | .domainPowerUpDone => true
  | .thermalSample _ => true
  | .analogueDieReset => true
  | .analogueCalibrationDone => true
  | .blockLockGained ch port => decide (ch < 2) && decide (port < 20)
  | .twinLaneLockChange lane _ _ => decide (lane < 2)
  | .resetRelease _ => true
  | .readCompletion _ _ _ => true
  | .domainRegisterRead who _ => who.wf

end Sys2Proof
end

