-- ==== Sys2Proof/Tests/Slice0.lean ====
section
/-!
SUPPORT. Tests of this model: for each check of well-formedness a term that fails it, values that the spec or a
standard states, single steps, and for each statement (each clause of it) a state and operands that meet its
hypotheses together.
-/
open Sys2Proof Sys2Proof.Machine

section
set_option Elab.async false
set_option linter.unusedVariables false
set_option maxRecDepth 100000

/-! ### States and operands that the tests use -/

/-- Registers at reset but for the fields listed. -/
def wit (l : List (Nat × Fld × Nat)) : State := l.foldl (fun s e => s.put e.1 e.2.1 e.2.2) State.reset

/-- Registers at reset but for the words listed. -/
def witR (l : List (Nat × Nat)) : State := l.foldl (fun s e => s.setReg e.1 (BitVec.ofNat 32 e.2)) State.reset

/-- A descriptor of the PF: parameter octets and their values (octet, value). -/
def wCmd (l : List (Nat × Nat)) : Cmd := ⟨.pf, .none, 0, 0, 0, 0, 0, BitVec.ofNat 384 (l.foldl (fun n e => n + e.2 * 256 ^ (e.1 - 16)) 0), 0, false⟩

/-- A field row of nothing. -/
def noField : FieldRow := ⟨⟨0, 0⟩, .ro, false, 0, []⟩

/-- The row of a register. -/
def rowAt (o : Nat) : RegRow := (findRow o).getD ⟨0, 0, 0, 0, 0, 0, []⟩

/-- CONFIG in a SERVICE_OPEN life cycle. -/
def wConfig : State :=
  { wit [(Reg.DEV_MODE, F.DEV_MODE_MODE, 1)] with mem := { State.reset.mem with fuse := { State.reset.mem.fuse with lifeCycle := 2 } } }

/-- A life-cycle record for target 1 (R684), signed by the key in it; the signature is hand-made outside the model. -/
def wRecord : List Byte := leBytes 408
  0x387e44bb12758fe4f2ebb29859dfc0d59c714129825db9a881df37d1d2ef93698c1fae29abe37a5a0cd1da076252639648ea152804a5778cf3d24cdf6a6c3a45815242811ea0d76fd2c5b89a4031a736311d916d3c993261500d9b875aa368854fe7f6bbcca6f363ed48394579ed47bb140fdb71a561d099940bb05ceb3636ee0d9a394b03d83815240dd84c4421acd82b3003436ffd5058b43f4ed8e4f20075b95dedc336cd4ea4e8fb08460f24666c1f19e51b07efc1704c796011dbe1e97a00000000000000000000000000000000000000000000000000000000000000000000000000000000000000000000000000000000000000000000000000000000000000000000000000000000000000000000000000000000000000000000000000000000000000000000000000000000000000000000000000000000000000000000000000000000000000000000000001000000000000000000000000000000000000000000000000000000000000000000000000000000000000000000000000000000000000000000000000000000000000014359434c

/-- A model table of one prismatic joint (R228, R229), its CRC computed outside the model. -/
def wTable : List Byte := leBytes 488
  0xfe53cc4500000000000000003ff0000000000000000000000000000040f00000000000003ff00000000000003ff00000000000003ff00000000000003ff0000000000000bff0000000000000000000000000000000000000000000003ff000000000000000000000000000000000000000000000000000000000000000000000000000010000000000000000000000000000000000000000000000000000000000000000000000000000000000000000000000000000000000000000000000003ff000000000000000000000000000000000000000000000000000000000000000000000000000003ff000000000000000000000000000000000000000000000000000000000000000000000000000003ff000000000000000000000000000003ff000000000000000000000000000000000000000000000000000000000000000000000000000003ff000000000000000000000000000000000000000000000000000000000000000000000000000003ff000000000000000000000000000003ff000000000000000000000000000000000000000000000000000000000000000000000000000003ff000000000000000000000000000000000000000000000000000000000000000000000000000003ff000000000000000000000000001e8010000014b4e4d47

/-- A JOINT record for one joint (R241). -/
def wJointRec : List Byte := leBytes 72 0x3fe000000000000000000000000000000000000000000000000000000000000000000000000000003ff00000000000003ff00000000000003ff00000000000000000000000010000

/-- Shared SRAM that holds octets at 0x1000. -/
def wSram (l : List Byte) (s : State) : State := { s with mem := { s.mem with sram := memWrite [] 0x1000 l } }

/-- The model of `wTable`. -/
def wModel : PlModel := modelOf wTable

/-- A state whose group 15 has the model of `wTable`. -/
def wGroup (l : List (Nat × Fld × Nat)) : State :=
  let s := wit l
  { s with pl := { s.pl with grp := [(15, { (s.pg 15) with model := some wModel })] } }

/-- Schedule bank 0 in use with one entry: the link state, the entry's TYPE, KIND, OWNER, SRC, CH, DEST, and further fields. -/
def wLink (st typ kind owner src ch dest : Nat) (l : List (Nat × Fld × Nat)) : State :=
  wit ([(Reg.LINK_STATUS, F.LINK_STATUS_STATE, st), (Reg.SB_COUNT 0, F.SB_COUNT_N_ENTRIES, 1), (Reg.SB_ENT0 0 0, F.SB_ENT0_VALID, 1),
    (Reg.SB_ENT0 0 0, F.SB_ENT0_TYPE, typ), (Reg.SB_ENT0 0 0, F.SB_ENT0_KIND, kind), (Reg.SB_ENT0 0 0, F.SB_ENT0_SLOT, 5),
    (Reg.SB_ENT1 0 0, F.SB_ENT1_LEN, 40), (Reg.SB_ENT1 0 0, F.SB_ENT1_START, 100), (Reg.SB_ENT2 0 0, F.SB_ENT2_OWNER, owner),
    (Reg.SB_ENT2 0 0, F.SB_ENT2_SRC, src), (Reg.SB_ENT3 0 0, F.SB_ENT3_CH, ch), (Reg.SB_ENT3 0 0, F.SB_ENT3_DEST, dest)] ++ l)

/-- Entry 0 of bank 0. -/
def wEnt (s : State) : Ent := (s.ent 0 0).getD ⟨0, 0, 0, 0, 0, 0, 0, 0, 0, 0, 0, 0⟩

/-- A frame of a node. -/
def wFrame (c kind src slot dst aux : Nat) (l : List Byte) : RawFrame :=
  (wit [(Reg.LINK_STATION, F.LINK_STATION_STATION_ID, src)]).mkFrame c kind slot dst aux l

/-- The state with link state changed. -/
def withLk (s : State) (f : LinkSt → LinkSt) : State := { s with link := f s.link }

/-- A solver program of one template (R302–R304), its CRC computed outside the model. -/
def wProgram : List Byte := leBytes 476
  0xdedde15d0000000000000004000000000003000000000002000100000000000000000000000000010000000000000000000000b0000000a8000000a03ff00000000000003ff00000000000003ff00000000000003ff0000000000000000000000000000000000000000000003ff00000000000003ff00000000000003ff00000000000003ff0000000000000000000000000000a0000000a0000000a00000064000000040000000400020001000201000901000101010100000000b800000000000000000000000000000000000000000000000000000000000000000000000000000000000000000000000000000000000000000000000000000000000000000000000000000000000000000000000000000000000000000000000000000000000000000000000000000000000000000000000000000000000001200000000100000101000000000000000000000000000000000000000000000000000000000000000000000000000000000000000000000000000000000000000000000000000000000000000000000000000000000000000000000000000000000000000000000000000000000000000000000000000000000000000000000000000000000000000000000000000001dc01119224000000770120000153504c56

/-- A dynamic table of one link (R294). -/
def wDynTable : List Byte := leBytes 260
  0xc83d921300000000000000000000000000000000000000000000000000000000000000000000000000000000000000000000000000000000000000000000000000000000000000000000000000000000000000000000000000000000000000000000000000000000000000000000000000000000000000000000000000000000000000000000000000000000000000000000000000000000000000000000000000000000000000000000000000000000000000000000000000000000000000000000000000000000000000000000000000000000000000000000000000000000000000000000000000000000000000000000000000000000000001040001000144594e47

/-- A quadratic program without variables, and its iteration. -/
def wProb : OptProb := ⟨[], [], [], [], [], [], []⟩

/-- Its only point. -/
def wIter : OptIter := ⟨[], [], [], [], [], []⟩

/-- A solve of it. -/
def wSolve : OptSolve := ⟨0, [0], [], [], 0, wProb, wIter, true, 0, 0, [], (0, 0, 0)⟩

/-- What its iteration gives. -/
def wIterated : OptIter × Nat × Nat × List Nat :=
  match iterate false [] wProb wIter with
  | .ok it ap ad n => (it, ap, ad, n)
  | .bad _ => (wIter, 0, 0, [])

/-- The die started, with its state changed. -/
def wDie (f : SfSt → SfSt) : State := { State.reset with sf := f { State.reset.sf with started := true } }

/-- A zone record (R467): inputs, outputs, flags, seconds between ON tests. -/
def wZone (ins outs flags test : Nat) : List Byte := leBytes 16 (ins + outs * 2 ^ 32 + flags * 2 ^ 56 + test * 2 ^ 80 + 20 * 2 ^ 96 + 20 * 2 ^ 104)

/-- Signal core `c` RUNNING at PC 5 with the word `w` there, its SR and the rest of it as given. -/
def wSc (c w sr : Nat) (f : ScSt → ScSt) : State :=
  { wit [(Reg.SC_STATE c, F.SC_STATE_STATE, 1), (Reg.SC_STATE c, F.SC_STATE_PC, 5), (Reg.SC_SR c, ⟨0, 16⟩, sr)] with
    sc := [(c, f { prog := [(5, BitVec.ofNat 32 w)] })] }

/-- Work core `c` in INIT with these octets at its pc and its programming state as given. -/
def wRv (c : Nat) (l : List Byte) (f : RvSt → RvSt) : State :=
  { wit [(Reg.WC_STATE c, F.WC_STATE_STATE, kInit)] with wc := { State.reset.wc with cores := [(c, { rv := f {}, iram := memWrite [] 0 l })] } }

/-- Work core `c` with its `WC_STATE` fields, itself and the items as given. -/
def wCore (c : Nat) (l : List (Nat × Fld × Nat)) (z : CoreSt) (items : Tab ItemSt) : State :=
  { wit l with wc := { State.reset.wc with cores := [(c, z)], items := items } }

/-- A twin unit in a role (R699), its registers as given, its twin state changed. -/
def wTwin (role : Nat) (l : List (Nat × Fld × Nat)) (f : TwinSt → TwinSt) : State :=
  let s := wit ([(Reg.TWIN_CTRL, F.TWIN_CTRL_ENABLE, 1), (Reg.DEV_MODE, F.DEV_MODE_TWIN_ROLE, role)] ++ l)
  { s with twin := f s.twin }

/-- A frame of the partner. -/
def wTwinFrame (kind slot aux : Nat) (l : List Byte) : RawFrame := State.reset.twinFrame kind slot aux 0 l

/-- Time has passed. -/
def wLate (s : State) : State := { s with time := { s.time with raw := 0x100000000000 } }

/-! ### Each check of well-formedness refuses a term that fails it -/

/-- A descriptor that R616 allows. -/
def wC : Cmd := wCmd []

/-- A descriptor whose opcode has more than 16 bits. -/
def wBadC : Cmd := { wC with op := 0x10000 }

/-- Host memory has not answered. -/
def wD : Dma := .pending

/-- A frame of seven start octets. -/
def wF : RawFrame := ⟨leBytes 7 0, [], [], 0, true⟩

/-- A frame whose start block is too short. -/
def wBadF : RawFrame := { wF with start := [] }

/-- A readback of nothing. -/
def wR : Readback := ⟨0, 0, []⟩

/-- A readback that names a 25th group. -/
def wBadR : Readback := { wR with x := 2 ^ 24 }

/-- An adaptation interval of one sample. -/
def wIv : Interval := ⟨1, 0, 0, 0, 0, 0, 0, false, false, 0⟩

/-- The state of no group. -/
def wPart : TickPart := ⟨0, [], [], [], [], []⟩

theorem test_wf_refuses_initiators : [Init.vf 0, .vf 17, .wc 16].all (fun i => !i.wf) = true := by decide

theorem test_wf_refuses_ports : [CmdPort.ring 16, .slot 4].all (fun p => !p.wf) = true := by decide

theorem test_wf_refuses_descriptors :
    [wBadC, { wC with who := .vf 0 }, { wC with port := .ring 16 }, { wC with flags := 256 }, { wC with group := 256 },
      { wC with who := .wc 0, port := .ring 0 }, { wC with port := .slot 0 }, { wC with who := .vf 1, port := .slot 0 }].all
      (fun c => !c.wf) = true := by decide +kernel

theorem test_wf_refuses_frames :
    [wBadF, { wF with header := leBytes 7 0 }, { wF with payload := leBytes 9 0 }].all (fun f => !f.wf) = true := by decide +kernel

theorem test_wf_refuses_readbacks :
    [wBadR, { wR with y := 2 ^ 24 }, { wR with ma := List.replicate 9 0 }].all (fun r => !r.wf) = true := by decide +kernel

theorem test_wf_refuses_commands_1 :
    ([.registerWrite (.vf 0) 0 1 0, .registerWrite .pf 0 0 0, .registerWrite .pf 0 9 0, .unmappedRead (.vf 0) 0, .pairLoRead (.vf 0) 0, .pairHiRead
      (.vf 0) 0, .pairLoWrite (.vf 0) 0 0, .pairHiWrite (.vf 0) 0 0, .rcRegisterRead (.vf 0) 0, .lockBitSet (.vf 0) 0 0, .foulQueueMove 16,
      .defectClear (.vf 0) 0, .setDeviceMode wBadC, .foulFlush wBadC, .timeSlew wBadC, .timeSetRate wBadC, .timeStep wBadC, .slewComplete 2,
      .timeSnap (.vf 0) 0, .discSampleCommit (.vf 0) 0, .actArm wBadC, .actDisarm wBadC, .actionFire 256, .linkStage wBadC, .linkStart wBadC,
      .linkStop wBadC, .linkCommit wBadC, .linkPortOpen wBadC, .linkPortClose wBadC, .linkNodeCtrl wBadC, .linkMgmt wBadC, .startBlockReceive 2 0 0
      [], .startBlockReceive 0 20 0 [], .frameOverrun 2 0, .frameOverrun 0 20, .arbGrant 2 0 0, .arbGrant 0 512 0, .serveReceive 2 0 0 wF,
      .serveReceive 0 20 0 wF, .serveReceive 0 0 0 wBadF, .letReceive 2 0 0 wF, .letReceive 0 20 0 wF, .letReceive 0 0 0 wBadF, .letPhaseOpen 2,
      .letPhaseClose 2, .claimReceive 2 0 wF, .claimReceive 0 20 wF, .claimReceive 0 0 wBadF, .dataReceive 2 0 wF, .dataReceive 0 20 wF,
      .dataReceive 0 0 wBadF, .arbReceive 2 0 wF, .arbReceive 0 20 wF, .arbReceive 0 0 wBadF, .streamFrameReceive 2 0 wF, .streamFrameReceive 0 20
      wF, .streamFrameReceive 0 0 wBadF, .mgmtReceive 2 0 wF, .mgmtReceive 0 20 wF, .mgmtReceive 0 0 wBadF, .joinReqReceive 2 0 wF, .joinReqReceive
      0 20 wF, .joinReqReceive 0 0 wBadF, .syncAnswerReceive 2 0 0 wF, .syncAnswerReceive 0 20 0 wF, .syncAnswerReceive 0 0 0 wBadF,
      .probeUnanswered 2 0, .probeUnanswered 0 20, .entryMissing 2 0, .entryMissing 0 512, .deviceDataSend 512, .deviceMgmtSend 512, .probationEnd 2
      0, .probationEnd 0 241, .memberSilent 2 0, .memberSilent 0 241, .containDecay 2 0, .containDecay 0 20, .laneLost 2 0 false false, .laneLost 0
      20 false false] : List Instr).all (fun i => !i.wf) = true := by decide +kernel

theorem test_wf_refuses_commands_2 :
    ([.laneLossExpire 2 0, .laneLossExpire 0 20, .grpLoadModel wBadC wD, .grpEnable wBadC, .grpDisable wBadC, .moveJoint wBadC wD, .movePath wBadC
      wD, .moveTrack wBadC wD, .moveModify wBadC wD, .grpSetLimits wBadC, .grpStop wBadC, .grpHold wBadC, .grpResume wBadC, .grpClearFault wBadC,
      .zoneAcquire wBadC, .zoneRelease wBadC, .zoneSet wBadC, .rampEnd 16, .optStage wBadC wD, .optCommit wBadC, .optLoadDyn wBadC wD,
      .optSetPayload wBadC, .optCopySolution wBadC, .gravityJobDone 16, .solveIterationDone 16 0, .solveIterationDone 0 256, .deadlinePctWrite (.vf
      0) 0, .clusterFault 8 0, .clusterFault 0 256, .srvCommit wBadC, .srvCopy wBadC, .srvAxCfgWrite (.vf 0) 0 0, .srvAxCfgWrite .pf 224 0,
      .enableTimeout 16, .brakeTimeExpire 16, .sepEnable wBadC, .sepDisable wBadC, .sepCapEnable wBadC, .sepCopyField wBadC, .sfAuth wBadC,
      .sfLogout wBadC, .sfSetPassword wBadC, .sfZoneBegin wBadC, .sfZoneWrite wBadC, .sfPairWrite wBadC, .sfBrkWrite wBadC, .sfTpWrite wBadC,
      .sfZoneCommit wBadC, .sfZoneAbort wBadC, .sfZoneReset wBadC, .sfZoneUnlock wBadC, .sfLogRead wBadC, .sfReadCfg wBadC, .sfInputEdge 32 0 false,
      .sfInputEdge 0 2 false, .discrepancyTimeout 32, .twoHandTimeout 16, .testPulseStart 16, .testPulseCheck 32 0 false, .testPulseCheck 0 2 false,
      .testPulseEnd 16, .stopDelayExpire 16, .closingTestStep 24 false false, .onTestStart 24, .onTestEnd 24 false false, .readbackFault 24 false
      false, .brakeCurrentFault 8 0, .brakeCurrentFault 0 (2 ^ 16), .requestLineChange 25 false, .dieFault 256, .sfStatusFrame false wBadR,
      .laSetCount wBadC, .laCmpEnable wBadC, .laRunWrite (.vf 0) 0 0, .laRunWrite .pf 32 0, .laCmpCtrlWrite (.vf 0) 0 0 0, .laCmpCtrlWrite .pf 32 0
      0, .laCmpCtrlWrite .pf 0 64 0, .laErrClear (.vf 0) 0 0, .laErrClear .pf 32 0] : List Instr).all (fun i => !i.wf) = true := by decide +kernel

theorem test_wf_refuses_commands_3 :
    ([.quadTransition 32 0, .quadTransition 0 4, .stepDirEdge 32 false, .upDownEdge 32 false false, .hallCodeChange 32 0, .hallCodeChange 0 8,
      .comparePulseEnd 16, .laRxFault 32 0, .laRxFault 0 4, .laIndex 32, .latchCapture 32 0 false 0 0, .latchCapture 0 3 false 0 0, .latchTimeHiRead
      (.vf 0) 0, .latchTimeHiRead .pf 32, .stepEmit 32, .chopComparator 32 0 0, .chopComparator 0 2 0, .chopComparator 0 0 (2 ^ 16), .chopFastEnd 32
      0, .chopFastEnd 0 2, .adaptInterval 32 wIv, .chopOvercurrent 32 0 0, .chopOvercurrent 0 2 0, .chopOvercurrent 0 0 (2 ^ 16), .acqSetStart
      wBadC, .acqSetStop wBadC, .acqArm wBadC, .acqStop wBadC, .acqForce wBadC, .acqCopy wBadC, .acqTbCal wBadC, .conversionSample 16 [],
      .conversionReady 16, .acqTimeTrigger 16, .acqPreFilled 16, .acqPostComplete 16, .acqRearmEnd 16, .streamChunkPost 64 0 0, .decRestore 16,
      .acqLostHiRead (.vf 0) 0, .acqLostHiRead .pf 16, .triggerBusPulse 5 0 0 false, .triggerBusPulse 0 (2 ^ 16) 0 false, .tbCalProbe 5 0,
      .syncPulseReceive (2 ^ 16) 0, .syncSetStart 16, .scLoad wBadC wD, .scCommit wBadC, .scStart wBadC, .scHalt wBadC, .scKick wBadC, .scInCfgWrite
      (.vf 0) 0 0 0, .scInCfgWrite .pf 8 0 0, .scInCfgWrite .pf 0 4 0, .scTimerIrq 8, .scInterruptEntry 8, .scSwapTimeout 8, .isaNop 8 0, .isaNop 0
      (2 ^ 16), .isaMov 8 0, .isaMov 0 (2 ^ 16), .isaMovi 8 0, .isaMovi 0 (2 ^ 16), .isaMovsLoad 8 0, .isaMovsLoad 0 (2 ^ 16), .isaMovsStore 8 0,
      .isaMovsStore 0 (2 ^ 16), .isaMovsi 8 0, .isaMovsi 0 (2 ^ 16), .isaAdd 8 0, .isaAdd 0 (2 ^ 16), .isaSub 8 0, .isaSub 0 (2 ^ 16), .isaAdds 8 0,
      .isaAdds 0 (2 ^ 16), .isaSubs 8 0, .isaSubs 0 (2 ^ 16), .isaAnd 8 0, .isaAnd 0 (2 ^ 16), .isaOr 8 0] : List Instr).all (fun i => !i.wf) = true := by decide +kernel

theorem test_wf_refuses_commands_4 :
    ([.isaOr 0 (2 ^ 16), .isaXor 8 0, .isaXor 0 (2 ^ 16), .isaShl 8 0, .isaShl 0 (2 ^ 16), .isaAsr 8 0, .isaAsr 0 (2 ^ 16), .isaLsr 8 0, .isaLsr 0 (2
      ^ 16), .isaCmp 8 0, .isaCmp 0 (2 ^ 16), .isaAbs 8 0, .isaAbs 0 (2 ^ 16), .isaNeg 8 0, .isaNeg 0 (2 ^ 16), .isaLd 8 0, .isaLd 0 (2 ^ 16),
      .isaSt 8 0, .isaSt 0 (2 ^ 16), .isaLdP 8 0, .isaLdP 0 (2 ^ 16), .isaStP 8 0, .isaStP 0 (2 ^ 16), .isaMpy 8 0, .isaMpy 0 (2 ^ 16), .isaMac 8 0,
      .isaMac 0 (2 ^ 16), .isaMsu 8 0, .isaMsu 0 (2 ^ 16), .isaMacm 8 0, .isaMacm 0 (2 ^ 16), .isaFtap 8 0, .isaFtap 0 (2 ^ 16), .isaClr 8 0,
      .isaClr 0 (2 ^ 16), .isaSat 8 0, .isaSat 0 (2 ^ 16), .isaLdacc 8 0, .isaLdacc 0 (2 ^ 16), .isaJmp 8 0, .isaJmp 0 (2 ^ 16), .isaJcc 8 0,
      .isaJcc 0 (2 ^ 16), .isaCall 8 0, .isaCall 0 (2 ^ 16), .isaRet 8 0, .isaRet 0 (2 ^ 16), .isaReti 8 0, .isaReti 0 (2 ^ 16), .isaLoop0 8 0,
      .isaLoop0 0 (2 ^ 16), .isaLoop1 8 0, .isaLoop1 0 (2 ^ 16), .isaLoop0r 8 0, .isaLoop0r 0 (2 ^ 16), .isaLoop1r 8 0, .isaLoop1r 0 (2 ^ 16),
      .isaWait 8 0, .isaWait 0 (2 ^ 16), .isaHalt 8 0, .isaHalt 0 (2 ^ 16), .heNop wBadC, .heCopy wBadC wD, .doorbellWrite (.vf 0) 0 1 0,
      .doorbellWrite .pf 0 0 0, .doorbellWrite .pf 0 9 0, .ringCtrlWrite (.vf 0) 0 0 0, .ringCtrlWrite .pf 4 0 0, .ringCtrlWrite .pf 0 64 0,
      .descriptorFetch 17 0, .descriptorFetch 0 64, .fenceRelease 17 0, .fenceRelease 48 0, .fenceRelease 0 64, .msixModerationTimeout 17 0 0,
      .msixModerationTimeout 0 4 0, .msixModerationTimeout 0 0 64, .vfFlr 0, .vfFlr 17, .vfEnableChange 17] : List Instr).all (fun i => !i.wf) = true := by decide +kernel

theorem test_wf_refuses_commands_5 :
    ([.pcieLinkChange (2 ^ 16) 0 false, .pcieLinkChange 0 16 false, .heWdKick (.vf 0) 0, .bootLoad (.vf 0) 0, .commitSvn (.vf 0) 0, .wiCreate wBadC,
      .wiDelete wBadC, .wiReady wBadC, .woSignal wBadC, .wcDrain wBadC, .wcResume wBadC, .wcReload wBadC, .schDoneStore 16, .schYieldStore 16,
      .schReadyStore 16 0, .schReadyStore 0 (2 ^ 64), .schWaitStore 16 0, .schWaitStore 0 (2 ^ 64), .schSignalStore 16 0, .schSignalStore 0 (2 ^
      64), .schOnlineStore 16, .schFaultStore 16, .slotGo 16 0 0, .slotGo 0 4 0, .slotGo 0 0 (2 ^ 16), .waitDeadline 4096, .initTimeout 16,
      .drainComplete 16, .drainTimeout 16, .wcCoreFault 16 1, .wcCoreFault 0 0, .wcCoreFault 0 3, .runWarnExpire 16, .riscvInstruction 16 [],
      .memGroupSet wBadC, .mstRun wBadC, .mstCancel wBadC, .lcAdvance wBadC, .memErrAddrRead (.vf 0), .groupWakeDone 16, .groupClearDone 16,
      .retentionLost 16, .tamperInput 0, .tamperInput 4, .mstSliceLend 64, .mstSliceEnd 64 0, .mstRetryExpire 64, .mstGapExpire 64,
      .outOfUseTestDone 64 0, .twinJoin wBadC, .twinHandover wBadC, .beatReceive 0 wBadF 0, .txFrameReceive wBadF, .fbFrameSend 2, .fbFrameReceive 2
      wF, .fbFrameReceive 0 wBadF, .rxFrameReceive 2 false wF, .rxFrameReceive 0 false wBadF, .cycFrameReceive 2 wF, .cycFrameReceive 0 wBadF,
      .tickFrameReceive 2 false wPart, .jrnlFrameReceive 2 false [], .zoneMismatchExpire 16, .ckDomainSet wBadC, .ckDeviceReset wBadC, .supplyTrip
      16, .clockMonitorWindow 128 [], .domainAutoStop 1, .domainAutoStop 7, .blockLockGained 2 0, .blockLockGained 0 20, .twinLaneLockChange 2 false
      0, .domainRegisterRead (.vf 0) 0] : List Instr).all (fun i => !i.wf) = true := by decide +kernel

theorem test_wf_admits_commands_1 :
    ([.registerWrite .pf 0 1 0, .unmappedRead .pf 0, .pairLoRead .pf 0, .pairHiRead .pf 0, .pairLoWrite .pf 0 0, .pairHiWrite .pf 0 0,
      .rcRegisterRead .pf 0, .lockBitSet .pf 0 0, .foulQueueMove 0, .defectClear .pf 0, .setDeviceMode wC, .foulFlush wC, .timeSlew wC, .timeSetRate
      wC, .timeStep wC, .slewComplete 0, .timeSnap .pf 0, .discSampleCommit .pf 0, .actArm wC, .actDisarm wC, .actionFire 0, .linkStage wC,
      .linkStart wC, .linkStop wC, .linkCommit wC, .linkPortOpen wC, .linkPortClose wC, .linkNodeCtrl wC, .linkMgmt wC, .startBlockReceive 0 0 0 [],
      .frameOverrun 0 0, .arbGrant 0 0 0, .serveReceive 0 0 0 wF, .letReceive 0 0 0 wF, .letPhaseOpen 0, .letPhaseClose 0, .claimReceive 0 0 wF,
      .dataReceive 0 0 wF, .arbReceive 0 0 wF, .streamFrameReceive 0 0 wF, .mgmtReceive 0 0 wF, .joinReqReceive 0 0 wF, .syncAnswerReceive 0 0 0 wF,
      .probeUnanswered 0 0, .entryMissing 0 0, .deviceDataSend 0, .deviceMgmtSend 0, .probationEnd 0 0, .memberSilent 0 0, .containDecay 0 0,
      .laneLost 0 0 false false, .laneLossExpire 0 0, .grpLoadModel wC wD, .grpEnable wC, .grpDisable wC, .moveJoint wC wD, .movePath wC wD,
      .moveTrack wC wD, .moveModify wC wD, .grpSetLimits wC, .grpStop wC, .grpHold wC, .grpResume wC, .grpClearFault wC, .zoneAcquire wC,
      .zoneRelease wC, .zoneSet wC, .rampEnd 0, .optStage wC wD, .optCommit wC, .optLoadDyn wC wD, .optSetPayload wC, .optCopySolution wC,
      .gravityJobDone 0, .solveIterationDone 0 0, .deadlinePctWrite .pf 0, .clusterFault 0 0, .srvCommit wC, .srvCopy wC, .srvAxCfgWrite .pf 0 0,
      .enableTimeout 0, .brakeTimeExpire 0, .sepEnable wC, .sepDisable wC, .sepCapEnable wC, .sepCopyField wC, .sfAuth wC, .sfLogout wC,
      .sfSetPassword wC, .sfZoneBegin wC, .sfZoneWrite wC, .sfPairWrite wC, .sfBrkWrite wC, .sfTpWrite wC, .sfZoneCommit wC, .sfZoneAbort wC,
      .sfZoneReset wC, .sfZoneUnlock wC, .sfLogRead wC, .sfReadCfg wC] : List Instr).all (fun i => i.wf) = true := by decide +kernel

theorem test_wf_admits_commands_2 :
    ([.sfInputEdge 0 0 false, .discrepancyTimeout 0, .twoHandTimeout 0, .testPulseStart 0, .testPulseCheck 0 0 false, .testPulseEnd 0,
      .stopDelayExpire 0, .closingTestStep 0 false false, .onTestStart 0, .onTestEnd 0 false false, .readbackFault 0 false false, .brakeCurrentFault
      0 0, .requestLineChange 0 false, .dieFault 0, .sfStatusFrame false wR, .laSetCount wC, .laCmpEnable wC, .laRunWrite .pf 0 0, .laCmpCtrlWrite
      .pf 0 0 0, .laErrClear .pf 0 0, .quadTransition 0 0, .stepDirEdge 0 false, .upDownEdge 0 false false, .hallCodeChange 0 0, .comparePulseEnd 0,
      .laRxFault 0 0, .laIndex 0, .latchCapture 0 0 false 0 0, .latchTimeHiRead .pf 0, .stepEmit 0, .chopComparator 0 0 0, .chopFastEnd 0 0,
      .adaptInterval 0 wIv, .chopOvercurrent 0 0 0, .acqSetStart wC, .acqSetStop wC, .acqArm wC, .acqStop wC, .acqForce wC, .acqCopy wC, .acqTbCal
      wC, .conversionSample 0 [], .conversionReady 0, .acqTimeTrigger 0, .acqPreFilled 0, .acqPostComplete 0, .acqRearmEnd 0, .streamChunkPost 0 0
      0, .decRestore 0, .acqLostHiRead .pf 0, .triggerBusPulse 0 0 0 false, .tbCalProbe 0 0, .syncPulseReceive 0 0, .syncSetStart 0, .scLoad wC wD,
      .scCommit wC, .scStart wC, .scHalt wC, .scKick wC, .scInCfgWrite .pf 0 0 0, .scTimerIrq 0, .scInterruptEntry 0, .scSwapTimeout 0, .isaNop 0 0,
      .isaMov 0 0, .isaMovi 0 0, .isaMovsLoad 0 0, .isaMovsStore 0 0, .isaMovsi 0 0, .isaAdd 0 0, .isaSub 0 0, .isaAdds 0 0, .isaSubs 0 0, .isaAnd 0
      0, .isaOr 0 0, .isaXor 0 0, .isaShl 0 0, .isaAsr 0 0, .isaLsr 0 0, .isaCmp 0 0, .isaAbs 0 0, .isaNeg 0 0, .isaLd 0 0, .isaSt 0 0, .isaLdP 0 0,
      .isaStP 0 0, .isaMpy 0 0, .isaMac 0 0, .isaMsu 0 0, .isaMacm 0 0, .isaFtap 0 0, .isaClr 0 0, .isaSat 0 0, .isaLdacc 0 0, .isaJmp 0 0, .isaJcc
      0 0, .isaCall 0 0, .isaRet 0 0, .isaReti 0 0, .isaLoop0 0 0] : List Instr).all (fun i => i.wf) = true := by decide +kernel

theorem test_wf_admits_commands_3 :
    ([.isaLoop1 0 0, .isaLoop0r 0 0, .isaLoop1r 0 0, .isaWait 0 0, .isaHalt 0 0, .heNop wC, .heCopy wC wD, .doorbellWrite .pf 0 1 0, .ringCtrlWrite
      .pf 0 0 0, .descriptorFetch 0 0, .fenceRelease 0 0, .msixModerationTimeout 0 0 0, .vfFlr 1, .vfEnableChange 0, .pcieLinkChange 0 0 false,
      .heWdKick .pf 0, .bootLoad .pf 0, .commitSvn .pf 0, .wiCreate wC, .wiDelete wC, .wiReady wC, .woSignal wC, .wcDrain wC, .wcResume wC,
      .wcReload wC, .schDoneStore 0, .schYieldStore 0, .schReadyStore 0 0, .schWaitStore 0 0, .schSignalStore 0 0, .schOnlineStore 0, .schFaultStore
      0, .slotGo 0 0 0, .waitDeadline 0, .initTimeout 0, .drainComplete 0, .drainTimeout 0, .wcCoreFault 0 1, .runWarnExpire 0, .riscvInstruction 0
      [], .memGroupSet wC, .mstRun wC, .mstCancel wC, .lcAdvance wC, .memErrAddrRead .pf, .groupWakeDone 0, .groupClearDone 0, .retentionLost 0,
      .tamperInput 1, .mstSliceLend 0, .mstSliceEnd 0 0, .mstRetryExpire 0, .mstGapExpire 0, .outOfUseTestDone 0 0, .twinJoin wC, .twinHandover wC,
      .beatReceive 0 wF 0, .txFrameReceive wF, .fbFrameSend 0, .fbFrameReceive 0 wF, .rxFrameReceive 0 false wF, .cycFrameReceive 0 wF,
      .tickFrameReceive 0 false wPart, .jrnlFrameReceive 0 false [], .zoneMismatchExpire 0, .ckDomainSet wC, .ckDeviceReset wC, .supplyTrip 0,
      .clockMonitorWindow 0 [], .domainAutoStop 2, .blockLockGained 0 0, .twinLaneLockChange 0 false 0, .domainRegisterRead .pf 0] : List Instr).all (fun i => i.wf) = true := by decide +kernel

/-! ### Values that the spec or a standard states -/

/-- R119 states the value. -/
theorem test_crc8_check_value : crc8 (leBytes 9 0x393837363534333231) = 0xF4 := by decide +kernel

/-- R121 states the value. -/
theorem test_crc32c_check_value : crc32c (leBytes 9 0x393837363534333231) = 0xE3069283 := by decide +kernel

/-- FIPS 180-4, the one-block example "abc". -/
theorem test_sha256_abc : sha256 (leBytes 3 0x636261) =
    (leBytes 32 0xBA7816BF8F01CFEA414140DE5DAE2223B00361A396177A9CB410FF61F20015AD).reverse := by decide +kernel

/-- FIPS 180-4, the one-block example "abc" of SHA-384. -/
theorem test_sha384_abc : sha384 (leBytes 3 0x636261) =
    (leBytes 48 0xCB00753F45A35E8BB5A03D699AC65007272C32AB0EDED1631A8B605A43FF5BED8086072BA1E7CC2358BAECA134C825A7).reverse := by
  decide +kernel

/-! ### One step each -/

/-- The state that a command leaves. -/
def wNext (i : Instr) (s : State) : State :=
  match exec i s with
  | .next t => t
  | _ => s

/-- The discipline sample of the worked example of the chapter on time: rate 3,518,431 and a slew of 12,800 units. -/
theorem test_discipline_worked_example :
    (let s := wit [(Reg.DISC_LAT, ⟨0, 32⟩, 4800), (Reg.DISC_CTRL, F.DISC_CTRL_KF, 64), (Reg.DISC_CTRL, F.DISC_CTRL_STEP_LIMIT, 1)]
     let t := ({ s with time := { s.time with plant := { ofs := 51200000000000 * 2 ^ 24, rate := 3298535 }, sample := 51200000008000, lastTd := some 51183999520000 } } : State).disciplineRun
     t.time.plant.rate = 3518431 ∧ t.reg Reg.DISC_LAST_ERR = 12800) := by decide +kernel

/-- The adaptation interval of the worked example of the chapter on local axes: OFS_A 63, OFS_B 52, I_RUN 1,500 mA. -/
theorem test_adaptation_worked_example :
    (let s := wit [(Reg.LA_CH_CFG 3, F.LA_CH_CFG_RUN, 1), (Reg.LA_CH_OUT 3, F.LA_CH_OUT_MODE, 2), (Reg.LA_ST_STATUS 3, F.LA_ST_STATUS_I_RUN, 1450),
       (Reg.LA_ST_OFS 3, F.LA_ST_OFS_OFS_A, 40), (Reg.LA_ST_OFS 3, F.LA_ST_OFS_OFS_B, 40)]
     let z : LaSt := { enable := true, cur := 2000 * 2 ^ 16 + 1000, load := 192 * 2 ^ 24 + 96 * 2 ^ 16 + 50, adapt := 128 * 2 ^ 24 + 200 }
     let t := wNext (.adaptInterval 3 ⟨640, 1025, 1025, 980, 1001, 384, 336, false, false, 0⟩) { s with la := [(3, z)] }
     t.fld (Reg.LA_ST_OFS 3) F.LA_ST_OFS_OFS_A = 63 ∧ t.fld (Reg.LA_ST_OFS 3) F.LA_ST_OFS_OFS_B = 52 ∧
       t.fld (Reg.LA_ST_STATUS 3) F.LA_ST_STATUS_I_RUN = 1500) := by decide +kernel

/-- R76: TIME_STEP adds its step to the view. -/
theorem test_time_step :
    (wNext (.timeStep (wCmd [(24, 4096)])) (wit [(Reg.DEV_MODE, F.DEV_MODE_MODE, 1)])).cell = 4096 := by decide +kernel

/-- R66, R68: an idle step is one TCLK cycle. -/
theorem test_idle_step :
    (match step State.reset with
      | .next t => t.time.raw
      | _ => 0) = 1 := by decide +kernel

/-- R566: 0x7FFF + 1 wraps to 0x8000, which sets N and V and clears Z. -/
theorem test_sc_add_overflow_flags :
    ((wNext (.isaAdd 7 0) (wSc 7 (scWord 0x08 3 1 2 0) 0 fun z => { z with d := [(1, 0x7FFF), (2, 1)] })).fld (Reg.SC_SR 7) ⟨1, 3⟩) = 5 := by
  decide +kernel

/-- ADDI x1, x0, 5 (0x00500093) on a work core. -/
theorem test_rv_addi :
    (let t := wNext (.riscvInstruction 15 []) (wRv 15 (leBytes 4 0x00500093) id)
     (t.core 15).rv.pc = 4 ∧ (t.core 15).rv.x = [(1, 5)]) := by decide +kernel

/-! ### States and operands that meet the hypotheses of the statements, clause by clause -/

theorem test_meets_StepRunsFrontCommand :
    (∃ (s : State) (c : Instr) (q : List Instr), s.pending = c :: q) ∧
    (∃ (s : State), s.pending = []) :=
  ⟨⟨{ State.reset with pending := [.slewComplete 0] }, .slewComplete 0, [], by decide +kernel⟩,
    ⟨State.reset, by decide +kernel⟩⟩

theorem test_meets_ExecLeavesQueue :
    ∃ (c : Instr) (s : State) (t : State), exec c s = .next t :=
  ⟨.slewComplete 0, State.reset, State.reset, rfl⟩

theorem test_meets_StepKeepsRegistersCanonical :
    ∃ (s : State) (t : State), s.regsWf ∧ step s = .next t :=
  ⟨{ State.reset with pending := [.slewComplete 0] }, State.reset, by unfold State.regsWf; decide +kernel, rfl⟩

theorem test_meets_StepKeepsSramCanonical :
    ∃ (s : State) (t : State), s.sramWf ∧ step s = .next t :=
  ⟨{ State.reset with pending := [.slewComplete 0] }, State.reset, by unfold State.sramWf; decide +kernel, rfl⟩

theorem test_meets_OnlyPowerOnClearsRaw :
    ∃ (c : Instr) (s : State) (t : State), c ≠ .powerOnResetPd0 ∧ c ≠ .supplyTrip 0 ∧ c ≠ .supplyTrip 1 ∧ exec c s = .next t :=
  ⟨.slewComplete 0, State.reset, State.reset, by simp, by simp, by simp, rfl⟩

theorem test_meets_ReadsWithoutRegisterAnswerZero :
    (∃ (who : Init) (off : Nat) (o : Nat) (s : State), s.place who off = some (.hole o) ∧ s.domState (domainOf (blockOf o)) < 2) ∧
    (∃ (who : Init) (off : Nat) (k : Nat) (vf : Bool) (s : State), s.place who off = some (.reg k vf) ∧ 2 ≤ s.domState (domainOf (blockOf k))) :=
  ⟨⟨.pf, 0x5000000, 0x1000000, State.reset, by decide +kernel, by decide +kernel⟩,
    ⟨.pf, Reg.OPT_CTRL, Reg.OPT_CTRL, false, wit [(Reg.PWR_DOMAIN 4, F.PWR_DOMAIN_STATE, 3)], by decide +kernel, by decide +kernel⟩⟩

theorem test_meets_PairReadsLatchTheUpperHalf :
    (∃ (who : Init) (off : Nat) (k : Nat) (r : RegRow) (s : State), s.place who off = some (.reg k false) ∧ findRow k = some r ∧ r.pair = 1 ∧
        s.domState (domainOf (blockOf k)) = 0) ∧
    (∃ (who : Init) (off : Nat) (k : Nat) (r : RegRow) (v : Word) (s : State), s.place who off = some (.reg k false) ∧ findRow k = some r ∧
        r.pair = 2 ∧ s.domState (domainOf (blockOf k)) = 0 ∧ tabGet (fun _ => none) s.host.latch (pairKey who (k - 4)) = some v) :=
  ⟨⟨.pf, Reg.CELL_TIME, Reg.CELL_TIME, rowAt Reg.CELL_TIME, State.reset, by decide +kernel, by decide +kernel, by decide +kernel, by decide +kernel⟩,
    ⟨.pf, Reg.CELL_TIME + 4, Reg.CELL_TIME + 4, rowAt (Reg.CELL_TIME + 4), 7,
        { State.reset with host := { State.reset.host with latch := [(pairKey .pf Reg.CELL_TIME, some 7)] } }, by decide +kernel, by decide +kernel,
        by decide +kernel, by decide +kernel, by decide +kernel⟩⟩

theorem test_meets_ReadsWithSideEffects :
    (∃ (who : Init) (off : Nat) (k : Nat) (vf : Bool) (r : RegRow) (s : State), s.place who off = some (.reg k vf) ∧ findRow k = some r ∧
        r.pair = 0 ∧ s.domState (domainOf (blockOf k)) = 0) ∧
    (∃ (s : State), s.inReset = false ∧ s.domState 1 = 0 ∧ s.small = false) ∧
    (∃ (ch : Nat) (s : State), ch < 32 ∧ s.inReset = false ∧ s.domState 6 = 0 ∧ s.small = false) ∧
    (∃ (u : Nat) (s : State), u < 16 ∧ s.inReset = false ∧ s.domState 6 = 0 ∧ s.small = false) :=
  ⟨⟨.pf, Reg.SC_STATE 0, Reg.SC_STATE 0, false, rowAt (Reg.SC_STATE 0), State.reset, by decide +kernel, by decide +kernel, by decide +kernel,
      by decide +kernel⟩,
    ⟨State.reset, by decide +kernel, by decide +kernel, by decide +kernel⟩,
    ⟨31, State.reset, by decide +kernel, by decide +kernel, by decide +kernel, by decide +kernel⟩,
    ⟨15, State.reset, by decide +kernel, by decide +kernel, by decide +kernel, by decide +kernel⟩⟩

theorem test_meets_WriteLeavesEachFieldByItsAccessCode :
    ∃ (o : Nat) (r : RegRow) (f : FieldRow) (vf : Bool) (lock : Bool) (old : Word) (v : Word), findRow o = some r ∧ f ∈ r.fields :=
  ⟨Reg.TB_CTRL, rowAt Reg.TB_CTRL, ((rowAt Reg.TB_CTRL).fields.getD 0 noField), false, false, 0, 1, by decide +kernel, by decide +kernel⟩

theorem test_meets_RegisterWriteTakes :
    (∃ (who : Init) (off : Nat) (k : Nat) (vf : Bool) (r : RegRow) (v : Word) (s : State), s.takesWrite who off k vf r v ∧ blockOf k ∈ [4, 8, 10,
        12, 13, 15]) ∧
    (∃ (who : Init) (off : Nat) (k : Nat) (r : RegRow) (v : Word) (s : State), (k = Reg.LINK_CTRL ∨ k = Reg.RST_CTRL) ∧
        s.takesWrite who off k false r v ∧ v.msb = true) :=
  ⟨⟨.pf, Reg.SCH_CTRL, Reg.SCH_CTRL, false, rowAt Reg.SCH_CTRL, 0, State.reset, by unfold State.takesWrite; decide +kernel, by decide +kernel⟩,
    ⟨.pf, Reg.RST_CTRL, Reg.RST_CTRL, rowAt Reg.RST_CTRL, 0x80000000, State.reset, by decide +kernel, by unfold State.takesWrite; decide +kernel,
        by decide +kernel⟩⟩

theorem test_meets_RefusedWritesChangeNoRegister :
    (∃ (who : Init) (off : Nat) (size : Nat) (v : Word) (s : State), (size ≠ 4 ∨ off % 4 ≠ 0)) ∧
    (∃ (who : Init) (off : Nat) (o : Nat) (v : Word) (s : State), off % 4 = 0 ∧ s.place who off = some (.hole o) ∧
        s.domState (domainOf (blockOf o)) < 2) ∧
    (∃ (who : Init) (off : Nat) (k : Nat) (vf : Bool) (r : RegRow) (v : Word) (s : State), off % 4 = 0 ∧ s.place who off = some (.reg k vf) ∧
        findRow k = some r ∧ writable r = true ∧ r.pair = 0 ∧ s.domState (domainOf (blockOf k)) = 0 ∧ blockOf k ∈ [8, 10, 12, 13] ∧
        s.writeBar k v = none ∧ unranged k = false ∧ rangesOk r vf (s.lockSet k) v = false) :=
  ⟨⟨.pf, 2, 4, 0, State.reset, by decide +kernel⟩,
    ⟨.pf, 0x1000000, 0x1000000, 0, State.reset, by decide +kernel, by decide +kernel, by decide +kernel⟩,
    ⟨.pf, Reg.ACQ_PRB_CFG 0, Reg.ACQ_PRB_CFG 0, false, rowAt (Reg.ACQ_PRB_CFG 0), 0xFFFFFFFF, State.reset, by decide +kernel, by decide +kernel,
        by decide +kernel, by decide +kernel, by decide +kernel, by decide +kernel, by decide +kernel, by decide +kernel, by decide +kernel,
        by decide +kernel⟩⟩

theorem test_meets_PairWritesTakeEffectTogether :
    (∃ (who : Init) (off : Nat) (k : Nat) (r : RegRow) (v : Word) (s : State), off % 4 = 0 ∧ s.place who off = some (.reg k false) ∧
        findRow k = some r ∧ writable r = true ∧ r.pair = 1 ∧ s.domState (domainOf (blockOf k)) = 0 ∧ blockOf k ∈ [8, 10, 12, 13]) ∧
    (∃ (who : Init) (off : Nat) (k : Nat) (r : RegRow) (l : Word) (v : Word) (s : State), off % 4 = 0 ∧ s.place who off = some (.reg k false) ∧
        findRow k = some r ∧ writable r = true ∧ r.pair = 2 ∧ s.domState (domainOf (blockOf k)) = 0 ∧ blockOf k ∈ [8, 10, 12, 13] ∧
        tabGet (fun _ => none) s.host.held (pairKey who (k - 4)) = some l ∧ s.writeBar (k - 4) v = none ∧ rangesOk r false false v = true) ∧
    (∃ (who : Init) (off : Nat) (k : Nat) (r : RegRow) (v : Word) (s : State), off % 4 = 0 ∧ s.place who off = some (.reg k false) ∧
        findRow k = some r ∧ writable r = true ∧ r.pair = 2 ∧ s.domState (domainOf (blockOf k)) = 0 ∧ blockOf k ∈ [8, 10, 12, 13] ∧
        tabGet (fun _ => none) s.host.held (pairKey who (k - 4)) = none) :=
  ⟨⟨.pf, 0xA01024, 0xA01024, rowAt 0xA01024, 5, State.reset, by decide +kernel, by decide +kernel, by decide +kernel, by decide +kernel,
      by decide +kernel, by decide +kernel, by decide +kernel⟩,
    ⟨.pf, 0xA01024 + 4, 0xA01024 + 4, rowAt (0xA01024 + 4), 5, 6, { State.reset with host := { State.reset.host with held := [(pairKey .pf 0xA01024, some 5)] } },
        by decide +kernel, by decide +kernel, by decide +kernel, by decide +kernel, by decide +kernel, by decide +kernel, by decide +kernel,
        by decide +kernel, by decide +kernel, by decide +kernel⟩,
    ⟨.pf, 0xA01024 + 4, 0xA01024 + 4, rowAt (0xA01024 + 4), 6, State.reset, by decide +kernel, by decide +kernel, by decide +kernel,
        by decide +kernel, by decide +kernel, by decide +kernel, by decide +kernel, by decide +kernel⟩⟩

theorem test_meets_WritesThatAct :
    (∃ (who : Init) (v : Word) (r : RegRow) (s : State), s.takesWrite who Reg.DEV_DEFECT Reg.DEV_DEFECT false r v) ∧
    (∃ (who : Init) (v : Word) (r : RegRow) (s : State), s.takesWrite who Reg.TB_CTRL Reg.TB_CTRL false r v ∧ fldOf v F.TB_CTRL_SNAP = 1) ∧
    (∃ (who : Init) (v : Word) (r : RegRow) (s : State), s.takesWrite who Reg.HE_WD_KICK Reg.HE_WD_KICK false r v) ∧
    (∃ (who : Init) (v : Word) (r : RegRow) (s : State), s.takesWrite who Reg.OPT_CTRL Reg.OPT_CTRL false r v ∧
        (s.lentClu = [] ∨ s.meets s.optProg 1 (v.toNat % 256) = true)) ∧
    (∃ (who : Init) (core : Nat) (f : Nat) (v : Word) (r : RegRow) (s : State), core < 8 ∧ f < 4 ∧
        s.takesWrite who (Reg.SC_IN_CFG core f) (Reg.SC_IN_CFG core f) false r v) ∧
    (∃ (who : Init) (ch : Nat) (v : Word) (r : RegRow) (s : State), ch < 32 ∧ s.takesWrite who (Reg.LA_CH_CFG ch) (Reg.LA_CH_CFG ch) false r v) :=
  ⟨⟨.pf, 1, rowAt Reg.DEV_DEFECT, State.reset, by unfold State.takesWrite; decide +kernel⟩,
    ⟨.pf, (BitVec.ofNat 32 (2 ^ F.TB_CTRL_SNAP.lo + 100 * 2 ^ 12 + 100)), rowAt Reg.TB_CTRL, State.reset,
        by unfold State.takesWrite; decide +kernel, by decide +kernel⟩,
    ⟨.pf, 0, rowAt Reg.HE_WD_KICK, State.reset, by unfold State.takesWrite; decide +kernel⟩,
    ⟨.pf, 80, rowAt Reg.OPT_CTRL, State.reset, by unfold State.takesWrite; decide +kernel, by decide +kernel⟩,
    ⟨.pf, 7, 3, 1, rowAt (Reg.SC_IN_CFG 7 3), State.reset, by decide +kernel, by decide +kernel, by unfold State.takesWrite; decide +kernel⟩,
    ⟨.pf, 31, 0, rowAt (Reg.LA_CH_CFG 31), State.reset, by decide +kernel, by unfold State.takesWrite; decide +kernel⟩⟩

theorem test_meets_WritesOfUnitConfiguration :
    (∃ (who : Init) (a : Nat) (v : Word) (r : RegRow) (s : State), a < 224 ∧ s.takesWrite who (Reg.SRV_AX_CFG a) (Reg.SRV_AX_CFG a) false r v) ∧
    (∃ (who : Init) (ch : Nat) (e : Nat) (v : Word) (r : RegRow) (s : State), ch < 32 ∧ e < 64 ∧
        s.takesWrite who (Reg.LA_CMP_CTRL ch e) (Reg.LA_CMP_CTRL ch e) false r v) ∧
    (∃ (who : Init) (ch : Nat) (v : Word) (r : RegRow) (s : State), ch < 32 ∧ s.takesWrite who (Reg.LA_CH_ERR ch) (Reg.LA_CH_ERR ch) false r v ∧
        fldOf v F.LA_CH_ERR_CHOP_FAULT = 0) ∧
    (∃ (who : Init) (l : Word) (v : Word) (s : State), s.place who (Reg.DISC_SAMPLE + 4) = some (.reg (Reg.DISC_SAMPLE + 4) false) ∧ s.role < 2 ∧
        tabGet (fun _ => none) s.host.held (pairKey who Reg.DISC_SAMPLE) = some l ∧ s.domState 0 = 0 ∧
        s.flag Reg.DISC_CTRL F.DISC_CTRL_ENABLE = true ∧ s.flag Reg.DISC_STATUS F.DISC_STATUS_BUSY = false) ∧
    (∃ (who : Init) (v : Word) (s : State), s.place who Reg.BOOT_CTRL = some (.reg Reg.BOOT_CTRL false) ∧ s.mode = mBoot ∧
        s.fld Reg.BOOT_STATUS F.BOOT_STATUS_STATE = 1 ∧ fldOf v F.BOOT_CTRL_LOAD = 1 ∧ fldOf v F.BOOT_CTRL_COMMIT_SVN = 0) ∧
    (∃ (who : Init) (v : Word) (s : State), s.place who Reg.BOOT_CTRL = some (.reg Reg.BOOT_CTRL false) ∧ s.mode = mConfig ∧
        (s.lifeCycle = 1 ∨ s.lifeCycle = 2) ∧ fldOf v F.BOOT_CTRL_LOAD = 0 ∧ fldOf v F.BOOT_CTRL_COMMIT_SVN = 1) ∧
    (∃ (n : Nat) (ty : Nat) (q : Nat) (r : RegRow) (v : Word) (s : State), ty < 4 ∧ ringExists 0 ty q = true ∧
        s.takesWrite .pf (ringCtrl 0 ty q) (ringCtrl 0 ty q) false r v ∧ s.ringOn 0 ty q = false ∧ fldOf v F.RING_CTRL_ENABLE = 1 ∧
        s.ringAligned 0 ty q (fldOf v F.RING_CTRL_SIZE_LOG) = true ∧ (s.reg64 (ringBase 0 ty q + 0x10)).toNat = 4 * (n + 1) ∧ ty = 0 ∧
        s.ringOn 0 1 (fldOf v F.RING_CTRL_CPL) = true) :=
  ⟨⟨.pf, 223, 0, rowAt (Reg.SRV_AX_CFG 223), State.reset, by decide +kernel, by unfold State.takesWrite; decide +kernel⟩,
    ⟨.pf, 31, 63, 2, rowAt (Reg.LA_CMP_CTRL 31 63), State.reset, by decide +kernel, by decide +kernel, by unfold State.takesWrite; decide +kernel⟩,
    ⟨.pf, 31, 0, rowAt (Reg.LA_CH_ERR 31), State.reset, by decide +kernel, by unfold State.takesWrite; decide +kernel, by decide +kernel⟩,
    ⟨.pf, 5, 6, { wit [(Reg.DISC_CTRL, F.DISC_CTRL_ENABLE, 1)] with host := { State.reset.host with held := [(pairKey .pf Reg.DISC_SAMPLE, some 5)] } },
        by decide +kernel, by decide +kernel, by decide +kernel, by decide +kernel, by decide +kernel, by decide +kernel⟩,
    ⟨.pf, BitVec.ofNat 32 (2 ^ F.BOOT_CTRL_LOAD.lo), wit [(Reg.BOOT_STATUS, F.BOOT_STATUS_STATE, 1)], by decide +kernel, by decide +kernel,
        by decide +kernel, by decide +kernel, by decide +kernel⟩,
    ⟨.pf, BitVec.ofNat 32 (2 ^ F.BOOT_CTRL_COMMIT_SVN.lo), { wit [(Reg.DEV_MODE, F.DEV_MODE_MODE, 1)] with mem := { State.reset.mem with fuse := { State.reset.mem.fuse with lifeCycle := 2 } } },
        by decide +kernel, by decide +kernel, by decide +kernel, by decide +kernel, by decide +kernel⟩,
    ⟨0, 0, 15, rowAt (ringCtrl 0 0 15), BitVec.ofNat 32 (2 ^ F.RING_CTRL_ENABLE.lo + 4 * 2 ^ F.RING_CTRL_SIZE_LOG.lo), wit [(ringCtrl 0 1 0,
        F.RING_CTRL_ENABLE, 1), (ringBase 0 0 15 + 0x10, ⟨0, 32⟩, 4)], by decide +kernel, by decide +kernel,
        by unfold State.takesWrite; decide +kernel, by decide +kernel, by decide +kernel, by decide +kernel, by decide +kernel, by decide +kernel,
        by decide +kernel⟩⟩

theorem test_meets_TimeCommandsMoveTheirView :
    (∃ (c : Cmd) (s : State), c.b 16 < 2 ∧ (c.i 24 8).natAbs ≤ 160000000 ∧ (s.may c 0x0201 .pfWc [] [(16, 1), (24, 8)] (¬ (c.b 16 = 0 ∧
        s.cellOwner = 1) ∧ (c.b 16 = 1 → s.flag Reg.DISC_CTRL F.DISC_CTRL_ENABLE = true → s.fromDiscipline (c.as 0x0201) = true)))) ∧
    (∃ (c : Cmd) (s : State), c.b 16 < 2 ∧ (s.may c 0x0202 .pfWc [] [(16, 1), (20, 4)] (¬ (c.b 16 = 0 ∧ s.cellOwner = 1) ∧
        (c.b 16 = 1 → s.flag Reg.DISC_CTRL F.DISC_CTRL_ENABLE = true → s.fromDiscipline (c.as 0x0202) = true)))) ∧
    (∃ (c : Cmd) (s : State), c.b 16 < 2 ∧ (s.may c 0x0203 .pfWc [] [(16, 1), (24, 8)] (¬ (c.b 16 = 0 ∧ s.cellOwner = 1) ∧
        (c.b 16 = 1 → s.flag Reg.DISC_CTRL F.DISC_CTRL_ENABLE = true → s.fromDiscipline (c.as 0x0203) = true) ∧ (c.b 16 = 0 → s.mode < 2) ∧
        s.viewInUse (c.b 16) = false))) :=
  ⟨⟨wCmd [(16, 1), (24, 5)], State.reset, by decide +kernel, by decide +kernel, .inr ⟨by decide +kernel, by decide +kernel⟩⟩,
    ⟨wCmd [(16, 1), (20, 7)], State.reset, by decide +kernel, .inr ⟨by decide +kernel, by decide +kernel⟩⟩,
    ⟨wCmd [(16, 0), (24, 5)], State.reset, by decide +kernel, .inr ⟨by decide +kernel, by decide +kernel⟩⟩⟩

theorem test_meets_TimeEventsTakeEffect :
    (∃ (w : Nat) (s : State), w < 2 ∧ (s.view w).slew ≠ 0) ∧
    (∃ (s : State), s.flag Reg.TB_STATUS F.TB_STATUS_PLANT_HOLDOVER = false ∧
        (s.fld Reg.DISC_CTRL F.DISC_CTRL_TIMEOUT * 16000000000 : Int) ≤ timeDiff s.plantNow s.time.lastCorr) :=
  ⟨⟨1, { State.reset with time := { State.reset.time with plant := { ofs := 0, rate := 0, slew := 5 } } }, by decide +kernel, by decide +kernel⟩,
    ⟨{ wit [(Reg.TB_STATUS, F.TB_STATUS_PLANT_HOLDOVER, 0)] with time := { State.reset.time with raw := 0x10000000000 } }, by decide +kernel,
        by decide +kernel⟩⟩

theorem test_meets_ActArmArmsItsEntry :
    ∃ (c : Cmd) (s : State), 2 ≤ (c.b 16) ∧ c.b 19 < 8 ∧ s.targetOk (c.b 17) (c.b 18) = true ∧ 3 ≤ c.b 17 ∧
        (bit (c.b 19) 1 = true → 16000 ≤ c.u 32 8 ∧ c.u 32 8 < 2 ^ 48) ∧
        timePast (BitVec.ofNat 64 (c.u 24 8)) (s.viewNow (b2n (bit (c.b 19) 0))) = false ∧ s.may c 0x0204 .pfWc [] [(16, 1), (17, 1), (18, 1), (19,
        1), (24, 8), (32, 8)] (s.armed (c.b 16) = false) :=
  ⟨wCmd [(16, 255), (17, 3), (18, 0), (19, 2), (24, 100000), (32, 16000)], State.reset, by decide +kernel, by decide +kernel, by decide +kernel,
      by decide +kernel, by decide +kernel, by decide +kernel, .inr ⟨by decide +kernel, by decide +kernel⟩⟩

theorem test_meets_EntriesDisarmAndFire :
    (∃ (c : Cmd) (s : State), s.may c 0x0205 .pfWc [] [(16, 1)] (¬ ((c.b 16) ≤ 1 ∧ 2 ≤ s.mode)) ∧ s.due (c.b 16) = false ∧
        s.firedNow (c.b 16) = false ∧ s.armed (c.b 16) = true) ∧
    (∃ (c : Cmd) (s : State), s.may c 0x0205 .pfWc [] [(16, 1)] (¬ ((c.b 16) ≤ 1 ∧ 2 ≤ s.mode)) ∧ s.due (c.b 16) = false ∧
        s.firedNow (c.b 16) = true) ∧
    (∃ (n : Nat) (s : State), 2 ≤ n ∧ n < 256 ∧ s.armed n = true ∧ s.due n = true ∧ s.rivals n = [n] ∧ s.time.fireNext.contains n = false ∧
        2 ≤ s.domState (targetDomain (s.actKind n))) ∧
    (∃ (n : Nat) (s : State), 2 ≤ n ∧ n < 256 ∧ s.armed n = true ∧ s.due n = true ∧ s.rivals n = [n] ∧ s.time.fireNext.contains n = false ∧
        s.domState (targetDomain (s.actKind n)) = 0) :=
  ⟨⟨wCmd [(16, 2)], wit [(Reg.ACT_STATUS 2, F.ACT_STATUS_ARMED, 1), (Reg.ACT_TIME 2, ⟨0, 32⟩, 100)], .inr ⟨by decide +kernel, by decide +kernel⟩,
      by decide +kernel, by decide +kernel, by decide +kernel⟩,
    ⟨wCmd [(16, 2)], { wit [(Reg.ACT_LAST 2, ⟨0, 32⟩, 0), (Reg.ACT_STATUS 2, F.ACT_STATUS_FIRED, 1)] with time := State.reset.time },
        .inr ⟨by decide +kernel, by decide +kernel⟩, by decide +kernel, by decide +kernel⟩,
    ⟨255, wit [(Reg.ACT_STATUS 255, F.ACT_STATUS_ARMED, 1), (Reg.ACT_CTRL 255, F.ACT_CTRL_KIND, 5), (Reg.PWR_DOMAIN 6, F.PWR_DOMAIN_STATE, 3),
        (Reg.PWR_DOMAIN 2, F.PWR_DOMAIN_STATE, 3)], by decide +kernel, by decide +kernel, by decide +kernel, by decide +kernel, by decide +kernel,
        by decide +kernel, by decide +kernel⟩,
    ⟨255, wit [(Reg.ACT_STATUS 255, F.ACT_STATUS_ARMED, 1), (Reg.ACT_CTRL 255, F.ACT_CTRL_KIND, 5)], by decide +kernel, by decide +kernel,
        by decide +kernel, by decide +kernel, by decide +kernel, by decide +kernel, by decide +kernel⟩⟩

theorem test_meets_TimedCommandsExecuteWhenDue :
    ∃ (s : State) (c : Cmd), s.host.timed = [c] ∧ timePast c.exec s.cell = true :=
  ⟨{ State.reset with host := { State.reset.host with timed := [wCmd []] } }, wCmd [], by decide +kernel, by decide +kernel⟩

theorem test_meets_SetDeviceModeTakesEffectAtTick :
    (∃ (c : Cmd) (s : State), 1 ≤ c.b 16 ∧ c.b 16 ≤ 3 ∧ (s.may c 0x0001 .pf [] [(16, 1)] (s.modeCmd = none ∧ ∃ l, s.modeRow (c.b 16) = some l ∧
        ∀ x ∈ l, x.1 = false))) ∧
    (∃ (c : Cmd) (l : List ModeCond) (s : State), s.modeCmd = some c ∧ s.modeOver = false ∧ s.modeRow (c.b 16) = some l ∧ (∀ x ∈ l, x.1 = false) ∧
        s.inReset = false ∧ s.clk.eventDue = false ∧ s.mem.lcFrom = none ∧ s.defectTick = s ∧ s.linkTick.regs = s.regs) :=
  ⟨⟨wCmd [(16, 3)], wConfig, by decide +kernel, by decide +kernel, .inr ⟨by decide +kernel, rfl, _, rfl, by decide +kernel⟩⟩,
    ⟨wCmd [(16, 3)], (wConfig.modeRow 3).getD [], { wConfig with modeCmd := some (wCmd [(16, 3)]) }, by decide +kernel, by decide +kernel,
        by decide +kernel, by decide +kernel, by decide +kernel, by decide +kernel, by decide +kernel, by decide +kernel, by decide +kernel⟩⟩

theorem test_meets_EnteringAModeSetsIt :
    ∃ (m : Nat) (s : State), m ≤ 4 ∧ m ≠ s.mode ∧ s.role = 0 ∧ s.twinOn = false :=
  ⟨1, State.reset, by decide +kernel, by decide +kernel, by decide +kernel, by decide +kernel⟩

theorem test_meets_FoulLogMovesInOrder :
    (∃ (code : Nat) (src : Nat) (d : BitVec 128) (s : State), (∀ r ∈ s.log.buf (code / 256), ¬ (r.code = code ∧ r.src = src)) ∧ (∀ r ∈ s.log.queue,
        ¬ (r.code = code ∧ r.src = src)) ∧ (s.log.buf (code / 256)).length < 16) ∧
    (∃ (b : Nat) (r : Rec) (l : List Rec) (s : State), s.inReset = false ∧ s.log.pushed = [] ∧ s.log.buf b = r :: l ∧ s.log.queue.length < 1024) ∧
    (∃ (c : Cmd) (s : State), s.may c 0x0002 .pf [] [] True) :=
  ⟨⟨0x0110, 0, 0, State.reset, by decide +kernel, by decide +kernel, by decide +kernel⟩,
    ⟨1, ⟨0, 0x0110, 0, 1, 0⟩, [], { State.reset with log := (State.reset.post 0x0110 0 0).log }, by decide +kernel, by decide +kernel,
        by decide +kernel, by decide +kernel⟩,
    ⟨wCmd [], State.reset, .inr ⟨by decide +kernel, by decide +kernel⟩⟩⟩

theorem test_meets_CompletionReachesItsRing :
    (∃ (c : Cmd) (st : Nat) (blk : Nat) (r : Nat) (s : State), c.port = .ring r ∧ c.seq = 0 ∧
        s.ringOn (fnOf c.who) 1 (s.fld (ringCtrl (fnOf c.who) 0 r) F.RING_CTRL_CPL) = true ∧ s.hostUp = true) ∧
    (∃ (c : Cmd) (st : Nat) (blk : Nat) (s : State), (∀ w, c.who = .wc w → w < 16) ∧ (∀ w k o,
        c.who = .wc w → c.port = .slot k → (s.slot w k).sig = some o → o < 1024)) :=
  ⟨⟨{ wCmd [] with port := .ring 15 }, 0, 0, 15, wit [(ringCtrl 0 1 0, F.RING_CTRL_ENABLE, 1), (Reg.HE_STATUS, F.HE_STATUS_WIDTH, 4)],
      by decide +kernel, by decide +kernel, by decide +kernel, by decide +kernel⟩,
    ⟨{ wCmd [] with who := .wc 15, port := .slot 3 }, 0, 0, State.reset, by intro w h; cases h; decide,
        by intro w k o h g e; cases h; cases g; exact absurd (show none = some o from e) (by simp)⟩⟩

theorem test_meets_PrivilegedCommandsDenyVfs :
    ∃ (n : Nat) (op : Nat) (i : Cmd → Instr) (c : Cmd) (s : State), pfRow op i ∧ c.who = .vf n ∧ c.accepted = false ∧
        s.domState (domainOf (op / 256)) = 0 :=
  ⟨16, 0x0001, .setDeviceMode, { wCmd [] with who := .vf 16 }, State.reset, by unfold pfRow; exact .head _, by decide +kernel, by decide +kernel,
      by decide +kernel⟩

theorem test_meets_DoorbellsSetSoftwareIndex :
    (∃ (who : Init) (off : Nat) (ty : Nat) (r : Nat) (v : Word) (s : State), off % 4 = 0 ∧ s.fnOn (fnOf who) = true ∧
        doorbellRing who.isVf off = some (ty, r) ∧ s.ringOn (fnOf who) ty r = true ∧
        (idxSub v.toNat (s.swIdx (fnOf who) ty r) ≤ idxSub ((if ty = 0 ∨ ty = 3 then s.devIdx (fnOf who) ty r + s.ringSize (fnOf who) ty r else s.devIdx (fnOf who) ty r) % 2 ^ 32) (s.swIdx (fnOf who) ty r))) ∧
    (∃ (who : Init) (off : Nat) (ty : Nat) (r : Nat) (v : Word) (s : State), off % 4 = 0 ∧ s.fnOn (fnOf who) = true ∧
        doorbellRing who.isVf off = some (ty, r) ∧ s.ringOn (fnOf who) ty r = false) :=
  ⟨⟨.pf, 0x7F000, 3, 63, 1, wit [(ringCtrl 0 3 63, F.RING_CTRL_ENABLE, 1)], by decide +kernel, by decide +kernel, by decide +kernel,
      by decide +kernel, by decide +kernel⟩,
    ⟨.vf 16, 0xC0, 3, 0, 1, wit [(Reg.HE_STATUS, F.HE_STATUS_VF_ENABLED, 0xFFFF)], by decide +kernel, by decide +kernel, by decide +kernel,
        by decide +kernel⟩⟩

theorem test_meets_DescriptorFetchAsksForWhatIsDue :
    ∃ (fn : Nat) (r : Nat) (s : State), s.fnOn fn = true ∧ s.hostUp = true ∧ s.mode ≠ mBoot ∧ s.ringOn fn 0 r = true ∧
        s.flag (ringCtrl fn 0 r) F.RING_CTRL_ERROR = false ∧ s.fetching fn r = false ∧ s.swIdx fn 0 r ≠ s.devIdx fn 0 r ∧
        1 ≤ s.cplRoom fn (s.fld (ringCtrl fn 0 r) F.RING_CTRL_CPL) :=
  ⟨0, 15, wit [(Reg.DEV_MODE, F.DEV_MODE_MODE, 1), (Reg.HE_STATUS, F.HE_STATUS_WIDTH, 4), (ringCtrl 0 0 15, F.RING_CTRL_ENABLE, 1),
      (ringBase 0 0 15 + 0x1C, ⟨0, 32⟩, 1), (ringCtrl 0 1 0, F.RING_CTRL_ENABLE, 1), (ringCtrl 0 1 0, F.RING_CTRL_SIZE_LOG, 4),
      (ringBase 0 1 0 + 0x1C, ⟨0, 32⟩, 0)], by decide +kernel, by decide +kernel, by decide +kernel, by decide +kernel, by decide +kernel,
      by decide +kernel, by decide +kernel, by decide +kernel⟩

theorem test_meets_ReadCompletionsAreGathered :
    (∃ (id : Nat) (j : Nat) (d : List Byte) (q : ReadReq) (job : ReadJob) (s : State),
        s.host.reads.find? (fun r => r.id == id && r.sent && r.got.isNone) = some q ∧ q.job = j ∧ d.length = q.len ∧
        s.host.jobs.find? (fun x => x.1 == j) = some (j, job) ∧ (∃ x ∈ s.host.reads, x.job = j ∧ x.id ≠ id ∧ x.got = none) ∧ (∀ x ∈ s.host.reads,
        x.sent = true)) ∧
    (∃ (id : Nat) (j : Nat) (fn : Nat) (r : Nat) (i : Nat) (n : Nat) (e : ReadError) (q : ReadReq) (s : State), s.host.reads = [q] ∧ q.id = id ∧
        q.sent = true ∧ q.got = none ∧ q.job = j ∧ s.host.jobs = [(j, .descriptors fn r i n)] ∧ ringExists fn 0 r = true ∧
        s.flag (ringCtrl fn 0 r) F.RING_CTRL_ENABLE = true ∧ fn ≤ 16) :=
  ⟨⟨9, 4, List.replicate 64 0, ⟨9, 0, 4, 0x1000, 64, true, none⟩, .descriptors 0 0 0 2,
      { State.reset with host := { State.reset.host with reads := [⟨9, 0, 4, 0x1000, 64, true, none⟩, ⟨10, 0, 4, 0x1040, 64, true, none⟩], jobs := [(4, .descriptors 0 0 0 2)] } },
      by decide +kernel, by decide +kernel, by decide +kernel, by decide +kernel, by decide +kernel, by decide +kernel⟩,
    ⟨9, 4, 16, 3, 0, 1, .abort, ⟨9, 0, 4, 0x1000, 64, true, none⟩, { wit [(ringCtrl 16 0 3, F.RING_CTRL_ENABLE, 1)] with host := { State.reset.host with reads := [⟨9, 0, 4, 0x1000, 64, true, none⟩], jobs := [(4, .descriptors 16 3 0 1)] } },
        by decide +kernel, by decide +kernel, by decide +kernel, by decide +kernel, by decide +kernel, by decide +kernel, by decide +kernel,
        by decide +kernel, by decide +kernel⟩⟩

theorem test_meets_HeldCommandsAndSignalsGo :
    (∃ (fn : Nat) (r : Nat) (c : Cmd) (s : State), fn ≤ 16 ∧ s.host.fence = [c] ∧ c.who = initOf fn ∧ c.port = .ring r ∧
        (c.fence && s.earlier c) = false) ∧
    (∃ (fn : Nat) (ty : Nat) (r : Nat) (x : W64) (s : State), (s.modSt fn ty r).since = some x ∧ s.ringOn fn ty r = true ∧ ty ≠ 0 ∧
        (s.fld (ringBase fn ty r + 0xC) F.RING_MOD_TIME * 16000 : Int) ≤ timeDiff s.cell x ∧
        s.flag (msixEntry fn (s.fld (ringCtrl fn ty r) F.RING_CTRL_VECTOR) + 12) F.MSIX_CTRL_MASK = false) :=
  ⟨⟨0, 3, { wCmd [] with port := .ring 3 }, { State.reset with host := { State.reset.host with fence := [{ wCmd [] with port := .ring 3 }] } },
      by decide +kernel, by decide +kernel, by decide +kernel, by decide +kernel, by decide +kernel⟩,
    ⟨0, 1, 0, 0, { wit [(ringCtrl 0 1 0, F.RING_CTRL_ENABLE, 1), (msixEntry 0 0 + 12, F.MSIX_CTRL_MASK, 0)] with host := { State.reset.host with mods := [(ringKey 0 1 0, ⟨1, some 0⟩)] }, time := { State.reset.time with raw := 0x10000000000 } },
        by decide +kernel, by decide +kernel, by decide +kernel, by decide +kernel, by decide +kernel⟩⟩

theorem test_meets_FunctionsLinkAndWatchdog :
    (∃ (n : Nat) (s : State), s.fnOn n = true ∧ n ≠ 0) ∧
    (∃ (n : Nat) (s : State), s.inReset = false ∧ n ≤ s.nVf ∧ (∀ v, n < v → s.vfOn v = false)) ∧
    (∃ (w : Nat) (sp : Nat) (s : State), s.inReset = false ∧ w < 16 ∧ sp < 16) ∧
    (∃ (s : State), s.host.wdRun = true ∧ s.fld Reg.HE_WD F.HE_WD_PERIOD ≠ 0 ∧
        (s.fld Reg.HE_WD F.HE_WD_PERIOD * 16000000 : Int) ≤ timeDiff s.cell s.host.wdFrom ∧ s.groups.filter s.grpLive = []) :=
  ⟨⟨16, wit [(Reg.HE_STATUS, F.HE_STATUS_VF_ENABLED, 0xFFFF)], by decide +kernel, by decide +kernel⟩,
    ⟨16, State.reset, by decide +kernel, by decide +kernel, fun v h => by
      have e : State.reset.nVf = 16 := by decide +kernel
      have h2 : ¬ (1 ≤ v ∧ v ≤ 16) := by omega
      simp [State.vfOn, e, h2]⟩,
    ⟨4, 4, State.reset, by decide +kernel, by decide +kernel, by decide +kernel⟩,
    ⟨{ wit [(Reg.HE_WD, F.HE_WD_PERIOD, 1)] with host := { State.reset.host with wdRun := true }, time := { State.reset.time with raw := 0x1000000 } },
        by decide +kernel, by decide +kernel, by decide +kernel, by decide +kernel⟩⟩

theorem test_meets_BootStepsMoveOn :
    (∃ (img : List Byte) (s : State), s.mode = mBoot ∧ s.inReset = false ∧ s.fld Reg.BOOT_STATUS F.BOOT_STATUS_STATE = 0 ∧
        s.host.selfTestDone = false) ∧
    (∃ (sigs : List (Nat × W64 × W64)) (s : State), s.mode = mBoot ∧ s.inReset = false ∧ s.host.selfTestDone = false) :=
  ⟨⟨[], State.reset, by decide +kernel, by decide +kernel, by decide +kernel, by decide +kernel⟩,
    ⟨[], State.reset, by decide +kernel, by decide +kernel, by decide +kernel⟩⟩

theorem test_meets_HostEngineCommandsComplete :
    (∃ (c : Cmd) (s : State), s.may c 0x0101 .any [] [] True) ∧
    (∃ (c : Cmd) (dma : Dma) (s : State), c.b 16 < 2 ∧ (c.u 40 4) % 8 = 0 ∧ (c.u 40 4) ≤ 0x1000000 ∧ isSram (c.u 24 8) = false ∧
        (c.u 32 8) + (c.u 40 4) ≤ sramSize ∧ s.may c 0x0102 .pfWc [((c.u 32 8), (c.u 40 4))] [(16, 1), (24, 8), (32, 8), (40, 4)] True ∧
        c.b 16 = 1 ∧ s.sramReady (c.u 32 8) (c.u 40 4) = true ∧ s.poisoned (c.u 32 8) (c.u 40 4) = none) ∧
    (∃ (c : Cmd) (d : List Byte) (s : State), (c.u 40 4) ≠ 0 ∧ (c.u 40 4) % 8 = 0 ∧ (c.u 40 4) ≤ 0x1000000 ∧ isSram (c.u 24 8) = false ∧
        (c.u 32 8) + (c.u 40 4) ≤ sramSize ∧ s.twin.feed = none ∧ d.length = (c.u 40 4) ∧ s.may c 0x0102 .pfWc [((c.u 32 8), (c.u 40 4))] [(16, 1),
        (24, 8), (32, 8), (40, 4)] True ∧ c.b 16 = 0 ∧ s.sramReady (c.u 32 8) (c.u 40 4) = true) :=
  ⟨⟨wCmd [], State.reset, .inr ⟨by decide +kernel, by decide +kernel⟩⟩,
    ⟨wCmd [(16, 1), (24, 0x1000), (31, 0x80), (32, 0x3000), (40, 64)], .pending, State.reset, by decide +kernel, by decide +kernel,
        by decide +kernel, by decide +kernel, by decide +kernel, .inr ⟨by decide +kernel, by decide +kernel⟩, by decide +kernel, by decide +kernel,
        by decide +kernel⟩,
    ⟨wCmd [(24, 0x1000), (31, 0x80), (32, 0x3000), (40, 8)], List.replicate 8 0, State.reset, by decide +kernel, by decide +kernel,
        by decide +kernel, by decide +kernel, by decide +kernel, by decide +kernel, by decide +kernel, .inr ⟨by decide +kernel, by decide +kernel⟩,
        by decide +kernel, by decide +kernel⟩⟩

theorem test_meets_Bar4ReachesSharedAndLocalMemory :
    (∃ (off : Nat) (len : Nat) (s : State), off + len ≤ secureBase ∧ 0 < len ∧ s.sramReady off len = true ∧ s.poisoned off len = none) ∧
    (∃ (off : Nat) (d : List Byte) (s : State), off + d.length ≤ secureBase ∧ 0 < d.length ∧ s.sramReady off d.length = true ∧ s.mem.poison = []) ∧
    (∃ (c : Nat) (x : Nat) (len : Nat) (s : State), c < 16 ∧ x < 0x40000) ∧
    (∃ (c : Nat) (x : Nat) (d : List Byte) (s : State), c < 16 ∧ x < 0x40000) ∧
    (∃ (off : Nat) (d : List Byte) (s : State), bar4 off = .refused) :=
  ⟨⟨secureBase - 1, 1, State.reset, by decide +kernel, by decide +kernel, by decide +kernel, by decide +kernel⟩,
    ⟨secureBase - 1, [5], State.reset, by decide +kernel, by decide +kernel, by decide +kernel, by decide +kernel⟩,
    ⟨15, 0x3FFFF, 1, State.reset, by decide +kernel, by decide +kernel⟩,
    ⟨15, 0x3FFFF, [5], wit [(Reg.WC_STATE 15, F.WC_STATE_STATE, 0)], by decide +kernel, by decide +kernel⟩,
    ⟨secureBase, [5], State.reset, by decide +kernel⟩⟩

theorem test_meets_ScrubberCountsAndMoves :
    (∃ (s : State), s.mem.poison = [] ∧ s.mem.scrubPos < 0x7FFF) ∧
    (∃ (b : Nat) (s : State), b < 256 ∧ s.groupState (b / 16) = gOn ∧ s.mem.poison = [] ∧ s.mem.scrubPos < 0x7FFF) ∧
    (∃ (s : State), s.mem.poison = [] ∧ s.mem.scrubPos = 0x7FFF) :=
  ⟨⟨State.reset, by decide +kernel, by decide +kernel⟩,
    ⟨255, State.reset, by decide +kernel, by decide +kernel, by decide +kernel, by decide +kernel⟩,
    ⟨{ State.reset with mem := { State.reset.mem with scrubPos := 0x7FFF } }, by decide +kernel, by decide +kernel⟩⟩

theorem test_meets_BankGroupsChangeState :
    (∃ (c : Cmd) (s : State), (c.b 16) < 15 ∧ c.b 17 ≤ 2 ∧ setTarget (c.b 17) ≠ gOn ∧ s.may c 0x0D01 .pfWc [] [(16, 1), (17,
        1)] (s.groupBusy (c.b 16) (setTarget (c.b 17)) = false)) ∧
    (∃ (c : Cmd) (s : State), (c.b 16) < 15 ∧ c.b 17 ≤ 2 ∧ setTarget (c.b 17) = gOn ∧ s.may c 0x0D01 .pfWc [] [(16, 1), (17, 1)] True ∧
        s.groupState (c.b 16) = gRetention) ∧
    (∃ (g : Nat) (s : State), g < 16 ∧ s.groupState g = gWaking ∧ s.mem.waiting = [] ∧ s.mem.setCmds = []) ∧
    (∃ (g : Nat) (s : State), g < 16 ∧ s.groupState g = gClearing ∧ s.mem.waiting = [] ∧ s.mem.setCmds = []) ∧
    (∃ (g : Nat) (s : State), g < 16 ∧ s.groupState g = gRetention) :=
  ⟨⟨wCmd [(16, 10), (17, 2)], State.reset, by decide +kernel, by decide +kernel, by decide +kernel, .inr ⟨by decide +kernel, by decide +kernel⟩⟩,
    ⟨wCmd [(16, 14), (17, 0)], wit [(Reg.MEM_GROUP 14, F.MEM_GROUP_STATE, gRetention)], by decide +kernel, by decide +kernel, by decide +kernel,
        .inr ⟨by decide +kernel, by decide +kernel⟩, by decide +kernel⟩,
    ⟨15, wit [(Reg.MEM_GROUP 15, F.MEM_GROUP_STATE, gWaking)], by decide +kernel, by decide +kernel, by decide +kernel, by decide +kernel⟩,
    ⟨15, wit [(Reg.MEM_GROUP 15, F.MEM_GROUP_STATE, gClearing)], by decide +kernel, by decide +kernel, by decide +kernel, by decide +kernel⟩,
    ⟨15, wit [(Reg.MEM_GROUP 15, F.MEM_GROUP_STATE, gRetention)], by decide +kernel, by decide +kernel⟩⟩

theorem test_meets_TamperWipesSecurePartition :
    ∃ (s : State), s.mem.wipes = [1] :=
  ⟨{ State.reset with mem := { State.reset.mem with wipes := [1] } }, by decide +kernel⟩

theorem test_meets_SelfTestRunsStartAndEnd :
    (∃ (c : Cmd) (s : State), s.regionPresent (c.b 16) = true ∧ 10 ≤ c.b 17 ∧ c.b 17 ≤ 20 ∧ s.may c 0x0D02 .pf [] [(16, 1), (17,
        1)] (s.regionState (c.b 16) ≠ 3 ∧ (s.region (c.b 16)).running = false ∧ (s.region (c.b 16)).outOfUse = false)) ∧
    (∃ (c : Cmd) (s : State), s.regionPresent (c.b 16) = true ∧ s.regionState (c.b 16) ≠ 2 ∧ (s.region (c.b 16)).byCmd = none ∧
        (s.region (c.b 16)).running = true ∧ s.may c 0x0D03 .pf [] [(16, 1)] True) ∧
    (∃ (r : Nat) (s : State), (s.region r).retryWait = true) ∧
    (∃ (r : Nat) (s : State), (s.region r).gapWait = true) :=
  ⟨⟨wCmd [(16, 0x31), (17, 20)], State.reset, by decide +kernel, by decide +kernel, by decide +kernel, .inr ⟨by decide +kernel, by decide +kernel⟩⟩,
    ⟨wCmd [(16, 0x31)], { State.reset with mem := { State.reset.mem with regions := [(0x31, { running := true })] } }, by decide +kernel,
        by decide +kernel, by decide +kernel, by decide +kernel, .inr ⟨by decide +kernel, by decide +kernel⟩⟩,
    ⟨0x31, { State.reset with mem := { State.reset.mem with regions := [(0x31, { retryWait := true })] } }, by decide +kernel⟩,
    ⟨0x31, { State.reset with mem := { State.reset.mem with regions := [(0x31, { gapWait := true })] } }, by decide +kernel⟩⟩

theorem test_meets_SelfTestSlicesLendAndReturn :
    (∃ (k : Nat) (s : State), s.mayLend 0x30 = true ∧ (s.region 0x30).gapWait = false ∧ (s.region 0x30).running = true ∧
        (s.region 0x30).byCmd.isSome = true ∧ s.saveSlot = some k) ∧
    (∃ (r : Nat) (sig : W64) (s : State), r < 0x32 ∧ regionKind r = 4 ∧ s.regionState r = 2 ∧
        (s.reg (Reg.MST_DONE r)).toNat + slicePatterns (regionKind r) < 2 ^ s.fld (Reg.MST_REGION r) F.MST_REGION_LOG_N ∧
        s.poisoned (s.slotRange r).1 (s.slotRange r).2 = none) ∧
    (∃ (r : Nat) (sig : W64) (s : State), r < 0x32 ∧ (s.region r).outOfUse = true ∧ (s.region r).byCmd = none ∧
        sig = Config.mstExpected (regionKind r) (s.fld (Reg.MST_REGION r) F.MST_REGION_LOG_N)) :=
  ⟨⟨0, { wit [(Reg.DEV_MODE, F.DEV_MODE_MODE, 1)] with mem := { State.reset.mem with regions := [(0x30, { running := true, byCmd := some (wCmd []) })] } },
      by decide +kernel, by decide +kernel, by decide +kernel, by decide +kernel, by decide +kernel⟩,
    ⟨0x30, 0, wit [(Reg.MST_REGION 0x30, F.MST_REGION_STATE, 2), (Reg.MST_REGION 0x30, F.MST_REGION_LOG_N, 10)], by decide +kernel,
        by decide +kernel, by decide +kernel, by decide +kernel, by decide +kernel⟩,
    ⟨0x31, Config.mstExpected (regionKind 0x31) (({ State.reset with mem := { State.reset.mem with regions := [(0x31, { outOfUse := true })] } } : State).fld (Reg.MST_REGION 0x31) F.MST_REGION_LOG_N),
        { State.reset with mem := { State.reset.mem with regions := [(0x31, { outOfUse := true })] } }, by decide +kernel, by decide +kernel,
        by decide +kernel, rfl⟩⟩

theorem test_meets_LifeCycleAdvancesByRecord :
    (∃ (c : Cmd) (s : State), 1 ≤ c.b 16 ∧ c.b 16 ≤ 2 ∧ (c.u 24 8) + 408 ≤ secureBase ∧ s.twin.feed = none ∧ s.sramReady (c.u 24 8) 408 = true ∧
        s.poisoned (c.u 24 8) 408 = none ∧ (s.may c 0x0D04 .pf [((c.u 24 8), 408)] [(16, 1), (24, 8), (32, 4)] (s.mode = mConfig ∧ s.role = 0 ∧
        s.allDisabled = true ∧ (s.lifeCycle = 0 ∧ c.b 16 = 1 ∨ s.lifeCycle = 1 ∧ c.b 16 = 2) ∧ s.mem.lcCmd = none ∧ s.mem.lcResetDue = false)) ∧
        s.lcCheck (c.b 16) (c.u 32 4) (s.sramRead (c.u 24 8) 408) ≠ 0) ∧
    (∃ (c : Cmd) (s : State), 1 ≤ c.b 16 ∧ c.b 16 ≤ 2 ∧ (c.u 24 8) + 408 ≤ secureBase ∧ s.twin.feed = none ∧ s.sramReady (c.u 24 8) 408 = true ∧
        s.poisoned (c.u 24 8) 408 = none ∧ (s.may c 0x0D04 .pf [((c.u 24 8), 408)] [(16, 1), (24, 8), (32, 4)] (s.mode = mConfig ∧ s.role = 0 ∧
        s.allDisabled = true ∧ (s.lifeCycle = 0 ∧ c.b 16 = 1 ∨ s.lifeCycle = 1 ∧ c.b 16 = 2) ∧ s.mem.lcCmd = none ∧ s.mem.lcResetDue = false)) ∧
        s.lcCheck (c.b 16) (c.u 32 4) (s.sramRead (c.u 24 8) 408) = 0) ∧
    (∃ (s : State), s.mem.lcResetDue = true ∧ s.inReset = false) :=
  ⟨⟨wCmd [(16, 1), (24, 0x2000), (32, 408)], wit [(Reg.DEV_MODE, F.DEV_MODE_MODE, 1)], by decide +kernel, by decide +kernel, by decide +kernel,
      by decide +kernel, by decide +kernel, by decide +kernel, .inr ⟨by decide +kernel, by decide +kernel⟩, by decide +kernel⟩,
    ⟨wCmd [(16, 1), (24, 0x1000), (32, 408)], { wit [(Reg.DEV_MODE, F.DEV_MODE_MODE, 1)] with mem := { State.reset.mem with sram := memWrite [] 0x1000 wRecord } },
        by decide +kernel, by decide +kernel, by decide +kernel, by decide +kernel, by decide +kernel, by decide +kernel, .inr ⟨by decide +kernel,
        by decide +kernel⟩, by decide +kernel⟩,
    ⟨{ State.reset with mem := { State.reset.mem with lcResetDue := true } }, by decide +kernel, by decide +kernel⟩⟩

theorem test_meets_DeviceResetsNameTheirCause :
    ∃ (i : Instr) (cause : Nat) (s : State), s.inReset = false ∧ ((i = .resetNAssert ∧ cause = 2) ∨ (i = .pwrFailAssert ∧
        cause = 10) ∨ (i = .pcieReset false ∧ cause = 3) ∨ (i = .pcieReset true ∧ cause = 4) ∨ (i = .deviceResetDelay ∧ s.clk.resetDue = true ∧
        cause = 6) ∨ (i = .lcResetDelay ∧ s.mem.lcResetDue = true ∧ cause = 5) ∨ (∃ k, i = .supplyTrip k ∧ 2 ≤ k ∧ k ≤ 7 ∧ cause = 9)) :=
  ⟨.supplyTrip 7, 9, State.reset, by decide +kernel, .inr (.inr (.inr (.inr (.inr (.inr ⟨7, rfl, by decide, by decide, rfl⟩)))))⟩

theorem test_meets_PowerOnResetClearsTime :
    ∃ (i : Instr) (s : State), (i = .powerOnResetPd0 ∨ i = .supplyTrip 0 ∨ i = .supplyTrip 1) :=
  ⟨.supplyTrip 1, State.reset, .inr (.inr rfl)⟩

theorem test_meets_ResetReleaseStartsTheBoot :
    ∃ (sel : Bool) (s : State), s.inReset = true ∧ s.fld Reg.CK_STATUS F.CK_STATUS_LOCK = 0x7F ∧ s.fld Reg.RST_CAUSE F.RST_CAUSE_CAUSE ≠ 8 :=
  ⟨true, wit [(Reg.CK_STATUS, F.CK_STATUS_LOCK, 0x7F), (Reg.PWR_DOMAIN 1, F.PWR_DOMAIN_STATE, 3)], by decide +kernel, by decide +kernel,
      by decide +kernel⟩

theorem test_meets_MonitorsReport :
    (∃ (s : State), s.flag Reg.CK_STATUS F.CK_STATUS_REF_LOSS = false) ∧
    (∃ (k : Nat) (s : State), k < 7 ∧ s.domState k ≠ 2 ∧ s.inReset = false) ∧
    (∃ (i : Nat) (x : Int) (s : State), i < 8 ∧ -640 ≤ x ∧ x < 115 * 16 ∧ s.inReset = false) ∧
    (∃ (s : State), s.inReset = false ∧ s.clk.ana ≠ 0 ∧ s.clk.anaHot = false) :=
  ⟨⟨State.reset, by decide +kernel⟩,
    ⟨6, State.reset, by decide +kernel, by decide +kernel, by decide +kernel⟩,
    ⟨7, 16 * 114, State.reset, by decide +kernel, by decide +kernel, by decide +kernel, by decide +kernel⟩,
    ⟨State.reset, by decide +kernel, by decide +kernel, by decide +kernel⟩⟩

theorem test_meets_DomainsStopAndStart :
    (∃ (c : Cmd) (s : State), 2 ≤ (c.b 16) ∧ (c.b 16) ≤ 6 ∧ c.b 17 = 1 ∧ s.domState (c.b 16) = 0 ∧ s.may c 0x0F01 .pfWc [] [(16, 1), (17,
        1)] (s.domForbids (c.b 16) false = none)) ∧
    (∃ (c : Cmd) (s : State), 2 ≤ (c.b 16) ∧ (c.b 16) ≤ 6 ∧ c.b 17 = 0 ∧ s.domState (c.b 16) = 1 ∧ s.may c 0x0F01 .pfWc [] [(16, 1), (17, 1)] True) ∧
    (∃ (d : Nat) (s : State), 2 ≤ d ∧ d ≤ 6 ∧ s.domState d = 0 ∧ s.flag (Reg.PWR_DOMAIN d) F.PWR_DOMAIN_AUTO_STOP = true ∧
        s.domForbids d false = none) ∧
    (∃ (s : State), s.inReset = false ∧ s.domState 4 = 3 ∧ s.clk.powerCmds = []) ∧
    (∃ (c : Cmd) (s : State), (s.may c 0x0F02 .pf [] [] (s.role = 0 ∨ s.role = 2))) :=
  ⟨⟨wCmd [(16, 6), (17, 1)], State.reset, by decide +kernel, by decide +kernel, by decide +kernel, by decide +kernel, .inr ⟨by decide +kernel,
      by decide +kernel⟩⟩,
    ⟨wCmd [(16, 6), (17, 0)], wit [(Reg.PWR_DOMAIN 6, F.PWR_DOMAIN_STATE, 1)], by decide +kernel, by decide +kernel, by decide +kernel,
        by decide +kernel, .inr ⟨by decide +kernel, by decide +kernel⟩⟩,
    ⟨6, wit [(Reg.PWR_DOMAIN 6, F.PWR_DOMAIN_AUTO_STOP, 1)], by decide +kernel, by decide +kernel, by decide +kernel, by decide +kernel,
        by decide +kernel⟩,
    ⟨wit [(Reg.PWR_DOMAIN 4, F.PWR_DOMAIN_STATE, 3)], by decide +kernel, by decide +kernel, by decide +kernel⟩,
    ⟨wCmd [], State.reset, .inr ⟨by decide +kernel, by decide +kernel⟩⟩⟩

theorem test_meets_CommandsWakeStoppedDomains :
    ∃ (d : Nat) (s : State), d < 8 ∧ s.domState d = 1 :=
  ⟨6, wit [(Reg.PWR_DOMAIN 6, F.PWR_DOMAIN_STATE, 1)], by decide +kernel, by decide +kernel⟩

theorem test_meets_FramesReadBack :
    ∃ (s : State) (c : Nat) (kind : Nat) (slot : Nat) (dst : Nat) (aux : Nat) (l : List Byte), c < 2 ∧ kindOk kind = true ∧ kind < 16 ∧ slot < 512 ∧
        dst < 256 ∧ aux < 2 ^ 16 ∧ l.length % 8 = 0 ∧ 8 ≤ l.length ∧ l.length ≤ 256 :=
  ⟨State.reset, 1, 4, 511, 255, 0xFFFF, List.replicate 256 0, by decide +kernel, by decide +kernel, by decide +kernel, by decide +kernel,
      by decide +kernel, by decide +kernel, by decide +kernel, by decide +kernel, by decide +kernel⟩

theorem test_meets_LinkCommandsTakeEffect :
    (∃ (c : Cmd) (s : State), (c.b 16) < 2 ∧ c.b 17 = 0 ∧ s.mode < 2 ∧ s.role = 0 ∧ s.may c 0x0301 .pfWc [] [(16, 1), (17, 1), (24, 8), (32,
        4)] True) ∧
    (∃ (c : Cmd) (s : State), (c.b 16) < 2 ∧ c.b 17 < 2 ∧ s.may c 0x0302 .pfWc [] [(16, 1), (17, 1)] (s.mode = mConfig ∧ s.linkState = lStopped ∧
        s.flag Reg.LINK_STATION F.LINK_STATION_COLD_START = true ∧ s.bankValid (c.b 16) = true ∧ s.armed 0 = true)) ∧
    (∃ (c : Cmd) (s : State), s.may c 0x0303 .pfWc [] [] (s.mode = mConfig ∧ s.scheduled = true ∧ s.link.stopCmd = none)) ∧
    (∃ (c : Cmd) (b : Nat) (s : State), c.b 16 = 0 ∧ s.may c 0x0304 .pfWc [] [(16, 1)] (s.link.commit = none ∧ s.inService = true ∧
        s.scheduled = true ∧ s.link.staged = some b ∧ s.bankValid b = true)) ∧
    (∃ (c : Cmd) (s : State), c.b 16 = 1 ∧ s.may c 0x0304 .pfWc [] [(16, 1)] (s.link.member = none ∧ s.inService = true ∧ s.scheduled = true)) :=
  ⟨⟨wCmd [(16, 1)], State.reset, by decide +kernel, by decide +kernel, by decide +kernel, by decide +kernel, .inr ⟨by decide +kernel,
      by decide +kernel⟩⟩,
    ⟨wCmd [(16, 1), (17, 1)], wit [(Reg.DEV_MODE, F.DEV_MODE_MODE, 1), (Reg.LINK_STATION, F.LINK_STATION_COLD_START, 1), (Reg.SB_STATUS 1,
        F.SB_STATUS_VALID, 1), (Reg.ACT_STATUS 0, F.ACT_STATUS_ARMED, 1)], by decide +kernel, by decide +kernel, .inr ⟨by decide +kernel,
        by decide +kernel⟩⟩,
    ⟨wCmd [], wit [(Reg.DEV_MODE, F.DEV_MODE_MODE, 1), (Reg.LINK_STATUS, F.LINK_STATUS_STATE, lRunning)], .inr ⟨by decide +kernel,
        by decide +kernel⟩⟩,
    ⟨wCmd [], 1, { wit [(Reg.DEV_MODE, F.DEV_MODE_MODE, 2), (Reg.LINK_STATUS, F.LINK_STATUS_STATE, lRunning), (Reg.SB_STATUS 1, F.SB_STATUS_VALID, 1)] with link := { State.reset.link with staged := some 1 } },
        by decide +kernel, .inr ⟨by decide +kernel, by decide +kernel⟩⟩,
    ⟨wCmd [(16, 1)], wit [(Reg.DEV_MODE, F.DEV_MODE_MODE, 2), (Reg.LINK_STATUS, F.LINK_STATUS_STATE, lRunning)], by decide +kernel,
        .inr ⟨by decide +kernel, by decide +kernel⟩⟩⟩

theorem test_meets_LinkPortAndNodeCommands :
    (∃ (c : Cmd) (s : State), c.b 16 < 4 ∧ c.u 20 4 < 2 ^ s.nPorts ∧ s.may c 0x0305 .pfWc [] [(16, 1), (20, 4)] (s.mode ≠ mBoot ∧ s.twinOn = false)) ∧
    (∃ (c : Cmd) (s : State), c.b 16 < 4 ∧ c.b 17 = 1 ∧ c.u 20 4 < 2 ^ s.nPorts ∧ s.may c 0x0306 .pfWc [] [(16, 1), (17, 1), (20,
        4)] (s.mode ≠ mBoot)) ∧
    (∃ (c : Cmd) (s : State), 1 ≤ (c.b 16) ∧ (c.b 16) ≤ 240 ∧ c.b 18 < 4 ∧ s.may c 0x0307 .pfWc [] [(16, 1), (17, 1), (18,
        1)] (s.scheduled = true) ∧ c.b 17 = 0) ∧
    (∃ (c : Cmd) (s : State), 1 ≤ (c.b 16) ∧ (c.b 16) ≤ 240 ∧ c.b 18 < 4 ∧ s.may c 0x0307 .pfWc [] [(16, 1), (17, 1), (18,
        1)] (s.scheduled = true) ∧ c.b 17 = 2) ∧
    (∃ (c : Cmd) (s : State), 1 ≤ (c.b 16) ∧ (c.b 16) ≤ 240 ∧ c.b 17 = 1 ∧ c.u 22 2 ≤ 248 ∧ c.u 24 8 + c.u 22 2 ≤ secureBase ∧
        s.memb 0 (c.b 16) = 3 ∧ s.may c 0x0308 .pfWc [(c.u 24 8, c.u 22 2)] [(16, 1), (17, 1), (18, 2), (20, 2), (22, 2), (24,
        8)] (s.fitsMgmt s.bankUsed (c.b 16) 8 = true)) :=
  ⟨⟨wCmd [(16, 3), (20, 0xFF), (21, 0xFF), (22, 0x0F)], wit [(Reg.DEV_MODE, F.DEV_MODE_MODE, 1)], by decide +kernel, by decide +kernel,
      .inr ⟨by decide +kernel, by decide +kernel⟩⟩,
    ⟨wCmd [(16, 3), (17, 1), (20, 0xFF), (21, 0xFF), (22, 0x0F)], wit [(Reg.DEV_MODE, F.DEV_MODE_MODE, 1)], by decide +kernel, by decide +kernel,
        by decide +kernel, .inr ⟨by decide +kernel, by decide +kernel⟩⟩,
    ⟨wCmd [(16, 240), (18, 3)], wit [(Reg.LINK_STATUS, F.LINK_STATUS_STATE, lRunning), (Reg.NODE_STATUS 240, F.NODE_STATUS_MEMB_A, 3)],
        by decide +kernel, by decide +kernel, by decide +kernel, .inr ⟨by decide +kernel, by decide +kernel⟩, by decide +kernel⟩,
    ⟨wCmd [(16, 240), (17, 2), (18, 3)], wit [(Reg.LINK_STATUS, F.LINK_STATUS_STATE, lRunning)], by decide +kernel, by decide +kernel,
        by decide +kernel, .inr ⟨by decide +kernel, by decide +kernel⟩, by decide +kernel⟩,
    ⟨wCmd [(16, 240), (17, 1), (22, 248), (24, 0x2000)], wLink lRunning 0 kMgmt 0 (2 ^ 20) 3 (2 ^ 19) [(Reg.NODE_STATUS 240, F.NODE_STATUS_MEMB_A,
        3), (Reg.SB_NODE0 0 240, F.SB_NODE0_PORT, 19)], by decide +kernel, by decide +kernel, by decide +kernel, by decide +kernel,
        by decide +kernel, by decide +kernel, .inr ⟨by decide +kernel, by decide +kernel⟩⟩⟩

theorem test_meets_LinkStartAndSuccession :
    (∃ (s : State), s.linkState = lListening ∧ s.link.count = 0) ∧
    (∃ (s : State), s.linkState = lClaiming ∧ s.link.count = 0 ∧ s.link.startCmd = none) ∧
    (∃ (ch : Nat) (p : Nat) (f : RawFrame) (s : State), ch < 2 ∧ p < 20 ∧ s.portOpen ch p = true ∧ s.linkState = lListening ∧ f.valid = true ∧
        f.kind = kClaim ∧ s.link.claims = [] ∧ leAt f.payload 8 8 ≠ s.mem.fuse.serial.toNat ∧
        oct f.payload 0 < s.fld Reg.LINK_STATION F.LINK_STATION_RANK ∧ s.link.better < 7) ∧
    (∃ (ch : Nat) (s : State), ch < 2 ∧ s.linkState = lFollowing ∧ bit s.link.served ch = false ∧ s.link.letAt = []) ∧
    (∃ (ch : Nat) (s : State), ch < 2) ∧
    (∃ (ch : Nat) (p : Nat) (pos : Nat) (f : RawFrame) (s : State), ch < 2 ∧ p < 20 ∧ s.portOpen ch p = true ∧ f.kind = kLet ∧
        s.linkState = lFollowing ∧ bit s.link.letOpen ch = true ∧ s.link.letAt = [] ∧ sbChk f.start = true) ∧
    (∃ (s : State), s.linkState = lFollowing ∧ 1 ≤ (s.fld Reg.LINK_STATION F.LINK_STATION_RANK) ∧ s.link.served = 0 ∧ s.link.letAt = [] ∧
        s.link.letOpen = 3) ∧
    (∃ (s : State), s.role ≠ 2 ∧ s.linkState = lFollowing ∧ s.fld Reg.LINK_CTRL F.LINK_CTRL_MASTER_LOSS ≤ s.link.lossCount) :=
  ⟨⟨wit [(Reg.LINK_STATUS, F.LINK_STATUS_STATE, lListening)], by decide +kernel, by decide +kernel⟩,
    ⟨wit [(Reg.LINK_STATUS, F.LINK_STATUS_STATE, lClaiming)], by decide +kernel, by decide +kernel, by decide +kernel⟩,
    ⟨1, 19, wFrame 1 kClaim 9 0 0 0 (List.replicate 24 1), wit [(Reg.PORT_STATUS 1 19, F.PORT_STATUS_STATE, pMember), (Reg.LINK_STATUS,
        F.LINK_STATUS_STATE, lListening), (Reg.LINK_STATION, F.LINK_STATION_RANK, 3)], by decide +kernel, by decide +kernel, by decide +kernel,
        by decide +kernel, by decide +kernel, by decide +kernel, by decide +kernel, by decide +kernel, by decide +kernel, by decide +kernel⟩,
    ⟨1, wit [(Reg.LINK_STATUS, F.LINK_STATUS_STATE, lFollowing)], by decide +kernel, by decide +kernel, by decide +kernel, by decide +kernel⟩,
    ⟨1, State.reset, by decide +kernel⟩,
    ⟨1, 19, 8, wFrame 1 kLet 9 0 0 0 (List.replicate 24 1), withLk (wit [(Reg.PORT_STATUS 1 19, F.PORT_STATUS_STATE, pMember), (Reg.LINK_STATUS,
        F.LINK_STATUS_STATE, lFollowing)]) fun z => { z with letOpen := 3 }, by decide +kernel, by decide +kernel, by decide +kernel,
        by decide +kernel, by decide +kernel, by decide +kernel, by decide +kernel, by decide +kernel⟩,
    ⟨withLk (wit [(Reg.LINK_STATUS, F.LINK_STATUS_STATE, lFollowing), (Reg.LINK_STATION, F.LINK_STATION_RANK, 3)]) fun z => { z with letOpen := 3 },
        by decide +kernel, by decide +kernel, by decide +kernel, by decide +kernel, by decide +kernel⟩,
    ⟨withLk (wit [(Reg.LINK_STATUS, F.LINK_STATUS_STATE, lFollowing)]) fun z => { z with lossCount := 100000 }, by decide +kernel,
        by decide +kernel, by decide +kernel⟩⟩

theorem test_meets_ServesSetOrbitAndCycle :
    ∃ (ch : Nat) (p : Nat) (pos : Int) (f : RawFrame) (s : State), ch < 2 ∧ p < 20 ∧ s.portOpen ch p = true ∧ f.kind = kServe ∧ f.valid = true ∧
        s.linkState = lFollowing ∧ f.src = s.fld Reg.LINK_STATUS F.LINK_STATUS_MASTER ∧ -2 ≤ pos ∧ pos ≤ 2 :=
  ⟨1, 19, 2, wFrame 1 kServe 7 0 0 0 (List.replicate 24 1), wit [(Reg.PORT_STATUS 1 19, F.PORT_STATUS_STATE, pMember), (Reg.LINK_STATUS,
      F.LINK_STATUS_STATE, lFollowing), (Reg.LINK_STATUS, F.LINK_STATUS_MASTER, 7)], by decide +kernel, by decide +kernel, by decide +kernel,
      by decide +kernel, by decide +kernel, by decide +kernel, by decide +kernel, by decide +kernel, by decide +kernel⟩

theorem test_meets_FramesAreJudgedByTheSchedule :
    (∃ (ch : Nat) (p : Nat) (pos : Nat) (st : List Byte) (e : Nat) (x : Ent) (s : State), ch < 2 ∧ p < 20 ∧ s.portOpen ch p = true ∧
        s.scheduled = true ∧ s.portState ch p ≠ pContained ∧ (s.lp ch p).meas = none ∧ sbChk st = true ∧ kindOk (sbKind st) = true ∧
        sbKind st = kData ∧ s.nearest ch p pos = some (e, x) ∧ x.typ ≠ 2 ∧ x.kind = kData ∧ sbSrc st = x.owner ∧ s.memb ch (sbSrc st) = 3 ∧
        pos = x.start ∧ sbLen st + 4 ≤ x.len) ∧
    (∃ (ch : Nat) (p : Nat) (pos : Nat) (st : List Byte) (s : State), ch < 2 ∧ p < 20 ∧ s.portOpen ch p = true ∧ s.scheduled = true ∧
        s.portState ch p ≠ pContained ∧ (s.lp ch p).meas = none ∧ sbKind st = kData ∧ s.nearest ch p pos = none ∧ s.memb ch (sbSrc st) = 3 ∧
        s.fld (Reg.PORT_STATUS ch p) F.PORT_STATUS_VIOL_ORBIT + 1 < s.fld Reg.LINK_CONTAIN F.LINK_CONTAIN_CONTAIN_LIMIT) ∧
    (∃ (ch : Nat) (p : Nat) (q : LkCur) (x : Ent) (s : State), ch < 2 ∧ p < 20 ∧ (s.lp ch p).cur = some q ∧ q.answer = false ∧ s.scheduled = true ∧
        s.ent s.bankUsed q.ent = some x) ∧
    (∃ (ch : Nat) (e : Nat) (i : Nat) (w : Nat) (pr : Nat) (q : LkCur) (s : State), w < 20 ∧ ch < 2 ∧ s.link.arb = [(ch, e, i, pr, w)] ∧
        (s.lp ch w).cur = some q) ∧
    (∃ (ch : Nat) (p : Nat) (kind : Nat) (i : Instr) (q : LkCur) (x : Ent) (f : RawFrame) (s : State), ((i = .dataReceive ch p f ∧
        kind = kData) ∨ (i = .arbReceive ch p f ∧ kind = kArb)) ∧ ch < 2 ∧ p < 20 ∧ (s.lp ch p).cur = some q ∧ q.answer = false ∧
        (q.arb = false ∨ q.granted = true) ∧ f.kind = kind ∧ s.scheduled = true ∧ s.link.cut = false ∧ s.ent s.bankUsed q.ent = some x ∧
        f.valid = true ∧ bit x.dest 20 = true ∧ s.role < 2 ∧ (∀ y ∈ s.link.copies, ¬ (y.src = f.src ∧ y.slot = f.slot))) ∧
    (∃ (ch : Nat) (e : Nat) (x : Ent) (s : State), ch < 2 ∧ e < s.fld (Reg.SB_COUNT s.bankUsed) F.SB_COUNT_N_ENTRIES ∧ s.ent s.bankUsed e = some x ∧
        s.scheduled = true ∧ x.fromNode = true ∧ bit x.dest 20 = true ∧ x.onCh ch = true ∧ x.active s.link.cycle = true ∧ (e, ch) ∉ s.link.got ∧
        s.ownCh ch = true ∧ s.role < 2 ∧ x.slot < 512) :=
  ⟨⟨1, 19, 100, (wFrame 1 kData 240 5 0 0 (List.replicate 16 1)).start, 0,
      wEnt (wLink lRunning 1 kData 240 (2 ^ 19) 2 (2 ^ 20) [(Reg.PORT_STATUS 1 19, F.PORT_STATUS_STATE, pMember), (Reg.NODE_STATUS 240,
      F.NODE_STATUS_MEMB_B, 3)]), wLink lRunning 1 kData 240 (2 ^ 19) 2 (2 ^ 20) [(Reg.PORT_STATUS 1 19, F.PORT_STATUS_STATE, pMember),
      (Reg.NODE_STATUS 240, F.NODE_STATUS_MEMB_B, 3)], by decide +kernel, by decide +kernel, by decide +kernel, by decide +kernel,
      by decide +kernel, by decide +kernel, by decide +kernel, by decide +kernel, by decide +kernel, by decide +kernel, by decide +kernel,
      by decide +kernel, by decide +kernel, by decide +kernel, by decide +kernel, by decide +kernel⟩,
    ⟨1, 19, 5000, (wFrame 1 kData 240 5 0 0 (List.replicate 16 1)).start, wLink lRunning 1 kData 240 (2 ^ 19) 2 (2 ^ 20) [(Reg.PORT_STATUS 1 19,
        F.PORT_STATUS_STATE, pMember), (Reg.NODE_STATUS 240, F.NODE_STATUS_MEMB_B, 3)], by decide +kernel, by decide +kernel, by decide +kernel,
        by decide +kernel, by decide +kernel, by decide +kernel, by decide +kernel, by decide +kernel, by decide +kernel, by decide +kernel⟩,
    ⟨1, 19, ⟨0, 0, false, false, false⟩, wEnt (wLink lRunning 1 kData 240 (2 ^ 19) 2 (2 ^ 20) [(Reg.PORT_STATUS 1 19, F.PORT_STATUS_STATE, pMember),
        (Reg.NODE_STATUS 240, F.NODE_STATUS_MEMB_B, 3)]), withLk (wLink lRunning 1 kData 240 (2 ^ 19) 2 (2 ^ 20) [(Reg.PORT_STATUS 1 19,
        F.PORT_STATUS_STATE, pMember), (Reg.NODE_STATUS 240, F.NODE_STATUS_MEMB_B, 3)]) fun z => { z with ports := [(1 * 256 + 19, { cur := some ⟨0, 0, false, false, false⟩ })] },
        by decide +kernel, by decide +kernel, by decide +kernel, by decide +kernel, by decide +kernel, by decide +kernel⟩,
    ⟨1, 0, 1, 19, 3, ⟨0, 0, false, false, false⟩, withLk (withLk (wLink lRunning 1 kArb 240 (2 ^ 19) 2 (2 ^ 20) [(Reg.PORT_STATUS 1 19,
        F.PORT_STATUS_STATE, pMember), (Reg.NODE_STATUS 240, F.NODE_STATUS_MEMB_B, 3)]) fun z => { z with ports := [(1 * 256 + 19, { cur := some ⟨0, 0, false, false, false⟩ })] }) fun z => { z with arb := [(1, 0, 1, 3, 19)] },
        by decide +kernel, by decide +kernel, by decide +kernel, by decide +kernel⟩,
    ⟨1, 19, kData, .dataReceive 1 19 (wFrame 1 kData 240 5 0 0 (List.replicate 16 1)), ⟨0, 0, false, false, false⟩,
        wEnt (wLink lRunning 1 kData 240 (2 ^ 19) 2 (2 ^ 20) [(Reg.PORT_STATUS 1 19, F.PORT_STATUS_STATE, pMember), (Reg.NODE_STATUS 240,
        F.NODE_STATUS_MEMB_B, 3)]), wFrame 1 kData 240 5 0 0 (List.replicate 16 1),
        withLk (wLink lRunning 1 kData 240 (2 ^ 19) 2 (2 ^ 20) [(Reg.PORT_STATUS 1 19, F.PORT_STATUS_STATE, pMember), (Reg.NODE_STATUS 240,
        F.NODE_STATUS_MEMB_B, 3)]) fun z => { z with ports := [(1 * 256 + 19, { cur := some ⟨0, 0, false, false, false⟩ })] }, .inl ⟨rfl, rfl⟩,
        by decide +kernel, by decide +kernel, by decide +kernel, by decide +kernel, by decide +kernel, by decide +kernel, by decide +kernel,
        by decide +kernel, by decide +kernel, by decide +kernel, by decide +kernel, by decide +kernel, by decide +kernel⟩,
    ⟨1, 0, wEnt (wLink lRunning 1 kData 240 (2 ^ 19) 2 (2 ^ 20) [(Reg.PORT_STATUS 1 19, F.PORT_STATUS_STATE, pMember), (Reg.NODE_STATUS 240,
        F.NODE_STATUS_MEMB_B, 3)]), wLink lRunning 1 kData 240 (2 ^ 19) 2 (2 ^ 20) [(Reg.PORT_STATUS 1 19, F.PORT_STATUS_STATE, pMember),
        (Reg.NODE_STATUS 240, F.NODE_STATUS_MEMB_B, 3)], by decide +kernel, by decide +kernel, by decide +kernel, by decide +kernel,
        by decide +kernel, by decide +kernel, by decide +kernel, by decide +kernel, by decide +kernel, by decide +kernel, by decide +kernel,
        by decide +kernel⟩⟩

theorem test_meets_ManagementAndMeasurement :
    (∃ (ch : Nat) (p : Nat) (q : LkCur) (x : Ent) (f : RawFrame) (s : State), ch < 2 ∧ p < 20 ∧ (s.lp ch p).cur = some q ∧ q.answer = false ∧
        q.arb = false ∧ f.kind = kMgmt ∧ s.scheduled = true ∧ s.ent s.bankUsed q.ent = some x ∧ f.valid = true ∧ bit x.dest 20 = true ∧ s.role < 2 ∧
        (∀ y ∈ s.link.copies, ¬ (y.src = f.src ∧ y.slot = f.slot)) ∧ f.dst = 0 ∧ oct f.payload 0 = 7 ∧ s.link.lists = [(oct f.payload 1, ch, f.src,
        0)]) ∧
    (∃ (tag : Nat) (m : LkMgmt) (s : State), s.link.mgmt = [m] ∧ m.tag = tag ∧ 4 ≤ idxSub s.orbit m.orbit) ∧
    (∃ (e : Nat) (p : Nat) (m : LkMsg) (x : Ent) (s : State), s.ent s.bankUsed e = some x ∧ s.scheduled = true ∧
        e < s.fld (Reg.SB_COUNT s.bankUsed) F.SB_COUNT_N_ENTRIES ∧ x.fromDevice = true ∧ x.kind = kMgmt ∧ x.active s.link.cycle = true ∧ (e,
        2) ∉ s.link.got ∧ s.heldOut = false ∧ s.twinOn = false ∧ p < 20 ∧ x.onCh 0 = true ∧ bit x.dest p = true ∧ (s.lp 0 p).sending = true ∧
        s.portOpen 0 p = true ∧ s.link.letAt = [] ∧ (s.lp 0 p).queue = [m] ∧ m.payload.length / 8 + 3 ≤ x.len) ∧
    (∃ (ch : Nat) (p : Nat) (start : Nat) (seq : Nat) (t1 : W64) (t2 : W64) (m : LkMeas) (f : RawFrame) (s : State), (s.lp ch p).meas = some m ∧
        m.out = some (t1, seq, start) ∧ s.role < 2 ∧ f.valid = true ∧ f.kind = kSyncAnswer ∧ f.src = m.node ∧ leAt f.payload 4 2 = seq % 65536 ∧
        m.ms.length < 3 ∧ ((start + 5 : Nat) * (s.bankUs s.bankUsed * 16000 : Nat) : Int) ≤ timeDiff t2 s.link.tk * blocksOf (s.bankUs s.bankUsed) ∧
        timeDiff t2 s.link.tk * blocksOf (s.bankUs s.bankUsed) + ((sbLen f.start + 4) * (s.bankUs s.bankUsed * 16000) : Nat) ≤ ((start + 17 + 2 * s.fld Reg.LINK_JOIN F.LINK_JOIN_DELAY_MAX) * (s.bankUs s.bankUsed * 16000) : Nat)) ∧
    (∃ (ch : Nat) (p : Nat) (m : LkMeas) (s : State), (s.lp ch p).meas = some m ∧ m.out.isSome = true ∧ m.silent < 7) ∧
    (∃ (s : State), s.fld Reg.LINK_TIMERS F.LINK_TIMERS_REPROBE ≠ 0 ∧ s.fld Reg.LINK_TIMERS F.LINK_TIMERS_REPROBE ≤ s.link.ticks) :=
  ⟨⟨1, 19, ⟨0, 0, false, false, false⟩, wEnt (wLink lRunning 1 kMgmt 240 (2 ^ 19) 2 (2 ^ 20) [(Reg.PORT_STATUS 1 19, F.PORT_STATUS_STATE, pMember),
      (Reg.NODE_STATUS 240, F.NODE_STATUS_MEMB_B, 3)]), wFrame 1 kMgmt 240 5 0 0 (leBytes 8 0x307),
      withLk (withLk (wLink lRunning 1 kMgmt 240 (2 ^ 19) 2 (2 ^ 20) [(Reg.PORT_STATUS 1 19, F.PORT_STATUS_STATE, pMember), (Reg.NODE_STATUS 240,
      F.NODE_STATUS_MEMB_B, 3)]) fun z => { z with ports := [(1 * 256 + 19, { cur := some ⟨0, 0, false, false, false⟩ })] }) fun z => { z with lists := [(3, 1, 240, 0)] },
      by decide +kernel, by decide +kernel, by decide +kernel, by decide +kernel, by decide +kernel, by decide +kernel, by decide +kernel,
      by decide +kernel, by decide +kernel, by decide +kernel, by decide +kernel, by decide +kernel, by decide +kernel, by decide +kernel,
      by decide +kernel⟩,
    ⟨9, ⟨wCmd [], 240, 9, 0⟩, withLk (witR [(Reg.LINK_ORBIT, 4)]) fun z => { z with mgmt := [⟨wCmd [], 240, 9, 0⟩] }, by decide +kernel,
        by decide +kernel, by decide +kernel⟩,
    ⟨0, 19, ⟨0, kMgmt, 240, List.replicate 8 1⟩, wEnt (wLink lRunning 0 kMgmt 0 (2 ^ 20) 1 (2 ^ 19) [(Reg.PORT_STATUS 0 19, F.PORT_STATUS_STATE,
        pMember)]), withLk (wLink lRunning 0 kMgmt 0 (2 ^ 20) 1 (2 ^ 19) [(Reg.PORT_STATUS 0 19, F.PORT_STATUS_STATE,
        pMember)]) fun z => { z with ports := [(19, { sending := true, queue := [⟨0, kMgmt, 240, List.replicate 8 1⟩] })] }, by decide +kernel,
        by decide +kernel, by decide +kernel, by decide +kernel, by decide +kernel, by decide +kernel, by decide +kernel, by decide +kernel,
        by decide +kernel, by decide +kernel, by decide +kernel, by decide +kernel, by decide +kernel, by decide +kernel, by decide +kernel,
        by decide +kernel, by decide +kernel⟩,
    ⟨1, 19, 100, 5, 0, 0x2000, { node := 240, out := some (0, 5, 100) }, wFrame 1 kSyncAnswer 240 5 0 0 (leBytes 8 (5 * 2 ^ 32 + 0x10)),
        withLk (State.reset) fun z => { z with ports := [(1 * 256 + 19, { meas := some { node := 240, out := some (0, 5, 100) } })] },
        by decide +kernel, by decide +kernel, by decide +kernel, by decide +kernel, by decide +kernel, by decide +kernel, by decide +kernel,
        by decide +kernel, by decide +kernel, by decide +kernel⟩,
    ⟨1, 19, { node := 240, out := some (0, 5, 100) }, withLk (State.reset) fun z => { z with ports := [(1 * 256 + 19, { meas := some { node := 240, out := some (0, 5, 100) } })] },
        by decide +kernel, by decide +kernel, by decide +kernel⟩,
    ⟨withLk State.reset fun z => { z with ticks := 100000 }, by decide +kernel, by decide +kernel⟩⟩

theorem test_meets_MembershipAndContainment :
    (∃ (ch : Nat) (p : Nat) (n : Nat) (q : LkCur) (x : Ent) (f : RawFrame) (s : State), ch < 2 ∧ p < 20 ∧ (s.lp ch p).cur = some q ∧
        q.answer = false ∧ q.arb = false ∧ f.kind = kJoinReq ∧ s.scheduled = true ∧ s.ent s.bankUsed q.ent = some x ∧ f.valid = true ∧
        bit x.dest 20 = true ∧ s.role < 2 ∧ (∀ y ∈ s.link.copies, ¬ (y.src = f.src ∧ y.slot = f.slot)) ∧ n = oct f.payload 12 ∧ 1 ≤ n ∧ n ≤ 240 ∧
        f.payload.length = 24 ∧ s.memb ch n = 0 ∧ s.listed n = true ∧ s.flag (Reg.ADM_CTRL s.admCopy n) F.ADM_CTRL_CHECK_SERIAL = false ∧
        s.sched s.bankUsed n = true ∧ s.nodePort s.bankUsed n = p ∧ (s.ln ch n).delay.isSome = true) ∧
    (∃ (ch : Nat) (n : Nat) (s : State), ch < 2 ∧ n ≤ 240 ∧ s.memb ch n = 2 ∧ (s.ln ch n).probLeft ≤ 1 ∧ (s.ln ch n).bad = false ∧
        (s.ln ch n).edges ≤ s.fld Reg.LINK_JOIN F.LINK_JOIN_EDGE_MAX) ∧
    (∃ (ch : Nat) (n : Nat) (s : State), ch < 2 ∧ n ≤ 240 ∧ s.memb ch n = 3 ∧ s.fld Reg.LINK_JOIN F.LINK_JOIN_SILENT ≤ (s.ln ch n).silent) ∧
    (∃ (ch : Nat) (p : Nat) (s : State), ch < 2 ∧ p < 20 ∧ s.fld Reg.LINK_CONTAIN F.LINK_CONTAIN_DECAY ≤ (s.lp ch p).clean) ∧
    (∃ (ch : Nat) (p : Nat) (s : State), ch < 2 ∧ p < s.nPorts ∧ s.flag (Reg.PORT_STATUS ch p) F.PORT_STATUS_LOCK = true) ∧
    (∃ (ch : Nat) (p : Nat) (s : State), ch < 2 ∧ p < 20 ∧ s.laneLost ch p = true ∧
        s.fld Reg.LINK_CTRL F.LINK_CTRL_LOCK_LOSS ≤ (s.lp ch p).lostFor ∧ (s.lp ch p).lossDone = false ∧ s.portState ch p = pListen) ∧
    (∃ (ch : Nat) (p : Nat) (s : State), ch < 2 ∧ p < s.nPorts) ∧
    (∃ (x : LkCommit) (s : State), s.link.commit = some x ∧ x.announcing = false ∧ s.fld Reg.LINK_JOIN F.LINK_JOIN_ACK_WAIT ≤ x.waited ∧
        s.allAcked (s.link.staged.getD 0) = false) :=
  ⟨⟨1, 19, 240, ⟨0, 0, false, false, false⟩, wEnt (wLink lRunning 1 kJoinReq 240 (2 ^ 19) 2 (2 ^ 20) [(Reg.PORT_STATUS 1 19, F.PORT_STATUS_STATE,
      pMember), (Reg.ADM_CTRL 0 240, F.ADM_CTRL_LISTED, 1), (Reg.SB_NODE0 0 240, F.SB_NODE0_SCHEDULED, 1), (Reg.SB_NODE0 0 240, F.SB_NODE0_PORT,
      19)]), wFrame 1 kJoinReq 240 5 0 0 (leBytes 24 (240 * 2 ^ 96)),
      withLk (withLk (wLink lRunning 1 kJoinReq 240 (2 ^ 19) 2 (2 ^ 20) [(Reg.PORT_STATUS 1 19, F.PORT_STATUS_STATE, pMember), (Reg.ADM_CTRL 0 240,
      F.ADM_CTRL_LISTED, 1), (Reg.SB_NODE0 0 240, F.SB_NODE0_SCHEDULED, 1), (Reg.SB_NODE0 0 240, F.SB_NODE0_PORT,
      19)]) fun z => { z with ports := [(1 * 256 + 19, { cur := some ⟨0, 0, false, false, false⟩ })] }) fun z => { z with nodes := [(1 * 256 + 240, { delay := some 10 })] },
      by decide +kernel, by decide +kernel, by decide +kernel, by decide +kernel, by decide +kernel, by decide +kernel, by decide +kernel,
      by decide +kernel, by decide +kernel, by decide +kernel, by decide +kernel, by decide +kernel, by decide +kernel, by decide +kernel,
      by decide +kernel, by decide +kernel, by decide +kernel, by decide +kernel, by decide +kernel, by decide +kernel, by decide +kernel,
      by decide +kernel⟩,
    ⟨1, 240, withLk (wit [(Reg.NODE_STATUS 240, F.NODE_STATUS_MEMB_B, 2)]) fun z => { z with nodes := [(1 * 256 + 240, { probLeft := 1 })] },
        by decide +kernel, by decide +kernel, by decide +kernel, by decide +kernel, by decide +kernel, by decide +kernel⟩,
    ⟨1, 240, withLk (wit [(Reg.NODE_STATUS 240, F.NODE_STATUS_MEMB_B, 3)]) fun z => { z with nodes := [(1 * 256 + 240, { silent := 100000 })] },
        by decide +kernel, by decide +kernel, by decide +kernel, by decide +kernel⟩,
    ⟨1, 19, withLk (State.reset) fun z => { z with ports := [(1 * 256 + 19, { clean := 100000 })] }, by decide +kernel, by decide +kernel,
        by decide +kernel⟩,
    ⟨1, 19, wit [(Reg.PORT_STATUS 1 19, F.PORT_STATUS_LOCK, 1)], by decide +kernel, by decide +kernel, by decide +kernel⟩,
    ⟨1, 19, withLk (wit [(Reg.PORT_STATUS 1 19, F.PORT_STATUS_STATE, pListen)]) fun z => { z with ports := [(1 * 256 + 19, { lostFor := 100000 })] },
        by decide +kernel, by decide +kernel, by decide +kernel, by decide +kernel, by decide +kernel, by decide +kernel⟩,
    ⟨1, 19, State.reset, by decide +kernel, by decide +kernel⟩,
    ⟨{ cmd := wCmd [], waited := 100000 }, withLk (wit [(Reg.NODE_STATUS 240, F.NODE_STATUS_MEMB_A, 3), (Reg.SB_NODE0 1 240, F.SB_NODE0_SCHEDULED,
        1)]) fun z => { z with commit := some { cmd := wCmd [], waited := 100000 }, staged := some 1 }, by decide +kernel, by decide +kernel,
        by decide +kernel, by decide +kernel⟩⟩

theorem test_meets_GroupCommandsChangeState :
    (∃ (c : Cmd) (s : State), c.group < s.nGroups ∧ s.regionState 0x30 ≠ 2 ∧ s.grpState c.group = gsDisabled ∧
        s.may c 0x0402 .any [] [] (s.plannerLent = false ∧ mOperate ≤ s.mode ∧ (s.pg c.group).model.isSome = true ∧ s.phase c.group = phOff ∧
        s.zoneNotArmed c.group = none ∧ s.lostNode c.group = none)) ∧
    (∃ (c : Cmd) (s : State), c.group < s.nGroups ∧ s.regionState 0x30 ≠ 2 ∧ s.may c 0x0403 .any [] [] (s.plannerLent = false ∧
        s.grpState c.group ∈ [1, 3, 5])) ∧
    (∃ (c : Cmd) (s : State), c.group < s.nGroups ∧ s.regionState 0x30 ≠ 2 ∧ c.b 16 = 0 ∧ s.may c 0x0409 .any [] [(16, 1)] (s.plannerLent = false ∧
        s.grpLive c.group = true)) ∧
    (∃ (c : Cmd) (s : State), c.group < s.nGroups ∧ s.regionState 0x30 ≠ 2 ∧ (c.b 16 = 1 ∨ c.b 16 = 2) ∧ s.grpState c.group = gsMoving ∧
        s.may c 0x0409 .any [] [(16, 1)] (s.plannerLent = false)) ∧
    (∃ (c : Cmd) (s : State), c.group < s.nGroups ∧ s.grpState c.group = gsHolding ∧ s.may c 0x040A .any [] [] True) ∧
    (∃ (c : Cmd) (s : State), c.group < s.nGroups ∧ s.regionState 0x30 ≠ 2 ∧ s.grpState c.group = gsHolding ∧ s.holdCause c.group = 1 ∧
        s.may c 0x040B .any [] [] True) ∧
    (∃ (c : Cmd) (s : State), c.group < s.nGroups ∧ s.regionState 0x30 ≠ 2 ∧ s.grpState c.group = gsFaulted ∧ s.phase c.group = phOff ∧
        s.may c 0x040C .any [] [] (s.plannerLent = false)) :=
  ⟨⟨{ wCmd [] with group := 15 }, wGroup [(Reg.GRP_STATE 15, F.GRP_STATE_STATE, 0), (Reg.DEV_MODE, F.DEV_MODE_MODE, 2)], by decide +kernel,
      by decide +kernel, by decide +kernel, .inr ⟨by decide +kernel, by decide +kernel⟩⟩,
    ⟨{ wCmd [] with group := 15 }, wGroup [(Reg.GRP_STATE 15, F.GRP_STATE_STATE, 1)], by decide +kernel, by decide +kernel, .inr ⟨by decide +kernel,
        by decide +kernel⟩⟩,
    ⟨{ wCmd [] with group := 15 }, wGroup [(Reg.GRP_STATE 15, F.GRP_STATE_STATE, 2)], by decide +kernel, by decide +kernel, by decide +kernel,
        .inr ⟨by decide +kernel, by decide +kernel⟩⟩,
    ⟨{ wCmd [(16, 2)] with group := 15 }, wGroup [(Reg.GRP_STATE 15, F.GRP_STATE_STATE, gsMoving)], by decide +kernel, by decide +kernel,
        by decide +kernel, by decide +kernel, .inr ⟨by decide +kernel, by decide +kernel⟩⟩,
    ⟨{ wCmd [] with group := 15 }, wGroup [(Reg.GRP_STATE 15, F.GRP_STATE_STATE, gsHolding)], by decide +kernel, by decide +kernel,
        .inr ⟨by decide +kernel, by decide +kernel⟩⟩,
    ⟨{ wCmd [] with group := 15 }, wGroup [(Reg.GRP_STATE 15, F.GRP_STATE_STATE, gsHolding), (Reg.GRP_STATE 15, F.GRP_STATE_HOLD_CAUSE, 1)],
        by decide +kernel, by decide +kernel, by decide +kernel, by decide +kernel, .inr ⟨by decide +kernel, by decide +kernel⟩⟩,
    ⟨{ wCmd [] with group := 15 }, wGroup [(Reg.GRP_STATE 15, F.GRP_STATE_STATE, gsFaulted)], by decide +kernel, by decide +kernel,
        by decide +kernel, by decide +kernel, .inr ⟨by decide +kernel, by decide +kernel⟩⟩⟩

theorem test_meets_ModelsAndMovesAreTaken :
    (∃ (c : Cmd) (s : State), c.group < s.nGroups ∧ 0 < (min (c.u 32 4) 2408) ∧ (c.u 24 8) + (min (c.u 32 4) 2408) ≤ secureBase ∧
        s.twin.feed = none ∧ s.sramReady (c.u 24 8) (min (c.u 32 4) 2408) = true ∧ s.poisoned (c.u 24 8) (min (c.u 32 4) 2408) = none ∧
        model1 (s.sramRead (c.u 24 8) (min (c.u 32 4) 2408)) (min (c.u 32 4) 2408) = true ∧
        s.modelCheck (modelOf (s.sramRead (c.u 24 8) (min (c.u 32 4) 2408))) = 0 ∧
        (modelOf (s.sramRead (c.u 24 8) (min (c.u 32 4) 2408))).joints.any (fun j => (s.axisGroup j.axis).any (· != c.group)) = false ∧
        s.may c 0x0401 .pf [((c.u 24 8), (min (c.u 32 4) 2408))] [(24, 8), (32, 4)] (s.grpState c.group = gsDisabled)) ∧
    (∃ (c : Cmd) (m : PlModel) (s : State), c.group < s.nGroups ∧ s.grpState c.group ≤ 5 ∧ (s.pg c.group).model = some m ∧ c.b 16 = 255 ∧
        (∀ j ∈ m.joints, limitOk (c.u 24 8) j.vmax = true ∧ limitOk (c.u 32 8) j.amax = true ∧ limitOk (c.u 40 8) j.jmax = true) ∧ m.joints ≠ [] ∧
        s.may c 0x0408 .any [] [(16, 1), (24, 8), (32, 8), (40, 8)] True) ∧
    (∃ (kind : Nat) (op : Nat) (i : Instr) (c : Cmd) (m : PlModel) (s : State), ((i = .moveJoint c .pending ∧ kind = 0 ∧
        op = 0x0404) ∨ (i = .movePath c .pending ∧ kind = 1 ∧ op = 0x0405) ∨ (i = .moveTrack c .pending ∧ kind = 2 ∧ op = 0x0406)) ∧
        c.group < s.nGroups ∧ 0 < (c.u 32 4) ∧ (c.u 32 4) ≤ 320 ∧ (c.u 24 8) + (c.u 32 4) ≤ secureBase ∧ s.twin.feed = none ∧
        s.sramReady (c.u 24 8) (c.u 32 4) = true ∧ s.poisoned (c.u 24 8) (c.u 32 4) = none ∧ c.b 16 < 2 ∧ (kind = 2 → c.b 16 = 0) ∧
        (s.pg c.group).model = some m ∧ s.grpState c.group ∈ [1, 2, 3] ∧ (s.pg c.group).queue.length < 16 ∧
        (c.u 32 4) = recLen kind m.joints.length ∧ (kind = 0 → jointRecOk (s.sramRead (c.u 24 8) (c.u 32 4)) m = true) ∧
        (kind = 1 → pathRecOk (s.sramRead (c.u 24 8) (c.u 32 4)) = true ∧ s.pathOk c.group (leAt (s.sramRead (c.u 24 8) (c.u 32 4)) 2 1) = true ∧
        s.unplacedGroup c.group = false) ∧ (kind = 2 → s.trackRecOk (s.sramRead (c.u 24 8) (c.u 32 4)) m = true) ∧ (s.may c op .any [((c.u 24 8),
        (c.u 32 4))] [(16, 1), (24, 8), (32, 4)] (s.plannerLent = false ∧ (kind = 0 ∨ s.mode ≠ mService)))) ∧
    (∃ (c : Cmd) (m : PlModel) (mv : PlMove) (s : State), c.group < s.nGroups ∧ s.grpState c.group ∈ [1, 2, 3] ∧ c.b 16 = 0 ∧ [24, 32,
        40].all (fun o => dEq (c.u o 8) 0 || fractionOk (c.u o 8)) = true ∧ (s.pg c.group).model = some m ∧
        (s.pg c.group).moveOf (c.u 20 4) = some mv ∧ s.may c 0x0407 .any [] [(16, 1), (20, 4), (24, 8), (32, 8), (40, 8), (48, 8)] True) :=
  ⟨⟨{ wCmd [(24, 0), (25, 0x10), (32, 488)] with group := 15 }, wSram wTable State.reset, by decide +kernel, by decide +kernel, by decide +kernel,
      by decide +kernel, by decide +kernel, by decide +kernel, by decide +kernel, by decide +kernel, by decide +kernel, .inr ⟨by decide +kernel,
      by decide +kernel⟩⟩,
    ⟨{ wCmd [(16, 255)] with group := 15 }, wModel, wGroup [(Reg.GRP_STATE 15, F.GRP_STATE_STATE, 5)], by decide +kernel, by decide +kernel,
        by decide +kernel, by decide +kernel, by decide +kernel, by decide +kernel, .inr ⟨by decide +kernel, by decide +kernel⟩⟩,
    ⟨0, 0x0404, .moveJoint ({ wCmd [(24, 0), (25, 0x10), (32, 72)] with group := 15 }) .pending, { wCmd [(24, 0), (25, 0x10), (32, 72)] with group := 15 },
        wModel, wSram wJointRec (wGroup [(Reg.GRP_STATE 15, F.GRP_STATE_STATE, 1)]), .inl ⟨rfl, rfl, rfl⟩, by decide +kernel, by decide +kernel,
        by decide +kernel, by decide +kernel, by decide +kernel, by decide +kernel, by decide +kernel, by decide +kernel, by decide +kernel,
        by decide +kernel, by decide +kernel, by decide +kernel, by decide +kernel, by decide +kernel, by decide +kernel, by decide +kernel,
        .inr ⟨by decide +kernel, by decide +kernel⟩⟩,
    ⟨{ wCmd [] with group := 15 }, wModel, ⟨wCmd [], 0, false, wJointRec, false⟩, let s := wGroup [(Reg.GRP_STATE 15, F.GRP_STATE_STATE,
        1)]; { s with pl := { s.pl with grp := [(15, { (s.pg 15) with queue := [⟨wCmd [], 0, false, wJointRec, false⟩] })] } }, by decide +kernel,
        by decide +kernel, by decide +kernel, by decide +kernel, by decide +kernel, by decide +kernel, .inr ⟨by decide +kernel, by decide +kernel⟩⟩⟩

theorem test_meets_ZoneCommandsMoveTokens :
    (∃ (c : Cmd) (s : State), c.group < s.nGroups ∧ (c.b 16) < 64 ∧ s.grpState c.group ≤ 4 ∧ s.holdsZone c.group (c.b 16) = false ∧
        s.may c 0x040D .any [] [(16, 1)] True) ∧
    (∃ (c : Cmd) (s : State), c.group < s.nGroups ∧ (c.b 16) < 64 ∧ s.grpState c.group ≤ 5 ∧ c.who = .pf ∧ c.b 17 = 1 ∧
        s.zoneOwned (c.b 16) = true ∧ s.zoneOwner (c.b 16) = c.group ∧ s.may c 0x040E .any [] [(16, 1), (17, 1)] True) ∧
    (∃ (c : Cmd) (s : State), (c.b 16) < 64 ∧ c.b 17 < 2 ∧ (s.may c 0x040F .pf [] [(16, 1), (17,
        1)] (if c.b 17 = 1 then s.planesOk (c.b 16) = true ∧ (∀ g ∈ s.groups,
        s.groupEnters g (c.b 16) (s.measNow g) = false) else s.zoneOwned (c.b 16) = false ∧ (s.pz (c.b 16)).reqs = []))) :=
  ⟨⟨{ wCmd [(16, 63)] with group := 15 }, wGroup [(Reg.GRP_STATE 15, F.GRP_STATE_STATE, 4)], by decide +kernel, by decide +kernel,
      by decide +kernel, by decide +kernel, .inr ⟨by decide +kernel, by decide +kernel⟩⟩,
    ⟨{ wCmd [(16, 63), (17, 1)] with group := 15 }, wGroup [(Reg.GRP_STATE 15, F.GRP_STATE_STATE, 5), (Reg.ZONE_CTRL 63, F.ZONE_CTRL_OWNED, 1),
        (Reg.ZONE_CTRL 63, F.ZONE_CTRL_OWNER, 15)], by decide +kernel, by decide +kernel, by decide +kernel, by decide +kernel, by decide +kernel,
        by decide +kernel, by decide +kernel, .inr ⟨by decide +kernel, by decide +kernel⟩⟩,
    ⟨wCmd [(16, 63)], State.reset, by decide +kernel, by decide +kernel, .inr ⟨by decide +kernel, by decide +kernel⟩⟩⟩

theorem test_meets_PlanningInstantsTakeEffect :
    (∃ (failed : List Nat) (s : State), s.armed 0 = true ∧ s.link.cut = false ∧ timePast (s.link.tk + BitVec.ofNat 64 s.cutoffUnits) s.cell = true ∧
        s.role < 2) ∧
    (∃ (st : List (Nat × Nat)) (n : Nat) (d : Bool) (s : State), s.pl.deadlineDue = true ∧ s.armed 1 = true ∧ timePast s.deadlineAt s.cell = true ∧
        s.role < 2) ∧
    (∃ (g : Nat) (s : State), g < s.nGroups ∧ s.regionState 0x30 ≠ 2 ∧ s.grpState g = gsStopping ∧ (s.pg g).dir = 1 ∧ (s.pg g).u = d1 ∧
        s.stopEnd g = seStandstill) :=
  ⟨⟨[7], { wit [(Reg.ACT_STATUS 0, F.ACT_STATUS_ARMED, 1)] with time := { State.reset.time with raw := 0x100000000000 } }, by decide +kernel,
      by decide +kernel, by decide +kernel, by decide +kernel⟩,
    ⟨[], 0, false, { wit [(Reg.ACT_STATUS 1, F.ACT_STATUS_ARMED, 1)] with time := { State.reset.time with raw := 0x100000000000 }, pl := { State.reset.pl with deadlineDue := true } },
        by decide +kernel, by decide +kernel, by decide +kernel, by decide +kernel⟩,
    ⟨15, let s := wGroup [(Reg.GRP_STATE 15, F.GRP_STATE_STATE, gsStopping), (Reg.GRP_STATE 15, F.GRP_STATE_STOP_END,
        seStandstill)]; { s with pl := { s.pl with grp := [(15, { (s.pg 15) with dir := 1, u := d1 })] } }, by decide +kernel, by decide +kernel,
        by decide +kernel, by decide +kernel, by decide +kernel, by decide +kernel⟩⟩

theorem test_meets_OptimiserCommandsTakeEffect :
    (∃ (c : Cmd) (s : State), (c.b 16) < 2 ∧ 0 < (c.u 32 4) ∧ (c.u 24 8) + (c.u 32 4) ≤ secureBase ∧ s.twin.feed = none ∧
        s.sramReady (c.u 24 8) (c.u 32 4) = true ∧ s.poisoned (c.u 24 8) (c.u 32 4) = none ∧
        s.progCheck (s.sramRead (c.u 24 8) (c.u 32 4)) (c.u 32 4) = 0 ∧ s.may c 0x0501 .pf [((c.u 24 8), (c.u 32 4))] [(16, 1), (24, 8), (32,
        4)] (s.opt.commit = none ∧ ¬ (2 ≤ s.mode ∧ (c.b 16) = s.optUsed))) ∧
    (∃ (c : Cmd) (s : State), s.mode < mOperate ∧ s.optUsed < 2 ∧ s.may c 0x0502 .pf [] [] (s.opt.commit = none ∧ s.optStagedOk = true ∧
        s.commitLacks = false)) ∧
    (∃ (c : Cmd) (s : State), mOperate ≤ s.mode ∧ s.may c 0x0502 .pf [] [] (s.opt.commit = none ∧ s.optStagedOk = true ∧ s.commitLacks = false)) ∧
    (∃ (c : Cmd) (s : State), c.group < s.nGroups ∧ 0 < (min (c.u 32 4) 2180) ∧ (c.u 24 8) + (min (c.u 32 4) 2180) ≤ secureBase ∧
        s.twin.feed = none ∧ s.sramReady (c.u 24 8) (min (c.u 32 4) 2180) = true ∧ s.poisoned (c.u 24 8) (min (c.u 32 4) 2180) = none ∧
        dynCheck (s.sramRead (c.u 24 8) (min (c.u 32 4) 2180)) (min (c.u 32 4) 2180) (s.groupAxes c.group).length = 0 ∧
        s.may c 0x0503 .pf [((c.u 24 8), (min (c.u 32 4) 2180))] [(24, 8), (32, 4)] (s.grpState c.group = gsDisabled ∧
        (s.pg c.group).model.isSome = true)) ∧
    (∃ (c : Cmd) (s : State), c.group < s.nGroups ∧ s.grpState c.group ≤ 4 ∧ dNonneg (c.u 16 8) = true ∧ [24, 32,
        40].all (fun o => dFinite (c.u o 8)) = true ∧ [48, 52, 56].all (fun o => dFinite (of32 (BitVec.ofNat 32 (c.u o 4)))) = true ∧
        s.may c 0x0504 .any [] [(16, 8), (24, 8), (32, 8), (40, 8), (48, 12)] (s.hasDyn c.group = true)) ∧
    (∃ (c : Cmd) (x : OptSol) (s : State), c.group < s.nGroups ∧ isSram (c.u 24 8) = false ∧ (s.og c.group).sol = some x ∧
        (s.og c.group).returned = true ∧ x.bytes.length ≤ (c.u 32 4) ∧ s.may c 0x0505 .any [((c.u 24 8), (c.u 32 4))] [(24, 8), (32, 4)] True) :=
  ⟨⟨wCmd [(16, 1), (25, 0x10), (32, 0xDC), (33, 1)], wSram wProgram State.reset, by decide +kernel, by decide +kernel, by decide +kernel,
      by decide +kernel, by decide +kernel, by decide +kernel, by decide +kernel, .inr ⟨by decide +kernel, by decide +kernel⟩⟩,
    ⟨wCmd [], wit [(Reg.DEV_MODE, F.DEV_MODE_MODE, 1), (Reg.OPT_STATUS, F.OPT_STATUS_STAGED_VALID, 1)], by decide +kernel, by decide +kernel,
        .inr ⟨by decide +kernel, by decide +kernel⟩⟩,
    ⟨wCmd [], wit [(Reg.DEV_MODE, F.DEV_MODE_MODE, 2), (Reg.OPT_STATUS, F.OPT_STATUS_STAGED_VALID, 1)], by decide +kernel, .inr ⟨by decide +kernel,
        by decide +kernel⟩⟩,
    ⟨{ wCmd [(25, 0x10), (32, 4), (33, 1)] with group := 15 }, wSram wDynTable (wGroup [(Reg.GRP_STATE 15, F.GRP_STATE_STATE, 0), (Reg.GRP_MODEL 15,
        F.GRP_MODEL_LOADED, 1), (Reg.GRP_MODEL 15, F.GRP_MODEL_N_JOINTS, 1)]), by decide +kernel, by decide +kernel, by decide +kernel,
        by decide +kernel, by decide +kernel, by decide +kernel, by decide +kernel, .inr ⟨by decide +kernel, by decide +kernel⟩⟩,
    ⟨{ wCmd [] with group := 15 }, let s := wGroup [(Reg.GRP_STATE 15, F.GRP_STATE_STATE, 4)]; { s with opt := { s.opt with grp := [(15, { dyn := some (dynOf wDynTable) })] } },
        by decide +kernel, by decide +kernel, by decide +kernel, by decide +kernel, by decide +kernel, .inr ⟨by decide +kernel, by decide +kernel⟩⟩,
    ⟨{ wCmd [(31, 0x80), (35, 1)] with group := 15 }, ⟨0, 0, 0, 0, 0, [], [], [], [], 0⟩, let s := wGroup [(Reg.GRP_STATE 15, F.GRP_STATE_STATE,
        4)]; { s with opt := { s.opt with grp := [(15, { sol := some ⟨0, 0, 0, 0, 0, [], [], [], [], 0⟩, returned := true })] } },
        by decide +kernel, by decide +kernel, by decide +kernel, by decide +kernel, by decide +kernel, .inr ⟨by decide +kernel, by decide +kernel⟩⟩⟩

theorem test_meets_OptimiserEventsTakeEffect :
    (∃ (g : Nat) (m : PlModel) (d : OptDyn) (v : List Nat) (s : State), s.groups.contains g = true ∧ s.gravTurn g = true ∧ (s.pg g).model = some m ∧
        (s.og g).dyn = some d ∧ biasOf m d (s.pg g).measQ (zeros m.joints.length) = some v ∧ v.all dFinite = true) ∧
    (∃ (g : Nat) (sv : OptSolve) (it : OptIter) (ap : Nat) (ad : Nat) (norms : List Nat) (s : State), (s.og g).solve = some sv ∧ sv.status = 0 ∧
        s.solveTurn g sv = true ∧ iterate (bit (tmFlags s.optProg sv.tmpl) 0) (tmOrder s.optProg sv.tmpl) sv.prob sv.it = .ok it ap ad norms) ∧
    (∃ (k : Nat) (cause : Nat) (s : State), s.activeClu.contains k = true ∧ s.opt.faulted.contains k = false ∧ (cause = 1 ∨ cause = 2)) :=
  ⟨⟨15, wModel, dynOf wDynTable, (biasOf wModel (dynOf wDynTable) [0] (zeros 1)).getD [], let s := wGroup [(Reg.GRP_STATE 15, F.GRP_STATE_STATE,
      1)]; { s with pl := { s.pl with grp := [(15, { (s.pg 15) with measQ := [0] })] }, opt := { s.opt with grp := [(15, { dyn := some (dynOf wDynTable), gravDue := true })] } },
      by decide +kernel, by decide +kernel, by decide +kernel, by decide +kernel, by decide +kernel, by decide +kernel⟩,
    ⟨15, wSolve, wIterated.1, wIterated.2.1, wIterated.2.2.1, wIterated.2.2.2, let s := State.reset; { s with opt := { s.opt with grp := [(15, { solve := some wSolve })] } },
        by decide +kernel, by decide +kernel, by decide +kernel, rfl⟩,
    ⟨7, 2, State.reset, by decide +kernel, by decide +kernel, by decide +kernel⟩⟩

theorem test_meets_ServoSwapSetsCommitAndCopy :
    (∃ (c : Cmd) (s : State), (c.b 16) < 32 ∧ s.mode = mConfig ∧ s.role = 0 ∧ s.coefFail (c.b 16) (1 - s.setBank (c.b 16)) = none ∧
        (s.may c 0x0601 .pfWc [] [(16, 1)] (∀ x ∈ s.srv.commits, x.1 ≠ (c.b 16)))) ∧
    (∃ (c : Cmd) (s : State), (c.b 16) < 32 ∧ mOperate ≤ s.mode ∧ s.coefFail (c.b 16) (1 - s.setBank (c.b 16)) = none ∧
        (s.may c 0x0601 .pfWc [] [(16, 1)] (∀ x ∈ s.srv.commits, x.1 ≠ (c.b 16)))) ∧
    (∃ (c : Cmd) (s : State), (c.b 16) < 32 ∧ (s.may c 0x0602 .pfWc [] [(16, 1)] (∀ x ∈ s.srv.commits, x.1 ≠ (c.b 16)))) :=
  ⟨⟨wCmd [(16, 31)], wit [(Reg.DEV_MODE, F.DEV_MODE_MODE, 1)], by decide +kernel, by decide +kernel, by decide +kernel, by decide +kernel,
      .inr ⟨by decide +kernel, by decide +kernel⟩⟩,
    ⟨wCmd [(16, 31)], wit [(Reg.DEV_MODE, F.DEV_MODE_MODE, 2)], by decide +kernel, by decide +kernel, by decide +kernel, .inr ⟨by decide +kernel,
        by decide +kernel⟩⟩,
    ⟨wCmd [(16, 31)], State.reset, by decide +kernel, .inr ⟨by decide +kernel, by decide +kernel⟩⟩⟩

theorem test_meets_ServoEventsTakeEffect :
    (∃ (s : State), s.srv.busy = true ∧ s.role = 0 ∧ s.twinOn = false) ∧
    (∃ (s : State), s.srv.busy = true ∧ timePast (s.link.tk + BitVec.ofNat 64 (s.bankUs s.bankUsed * 16000) - 6400) s.cell = true) ∧
    (∃ (g : Nat) (s : State), g < s.nGroups ∧ s.phase g = phEnabling ∧
        timePast ((s.srvGrp g).entered + BitVec.ofNat 64 (s.fld Reg.SRV_CTRL F.SRV_CTRL_EN_TIMEOUT * 16000000)) s.cell = true) ∧
    (∃ (g : Nat) (s : State), g < s.nGroups ∧ s.phase g = phBraking ∧ s.brakeCycles g ≤ (s.srvGrp g).age + 1) ∧
    (∃ (e : Nat) (d : Nat) (x : Ent) (s : State), s.ent s.bankUsed e = some x ∧ s.scheduled = true ∧
        e < s.fld (Reg.SB_COUNT s.bankUsed) F.SB_COUNT_N_ENTRIES ∧ x.fromDevice = true ∧ x.kind = kData ∧ x.active s.link.cycle = true ∧ (e,
        2) ∉ s.link.got ∧ s.heldOut = false ∧ s.twinOn = false ∧ s.twin.out ≠ 3 ∧ d < 20 ∧ x.onCh 0 = true ∧ bit x.dest d = true ∧
        (s.lp 0 d).sending = true ∧ s.portOpen 0 d = true ∧ s.link.letAt = []) :=
  ⟨⟨{ State.reset with srv := { State.reset.srv with busy := true } }, by decide +kernel, by decide +kernel, by decide +kernel⟩,
    ⟨{ State.reset with srv := { State.reset.srv with busy := true }, time := { State.reset.time with raw := 0x100000000000 } }, by decide +kernel,
        by decide +kernel⟩,
    ⟨15, { wit [(Reg.SRV_GRP_STATUS 15, F.SRV_GRP_STATUS_PHASE, phEnabling)] with time := { State.reset.time with raw := 0x100000000000 } },
        by decide +kernel, by decide +kernel, by decide +kernel⟩,
    ⟨15, { wit [(Reg.SRV_GRP_STATUS 15, F.SRV_GRP_STATUS_PHASE, phBraking)] with srv := { State.reset.srv with grp := [(15, { age := 1000000000 })] } },
        by decide +kernel, by decide +kernel, by decide +kernel⟩,
    ⟨0, 19, wEnt (wLink lRunning 0 kData 0 (2 ^ 20) 1 (2 ^ 19) [(Reg.PORT_STATUS 0 19, F.PORT_STATUS_STATE, pMember)]),
        withLk (wLink lRunning 0 kData 0 (2 ^ 20) 1 (2 ^ 19) [(Reg.PORT_STATUS 0 19, F.PORT_STATUS_STATE,
        pMember)]) fun z => { z with ports := [(19, { sending := true })] }, by decide +kernel, by decide +kernel, by decide +kernel,
        by decide +kernel, by decide +kernel, by decide +kernel, by decide +kernel, by decide +kernel, by decide +kernel, by decide +kernel,
        by decide +kernel, by decide +kernel, by decide +kernel, by decide +kernel, by decide +kernel, by decide +kernel⟩⟩

theorem test_meets_SeparationCommandsTakeEffect :
    (∃ (c : Cmd) (s : State), s.sepCheck = 0 ∧ s.may c 0x0701 .pf [] [] (s.mode ≠ mBoot ∧ s.sepState = 0 ∧ s.sep.change = none)) ∧
    (∃ (c : Cmd) (s : State), (s.may c 0x0702 .pf [] [] (s.sepState = 1 ∨ s.sepState = 2))) ∧
    (∃ (c : Cmd) (s : State), c.group < s.nGroups ∧ (∀ i, i < 16 → bit (c.u 16 2) i = true → s.capValid (16 * c.group + i) = true) ∧
        s.may c 0x0703 .any [] [(16, 2)] ((s.pg c.group).model.isSome = true)) ∧
    (∃ (c : Cmd) (s : State), c.b 16 + c.u 20 2 ≤ s.gridN 0 ∧ c.b 17 + c.u 22 2 ≤ s.gridN 1 ∧ c.b 18 + c.u 24 2 ≤ s.gridN 2 ∧
        c.u 20 2 * c.u 22 2 * c.u 24 2 ≤ 16384 ∧ (2 * c.u 20 2 * c.u 22 2 * c.u 24 2) ≤ c.u 40 4 ∧
        c.u 32 8 + (2 * c.u 20 2 * c.u 22 2 * c.u 24 2) ≤ secureBase ∧ s.may c 0x0704 .pf [(c.u 32 8, (2 * c.u 20 2 * c.u 22 2 * c.u 24 2))] [(16,
        1), (17, 1), (18, 1), (20, 2), (22, 2), (24, 2), (32, 8), (40, 4)] (s.sepState = 2)) ∧
    (∃ (m : Nat) (s : State), (s.sepState = 1 ∨ s.sepState = 2) ∧ m < 3 ∧ s.sep.change ≠ some 4) ∧
    (∃ (ch : Nat) (p : Nat) (k : Nat) (q : LkCur) (x : Ent) (f : RawFrame) (s : State), ch < 2 ∧ p < 20 ∧ (s.lp ch p).cur = some q ∧
        q.answer = false ∧ q.arb = false ∧ f.kind = kStream ∧ s.scheduled = true ∧ s.ent s.bankUsed q.ent = some x ∧ f.valid = true ∧
        bit x.dest 20 = true ∧ s.role < 2 ∧ (∀ y ∈ s.link.copies, ¬ (y.src = f.src ∧ y.slot = f.slot)) ∧ leAt f.payload 0 2 = k ∧ k < 64 ∧
        s.flag (Reg.ACQ_STR_CFG k) F.ACQ_STR_CFG_ENABLE = false) :=
  ⟨⟨wCmd [], wit [(Reg.DEV_MODE, F.DEV_MODE_MODE, 1), (Reg.PLAN_CTRL, F.PLAN_CTRL_TICK_LEN_USED, 10), (Reg.SB_CYCLE 0, F.SB_CYCLE_PERIOD_US, 250)],
      by decide +kernel, .inr ⟨by decide +kernel, by decide +kernel⟩⟩,
    ⟨wCmd [], wit [(Reg.SEP_STATUS, F.SEP_STATUS_STATE, 2)], .inr ⟨by decide +kernel, by decide +kernel⟩⟩,
    ⟨{ wCmd [] with group := 15 }, wGroup [(Reg.GRP_STATE 15, F.GRP_STATE_STATE, 1)], by decide +kernel, by decide +kernel, .inr ⟨by decide +kernel,
        by decide +kernel⟩⟩,
    ⟨wCmd [(20, 1), (22, 1), (24, 1), (33, 0x20), (40, 2)], wit [(Reg.SEP_STATUS, F.SEP_STATUS_STATE, 2)], by decide +kernel, by decide +kernel,
        by decide +kernel, by decide +kernel, by decide +kernel, by decide +kernel, .inr ⟨by decide +kernel, by decide +kernel⟩⟩,
    ⟨2, wit [(Reg.SEP_STATUS, F.SEP_STATUS_STATE, 2)], by decide +kernel, by decide +kernel, by decide +kernel⟩,
    ⟨1, 19, 63, ⟨0, 0, false, false, false⟩, wEnt (wLink lRunning 1 kStream 240 (2 ^ 19) 2 (2 ^ 20) [(Reg.PORT_STATUS 1 19, F.PORT_STATUS_STATE,
        pMember), (Reg.NODE_STATUS 240, F.NODE_STATUS_MEMB_B, 3)]), wFrame 1 kStream 240 5 0 0 (leBytes 16 63),
        withLk (wLink lRunning 1 kStream 240 (2 ^ 19) 2 (2 ^ 20) [(Reg.PORT_STATUS 1 19, F.PORT_STATUS_STATE, pMember), (Reg.NODE_STATUS 240,
        F.NODE_STATUS_MEMB_B, 3)]) fun z => { z with ports := [(1 * 256 + 19, { cur := some ⟨0, 0, false, false, false⟩ })] }, by decide +kernel,
        by decide +kernel, by decide +kernel, by decide +kernel, by decide +kernel, by decide +kernel, by decide +kernel, by decide +kernel,
        by decide +kernel, by decide +kernel, by decide +kernel, by decide +kernel, by decide +kernel, by decide +kernel, by decide +kernel⟩⟩

theorem test_meets_DieTakesConfigurationCommands_1 :
    (∃ (c : Cmd) (s : State), s.sf.port = [] ∧ s.sf.started = true ∧ 8 ≤ c.b 18 ∧ c.b 18 ≤ 32 ∧ s.sf.session = none ∧ s.sf.blocked = false ∧
        s.sf.hash = some (sha256 (s.sf.salt ++ leBytes (c.b 18) (c.u 24 32))) ∧ s.may c 0x0801 .pf [] [(16, 2), (18, 1), (24, 32)] True) ∧
    (∃ (c : Cmd) (s : State), s.sf.port = [] ∧ s.sf.started = true ∧ s.sf.session.isSome = true ∧ s.may c 0x0802 .pf [] [] True) ∧
    (∃ (c : Cmd) (s : State), s.sf.port = [] ∧ s.sf.started = true ∧ 8 ≤ c.b 18 ∧ c.b 18 ≤ 32 ∧ (s.sf.session.isSome = true ∨ s.sf.hash = none) ∧
        s.may c 0x0803 .pf [] [(18, 1), (24, 32)] True) ∧
    (∃ (c : Cmd) (s : State), s.sf.port = [] ∧ s.sf.started = true ∧ s.sf.session.isSome = true ∧ (c.b 16) < 16 ∧
        ((s.sfZone (c.b 16)).st = 1 ∨ (s.sfZone (c.b 16)).st = 2 ∧ (s.sfZone (c.b 16)).lock ≠ 5 ∧ (s.sfZone (c.b 16)).lock ≠ 6) ∧ (∀ i,
        i < 24 → bit (zOut (s.sfRec 0 (c.b 16))) i = true → s.outOff i = true) ∧ s.may c 0x0804 .pf [] [(16, 1)] (s.mode ≠ mBoot ∧
        s.zoneBusy (c.b 16) = none)) ∧
    (∃ (c : Cmd) (s : State), s.sf.port = [] ∧ s.sf.started = true ∧ s.sf.session.isSome = true ∧ (c.b 16) < 16 ∧ (s.sfZone (c.b 16)).st = 3 ∧
        (∀ k i,
        k < 16 → i < 24 → k ≠ (c.b 16) → zEn (s.sfRec 0 k) = true → (s.sfZone k).st ≠ 3 → bit (zOut (s.sfRec 0 k)) i = true → bit (zOut (s.sfStg 0 (c.b 16))) i = false ∧
        bit (zOut (recAt c 16)) i = false) ∧ s.may c 0x0805 .pf [] [(16, 1), (24, 16)] True) ∧
    (∃ (kind : Nat) (op : Nat) (n : Nat) (zs : List Nat) (i : Instr) (c : Cmd) (s : State), ((i = .sfPairWrite c ∧ kind = 1 ∧ op = 0x0806 ∧ n = 8 ∧
        (c.b 17) < 32 ∧ zs = s.pairZones (c.b 17)) ∨ (i = .sfBrkWrite c ∧ kind = 2 ∧ op = 0x0807 ∧ n = 8 ∧ (c.b 17) < 8 ∧
        zs = s.brakeZones (c.b 17) ∧ zs ≠ []) ∨ (i = .sfTpWrite c ∧ kind = 3 ∧ op = 0x0808 ∧ n = 4 ∧ (c.b 17) < 16 ∧ zs = s.srcZones (c.b 17))) ∧
        s.sf.port = [] ∧ s.sf.started = true ∧ s.sf.session.isSome = true ∧ c.b 16 < 16 ∧ (∀ z ∈ zs, (s.sfZone z).st = 3) ∧ s.may c op .pf [] [(16,
        1), (17, 1), (24, n)] True) ∧
    (∃ (c : Cmd) (s : State), s.sf.port = [] ∧ s.sf.started = true ∧ s.sf.session.isSome = true ∧ (c.b 16) < 16 ∧ (s.sfZone (c.b 16)).st = 3 ∧
        s.commitCheck (c.b 16) = 0 ∧ (∀ i,
        i < 24 → bit (zOut (s.sfRec 0 (c.b 16))) i = true ∨ bit (zOut (s.sfStg 0 (c.b 16))) i = true → s.outOff i = true) ∧
        s.may c 0x0809 .pf [] [(16, 1)] True) ∧
    (∃ (c : Cmd) (s : State), s.sf.port = [] ∧ s.sf.started = true ∧ s.sf.session.isSome = true ∧ (c.b 16) < 16 ∧ (s.sfZone (c.b 16)).st = 3 ∧
        s.may c 0x080A .pf [] [(16, 1)] True) :=
  ⟨⟨wCmd [(18, 8)], wDie fun z => { z with hash := some (sha256 (leBytes 8 0)) }, by decide +kernel, by decide +kernel, by decide +kernel,
      by decide +kernel, by decide +kernel, by decide +kernel, by decide +kernel, .inr ⟨by decide +kernel, by decide +kernel⟩⟩,
    ⟨wCmd [], wDie fun z => { z with session := some 5 }, by decide +kernel, by decide +kernel, by decide +kernel, .inr ⟨by decide +kernel,
        by decide +kernel⟩⟩,
    ⟨wCmd [(18, 8)], wDie fun z => { z with session := some 5 }, by decide +kernel, by decide +kernel, by decide +kernel, by decide +kernel,
        by decide +kernel, .inr ⟨by decide +kernel, by decide +kernel⟩⟩,
    ⟨wCmd [(16, 15)], { (wDie fun z => { z with session := some 5 }) with regs := (wit [(Reg.DEV_MODE, F.DEV_MODE_MODE, 1)]).regs },
        by decide +kernel, by decide +kernel, by decide +kernel, by decide +kernel, by decide +kernel, by decide +kernel, .inr ⟨by decide +kernel,
        by decide +kernel⟩⟩,
    ⟨wCmd [(16, 15)], wDie fun z => { z with session := some 5, zones := [(15, { st := 3 })] }, by decide +kernel, by decide +kernel,
        by decide +kernel, by decide +kernel, by decide +kernel, fun k i hk _ _ h _ _ => absurd h ((by decide +kernel : ∀ k,
        k < 16 → ¬ (zEn ((wDie fun z => { z with session := some 5, zones := [(15, { st := 3 })] } : State).sfRec 0 k) = true)) k hk),
        .inr ⟨by decide +kernel, by decide +kernel⟩⟩,
    ⟨2, 0x0807, 8, [15], .sfBrkWrite (wCmd [(16, 15), (17, 7)]), wCmd [(16, 15), (17, 7)], wDie fun z => { z with session := some 5, zones := [(15, { st := 3 })], recs := [(sfKey 0 15, wZone 0 (2 ^ 23) 0x80 0)] },
        .inr (.inl ⟨rfl, rfl, rfl, rfl, by decide +kernel, by decide +kernel, by decide +kernel⟩), by decide +kernel, by decide +kernel,
        by decide +kernel, by decide +kernel, by decide +kernel, .inr ⟨by decide +kernel, by decide +kernel⟩⟩,
    ⟨wCmd [(16, 15)], wDie fun z => { z with session := some 5, zones := [(15, { st := 3 })], recs := [(sfKey 0 15, wZone 0 (2 ^ 15) 0 0)] },
        by decide +kernel, by decide +kernel, by decide +kernel, by decide +kernel, by decide +kernel, by decide +kernel, by decide +kernel,
        .inr ⟨by decide +kernel, by decide +kernel⟩⟩,
    ⟨wCmd [(16, 15)], wDie fun z => { z with session := some 5, zones := [(15, { st := 3 })] }, by decide +kernel, by decide +kernel,
        by decide +kernel, by decide +kernel, by decide +kernel, .inr ⟨by decide +kernel, by decide +kernel⟩⟩⟩

theorem test_meets_DieTakesConfigurationCommands_2 :
    (∃ (c : Cmd) (s : State), s.sf.port = [] ∧ s.sf.started = true ∧ s.scanPairs = s ∧ s.scanCouples = s ∧ (∀ z,
        z < 16 → bit (c.u 16 2) z = true → (s.sfZone z).st = 1 ∧ s.armFail z = 0) ∧ s.may c 0x080B .pf [] [(16, 2)] True) ∧
    (∃ (c : Cmd) (s : State), s.sf.port = [] ∧ s.sf.started = true ∧ s.sf.session.isSome = true ∧ (c.b 16) < 16 ∧ (s.sfZone (c.b 16)).st = 2 ∧
        zEn (s.sfRec 0 (c.b 16)) = true ∧ (s.sfZone (c.b 16)).lock ≠ 5 ∧ (s.sfZone (c.b 16)).lock ≠ 6 ∧ s.may c 0x080C .pf [] [(16, 1)] True) ∧
    (∃ (c : Cmd) (e : List Byte) (s : State), s.sf.port = [] ∧ s.sf.started = true ∧ c.b 16 < 64 ∧ s.sf.log[c.b 16]? = some e ∧
        sramFits (c.u 24 8) 32 = true ∧ s.may c 0x080D .pf [((c.u 24 8), 32)] [(16, 1), (24, 8)] True) ∧
    (∃ (c : Cmd) (s : State), s.sf.port = [] ∧ s.sf.started = true ∧ (c.b 16) < 4 ∧ (c.b 17) < sfCount (c.b 16) ∧ c.b 18 = 0 ∧
        sramFits (c.u 24 8) (sfSize (c.b 16)) = true ∧ s.may c 0x080E .pf [((c.u 24 8), sfSize (c.b 16))] [(16, 1), (17, 1), (18, 1), (24,
        8)] True) :=
  ⟨⟨wCmd [(17, 0x80)], wDie fun z => { z with seen := 0 }, by decide +kernel, by decide +kernel, by decide +kernel, by decide +kernel,
      by decide +kernel, .inr ⟨by decide +kernel, by decide +kernel⟩⟩,
    ⟨wCmd [(16, 15)], wDie fun z => { z with session := some 5, zones := [(15, { st := 2, lock := 2 })], recs := [(sfKey 0 15, wZone 0 (2 ^ 23) 0x80 0)] },
        by decide +kernel, by decide +kernel, by decide +kernel, by decide +kernel, by decide +kernel, by decide +kernel, by decide +kernel,
        by decide +kernel, .inr ⟨by decide +kernel, by decide +kernel⟩⟩,
    ⟨wCmd [(16, 63)], [5], wDie fun z => { z with log := List.replicate 64 [5] }, by decide +kernel, by decide +kernel, by decide +kernel,
        by decide +kernel, by decide +kernel, .inr ⟨by decide +kernel, by decide +kernel⟩⟩,
    ⟨wCmd [(16, 3), (17, 15)], wDie id, by decide +kernel, by decide +kernel, by decide +kernel, by decide +kernel, by decide +kernel,
        by decide +kernel, .inr ⟨by decide +kernel, by decide +kernel⟩⟩⟩

theorem test_meets_DieAnswersEndTheirCommand :
    (∃ (c : Cmd) (m : SfMsg) (st : Nat) (blk : Nat) (s : State), s.sf.port = [m] ∧ m.cmd = some c ∧ m.commit = false ∧ st ≠ stReject ∧
        m.ans = some { status := st, blk := blk }) ∧
    (∃ (c : Cmd) (m : SfMsg) (s : State), s.sf.port = [m] ∧ m.cmd = some c ∧ m.commit = true ∧ (c.b 16) < 16) ∧
    (∃ (c : Cmd) (m : SfMsg) (s : State), s.sf.port = [m] ∧ m.cmd = some c ∧ m.commit = true) ∧
    (∃ (c : Cmd) (m : SfMsg) (s : State), s.sf.port = [m] ∧ m.cmd = some c ∧ m.sent + 8000000000 ≤ s.u) :=
  ⟨⟨wCmd [(16, 15)], ⟨some (wCmd [(16, 15)]), 0, 0, false, some { status := 5, blk := 2 }⟩, 5, 2, wDie fun z => { z with port := [⟨some (wCmd [(16, 15)]), 0, 0, false, some { status := 5, blk := 2 }⟩] },
      by decide +kernel, by decide +kernel, by decide +kernel, by decide +kernel, by decide +kernel⟩,
    ⟨wCmd [(16, 15)], ⟨some (wCmd [(16, 15)]), 0, 0, true, none⟩, wDie fun z => { z with port := [⟨some (wCmd [(16, 15)]), 0, 0, true, none⟩] },
        by decide +kernel, by decide +kernel, by decide +kernel, by decide +kernel⟩,
    ⟨wCmd [(16, 15)], ⟨some (wCmd [(16, 15)]), 0, 0, true, none⟩, wDie fun z => { z with port := [⟨some (wCmd [(16, 15)]), 0, 0, true, none⟩] },
        by decide +kernel, by decide +kernel, by decide +kernel⟩,
    ⟨wCmd [(16, 15)], ⟨some (wCmd [(16, 15)]), 0, 0, true, none⟩, { (wDie fun z => { z with port := [⟨some (wCmd [(16, 15)]), 0, 0, true, none⟩] }) with time := { State.reset.time with raw := 0x100000000000 } },
        by decide +kernel, by decide +kernel, by decide +kernel⟩⟩

theorem test_meets_InputsStopZones :
    (∃ (p : Nat) (ch : Nat) (high : Bool) (s : State), s.dieRuns = true ∧ p < 32 ∧ ch < 2 ∧ s.chHeld p ch = false ∧ pKind (s.sfRec 1 p) ≠ 0) ∧
    (∃ (p : Nat) (s : State), s.dieRuns = true ∧ p < 32 ∧ pKind (s.sfRec 1 p) ≠ 0 ∧ ((s.sfPair p).st = 1 ∨ (s.sfPair p).st = 3) ∧
        (s.chOn p 0 = true ∨ s.chOn p 1 = true)) ∧
    (∃ (m : Nat) (s : State), s.dieRuns = true ∧ m < 16 ∧ (s.sfCouple m).st = 1 ∧ s.isCouple m = true ∧ s.scanPairs = s ∧
        ((s.sfPair (2 * m)).st = 2 ∨ (s.sfPair (2 * m + 1)).st = 2)) ∧
    (∃ (k : Nat) (s : State), s.dieRuns = true ∧ k < 16 ∧ bit (leAt (s.sfRec 3 k) 3 1) 0 = true ∧ s.sf.tpLow = none) ∧
    (∃ (p : Nat) (ch : Nat) (k : Nat) (s : State), s.dieRuns = true ∧ p < 32 ∧ ch < 2 ∧ pKind (s.sfRec 1 p) ≠ 0 ∧ s.sf.tpLow = some k ∧
        pSrc (s.sfRec 1 p) ch = some k ∧ (s.sfPair p).st < 4 ∧ (s.chOn p 0 = true ∨ s.chOn p 1 = true)) ∧
    (∃ (k : Nat) (s : State), s.sf.tpLow = some k) ∧
    (∃ (z : Nat) (s : State), s.dieRuns = true ∧ z < 16 ∧ (s.sfZone z).delay = true ∧ (s.sfZone z).st = 1 ∧ zAuto (s.sfRec 0 z) = false) ∧
    (∃ (l : Nat) (s : State), s.dieRuns = true ∧ (l < 24 ∨ l = 31)) :=
  ⟨⟨31, 1, true, wDie fun z => { z with recs := [(sfKey 1 31, leBytes 8 1)], pairs := [(31, { f1 := true, f2 := true, st := 2 })] },
      by decide +kernel, by decide +kernel, by decide +kernel, by decide +kernel, by decide +kernel⟩,
    ⟨31, wDie fun z => { z with recs := [(sfKey 1 31, leBytes 8 1)], pairs := [(31, { f1 := true, st := 1 })] }, by decide +kernel,
        by decide +kernel, by decide +kernel, by decide +kernel, by decide +kernel⟩,
    ⟨15, wDie fun z => { z with recs := [(sfKey 1 30, leBytes 8 3), (sfKey 1 31, leBytes 8 3)], pairs := [(30, { f1 := true, f2 := true, st := 2, offSeen := false })], couples := [(15, { st := 1 })] },
        by decide +kernel, by decide +kernel, by decide +kernel, by decide +kernel, by decide +kernel, by decide +kernel⟩,
    ⟨15, wDie fun z => { z with recs := [(sfKey 3 15, leBytes 4 (2 ^ 24))] }, by decide +kernel, by decide +kernel, by decide +kernel,
        by decide +kernel⟩,
    ⟨31, 1, 15, wDie fun z => { z with recs := [(sfKey 1 31, leBytes 8 (1 + 0x8F * 2 ^ 56))], pairs := [(31, { f1 := true, st := 1 })], tpLow := some 15 },
        by decide +kernel, by decide +kernel, by decide +kernel, by decide +kernel, by decide +kernel, by decide +kernel, by decide +kernel,
        by decide +kernel⟩,
    ⟨15, wDie fun z => { z with tpLow := some 15 }, by decide +kernel⟩,
    ⟨15, wDie fun z => { z with zones := [(15, { delay := true, st := 1 })] }, by decide +kernel, by decide +kernel, by decide +kernel,
        by decide +kernel, by decide +kernel⟩,
    ⟨31, wDie fun z => { z with seen := 0 }, by decide +kernel, by decide +kernel⟩⟩

theorem test_meets_OutputsAreTested :
    (∃ (i : Nat) (s : State), s.dieRuns = true ∧ i < 24 ∧ 1 ≤ (s.sfOut i).step ∧ (s.sfOut i).step ≤ 3 ∧ (s.sfOut i).unlock = false ∧
        s.sf.unlock = none) ∧
    (∃ (x : Bool) (y : Bool) (i : Nat) (z : Nat) (lock : Nat) (e : Instr) (s : State), ((e = .closingTestStep i x y ∧ 1 ≤ (s.sfOut i).step ∧
        (s.sfOut i).step ≤ 3 ∧ s.sf.unlock = none ∧ rbOf (s.sfOut i).sw ≠ (x, y) ∧ lock = 4) ∨ (e = .onTestEnd i x y ∧ i < 16 ∧
        ((s.sfOut i).onTest = 1 ∧ x = true ∨ (s.sfOut i).onTest = 2 ∧ y = false) ∧ lock = 2) ∨ (e = .readbackFault i x y ∧
        ((s.sfOut i).step = 0 ∨ (s.sfOut i).step = 4) ∧ (s.sfOut i).onTest = 0 ∧ rbOf (s.sfOut i).sw ≠ (x, y) ∧ lock = (if i < 16 then 2 else 3))) ∧
        s.dieRuns = true ∧ i < 24 ∧ (s.sfOut i).unlock = false ∧ (s.sfOut i).fault = false ∧ s.outZone i = some z ∧ (s.sfZone z).st ≤ 1) ∧
    (∃ (c : Nat) (ma : Nat) (z : Nat) (s : State), s.dieRuns = true ∧ c < 8 ∧ (((s.sfOut (16 + c)).step = 4 ∧
        (ma < leAt (s.sfRec 2 c) 0 2 ∨ leAt (s.sfRec 2 c) 2 2 < ma)) ∨ ((s.sfOut (16 + c)).step = 0 ∧ leAt (s.sfRec 2 c) 4 2 < ma)) ∧
        (s.sfOut (16 + c)).unlock = false ∧ (s.sfOut (16 + c)).fault = false ∧ s.outZone (16 + c) = some z ∧ (s.sfZone z).st ≤ 1) ∧
    (∃ (g : Nat) (z : Nat) (s : State), s.dieRuns = true ∧ g < 16 ∧ s.outZone g = some z ∧ (s.sfOut g).step = 4 ∧ (s.sfOut g).onTest = 0 ∧
        leAt (s.sfRec 0 z) 10 2 ≠ 0) ∧
    (∃ (g : Nat) (x : Bool) (y : Bool) (s : State), s.dieRuns = true ∧ g < 16 ∧ (((s.sfOut g).onTest = 1 ∧ x = false) ∨ ((s.sfOut g).onTest = 2 ∧
        y = true))) ∧
    (∃ (k : Nat) (s : State), s.dieRuns = true ∧ 1 ≤ k ∧ k ≤ 5) :=
  ⟨⟨23, wDie fun z => { z with outs := [(23, { step := 3 })] }, by decide +kernel, by decide +kernel, by decide +kernel, by decide +kernel,
      by decide +kernel, by decide +kernel⟩,
    ⟨true, true, 23, 15, 3, .readbackFault 23 true true, wDie fun z => { z with recs := [(sfKey 0 15, wZone 0 (2 ^ 23) 0x80 0)] }, .inr (.inr ⟨rfl,
        by decide +kernel, by decide +kernel, by decide +kernel, by decide +kernel⟩), by decide +kernel, by decide +kernel, by decide +kernel,
        by decide +kernel, by decide +kernel, by decide +kernel⟩,
    ⟨7, 5, 15, wDie fun z => { z with recs := [(sfKey 0 15, wZone 0 (2 ^ 23) 0x80 0)] }, by decide +kernel, by decide +kernel, by decide +kernel,
        by decide +kernel, by decide +kernel, by decide +kernel, by decide +kernel⟩,
    ⟨15, 15, wDie fun z => { z with recs := [(sfKey 0 15, wZone 0 (2 ^ 15) 0x80 60)], outs := [(15, { step := 4 })] }, by decide +kernel,
        by decide +kernel, by decide +kernel, by decide +kernel, by decide +kernel, by decide +kernel⟩,
    ⟨15, false, true, wDie fun z => { z with outs := [(15, { step := 4, onTest := 1 })] }, by decide +kernel, by decide +kernel, by decide +kernel⟩,
    ⟨5, wDie id, by decide +kernel, by decide +kernel, by decide +kernel⟩⟩

theorem test_meets_WindowShowsTheDie :
    (∃ (rb : Readback) (s : State), s.sf.started = true) ∧
    (∃ (rb : Readback) (s : State), s.sf.started = true) ∧
    (∃ (s : State), s.sf.lost = false ∧ s.sf.lastFrame + 480000 ≤ s.u ∧ s.mode = mOperate ∧ bit s.defects dfSafety = false) :=
  ⟨⟨⟨0, 0, []⟩, wDie id, by decide +kernel⟩,
    ⟨⟨0, 0, []⟩, wDie id, by decide +kernel⟩,
    ⟨{ wit [(Reg.DEV_MODE, F.DEV_MODE_MODE, 2)] with time := { State.reset.time with raw := 0x100000000000 } }, by decide +kernel,
        by decide +kernel, by decide +kernel, by decide +kernel⟩⟩

theorem test_meets_EdgesCountAndFire :
    (∃ (ch : Nat) (neg : Bool) (i : Instr) (s : State), ((∃ ab, i = .quadTransition ch ab ∧ s.laInput ch = 1 ∧
        (quadPlace (ab % 4) + 4 - quadPlace (s.laD ch % 2 * 2 + s.laD ch / 2 % 2)) % 4 = (if neg then 3 else 1)) ∨ (i = .stepDirEdge ch neg ∧
        s.laInput ch = 2) ∨ (i = .upDownEdge ch (!neg) neg ∧ s.laInput ch = 3) ∨ (∃ code p q, i = .hallCodeChange ch code ∧ s.laInput ch = 4 ∧
        hallPlace code = some p ∧ hallPlace (s.laCh ch).hall = some q ∧ (p + 6 - q) % 6 = (if neg then 5 else 1)) ∨ (i = .stepEmit ch ∧
        s.laInput ch = 5 ∧ s.laMode ch = 1 ∧ s.laMismatch ch = false ∧ (s.reg64 (Reg.LA_CH_VWORD ch)).toInt ≠ 0 ∧
        neg = decide ((s.reg64 (Reg.LA_CH_VWORD ch)).toInt < 0))) ∧ ch < 32 ∧ s.laRun ch = true ∧ (s.laCount ch) < (s.laW ch)) ∧
    (∃ (ch : Nat) (ab : Nat) (s : State), ch < 32 ∧ s.laRun ch = true ∧ s.laInput ch = 1 ∧
        (quadPlace (ab % 4) + 4 - quadPlace (s.laD ch % 2 * 2 + s.laD ch / 2 % 2)) % 4 = 2) ∧
    (∃ (ch : Nat) (code : Nat) (s : State), ch < 32 ∧ s.laRun ch = true ∧ s.laInput ch = 4 ∧ hallPlace code = none) ∧
    (∃ (ch : Nat) (neg : Bool) (s : State), ch < 32 ∧ s.laRun ch = true ∧ s.laMode ch = 1 ∧ s.laInput ch ≠ 5 ∧ s.laMismatch ch = false ∧
        (s.reg64 (Reg.LA_CH_VWORD ch)).toInt ≠ 0 ∧ neg = decide ((s.reg64 (Reg.LA_CH_VWORD ch)).toInt < 0) ∧ s.outHeld = false) ∧
    (∃ (ch : Nat) (neg : Bool) (s : State), ch < 32 ∧ s.laRun ch = true ∧ s.laMode ch = 2 ∧ s.laInput ch ≠ 5 ∧ s.laMismatch ch = false ∧
        (s.reg64 (Reg.LA_CH_VWORD ch)).toInt ≠ 0 ∧ neg = decide ((s.reg64 (Reg.LA_CH_VWORD ch)).toInt < 0)) :=
  ⟨⟨31, true, .stepDirEdge 31 true, wit [(Reg.LA_CH_CFG 31, F.LA_CH_CFG_RUN, 1), (Reg.LA_CH_CFG 31, F.LA_CH_CFG_INPUT, 2)], .inr (.inl ⟨rfl,
      by decide +kernel⟩), by decide +kernel, by decide +kernel, by decide +kernel⟩,
    ⟨31, 3, wit [(Reg.LA_CH_CFG 31, F.LA_CH_CFG_RUN, 1), (Reg.LA_CH_CFG 31, F.LA_CH_CFG_INPUT, 1)], by decide +kernel, by decide +kernel,
        by decide +kernel, by decide +kernel⟩,
    ⟨31, 7, wit [(Reg.LA_CH_CFG 31, F.LA_CH_CFG_RUN, 1), (Reg.LA_CH_CFG 31, F.LA_CH_CFG_INPUT, 4)], by decide +kernel, by decide +kernel,
        by decide +kernel, by decide +kernel⟩,
    ⟨15, false, wit [(Reg.LA_CH_CFG 15, F.LA_CH_CFG_RUN, 1), (Reg.LA_CH_CFG 15, F.LA_CH_CFG_INPUT, 0), (Reg.LA_CH_OUT 15, F.LA_CH_OUT_MODE, 1),
        (Reg.LA_CH_VWORD 15, ⟨0, 32⟩, 5)], by decide +kernel, by decide +kernel, by decide +kernel, by decide +kernel, by decide +kernel,
        by decide +kernel, by decide +kernel, by decide +kernel⟩,
    ⟨15, false, wit [(Reg.LA_CH_CFG 15, F.LA_CH_CFG_RUN, 1), (Reg.LA_CH_CFG 15, F.LA_CH_CFG_INPUT, 0), (Reg.LA_CH_OUT 15, F.LA_CH_OUT_MODE, 2),
        (Reg.LA_CH_VWORD 15, ⟨0, 32⟩, 5)], by decide +kernel, by decide +kernel, by decide +kernel, by decide +kernel, by decide +kernel,
        by decide +kernel, by decide +kernel⟩⟩

theorem test_meets_LocalAxisCommands :
    (∃ (c : Cmd) (s : State), (c.b 16) < s.nLocal ∧ (c.u 20 4) < s.laW (c.b 16) ∧ s.may c 0x0901 .pfWc [] [(16, 1), (20,
        4)] (s.flag (Reg.SRV_AX_CFG (192 + (c.b 16))) F.SRV_AX_CFG_ACTIVE = false ∧ s.trackOn (c.b 16) = none)) ∧
    (∃ (c : Cmd) (on : Bool) (s : State), (c.b 16) < s.nLocal ∧ c.b 17 = b2n on ∧ (s.may c 0x0902 .pfWc [] [(16, 1), (17,
        1)] (on = true → s.laRun (c.b 16) = true))) :=
  ⟨⟨wCmd [(16, 31), (20, 7)], State.reset, by decide +kernel, by decide +kernel, .inr ⟨by decide +kernel, by decide +kernel⟩⟩,
    ⟨wCmd [(16, 31), (17, 1)], true, wit [(Reg.LA_CH_CFG 31, F.LA_CH_CFG_RUN, 1), (Reg.LA_CH_CFG 31, F.LA_CH_CFG_INPUT, 0)], by decide +kernel,
        by decide +kernel, .inr ⟨by decide +kernel, by decide +kernel⟩⟩⟩

theorem test_meets_LocalAxisEventsTakeEffect_1 :
    (∃ (o : Nat) (s : State), o < 16 ∧ bit s.laPulse o = true) ∧
    (∃ (ch : Nat) (k : Nat) (s : State), ch < 32 ∧ k < 2 ∧ 1 ≤ s.laInput ch ∧ s.laInput ch ≤ 4) ∧
    (∃ (ch : Nat) (u : Int) (s : State), ch < 32 ∧ s.laRun ch = true ∧ s.laInput ch = 1 ∧ s.flag (Reg.LA_CH_LINES ch) F.LA_CH_LINES_LC_EN = true ∧
        (s.laCh ch).lastIdx = some u) ∧
    (∃ (ch : Nat) (pin : Nat) (age : Nat) (rising : Bool) (time : W64) (s : State), ch < 32 ∧ pin < 2 ∧
        s.flag (Reg.LA_CH_LATCH_CFG ch) F.LA_CH_LATCH_CFG_ARM = true ∧ s.laRun ch = true ∧
        s.fld (Reg.LA_CH_LATCH_CFG ch) F.LA_CH_LATCH_CFG_SRC = pin ∧ edgeOk (s.fld (Reg.LA_CH_LATCH_CFG ch) F.LA_CH_LATCH_CFG_EDGE) rising = true ∧
        (s.laCh ch).latch.length < 4) ∧
    (∃ (ch : Nat) (pin : Nat) (age : Nat) (rising : Bool) (time : W64) (s : State), ch < 32 ∧ pin < 2 ∧
        s.flag (Reg.LA_CH_LATCH_CFG ch) F.LA_CH_LATCH_CFG_ARM = true ∧ s.laRun ch = true ∧
        s.fld (Reg.LA_CH_LATCH_CFG ch) F.LA_CH_LATCH_CFG_SRC = pin ∧ edgeOk (s.fld (Reg.LA_CH_LATCH_CFG ch) F.LA_CH_LATCH_CFG_EDGE) rising = true ∧
        4 ≤ (s.laCh ch).latch.length) ∧
    (∃ (ch : Nat) (ph : Nat) (i : Nat) (s : State), s.bridgeOn ch = true ∧ ph < 2 ∧ ((s.laCh ch).phase ph).st = 1 ∧
        ((s.laCh ch).phase ph).rev = false ∧
        2 * ((s.laCh ch).phase ph).t.natAbs + 2 * s.phaseOfs ch ph + s.fld (Reg.LA_ST_CHOP ch) F.LA_ST_CHOP_HYST ≤ 2 * (i : Int)) ∧
    (∃ (ch : Nat) (ph : Nat) (s : State), s.bridgeOn ch = true ∧ ph < 2 ∧ 4 ≤ ((s.laCh ch).phase ph).st ∧ ((s.laCh ch).phase ph).rev = false ∧
        s.fld (Reg.LA_ST_CHOP ch) F.LA_ST_CHOP_DECAY = 2) ∧
    (∃ (ch : Nat) (iv : Interval) (s : State), s.bridgeOn ch = true ∧ iv.msA < 2 ^ 16 ∧ iv.msB < 2 ^ 16) :=
  ⟨⟨15, { State.reset with laPulse := 2 ^ 15 }, by decide +kernel, by decide +kernel⟩,
    ⟨31, 1, wit [(Reg.LA_CH_CFG 31, F.LA_CH_CFG_RUN, 1), (Reg.LA_CH_CFG 31, F.LA_CH_CFG_INPUT, 4)], by decide +kernel, by decide +kernel,
        by decide +kernel, by decide +kernel⟩,
    ⟨31, 5, { wit [(Reg.LA_CH_CFG 31, F.LA_CH_CFG_RUN, 1), (Reg.LA_CH_CFG 31, F.LA_CH_CFG_INPUT, 1), (Reg.LA_CH_LINES 31, F.LA_CH_LINES_LC_EN, 1)] with la := [(31, { lastIdx := some 5 })] },
        by decide +kernel, by decide +kernel, by decide +kernel, by decide +kernel, by decide +kernel⟩,
    ⟨31, 1, 0, true, 9, { wit [(Reg.LA_CH_CFG 31, F.LA_CH_CFG_RUN, 1), (Reg.LA_CH_CFG 31, F.LA_CH_CFG_INPUT, 1), (Reg.LA_CH_LATCH_CFG 31, F.LA_CH_LATCH_CFG_ARM, 1), (Reg.LA_CH_LATCH_CFG 31, F.LA_CH_LATCH_CFG_SRC, 1)] with la := [(31, { latch := List.replicate 3 ⟨0, 0, true, false⟩ })] },
        by decide +kernel, by decide +kernel, by decide +kernel, by decide +kernel, by decide +kernel, by decide +kernel, by decide +kernel⟩,
    ⟨31, 1, 0, true, 9, { wit [(Reg.LA_CH_CFG 31, F.LA_CH_CFG_RUN, 1), (Reg.LA_CH_CFG 31, F.LA_CH_CFG_INPUT, 1), (Reg.LA_CH_LATCH_CFG 31, F.LA_CH_LATCH_CFG_ARM, 1), (Reg.LA_CH_LATCH_CFG 31, F.LA_CH_LATCH_CFG_SRC, 1)] with la := [(31, { latch := List.replicate 4 ⟨0, 0, true, false⟩ })] },
        by decide +kernel, by decide +kernel, by decide +kernel, by decide +kernel, by decide +kernel, by decide +kernel, by decide +kernel⟩,
    ⟨15, 1, 100000, { wit [(Reg.LA_CH_CFG 15, F.LA_CH_CFG_RUN, 1), (Reg.LA_CH_CFG 15, F.LA_CH_CFG_INPUT, 0), (Reg.LA_CH_OUT 15, F.LA_CH_OUT_MODE, 2)] with la := [(15, { enable := true, phB := { st := 1 } })] },
        by decide +kernel, by decide +kernel, by decide +kernel, by decide +kernel, by decide +kernel⟩,
    ⟨15, 1, { wit [(Reg.LA_CH_CFG 15, F.LA_CH_CFG_RUN, 1), (Reg.LA_CH_CFG 15, F.LA_CH_CFG_INPUT, 0), (Reg.LA_CH_OUT 15, F.LA_CH_OUT_MODE, 2), (Reg.LA_ST_CHOP 15, F.LA_ST_CHOP_DECAY, 2)] with la := [(15, { enable := true, phB := { st := 5 } })] },
        by decide +kernel, by decide +kernel, by decide +kernel, by decide +kernel, by decide +kernel⟩,
    ⟨15, ⟨0, 0, 0, 65535, 65535, 0, 0, false, false, 0⟩, { wit [(Reg.LA_CH_CFG 15, F.LA_CH_CFG_RUN, 1), (Reg.LA_CH_CFG 15, F.LA_CH_CFG_INPUT, 0), (Reg.LA_CH_OUT 15, F.LA_CH_OUT_MODE, 2)] with la := [(15, { enable := true })] },
        by decide +kernel, by decide +kernel, by decide +kernel⟩⟩

theorem test_meets_LocalAxisEventsTakeEffect_2 :
    (∃ (ch : Nat) (ph : Nat) (i : Nat) (s : State), s.bridgeOn ch = true ∧ s.fld (Reg.LA_ST_SENSE ch) F.LA_ST_SENSE_IOCP ≤ i) ∧
    (∃ (gap : Nat) (s : State), s.clk.ana ≠ 1) :=
  ⟨⟨15, 1, 100000, { wit [(Reg.LA_CH_CFG 15, F.LA_CH_CFG_RUN, 1), (Reg.LA_CH_CFG 15, F.LA_CH_CFG_INPUT, 0), (Reg.LA_CH_OUT 15, F.LA_CH_OUT_MODE, 2)] with la := [(15, { enable := true })] },
      by decide +kernel, by decide +kernel⟩,
    ⟨0, { State.reset with clk := { State.reset.clk with ana := 0 } }, by decide +kernel⟩⟩

theorem test_meets_AcquisitionCommandsTakeEffect_1 :
    (∃ (c : Cmd) (s : State), (c.b 16) < 16 ∧ s.setRunning (c.b 16) = false ∧ (s.may c 0x0A01 .pfWc [] [(16,
        1)] (s.setMode' (c.b 16) = 1 ∨ s.setMode' (c.b 16) = 2))) ∧
    (∃ (c : Cmd) (s : State), (c.b 16) < 16 ∧ (s.aSet (c.b 16)).queue = [] ∧ s.may c 0x0A02 .pfWc [] [(16, 1)] (s.setRunning (c.b 16) = true ∧
        (s.aSet (c.b 16)).stopCmd = none)) ∧
    (∃ (c : Cmd) (s : State), (c.b 16) < 16 ∧ (s.aSet (c.b 16)).queue ≠ [] ∧ s.may c 0x0A02 .pfWc [] [(16, 1)] (s.setRunning (c.b 16) = true ∧
        (s.aSet (c.b 16)).stopCmd = none)) ∧
    (∃ (c : Cmd) (s : State), (c.b 16) < 16 ∧ s.armFails (c.b 16) = none ∧ s.may c 0x0A03 .pfWc [] [(16, 1)] (s.uFree (c.b 16) = true)) ∧
    (∃ (c : Cmd) (n : Nat) (s : State), c.b 16 < 16 ∧ s.armFails (c.b 16) = some n ∧ s.may c 0x0A03 .pfWc [] [(16, 1)] (s.uFree (c.b 16) = true)) ∧
    (∃ (c : Cmd) (s : State), (c.b 16) < 16 ∧ s.uState (c.b 16) ∈ [uFilling, uReady, uRearm] ∧ s.may c 0x0A04 .pfWc [] [(16,
        1)] ((s.aU (c.b 16)).stopCmd = none)) ∧
    (∃ (c : Cmd) (s : State), (c.b 16) < 16 ∧ s.uState (c.b 16) = uPost ∧ s.may c 0x0A04 .pfWc [] [(16, 1)] ((s.aU (c.b 16)).stopCmd = none)) ∧
    (∃ (c : Cmd) (s : State), (c.b 16) < 16 ∧ s.uState (c.b 16) = uReady ∧ s.uStream (c.b 16) = false ∧
        s.flag (Reg.ACQ_U_MASK (c.b 16)) F.ACQ_U_MASK_EN = false ∧ s.may c 0x0A05 .pfWc [] [(16, 1)] True) :=
  ⟨⟨wCmd [(16, 15)], wit [(Reg.ACQ_SET_CFG 15, F.ACQ_SET_CFG_MODE, 1)], by decide +kernel, by decide +kernel, .inr ⟨by decide +kernel,
      by decide +kernel⟩⟩,
    ⟨wCmd [(16, 15)], wit [(Reg.ACQ_SET_STATUS 15, F.ACQ_SET_STATUS_RUNNING, 1)], by decide +kernel, by decide +kernel, .inr ⟨by decide +kernel,
        by decide +kernel⟩⟩,
    ⟨wCmd [(16, 15)], { wit [(Reg.ACQ_SET_STATUS 15, F.ACQ_SET_STATUS_RUNNING, 1)] with acq := { State.reset.acq with sets := [(15, { queue := [(0, [])] })] } },
        by decide +kernel, by decide +kernel, .inr ⟨by decide +kernel, by decide +kernel⟩⟩,
    ⟨wCmd [(16, 15)], wit [(Reg.ACQ_U_CFG 15, F.ACQ_U_CFG_N_SRC, 1), (Reg.ACQ_U_CFG 15, F.ACQ_U_CFG_SEGMENTS, 1), (Reg.ACQ_U_MEM 15,
        F.ACQ_U_MEM_BANKS, 1), (Reg.ACQ_U_POST 15, ⟨0, 32⟩, 1), (Reg.ACQ_AIN_CFG 0, F.ACQ_AIN_CFG_SET, 0), (Reg.ACQ_U_CFG 15, F.ACQ_U_CFG_SET, 0)],
        by decide +kernel, by decide +kernel, .inr ⟨by decide +kernel, by decide +kernel⟩⟩,
    ⟨wCmd [(16, 15)], 0x40, wit [(Reg.ACQ_U_CFG 15, F.ACQ_U_CFG_N_SRC, 1), (Reg.ACQ_U_CFG 15, F.ACQ_U_CFG_SEGMENTS, 1), (Reg.ACQ_U_MEM 15,
        F.ACQ_U_MEM_BANKS, 1), (Reg.ACQ_U_POST 15, ⟨0, 32⟩, 200000), (Reg.ACQ_AIN_CFG 0, F.ACQ_AIN_CFG_SET, 0), (Reg.ACQ_U_CFG 15, F.ACQ_U_CFG_SET,
        0)], by decide +kernel, by decide +kernel, .inr ⟨by decide +kernel, by decide +kernel⟩⟩,
    ⟨wCmd [(16, 15)], wit [(Reg.ACQ_U_STATE 15, F.ACQ_U_STATE_STATE, uReady)], by decide +kernel, by decide +kernel, .inr ⟨by decide +kernel,
        by decide +kernel⟩⟩,
    ⟨wCmd [(16, 15)], wit [(Reg.ACQ_U_STATE 15, F.ACQ_U_STATE_STATE, uPost)], by decide +kernel, by decide +kernel, .inr ⟨by decide +kernel,
        by decide +kernel⟩⟩,
    ⟨wCmd [(16, 15)], wit [(Reg.ACQ_U_STATE 15, F.ACQ_U_STATE_STATE, uReady)], by decide +kernel, by decide +kernel, by decide +kernel,
        by decide +kernel, .inr ⟨by decide +kernel, by decide +kernel⟩⟩⟩

theorem test_meets_AcquisitionCommandsTakeEffect_2 :
    (∃ (c : Cmd) (p : Nat) (n : Nat) (s : State), (c.b 16) < 16 ∧ (s.aU (c.b 16)).recs.find? (fun r => r.1 == (c.b 17)) = some ((c.b 17), p, n) ∧
        0 < (n * s.uFS (c.b 16)) ∧ 64 + (n * s.uFS (c.b 16)) ≤ c.u 32 4 ∧ p + n ≤ s.uCap (c.b 16) ∧ isSram (c.u 24 8) = false ∧
        isSram (s.uBase (c.b 16) + 64 * (c.b 17)) = true ∧ isSram (s.uPlace (c.b 16) (c.b 17) p) = true ∧ s.twin.feed = none ∧
        s.sramReady (s.uBase (c.b 16) + 64 * (c.b 17)) 64 = true ∧ s.poisoned (s.uBase (c.b 16) + 64 * (c.b 17)) 64 = none ∧
        s.sramReady (s.uPlace (c.b 16) (c.b 17) p) (n * s.uFS (c.b 16)) = true ∧
        s.poisoned (s.uPlace (c.b 16) (c.b 17) p) (n * s.uFS (c.b 16)) = none ∧ s.may c 0x0A06 .pfWc [((c.u 24 8), c.u 32 4)] [(16, 1), (17, 1),
        (24, 8), (32, 4)] True) ∧
    (∃ (c : Cmd) (l : Nat) (s : State), l < 5 ∧ s.tbMine l = false ∧ s.may c 0x0A07 .pfWc [] [] (s.acq.calCmd = none ∧ s.tbOn = true ∧
        s.syncSeen = true)) :=
  ⟨⟨wCmd [(16, 15), (31, 0x80), (32, 80)], 0, 2, { wit [(Reg.ACQ_U_CFG 15, F.ACQ_U_CFG_N_SRC, 1), (Reg.ACQ_U_CFG 15, F.ACQ_U_CFG_SEGMENTS, 1), (Reg.ACQ_U_MEM 15, F.ACQ_U_MEM_BANKS, 1)] with acq := { State.reset.acq with units := [(15, { recs := [(0, 0, 2)] })] } },
      by decide +kernel, by decide +kernel, by decide +kernel, by decide +kernel, by decide +kernel, by decide +kernel, by decide +kernel,
      by decide +kernel, by decide +kernel, by decide +kernel, by decide +kernel, by decide +kernel, by decide +kernel, .inr ⟨by decide +kernel,
      by decide +kernel⟩⟩,
    ⟨wCmd [], 4, { wit [(Reg.ACQ_TB_CFG, F.ACQ_TB_CFG_ENABLE, 1), (Reg.ACQ_TB_CFG, F.ACQ_TB_CFG_PEER, 1)] with acq := { State.reset.acq with lastSync := some 0 } },
        by decide +kernel, by decide +kernel, .inr ⟨by decide +kernel, by decide +kernel⟩⟩⟩

theorem test_meets_UnitsConvertTriggerAndRecord_1 :
    (∃ (k : Nat) (xs : List (Nat × Int × Bool)) (s : State), k < 16 ∧ s.setRunning k = true ∧ (s.aSet k).stopCmd = none ∧
        (s.aSet k).startCmd = none ∧ (∀ x ∈ xs, x.1 ∈ s.setChans k)) ∧
    (∃ (k : Nat) (ch : Nat) (v : Int) (at_ : W64) (rest : List (W64 × List (Nat × Option Int))) (s : State), k < 16 ∧ ch < 48 ∧
        (s.aSet k).queue = (at_, [(ch, some v)]) :: rest ∧ 6400 ≤ timeDiff s.cell at_) ∧
    (∃ (ns : Nat) (s : State), 1000 ≤ ns) ∧
    (∃ (u : Nat) (s : State), u < 16 ∧ s.uState u = uReady ∧ s.uTrig u F.ACQ_U_TRIG_TYPE = 5 ∧ (s.aU u).timeDone = false ∧
        timePast (s.reg64 (Reg.ACQ_U_TTIME u)) s.cell = true ∧ s.uStream u = false ∧ s.flag (Reg.ACQ_U_MASK u) F.ACQ_U_MASK_EN = false) ∧
    (∃ (u : Nat) (s : State), u < 16 ∧ s.uState u = uFilling ∧ s.uPre u ≤ (s.aU u).frames.length) ∧
    (∃ (u : Nat) (s : State), u < 16 ∧ s.uState u = uPost ∧ s.uPostN u ≤ s.uPostHeld u) ∧
    (∃ (u : Nat) (last : W64) (s : State), u < 16 ∧ s.uState u = uRearm ∧ (s.aU u).lastT = some last ∧ 12800 ≤ timeDiff s.cell last) ∧
    (∃ (ring : Nat) (u : Nat) (k : Nat) (n : Nat) (len : Nat) (addr : W64) (last : Bool) (rest : List (Nat × Nat × Bool)) (s : State),
        s.acq.order.find? (fun u => s.fld (Reg.ACQ_U_STREAM u) F.ACQ_U_STREAM_RING == ring) = some u ∧ (s.aU u).closed = (k, n, last) :: rest ∧
        ring < 64 ∧ s.ringOn 0 3 ring = true ∧ s.devIdx 0 3 ring ≠ s.swIdx 0 3 ring ∧ s.hostUp = true ∧ (64 + n * s.uFS u) ≤ len ∧
        s.sramReady (s.chunkAt u k) (64 + n * s.uFS u) = true ∧ s.poisoned (s.chunkAt u k) (64 + n * s.uFS u) = none ∧ (s.aU u).stopCmd = none) :=
  ⟨⟨15, [(47, 5, true)], wit [(Reg.ACQ_SET_STATUS 15, F.ACQ_SET_STATUS_RUNNING, 1), (Reg.ACQ_AIN_CFG 47, F.ACQ_AIN_CFG_SET, 15)], by decide +kernel,
      by decide +kernel, by decide +kernel, by decide +kernel, by decide +kernel⟩,
    ⟨15, 47, 5, 0, [], { { wit [] with acq := { State.reset.acq with sets := [(15, { queue := [(0, [(47, some 5)])] })] } } with time := { State.reset.time with raw := 0x100000000000 } },
        by decide +kernel, by decide +kernel, by decide +kernel, by decide +kernel⟩,
    ⟨1000, State.reset, by decide +kernel⟩,
    ⟨15, wit [(Reg.ACQ_U_STATE 15, F.ACQ_U_STATE_STATE, uReady), (Reg.ACQ_U_TRIG 15, F.ACQ_U_TRIG_TYPE, 5)], by decide +kernel, by decide +kernel,
        by decide +kernel, by decide +kernel, by decide +kernel, by decide +kernel, by decide +kernel⟩,
    ⟨15, wit [(Reg.ACQ_U_STATE 15, F.ACQ_U_STATE_STATE, uFilling)], by decide +kernel, by decide +kernel, by decide +kernel⟩,
    ⟨15, wit [(Reg.ACQ_U_STATE 15, F.ACQ_U_STATE_STATE, uPost), (Reg.ACQ_U_POST 15, ⟨0, 32⟩, 0)], by decide +kernel, by decide +kernel,
        by decide +kernel⟩,
    ⟨15, 0, { { wit [(Reg.ACQ_U_STATE 15, F.ACQ_U_STATE_STATE, uRearm)] with acq := { State.reset.acq with units := [(15, { lastT := some 0 })] } } with time := { State.reset.time with raw := 0x100000000000 } },
        by decide +kernel, by decide +kernel, by decide +kernel, by decide +kernel⟩,
    ⟨63, 15, 0, 1, 100, 0x1000, false, [], { wit [(Reg.ACQ_U_CFG 15, F.ACQ_U_CFG_N_SRC, 1), (Reg.ACQ_U_CFG 15, F.ACQ_U_CFG_SEGMENTS, 1), (Reg.ACQ_U_MEM 15, F.ACQ_U_MEM_BANKS, 1), (Reg.ACQ_U_STREAM 15, F.ACQ_U_STREAM_RING, 63), (ringCtrl 0 3 63, F.RING_CTRL_ENABLE, 1), (ringBase 0 3 63 + 0x1C, ⟨0, 32⟩, 1), (Reg.HE_STATUS, F.HE_STATUS_WIDTH, 4)] with acq := { State.reset.acq with order := [15], units := [(15, { closed := [(0, 1, false)] })] } },
        by decide +kernel, by decide +kernel, by decide +kernel, by decide +kernel, by decide +kernel, by decide +kernel, by decide +kernel,
        by decide +kernel, by decide +kernel, by decide +kernel⟩⟩

theorem test_meets_UnitsConvertTriggerAndRecord_2 :
    ∃ (u : Nat) (s : State), u < 16 ∧ s.uState u = uStreaming ∧ 0 < s.uDec u ∧ s.fillLe u (s.fld (Reg.ACQ_U_STREAM u) F.ACQ_U_STREAM_LOW) = true ∧
        (s.aU u).chunk = none :=
  ⟨15, wit [(Reg.ACQ_U_STATE 15, F.ACQ_U_STATE_STATE, uStreaming), (Reg.ACQ_U_STATE 15, F.ACQ_U_STATE_DEC_LOG, 1)], by decide +kernel,
      by decide +kernel, by decide +kernel, by decide +kernel, by decide +kernel⟩

theorem test_meets_TriggerBusPulsesTakeEffect :
    (∃ (l : Nat) (w : Nat) (u : Nat) (at_ : W64) (s : State), s.tbOn = true ∧ l < 4 ∧ 50 ≤ w ∧ w ≤ 200 ∧ s.tbMine l = false ∧ u < 16 ∧
        s.uState u = uReady ∧ s.uTrig u F.ACQ_U_TRIG_TYPE = 7 ∧ s.uTrig u F.ACQ_U_TRIG_BUS_LINE = l ∧ s.uStream u = false ∧
        s.flag (Reg.ACQ_U_MASK u) F.ACQ_U_MASK_EN = false) ∧
    (∃ (l : Nat) (w : Nat) (at_ : W64) (win : Bool) (s : State), s.tbOn = true ∧ l < 4 ∧ (w < 50 ∨ 200 < w)) ∧
    (∃ (l : Nat) (a : W64) (at_ : W64) (s : State), s.acq.lastSync = some a ∧ l < 5 ∧ s.acq.calCmd.isSome = true ∧ (s.tbLine l).done = false ∧
        (s.tbLine l).rounds < 8 ∧ s.nearestSync (a - BitVec.ofNat 64 (s.tbDelay 4)) / max 1 s.syncPeriod % 16 = 0 ∧
        timeDiff at_ a = ((2 + 8 * l + s.fld Reg.ACQ_TB_CFG F.ACQ_TB_CFG_PEER) * 16000 : Nat)) ∧
    (∃ (s : State), s.tbOn = true ∧ s.tbMine 4 = true ∧ s.syncPeriod ≠ 0 ∧ s.cell.toNat % s.syncPeriod < 33 ∧
        s.acq.lastSync ≠ some (s.cell - BitVec.ofNat 64 (s.cell.toNat % s.syncPeriod))) ∧
    (∃ (w : Nat) (at_ : W64) (s : State), s.tbOn = true ∧ 50 ≤ w ∧ w ≤ 200 ∧ s.tbMine 4 = false) ∧
    (∃ (k : Nat) (at_ : W64) (s : State), k < 16 ∧ (s.aSet k).syncAt = some at_ ∧ s.setMode' k = 3 ∧ timePast at_ s.cell = true ∧
        s.setRunning k = false) :=
  ⟨⟨3, 50, 15, 0, wit [(Reg.ACQ_TB_CFG, F.ACQ_TB_CFG_ENABLE, 1), (Reg.ACQ_TB_CFG, F.ACQ_TB_CFG_PEER, 1), (Reg.ACQ_U_STATE 15, F.ACQ_U_STATE_STATE,
      uReady), (Reg.ACQ_U_TRIG 15, F.ACQ_U_TRIG_TYPE, 7), (Reg.ACQ_U_TRIG 15, F.ACQ_U_TRIG_BUS_LINE, 3)], by decide +kernel, by decide +kernel,
      by decide +kernel, by decide +kernel, by decide +kernel, by decide +kernel, by decide +kernel, by decide +kernel, by decide +kernel,
      by decide +kernel, by decide +kernel⟩,
    ⟨3, 49, 0, false, wit [(Reg.ACQ_TB_CFG, F.ACQ_TB_CFG_ENABLE, 1)], by decide +kernel, by decide +kernel, by decide +kernel⟩,
    ⟨4, 0, 544000, { wit [] with acq := { State.reset.acq with lastSync := some 0, calCmd := some (wCmd []) } }, by decide +kernel,
        by decide +kernel, by decide +kernel, by decide +kernel, by decide +kernel, by decide +kernel, by decide +kernel⟩,
    ⟨wit [(Reg.ACQ_TB_CFG, F.ACQ_TB_CFG_ENABLE, 1), (Reg.ACQ_TB_CFG, F.ACQ_TB_CFG_SYNC_PERIOD, 1)], by decide +kernel, by decide +kernel,
        by decide +kernel, by decide +kernel, by decide +kernel⟩,
    ⟨200, 0, wit [(Reg.ACQ_TB_CFG, F.ACQ_TB_CFG_ENABLE, 1), (Reg.ACQ_TB_CFG, F.ACQ_TB_CFG_PEER, 1)], by decide +kernel, by decide +kernel,
        by decide +kernel, by decide +kernel⟩,
    ⟨15, 0, { wit [(Reg.ACQ_SET_CFG 15, F.ACQ_SET_CFG_MODE, 3)] with acq := { State.reset.acq with sets := [(15, { syncAt := some 0 })] } },
        by decide +kernel, by decide +kernel, by decide +kernel, by decide +kernel, by decide +kernel⟩⟩

theorem test_meets_SignalCoresMoveAndCompute :
    (∃ (c : Nat) (s : State), s.scRuns c 0) ∧
    (∃ (c : Nat) (d : Nat) (a : Nat) (x : Nat) (v : Nat) (w : Nat) (i : Instr) (s : State), d < 16 ∧ a < 16 ∧ x ≤ 0x28 ∧ ((i = .isaMov c 0 ∧
        w = scWord 0x01 d a 0 0 ∧ v = s.scD c a) ∨ (i = .isaMovi c 0 ∧ v < 2 ^ 16 ∧ w = scWord 0x02 d 0 0 v) ∨ (i = .isaMovsLoad c 0 ∧
        w = scWord 0x03 d 0 0 (x * 2 ^ 16) ∧ v = s.scSp c x)) ∧ s.scRuns c w) ∧
    (∃ (c : Nat) (d : Nat) (x : Nat) (v : Nat) (w : Nat) (i : Instr) (s : State), d < 16 ∧ x ≤ 0x28 ∧ ((i = .isaMovsStore c 0 ∧
        w = scWord 0x04 d 0 0 (x * 2 ^ 16) ∧ v = s.scD c d) ∨ (i = .isaMovsi c 0 ∧ v < 2 ^ 16 ∧ w = scWord 0x05 0 0 0 (x * 2 ^ 16 + v))) ∧
        s.scRuns c w) ∧
    (∃ (c : Nat) (d : Nat) (a : Nat) (b : Nat) (op : Nat) (sat : Bool) (x : Int) (i : Instr) (s : State), d < 16 ∧ a < 16 ∧ b < 16 ∧
        ((i = .isaAdd c 0 ∧ op = 0x08 ∧ sat = false ∧ x = s.scDi c a + s.scDi c b) ∨ (i = .isaAdds c 0 ∧ op = 0x0A ∧ sat = true ∧
        x = s.scDi c a + s.scDi c b) ∨ (i = .isaSub c 0 ∧ op = 0x09 ∧ sat = false ∧ x = s.scDi c a - s.scDi c b) ∨ (i = .isaSubs c 0 ∧ op = 0x0B ∧
        sat = true ∧ x = s.scDi c a - s.scDi c b)) ∧ s.scRuns c (scWord op d a b 0)) ∧
    (∃ (c : Nat) (d : Nat) (a : Nat) (b : Nat) (op : Nat) (low : Nat) (v : Nat) (i : Instr) (s : State), d < 16 ∧ a < 16 ∧ ((low = 0 ∧ b < 16 ∧
        ((i = .isaAnd c 0 ∧ op = 0x0C ∧ v = (s.scD c a &&& s.scD c b)) ∨ (i = .isaOr c 0 ∧ op = 0x0D ∧
        v = (s.scD c a ||| s.scD c b)) ∨ (i = .isaXor c 0 ∧ op = 0x0E ∧ v = (s.scD c a ^^^ s.scD c b)))) ∨ (b = 0 ∧ low ≤ 15 ∧ ((i = .isaShl c 0 ∧
        op = 0x0F ∧ v = s.scD c a * 2 ^ low % 2 ^ 16) ∨ (i = .isaAsr c 0 ∧ op = 0x10 ∧ v = w16 (s.scDi c a / 2 ^ low)) ∨ (i = .isaLsr c 0 ∧
        op = 0x11 ∧ v = s.scD c a / 2 ^ low)))) ∧ s.scRuns c (scWord op d a b low)) ∧
    (∃ (c : Nat) (a : Nat) (b : Nat) (s : State), a < 16 ∧ b < 16 ∧ s.scRuns c (scWord 0x12 0 a b 0)) ∧
    (∃ (c : Nat) (d : Nat) (a : Nat) (op : Nat) (x : Int) (i : Instr) (s : State), d < 16 ∧ a < 16 ∧ ((i = .isaAbs c 0 ∧ op = 0x13 ∧
        x = (s.scDi c a).natAbs) ∨ (i = .isaNeg c 0 ∧ op = 0x14 ∧ x = -s.scDi c a)) ∧ s.scRuns c (scWord op d a 0 0)) ∧
    (∃ (c : Nat) (d : Nat) (n : Nat) (sh : Nat) (s : State), d < 16 ∧ n < 2 ∧ sh ≤ 24 ∧ s.scRuns c (scWord 0x26 d n 0 sh)) :=
  ⟨⟨7, wSc 7 (0) 0 id, by unfold State.scRuns; decide +kernel⟩,
    ⟨7, 15, 15, 0x28, 0, scWord 3 15 0 0 (0x28 * 2 ^ 16), .isaMovsLoad 7 0, wSc 7 (scWord 3 15 0 0 (0x28 * 2 ^ 16)) 0 id, by decide +kernel,
        by decide +kernel, by decide +kernel, .inr (.inr ⟨rfl, rfl, by decide +kernel⟩), by unfold State.scRuns; decide +kernel⟩,
    ⟨7, 15, 0x28, 65535, scWord 5 0 0 0 (0x28 * 2 ^ 16 + 65535), .isaMovsi 7 0, wSc 7 (scWord 5 0 0 0 (0x28 * 2 ^ 16 + 65535)) 0 id,
        by decide +kernel, by decide +kernel, .inr ⟨rfl, by decide, rfl⟩, by unfold State.scRuns; decide +kernel⟩,
    ⟨7, 15, 14, 15, 0x0B, true, -32769, .isaSubs 7 0, wSc 7 (scWord 0x0B 15 14 15 0) 0 (fun z => { z with d := [(14, 0x8000), (15, 1)] }),
        by decide +kernel, by decide +kernel, by decide +kernel, .inr (.inr (.inr ⟨rfl, rfl, rfl, by decide +kernel⟩)),
        by unfold State.scRuns; decide +kernel⟩,
    ⟨7, 15, 14, 0, 0x11, 15, 1, .isaLsr 7 0, wSc 7 (scWord 0x11 15 14 0 15) 0 (fun z => { z with d := [(14, 0x8000), (15, 1)] }), by decide +kernel,
        by decide +kernel, .inr ⟨rfl, by decide, .inr (.inr ⟨rfl, rfl, by decide +kernel⟩)⟩, by unfold State.scRuns; decide +kernel⟩,
    ⟨7, 15, 14, wSc 7 (scWord 0x12 0 15 14 0) 0 (fun z => { z with d := [(14, 0x8000), (15, 1)] }), by decide +kernel, by decide +kernel,
        by unfold State.scRuns; decide +kernel⟩,
    ⟨7, 15, 14, 0x13, 32768, .isaAbs 7 0, wSc 7 (scWord 0x13 15 14 0 0) 0 (fun z => { z with d := [(14, 0x8000), (15, 1)] }), by decide +kernel,
        by decide +kernel, .inl ⟨rfl, rfl, by decide +kernel⟩, by unfold State.scRuns; decide +kernel⟩,
    ⟨7, 15, 1, 24, wSc 7 (scWord 0x26 15 1 0 24) 0 id, by decide +kernel, by decide +kernel, by decide +kernel,
        by unfold State.scRuns; decide +kernel⟩⟩

theorem test_meets_SignalCoresLoadStoreAndMultiply :
    (∃ (c : Nat) (d : Nat) (i : Nat) (pm : Bool) (s : State), d < 16 ∧ i < 8 ∧ scReadable ((s.scAddr c i).1) = true ∧
        s.scRuns c (scWord 0x18 d (2 * i + b2n pm) 0 0)) ∧
    (∃ (c : Nat) (d : Nat) (i : Nat) (pm : Bool) (s : State), d < 16 ∧ i < 8 ∧ scReadable (s.scAddr c i).1 = false ∧
        s.scRuns c (scWord 0x18 d (2 * i + b2n pm) 0 0) ∧ (s.scCore c).commit = none) ∧
    (∃ (c : Nat) (d : Nat) (i : Nat) (pm : Bool) (s : State), d < 16 ∧ i < 8 ∧ scStorable ((s.scAddr c i).1) = true ∧
        s.scRuns c (scWord 0x19 d (2 * i + b2n pm) 0 0)) ∧
    (∃ (c : Nat) (n : Nat) (i : Nat) (pm : Bool) (s : State), n < 8 ∧ i < 8 ∧ scReadable ((s.scAddr c i).1) = true ∧
        scReadable (s.scNext c i 1) = true ∧ s.scRuns c (scWord 0x1A n (2 * i + b2n pm) 0 0)) ∧
    (∃ (c : Nat) (n : Nat) (i : Nat) (pm : Bool) (s : State), n < 8 ∧ i < 8 ∧ scStorable ((s.scAddr c i).1) = true ∧
        scStorable (s.scNext c i 1) = true ∧ s.scRuns c (scWord 0x1B n (2 * i + b2n pm) 0 0)) ∧
    (∃ (c : Nat) (n : Nat) (a : Nat) (b : Nat) (op : Nat) (x : Int) (i : Instr) (s : State), n < 2 ∧ a < 16 ∧ b < 16 ∧ ((i = .isaMpy c 0 ∧
        op = 0x20 ∧ x = (s.scProduct c (s.scDi c a) (s.scDi c b))) ∨ (i = .isaMac c 0 ∧ op = 0x21 ∧
        x = s.scAcc c n + (s.scProduct c (s.scDi c a) (s.scDi c b))) ∨ (i = .isaMsu c 0 ∧ op = 0x22 ∧
        x = s.scAcc c n - (s.scProduct c (s.scDi c a) (s.scDi c b))) ∨ (i = .isaClr c 0 ∧ op = 0x25 ∧ a = 0 ∧ b = 0 ∧ x = 0) ∨ (i = .isaLdacc c 0 ∧
        op = 0x27 ∧ a < 8 ∧ b = 0 ∧ x = toSigned 32 (s.scD c (2 * a + 1) * 2 ^ 16 + s.scD c (2 * a)))) ∧ s.scRuns c (scWord op n a b 0)) ∧
    (∃ (c : Nat) (n : Nat) (i : Nat) (b : Nat) (pm : Bool) (s : State), n < 2 ∧ i < 8 ∧ b < 16 ∧ scReadable ((s.scAddr c i).1) = true ∧
        s.scRuns c (scWord 0x23 n (2 * i + b2n pm) b 0)) ∧
    (∃ (c : Nat) (n : Nat) (i : Nat) (j : Nat) (pm : Bool) (pj : Bool) (s : State), n < 2 ∧ i < 8 ∧ j < 8 ∧ scReadable ((s.scAddr c i).1) = true ∧
        scReadable ((s.scAddr c j).1) = true ∧ scStorable (s.scNext c i 1) = true ∧
        s.scRuns c (scWord 0x24 n (2 * i + b2n pm) (2 * j + b2n pj) 0)) :=
  ⟨⟨7, 15, 7, true, wSc 7 (scWord 0x18 15 15 0 0) 0 id, by decide +kernel, by decide +kernel, by decide +kernel,
      by unfold State.scRuns; decide +kernel⟩,
    ⟨7, 15, 7, true, wSc 7 (scWord 0x18 15 15 0 0) 0 (fun z => { z with sp := [(7, 0xFFFF)] }), by decide +kernel, by decide +kernel,
        by decide +kernel, by unfold State.scRuns; decide +kernel, by decide +kernel⟩,
    ⟨7, 15, 7, true, wSc 7 (scWord 0x19 15 15 0 0) 0 id, by decide +kernel, by decide +kernel, by decide +kernel,
        by unfold State.scRuns; decide +kernel⟩,
    ⟨7, 7, 7, true, wSc 7 (scWord 0x1A 7 15 0 0) 0 id, by decide +kernel, by decide +kernel, by decide +kernel, by decide +kernel,
        by unfold State.scRuns; decide +kernel⟩,
    ⟨7, 7, 7, true, wSc 7 (scWord 0x1B 7 15 0 0) 0 id, by decide +kernel, by decide +kernel, by decide +kernel, by decide +kernel,
        by unfold State.scRuns; decide +kernel⟩,
    ⟨7, 1, 7, 0, 0x27, 0, .isaLdacc 7 0, wSc 7 (scWord 0x27 1 7 0 0) 0 id, by decide +kernel, by decide +kernel, by decide +kernel,
        .inr (.inr (.inr (.inr ⟨rfl, rfl, by decide, rfl, by decide +kernel⟩))), by unfold State.scRuns; decide +kernel⟩,
    ⟨7, 1, 7, 15, true, wSc 7 (scWord 0x23 1 15 15 0) 0 id, by decide +kernel, by decide +kernel, by decide +kernel, by decide +kernel,
        by unfold State.scRuns; decide +kernel⟩,
    ⟨7, 1, 7, 6, true, false, wSc 7 (scWord 0x24 1 15 12 0) 0 id, by decide +kernel, by decide +kernel, by decide +kernel, by decide +kernel,
        by decide +kernel, by decide +kernel, by unfold State.scRuns; decide +kernel⟩⟩

theorem test_meets_SignalCoresBranchAndLoop_1 :
    (∃ (c : Nat) (k : Nat) (a : Nat) (op : Nat) (g : Nat) (i : Instr) (s : State), k < 8 ∧ a < 2 ^ 13 ∧ ((i = .isaJmp c 0 ∧ op = 0x30 ∧ k = 0 ∧
        g = a) ∨ (i = .isaJcc c 0 ∧ op = 0x31 ∧ g = (if scCond (s.scSr c) k then a else s.scPc c + 2))) ∧ s.scRuns c (scWord op k 0 0 a)) ∧
    (∃ (c : Nat) (a : Nat) (s : State), a < 2 ^ 13 ∧ (s.scCore c).stack.length < 4 ∧ s.scRuns c (scWord 0x32 0 0 0 a)) ∧
    (∃ (c : Nat) (a : Nat) (r : List Nat) (s : State), (s.scCore c).stack = a :: r ∧ s.scRuns c (scWord 0x33 0 0 0 0)) ∧
    (∃ (c : Nat) (s : State), s.scRuns c (scWord 0x34 0 0 0 0)) ∧
    (∃ (c : Nat) (g : Nat) (reti : Bool) (s : State), c < 8 ∧ s.scState c = 1 ∧ s.scFetch c = 0 ∧ s.scAtEnd c 0 = false ∧ s.scAtEnd c 1 = false ∧
        (s.scCore c).branch = some g ∧ (s.scCore c).reti = reti ∧ (s.scCore c).pend = [] ∧ g < 2 ^ 13) ∧
    (∃ (c : Nat) (n : Nat) (k : Nat) (a : Nat) (w : Nat) (i : Instr) (s : State), n < 2 ∧ a < 2 ^ 13 ∧ k < 2 ^ 13 ∧
        (n = 0 → bit (s.scSr c) srLA0 = false) ∧ (n = 1 → bit (s.scSr c) srLA0 = true ∧ a ≤ s.scSp c 0x25) ∧
        ((w = scWord (0x35 + n) 0 0 0 (k * 2 ^ 13 + a) ∧ i = (if n = 0 then .isaLoop0 c 0 else .isaLoop1 c 0)) ∨ (∃ r, r < 16 ∧
        w = scWord (0x37 + n) r 0 0 a ∧ k = s.scD c r % 2 ^ 13 ∧ i = (if n = 0 then .isaLoop0r c 0 else .isaLoop1r c 0))) ∧ s.scRuns c w) ∧
    (∃ (c : Nat) (s : State), c < 8 ∧ s.scState c = 1 ∧ s.scIntDue c = false ∧ s.scFetch c = 0 ∧ s.scAtEnd c 0 = true ∧ s.scAtEnd c 1 = false ∧
        (s.scCore c).branch = none ∧ (s.scCore c).reti = false ∧ (s.scCore c).pend = [] ∧ 1 < s.scSp c 0x23) ∧
    (∃ (c : Nat) (k : Cmd) (s : State), c < 8 ∧ s.scState c = 1 ∧ s.scIntDue c = false ∧ s.scFetch c = 0 ∧ s.scAtEnd c 0 = true ∧
        s.scAtEnd c 1 = false ∧ (s.scCore c).branch = none ∧ (s.scCore c).reti = false ∧ (s.scCore c).pend = [] ∧ s.scSp c 0x23 ≤ 1 ∧
        bit (s.scSr c) srInIsr = false ∧ s.scWanted c = false ∧ (s.scCore c).commit = some k) :=
  ⟨⟨7, 7, 8191, 0x31, 8191, .isaJcc 7 0, wSc 7 (scWord 0x31 7 0 0 8191) 0 id, by decide +kernel, by decide +kernel, .inr ⟨rfl, rfl,
      by decide +kernel⟩, by unfold State.scRuns; decide +kernel⟩,
    ⟨7, 8191, wSc 7 (scWord 0x32 0 0 0 8191) 0 (fun z => { z with stack := [1, 2, 3] }), by decide +kernel, by decide +kernel,
        by unfold State.scRuns; decide +kernel⟩,
    ⟨7, 8191, [], wSc 7 (scWord 0x33 0 0 0 0) 0 (fun z => { z with stack := [8191] }), by decide +kernel, by unfold State.scRuns; decide +kernel⟩,
    ⟨7, wSc 7 (scWord 0x34 0 0 0 0) 0 id, by unfold State.scRuns; decide +kernel⟩,
    ⟨7, 8191, true, wSc 7 (0) 0 (fun z => { z with branch := some 8191, reti := true }), by decide +kernel, by decide +kernel, by decide +kernel,
        by decide +kernel, by decide +kernel, by decide +kernel, by decide +kernel, by decide +kernel, by decide +kernel⟩,
    ⟨7, 1, 8191, 8191, scWord 0x38 15 0 0 8191, .isaLoop1r 7 0, wSc 7 (scWord 0x38 15 0 0 8191) (2 ^ 11) (fun z => { z with d := [(15, 8191)], sp := [(0x25, 8191)] }),
        by decide +kernel, by decide +kernel, by decide +kernel, by decide +kernel, by decide +kernel, .inr ⟨15, by decide, rfl, by decide +kernel,
        rfl⟩, by unfold State.scRuns; decide +kernel⟩,
    ⟨7, wSc 7 (0) (2 ^ 11) (fun z => { z with sp := [(0x23, 2), (0x24, 8191), (0x25, 5)] }), by decide +kernel, by decide +kernel,
        by decide +kernel, by decide +kernel, by decide +kernel, by decide +kernel, by decide +kernel, by decide +kernel, by decide +kernel,
        by decide +kernel⟩,
    ⟨7, wCmd [], wSc 7 (0) (2 ^ 11) (fun z => { z with sp := [(0x23, 1), (0x25, 5)], commit := some (wCmd []) }), by decide +kernel,
        by decide +kernel, by decide +kernel, by decide +kernel, by decide +kernel, by decide +kernel, by decide +kernel, by decide +kernel,
        by decide +kernel, by decide +kernel, by decide +kernel, by decide +kernel, by decide +kernel⟩⟩

theorem test_meets_SignalCoresBranchAndLoop_2 :
    (∃ (c : Nat) (st : Nat) (op : Nat) (i : Instr) (s : State), ((i = .isaWait c 0 ∧ op = 0x39 ∧ st = 2) ∨ (i = .isaHalt c 0 ∧ op = 0x3A ∧
        st = 0)) ∧ s.scRuns c (scWord op 0 0 0 0)) ∧
    (∃ (c : Nat) (cause : Nat) (w : Nat) (i : Instr) (s : State), ((i = .isaCall c 0 ∧ 4 ≤ (s.scCore c).stack.length ∧ scOp w = 0x32 ∧
        fmtB false true w = true ∧ cause = 3) ∨ (i = .isaRet c 0 ∧ (s.scCore c).stack = [] ∧ w = scWord 0x33 0 0 0 0 ∧
        cause = 4) ∨ (i = .isaNop c 0 ∧ scDefined (scOp w) = false ∧ cause = 1)) ∧ s.scRuns c w ∧ (s.scCore c).commit = none) :=
  ⟨⟨7, 0, 0x3A, .isaHalt 7 0, wSc 7 (scWord 0x3A 0 0 0 0) 0 id, .inr ⟨rfl, rfl, rfl⟩, by unfold State.scRuns; decide +kernel⟩,
    ⟨7, 3, scWord 0x32 0 0 0 8191, .isaCall 7 0, wSc 7 (scWord 0x32 0 0 0 8191) 0 (fun z => { z with stack := [1, 2, 3, 4] }), .inl ⟨rfl,
        by decide +kernel, by decide +kernel, by decide +kernel, rfl⟩, by unfold State.scRuns; decide +kernel, by decide +kernel⟩⟩

theorem test_meets_SignalCoresTakeCommandsAndInterrupts_1 :
    (∃ (c : Cmd) (s : State), (c.b 16) < 8 ∧ 0 < (c.u 32 4) ∧ (c.u 32 4) % 4 = 0 ∧ 4 * c.u 20 2 + (c.u 32 4) ≤ 32768 ∧
        (c.u 24 8) + (c.u 32 4) ≤ sramSize ∧ s.twin.feed = none ∧ s.sramReady (c.u 24 8) (c.u 32 4) = true ∧
        s.poisoned (c.u 24 8) (c.u 32 4) = none ∧ crc32c (s.sramRead (c.u 24 8) (c.u 32 4)) = c.u 36 4 ∧ s.may c 0x0B01 .pfWc [((c.u 24 8),
        (c.u 32 4))] [(16, 1), (20, 2), (24, 8), (32, 4), (36, 4)] ((s.scCore (c.b 16)).commit = none)) ∧
    (∃ (c : Cmd) (s : State), (c.b 16) < 8 ∧ (s.scState (c.b 16) = 0 ∨ s.scState (c.b 16) = 2) ∧ s.may c 0x0B02 .pfWc [] [(16,
        1)] ((s.scCore (c.b 16)).commit = none ∧ s.mode ≠ mBoot)) ∧
    (∃ (c : Cmd) (s : State), (c.b 16) < 8 ∧ s.scState (c.b 16) = 1 ∧ s.may c 0x0B02 .pfWc [] [(16, 1)] ((s.scCore (c.b 16)).commit = none ∧
        s.mode ≠ mBoot)) ∧
    (∃ (c : Cmd) (s : State), (c.b 16) < 8 ∧ c.u 20 2 < 8192 ∧ (s.may c 0x0B03 .pfWc [] [(16, 1), (20,
        2)] (s.scState (c.b 16) = 0 ∨ s.scState (c.b 16) = 3))) ∧
    (∃ (c : Cmd) (s : State), (c.b 16) < 8 ∧ s.may c 0x0B04 .pfWc [] [(16, 1)] (s.scState (c.b 16) ∈ [1, 2, 3])) ∧
    (∃ (c : Cmd) (s : State), (∀ k, k < 8 → s.regionState (0x10 + k) ≠ 2) ∧ s.may c 0x0B05 .pfWc [] [(16, 1)] True) ∧
    (∃ (k : Nat) (s : State), k < 8 ∧ s.reg (Reg.SC_TIMER k) ≠ 0 ∧ s.regionState (0x10 + k) ≠ 2) ∧
    (∃ (k : Nat) (l : Nat) (s : State), k < 8 ∧ s.scLine k = some l ∧ (s.scCore k).pend = [] ∧ bit (s.scSr k) srIE = true ∧ s.scSr k < 2 ^ 16 ∧
        ((s.scState k = 1 ∧ (s.scCore k).branch = none) ∨ s.scState k = 2)) :=
  ⟨⟨wCmd [(16, 7), (20, 8191), (24, 0x1000), (32, 4), (36, crc32c (leBytes 4 0))], State.reset, by decide +kernel, by decide +kernel,
      by decide +kernel, by decide +kernel, by decide +kernel, by decide +kernel, by decide +kernel, by decide +kernel, by decide +kernel,
      .inr ⟨by decide +kernel, by decide +kernel⟩⟩,
    ⟨wCmd [(16, 7)], wit [(Reg.DEV_MODE, F.DEV_MODE_MODE, 1)], by decide +kernel, by decide +kernel, .inr ⟨by decide +kernel, by decide +kernel⟩⟩,
    ⟨wCmd [(16, 7)], wit [(Reg.DEV_MODE, F.DEV_MODE_MODE, 1), (Reg.SC_STATE 7, F.SC_STATE_STATE, 1)], by decide +kernel, by decide +kernel,
        .inr ⟨by decide +kernel, by decide +kernel⟩⟩,
    ⟨wCmd [(16, 7), (20, 8191)], wit [(Reg.SC_STATE 7, F.SC_STATE_STATE, 3)], by decide +kernel, by decide +kernel, .inr ⟨by decide +kernel,
        by decide +kernel⟩⟩,
    ⟨wCmd [(16, 7)], wit [(Reg.SC_STATE 7, F.SC_STATE_STATE, 3)], by decide +kernel, .inr ⟨by decide +kernel, by decide +kernel⟩⟩,
    ⟨wCmd [(16, 255)], State.reset, by decide +kernel, .inr ⟨by decide +kernel, by decide +kernel⟩⟩,
    ⟨7, wit [(Reg.SC_TIMER 7, ⟨0, 32⟩, 1)], by decide +kernel, by decide +kernel, by decide +kernel⟩,
    ⟨7, 3, wit [(Reg.SC_IRQ 7, F.SC_IRQ_PENDING, 8), (Reg.SC_IRQ 7, F.SC_IRQ_ENABLE, 8), (Reg.SC_STATE 7, F.SC_STATE_STATE, 1), (Reg.SC_SR 7, ⟨0,
        16⟩, 2 ^ 15)], by decide +kernel, by decide +kernel, by decide +kernel, by decide +kernel, by decide +kernel, by decide +kernel⟩⟩

theorem test_meets_SignalCoresTakeCommandsAndInterrupts_2 :
    (∃ (k : Nat) (l : Nat) (s : State), k < 8 ∧ s.scLine k = some l ∧ (s.scCore k).pend = [] ∧ bit (s.scSr k) srIE = false ∧ s.scState k = 2) ∧
    (∃ (k : Nat) (c : Cmd) (s : State), k < 8 ∧ (s.scCore k).commit = some c) :=
  ⟨⟨7, 3, wit [(Reg.SC_IRQ 7, F.SC_IRQ_PENDING, 8), (Reg.SC_IRQ 7, F.SC_IRQ_ENABLE, 8), (Reg.SC_STATE 7, F.SC_STATE_STATE, 2)], by decide +kernel,
      by decide +kernel, by decide +kernel, by decide +kernel, by decide +kernel⟩,
    ⟨7, wCmd [], wSc 7 (0) 0 (fun z => { z with commit := some (wCmd []) }), by decide +kernel, by decide +kernel⟩⟩

theorem test_meets_RiscVInstructionsExecute_1 :
    (∃ (c : Nat) (i : Nat) (v : W64) (s : State), s.rvRuns c i ∧ ((s.core c).rv).compute i = some v) ∧
    (∃ (c : Nat) (rd : Nat) (a : Nat) (b : Nat) (s : State), rd < 32 ∧ a < 32 ∧ b < 32 ∧ s.rvRuns c (encR 0 b a 0 rd 0x33)) ∧
    (∃ (c : Nat) (i : Nat) (s : State) (v : _), c < 16 ∧ s.coreRuns c = true ∧ (s.core c).takesIrq = false ∧
        ((s.core c).rv).fetchOk ((s.core c).rv.pc.toNat) = true ∧ (leAt (memRead (s.core c).iram ((s.core c).rv.pc.toNat) 2) 0 2) % 4 ≠ 3 ∧
        rvExpand (leAt (memRead (s.core c).iram ((s.core c).rv.pc.toNat) 2) 0 2) = some i ∧ ((s.core c).rv).compute i = some v) ∧
    (∃ (c : Nat) (f3 : Nat) (rd : Nat) (a : Nat) (imm : Nat) (s : State), f3 < 7 ∧ rd < 32 ∧ a < 32 ∧ imm < 2 ^ 12 ∧
        s.rvRuns c (encI imm a f3 rd 0x03) ∧ 0x100000 ≤ ((((s.core c).rv).rx a + sx 12 imm).toNat) ∧
        ((((s.core c).rv).rx a + sx 12 imm).toNat) + (2 ^ (f3 % 4)) ≤ 0x120000 ∧ ((((s.core c).rv).rx a + sx 12 imm).toNat) % (2 ^ (f3 % 4)) = 0 ∧
        ((s.core c).rv).pmpOk ((s.core c).rv).dataMachine 1 ((((s.core c).rv).rx a + sx 12 imm).toNat) (2 ^ (f3 % 4)) = true) ∧
    (∃ (c : Nat) (f3 : Nat) (a : Nat) (b : Nat) (imm : Nat) (s : State), f3 < 4 ∧ a < 32 ∧ b < 32 ∧ imm < 2 ^ 12 ∧
        s.rvRuns c (encS imm b a f3 0x23) ∧ 0x100000 ≤ ((((s.core c).rv).rx a + sx 12 imm).toNat) ∧
        ((((s.core c).rv).rx a + sx 12 imm).toNat) + (2 ^ f3) ≤ 0x120000 ∧ ((((s.core c).rv).rx a + sx 12 imm).toNat) % (2 ^ f3) = 0 ∧
        ((s.core c).rv).pmpOk ((s.core c).rv).dataMachine 2 ((((s.core c).rv).rx a + sx 12 imm).toNat) (2 ^ f3) = true) ∧
    (∃ (c : Nat) (f3 : Nat) (a : Nat) (b : Nat) (imm : Nat) (s : State), f3 < 8 ∧ f3 ≠ 2 ∧ f3 ≠ 3 ∧ a < 32 ∧ b < 32 ∧ imm < 2 ^ 13 ∧ imm % 2 = 0 ∧
        s.rvRuns c (encB imm b a f3)) ∧
    (∃ (c : Nat) (rd : Nat) (imm : Nat) (s : State), rd < 32 ∧ imm < 2 ^ 21 ∧ imm % 2 = 0 ∧ s.rvRuns c (encJ imm rd)) ∧
    (∃ (c : Nat) (s : State), s.rvRuns c 0x00000073) :=
  ⟨⟨15, encR 0 31 31 0 31 0x33, 0, wRv 15 (leBytes 4 (encR 0 31 31 0 31 0x33)) id, by unfold State.rvRuns; decide +kernel, by decide +kernel⟩,
    ⟨15, 31, 31, 31, wRv 15 (leBytes 4 (encR 0 31 31 0 31 0x33)) id, by decide +kernel, by decide +kernel, by decide +kernel,
        by unfold State.rvRuns; decide +kernel⟩,
    ⟨15, 0x13, wRv 15 (leBytes 2 (1)) id, 0, by decide +kernel, by decide +kernel, by decide +kernel, by decide +kernel, by decide +kernel,
        by decide +kernel, by decide +kernel⟩,
    ⟨15, 6, 31, 31, 4095, wRv 15 (leBytes 4 (encI 4095 31 6 31 0x03)) fun r => { r with x := [(31, 0x11FFFD)] }, by decide +kernel,
        by decide +kernel, by decide +kernel, by decide +kernel, by unfold State.rvRuns; decide +kernel, by decide +kernel, by decide +kernel,
        by decide +kernel, by decide +kernel⟩,
    ⟨15, 3, 31, 31, 4091, wRv 15 (leBytes 4 (encS 4091 31 31 3 0x23)) fun r => { r with x := [(31, 0x11FFFD)] }, by decide +kernel,
        by decide +kernel, by decide +kernel, by decide +kernel, by unfold State.rvRuns; decide +kernel, by decide +kernel, by decide +kernel,
        by decide +kernel, by decide +kernel⟩,
    ⟨15, 7, 31, 31, 8190, wRv 15 (leBytes 4 (encB 8190 31 31 7)) id, by decide +kernel, by decide +kernel, by decide +kernel, by decide +kernel,
        by decide +kernel, by decide +kernel, by decide +kernel, by unfold State.rvRuns; decide +kernel⟩,
    ⟨15, 31, 2097150, wRv 15 (leBytes 4 (encJ 2097150 31)) id, by decide +kernel, by decide +kernel, by decide +kernel,
        by unfold State.rvRuns; decide +kernel⟩,
    ⟨15, wRv 15 (leBytes 4 (0x73)) id, by unfold State.rvRuns; decide +kernel⟩⟩

theorem test_meets_RiscVInstructionsExecute_2 :
    (∃ (c : Nat) (i : Nat) (s : State), s.rvRuns c i ∧ i % 128 ∈ [0x33, 0x3B, 0x13, 0x1B] ∧ ((s.core c).rv).compute i = none) ∧
    (∃ (c : Nat) (s : State), s.rvRuns c 0x30200073 ∧ ((s.core c).rv).machine = true) ∧
    (∃ (c : Nat) (errs : List (Nat × Bool)) (s : State), c < 16 ∧ s.coreRuns c = true ∧ (s.core c).takesIrq = true) ∧
    (∃ (c : Nat) (w : Nat) (ar : Nat) (rd : Nat) (a : Nat) (s : State), (w = 1 ∨ w = 2) ∧ ar < 4 ∧ rd < 32 ∧ a < 32 ∧
        s.rvRuns c (encR (0x08 + ar) 0 a (w + 1) rd 0x2F) ∧ 0x100000 ≤ ((((s.core c).rv).rx a).toNat) ∧
        ((((s.core c).rv).rx a).toNat) + (4 * w) ≤ 0x120000 ∧ ((((s.core c).rv).rx a).toNat) % (4 * w) = 0 ∧
        ((s.core c).rv).pmpOk ((s.core c).rv).dataMachine 1 ((((s.core c).rv).rx a).toNat) (4 * w) = true) ∧
    (∃ (c : Nat) (w : Nat) (ar : Nat) (rd : Nat) (a : Nat) (b : Nat) (s : State), (w = 1 ∨ w = 2) ∧ ar < 4 ∧ rd < 32 ∧ a < 32 ∧ b < 32 ∧
        s.rvRuns c (encR (0x0C + ar) b a (w + 1) rd 0x2F) ∧ 0x100000 ≤ ((((s.core c).rv).rx a).toNat) ∧
        ((((s.core c).rv).rx a).toNat) + (4 * w) ≤ 0x120000 ∧ ((((s.core c).rv).rx a).toNat) % (4 * w) = 0 ∧
        ((s.core c).rv).pmpOk ((s.core c).rv).dataMachine 2 ((((s.core c).rv).rx a).toNat) (4 * w) = true) ∧
    (∃ (c : Nat) (w : Nat) (f5 : Nat) (ar : Nat) (rd : Nat) (a : Nat) (b : Nat) (s : State), (w = 1 ∨ w = 2) ∧ f5 ∈ [0x00, 0x01, 0x04, 0x08, 0x0C,
        0x10, 0x14, 0x18, 0x1C] ∧ ar < 4 ∧ rd < 32 ∧ a < 32 ∧ b < 32 ∧ s.rvRuns c (encR (4 * f5 + ar) b a (w + 1) rd 0x2F) ∧
        0x100000 ≤ ((((s.core c).rv).rx a).toNat) ∧ ((((s.core c).rv).rx a).toNat) + (4 * w) ≤ 0x120000 ∧
        ((((s.core c).rv).rx a).toNat) % (4 * w) = 0 ∧
        ((s.core c).rv).pmpOk ((s.core c).rv).dataMachine 3 ((((s.core c).rv).rx a).toNat) (4 * w) = true) :=
  ⟨⟨15, 0xFE000033, wRv 15 (leBytes 4 (0xFE000033)) id, by unfold State.rvRuns; decide +kernel, by decide +kernel, by decide +kernel⟩,
    ⟨15, wRv 15 (leBytes 4 (0x30200073)) fun r => { r with mepc := 0x2000 }, by unfold State.rvRuns; decide +kernel, by decide +kernel⟩,
    ⟨15, [], { (wRv 15 (leBytes 4 (0x13)) id) with wc := { State.reset.wc with cores := [(15, { rv := { mie := 0x800, mstatus := 0x8 }, notice := [5] })] } },
        by decide +kernel, by decide +kernel, by decide +kernel⟩,
    ⟨15, 2, 3, 31, 31, wRv 15 (leBytes 4 (encR 0x0B 0 31 3 31 0x2F)) fun r => { r with x := [(30, 7), (31, 0x11FFF8)] }, by decide +kernel,
        by decide +kernel, by decide +kernel, by decide +kernel, by unfold State.rvRuns; decide +kernel, by decide +kernel, by decide +kernel,
        by decide +kernel, by decide +kernel⟩,
    ⟨15, 2, 3, 29, 31, 30, wRv 15 (leBytes 4 (encR 0x0F 30 31 3 29 0x2F)) fun r => { r with x := [(30, 7), (31, 0x11FFF8)], resv := some (0x11FFF8, 8) },
        by decide +kernel, by decide +kernel, by decide +kernel, by decide +kernel, by decide +kernel, by unfold State.rvRuns; decide +kernel,
        by decide +kernel, by decide +kernel, by decide +kernel, by decide +kernel⟩,
    ⟨15, 2, 0x1C, 3, 29, 31, 30, wRv 15 (leBytes 4 (encR (4 * 0x1C + 3) 30 31 3 29 0x2F)) fun r => { r with x := [(30, 7), (31, 0x11FFF8)] },
        by decide +kernel, by decide +kernel, by decide +kernel, by decide +kernel, by decide +kernel, by decide +kernel,
        by unfold State.rvRuns; decide +kernel, by decide +kernel, by decide +kernel, by decide +kernel, by decide +kernel⟩⟩

theorem test_meets_WorkItemCommandsTakeEffect :
    (∃ (c : Cmd) (s : State), (c.u 16 2) < 4096 ∧ c.b 18 < 8 ∧ c.b 19 < 16 ∧ (c.u 24 8) % 2 = 0 ∧ (c.u 24 8) < 0x20000 ∧ (c.u 40 8) % 16 = 0 ∧
        0x100010 ≤ (c.u 40 8) ∧ (c.u 40 8) ≤ 0x11F000 ∧ c.u 20 2 ≠ 0 ∧ (∀ k, k < 16 → s.regionState k ≠ 2) ∧ s.may c 0x0C01 .pfWc [] [(16, 2), (18,
        1), (19, 1), (20, 2), (24, 8), (32, 8), (40, 8)] (s.itemState (c.u 16 2) = iFree)) ∧
    (∃ (c : Cmd) (s : State), (c.u 16 2) < 4096 ∧ (s.may c 0x0C02 .pfWc [] [(16,
        2)] (s.itemState (c.u 16 2) = iIdle ∨ s.itemState (c.u 16 2) = iFaulted))) ∧
    (∃ (c : Cmd) (s : State), (c.u 16 2) < 4096 ∧ (s.itemState (c.u 16 2)) ≠ iFree ∧ (s.itemState (c.u 16 2)) ≠ iFaulted ∧ (∀ k,
        k < 16 → s.regionState k ≠ 2) ∧ s.may c 0x0C03 .pfWc [] [(16, 2)] True) ∧
    (∃ (c : Cmd) (s : State), (c.u 16 2) < 1024 ∧ c.u 20 2 = 1 ∧ s.may c 0x0C04 .pfWc [] [(16, 2), (20, 2)] True) :=
  ⟨⟨wCmd [(16, 4095), (18, 7), (19, 8), (20, 0x8000), (24, 0x1FFFE), (40, 0x11F000)], State.reset, by decide +kernel, by decide +kernel,
      by decide +kernel, by decide +kernel, by decide +kernel, by decide +kernel, by decide +kernel, by decide +kernel, by decide +kernel,
      by decide +kernel, .inr ⟨by decide +kernel, by decide +kernel⟩⟩,
    ⟨wCmd [(16, 4095)], wit [(Reg.WI_STATUS 4095, F.WI_STATUS_STATE, iFaulted)], by decide +kernel, .inr ⟨by decide +kernel, by decide +kernel⟩⟩,
    ⟨wCmd [(16, 4095)], wit [(Reg.WI_STATUS 4095, F.WI_STATUS_STATE, iIdle)], by decide +kernel, by decide +kernel, by decide +kernel,
        by decide +kernel, .inr ⟨by decide +kernel, by decide +kernel⟩⟩,
    ⟨wCmd [(16, 1023), (20, 1)], State.reset, by decide +kernel, by decide +kernel, .inr ⟨by decide +kernel, by decide +kernel⟩⟩⟩

theorem test_meets_WorkCoresChangeState_1 :
    (∃ (c : Cmd) (s : State), (c.b 16) < 16 ∧ 1 ≤ c.u 20 4 ∧ c.u 20 4 ≤ 60000 ∧ s.coreState (c.b 16) = kOnline ∧ s.may c 0x0C05 .pf [] [(16, 1),
        (20, 4)] True) ∧
    (∃ (c : Cmd) (s : State), (c.b 16) < 16 ∧ c.b 17 < 2 ∧ s.coreState (c.b 16) ∈ [kDraining, kOffline, kFaulted] ∧ s.may c 0x0C06 .pf [] [(16, 1),
        (17, 1)] True) ∧
    (∃ (c : Cmd) (s : State), (c.b 16) < 16 ∧ isSram (c.u 24 8) = true ∧ (c.u 32 4) % 8 = 0 ∧ (c.u 32 4) ≤ 0x20000 ∧
        (c.u 24 8) + (c.u 32 4) ≤ sramSize ∧ (c.u 40 8) % 4096 = 0 ∧ (c.u 40 8) + 0x20000 ≤ secureBase ∧ s.sramReady (c.u 24 8) (c.u 32 4) = true ∧
        s.sramReady (c.u 40 8) 0x20000 = true ∧ s.poisoned (c.u 24 8) (c.u 32 4) = none ∧ s.coreState (c.b 16) = kOnline ∧
        s.may c 0x0C07 .pf [((c.u 24 8), (c.u 32 4)), ((c.u 40 8), 0x20000)] [(16, 1), (20, 4), (24, 8), (32, 4), (36, 4), (40,
        8)] ((s.core (c.b 16)).reload = none ∧ (s.core (c.b 16)).drainWhy ≠ 2 ∧ s.mode ≠ mBoot)) ∧
    (∃ (c : Cmd) (s : State), (c.b 16) < 16 ∧ isSram (c.u 24 8) = true ∧ (c.u 32 4) % 8 = 0 ∧ (c.u 32 4) ≤ 0x20000 ∧
        (c.u 24 8) + (c.u 32 4) ≤ sramSize ∧ (c.u 40 8) % 4096 = 0 ∧ (c.u 40 8) + 0x20000 ≤ secureBase ∧
        ((c.u 24 8) + (c.u 32 4) ≤ (c.u 40 8) ∨ (c.u 40 8) + 0x20000 ≤ (c.u 24 8)) ∧ s.sramReady (c.u 24 8) (c.u 32 4) = true ∧
        s.sramReady (c.u 40 8) 0x20000 = true ∧ s.poisoned (c.u 24 8) (c.u 32 4) = none ∧ crc32c (s.sramRead (c.u 24 8) (c.u 32 4)) = c.u 36 4 ∧
        s.coreState (c.b 16) = kOffline ∧ s.may c 0x0C07 .pf [((c.u 24 8), (c.u 32 4)), ((c.u 40 8), 0x20000)] [(16, 1), (20, 4), (24, 8), (32, 4),
        (36, 4), (40, 8)] ((s.core (c.b 16)).reload = none ∧ (s.core (c.b 16)).drainWhy ≠ 2 ∧ s.mode ≠ mBoot)) ∧
    (∃ (k : Nat) (d : Cmd) (s : State), k < 16 ∧ s.coreState k = kDraining ∧ s.drained k = true ∧ (s.core k).drainWhy = 1 ∧
        (s.core k).drainCmd = some d) ∧
    (∃ (k : Nat) (d : Cmd) (s : State), k < 16 ∧ s.coreState k = kDraining ∧ (s.core k).drainWhy ≠ 3 ∧ (s.core k).drainCmd = some d) ∧
    (∃ (k : Nat) (cause : Nat) (i : Instr) (s : State), ((i = .wcCoreFault k cause ∧ s.coreState k ∈ [kInit, kOnline, kDraining,
        kReloading]) ∨ (i = .schFaultStore k ∧ cause = 3 ∧ s.coreState k ∈ [kInit, kOnline, kDraining, kReloading]) ∨ (i = .initTimeout k ∧
        cause = 4 ∧ s.coreState k = kInit)) ∧ k < 16 ∧ (s.core k).reload = none ∧ (s.core k).drainCmd = none ∧ (∀ j,
        j ∈ s.itemsOn k → (s.item j).waitOn < 1024)) ∧
    (∃ (k : Nat) (s : State), k < 16 ∧ s.coreState k = kInit ∧ (s.core k).reload = none) :=
  ⟨⟨wCmd [(16, 15), (20, 60000)], wit [(Reg.WC_STATE 15, F.WC_STATE_STATE, kOnline)], by decide +kernel, by decide +kernel, by decide +kernel,
      by decide +kernel, .inr ⟨by decide +kernel, by decide +kernel⟩⟩,
    ⟨wCmd [(16, 15), (17, 1)], wit [(Reg.WC_STATE 15, F.WC_STATE_STATE, kFaulted)], by decide +kernel, by decide +kernel, by decide +kernel,
        .inr ⟨by decide +kernel, by decide +kernel⟩⟩,
    ⟨wCmd [(16, 15), (24, 0x1000), (32, 0), (36, crc32c []), (40, secureBase - 0x20000)], wit [(Reg.DEV_MODE, F.DEV_MODE_MODE, 1), (Reg.WC_STATE 15,
        F.WC_STATE_STATE, kOnline)], by decide +kernel, by decide +kernel, by decide +kernel, by decide +kernel, by decide +kernel,
        by decide +kernel, by decide +kernel, by decide +kernel, by decide +kernel, by decide +kernel, by decide +kernel, .inr ⟨by decide +kernel,
        by decide +kernel⟩⟩,
    ⟨wCmd [(16, 15), (24, 0x1000), (32, 0), (36, crc32c []), (40, secureBase - 0x20000)], wit [(Reg.DEV_MODE, F.DEV_MODE_MODE, 1), (Reg.WC_STATE 15,
        F.WC_STATE_STATE, kOffline)], by decide +kernel, by decide +kernel, by decide +kernel, by decide +kernel, by decide +kernel,
        by decide +kernel, by decide +kernel, by decide +kernel, by decide +kernel, by decide +kernel, by decide +kernel, by decide +kernel,
        by decide +kernel, .inr ⟨by decide +kernel, by decide +kernel⟩⟩,
    ⟨15, wCmd [], wCore 15 [(Reg.WC_STATE 15, F.WC_STATE_STATE, kDraining)] { drainWhy := 1, drainCmd := some (wCmd []) } [], by decide +kernel,
        by decide +kernel, by decide +kernel, by decide +kernel, by decide +kernel⟩,
    ⟨15, wCmd [], wCore 15 [(Reg.WC_STATE 15, F.WC_STATE_STATE, kDraining)] { drainWhy := 2, drainCmd := some (wCmd []) } [], by decide +kernel,
        by decide +kernel, by decide +kernel, by decide +kernel⟩,
    ⟨15, 4, .initTimeout 15, wit [(Reg.WC_STATE 15, F.WC_STATE_STATE, kInit)], .inr (.inr ⟨rfl, rfl, by decide +kernel⟩), by decide +kernel,
        by decide +kernel, by decide +kernel, by decide +kernel⟩,
    ⟨15, wit [(Reg.WC_STATE 15, F.WC_STATE_STATE, kInit)], by decide +kernel, by decide +kernel, by decide +kernel⟩⟩

theorem test_meets_WorkCoresChangeState_2 :
    ∃ (k : Nat) (r : ReloadSt) (s : State), k < 16 ∧ s.coreState k = kInit ∧ (s.core k).reload = some r :=
  ⟨15, ⟨wCmd [], kOffline⟩, wCore 15 [(Reg.WC_STATE 15, F.WC_STATE_STATE, kInit)] { reload := some ⟨wCmd [], kOffline⟩ } [], by decide +kernel,
      by decide +kernel, by decide +kernel⟩

theorem test_meets_SchedulerMovesItems_1 :
    (∃ (i : Nat) (c : Nat) (s : State), (∀ k, k < 16 → (s.core k).notice = [] ∧ s.regionState k ≠ 2) ∧
        s.firstItem (s.waitingItems.filter fun j => (s.freeCoreFor j).isSome) = some i ∧ s.freeCoreFor i = some c ∧ c < 16) ∧
    (∃ (c : Nat) (s : State), c < 16 ∧ s.coreBusy c = true) ∧
    (∃ (c : Nat) (n : Nat) (s : State), c < 16 ∧ s.coreBusy c = true ∧ s.freeFrame c = some n) ∧
    (∃ (c : Nat) (v : Nat) (s : State), s.itemState (v % 4096) = iIdle) ∧
    (∃ (c : Nat) (v : Nat) (s : State), (s.itemState (v % 4096) = iFree ∨ s.itemState (v % 4096) = iFaulted) ∧ (∀ k, k < 16 → s.regionState k ≠ 2)) ∧
    (∃ (c : Nat) (v : Nat) (s : State), c < 16 ∧ s.coreBusy c = true ∧ 0 < s.fld (Reg.WO_STATUS (v % 1024)) F.WO_STATUS_COUNT) ∧
    (∃ (c : Nat) (v : Nat) (n : Nat) (s : State), c < 16 ∧ s.coreBusy c = true ∧ s.fld (Reg.WO_STATUS (v % 1024)) F.WO_STATUS_COUNT = 0 ∧
        ((s.core c).waitTmo = 0 ∨ timePast (s.core c).waitTmo s.cell = false) ∧ s.freeFrame c = some n) ∧
    (∃ (c : Nat) (k : Nat) (go : Nat) (s : State), c < 16 ∧ k < 4 ∧ (s.slot c k).state ≠ 1) :=
  ⟨⟨4095, 15, wit [(Reg.WC_STATE 15, F.WC_STATE_STATE, kOnline), (Reg.WI_STATUS 4095, F.WI_STATUS_STATE, iReady), (Reg.WI_STATUS 4095,
      F.WI_STATUS_CORE_MASK, 0x8000)], by decide +kernel, by decide +kernel, by decide +kernel, by decide +kernel⟩,
    ⟨15, wit [(Reg.WC_STATE 15, F.WC_STATE_BUSY, 1), (Reg.WC_STATE 15, F.WC_STATE_ITEM, 4095)], by decide +kernel, by decide +kernel⟩,
    ⟨15, 0, wit [(Reg.WC_STATE 15, F.WC_STATE_BUSY, 1), (Reg.WC_STATE 15, F.WC_STATE_ITEM, 4095)], by decide +kernel, by decide +kernel,
        by decide +kernel⟩,
    ⟨15, 4095, wit [(Reg.WI_STATUS 4095, F.WI_STATUS_STATE, iIdle)], by decide +kernel⟩,
    ⟨15, 4095, State.reset, by decide +kernel, by decide +kernel⟩,
    ⟨15, 1023, wit [(Reg.WC_STATE 15, F.WC_STATE_BUSY, 1), (Reg.WC_STATE 15, F.WC_STATE_ITEM, 4095), (Reg.WO_STATUS 1023, F.WO_STATUS_COUNT, 1)],
        by decide +kernel, by decide +kernel, by decide +kernel⟩,
    ⟨15, 1023, 0, wit [(Reg.WC_STATE 15, F.WC_STATE_BUSY, 1), (Reg.WC_STATE 15, F.WC_STATE_ITEM, 4095)], by decide +kernel, by decide +kernel,
        by decide +kernel, by decide +kernel, by decide +kernel⟩,
    ⟨15, 3, 0xFFFF, State.reset, by decide +kernel, by decide +kernel, by decide +kernel⟩⟩

theorem test_meets_SchedulerMovesItems_2 :
    (∃ (c : Nat) (k : Nat) (go : Nat) (s : State), c < 16 ∧ k < 4 ∧ (s.slot c k).state = 1) ∧
    (∃ (i : Nat) (s : State), i < 4096 ∧ s.itemState i = iWaiting ∧ ((s.item i).deadline) ≠ 0 ∧
        timePast (waitTick ((s.item i).deadline)) s.cell = true ∧ (s.item i).waitOn < 1024) ∧
    (∃ (c : Nat) (s : State), s.coreBusy c = true ∧ (s.fld Reg.SCH_CTRL F.SCH_CTRL_RUN_WARN) ≠ 0 ∧
        (s.fld Reg.SCH_CTRL F.SCH_CTRL_RUN_WARN) < (s.u - (s.item (s.coreItem c)).runFrom.toNat) / 16000 ∧
        (s.item (s.coreItem c)).warned = false) :=
  ⟨⟨15, 3, 0, wCore 15 [] { slots := [(3, ⟨1, none⟩)] } [], by decide +kernel, by decide +kernel, by decide +kernel⟩,
    ⟨4095, { (wCore 15 [(Reg.WI_STATUS 4095, F.WI_STATUS_STATE, iWaiting)] {} [(4095, { deadline := 1, waitOn := 1023 })]) with time := { State.reset.time with raw := 0x100000000000 } },
        by decide +kernel, by decide +kernel, by decide +kernel, by decide +kernel, by decide +kernel⟩,
    ⟨15, { wit [(Reg.WC_STATE 15, F.WC_STATE_BUSY, 1), (Reg.WC_STATE 15, F.WC_STATE_ITEM, 4095), (Reg.SCH_CTRL, F.SCH_CTRL_RUN_WARN, 1)] with time := { State.reset.time with raw := 0x100000000000 } },
        by decide +kernel, by decide +kernel, by decide +kernel, by decide +kernel⟩⟩

theorem test_meets_TwinPathsAreWatched_1 :
    (∃ (a : W64) (f : RawFrame) (back : Int) (s : State), s.twinOn = true ∧ f.valid = true ∧ f.kind = 1 ∧ (s.role = 0 ∨ (s.role = 1 ∧
        (oct f.payload 8) % 4 ≠ 0 ∧ ((oct f.payload 8) % 4 = 1 → s.twinHome = true)))) ∧
    (∃ (a : W64) (f : RawFrame) (back : Int) (s : State), s.twinOn = true ∧ f.valid = true ∧ f.kind = 1 ∧ s.role = 1 ∧
        ((oct f.payload 8) % 4 = 0 ∨ ((oct f.payload 8) % 4 = 1 ∧ s.twinHome = false))) ∧
    (∃ (a : W64) (f : RawFrame) (back : Int) (s : State), s.twinOn = true ∧ f.valid = true ∧ f.kind = 1 ∧ s.role = 2 ∧ s.twin.joinCmd = none) ∧
    (∃ (s : State), s.twinOn = true ∧ s.armed 0 = true ∧ s.twin.closed = false ∧ timePast (s.link.tk + 16000) s.cell = true ∧
        s.twin.pending = false ∧ bit s.twin.heard 0 = true ∧ bit s.twin.heard 1 = true) ∧
    (∃ (s : State), s.twinOn = true ∧ s.armed 0 = true ∧ s.twin.closed = false ∧ timePast (s.link.tk + 16000) s.cell = true ∧
        s.twin.pending = false ∧ bit s.twin.heard 0 = false ∧ bit s.twin.heard 1 = true ∧ 0 < s.failN ∧
        s.failN ≤ (satU 8 (s.fld Reg.TWIN_MISS F.TWIN_MISS_T0_RUN + 1)) ∧ bit s.twin.lost 0 = false) ∧
    (∃ (s : State), s.twinOn = true ∧ s.armed 0 = true ∧ s.twin.closed = false ∧ timePast (s.link.tk + 16000) s.cell = true ∧
        s.twin.pending = false ∧ bit s.twin.heard 0 = false ∧ bit s.twin.heard 1 = false ∧
        s.failN ≤ (satU 8 (s.fld Reg.TWIN_MISS F.TWIN_MISS_T0_RUN + 1)) ∧ s.failN ≤ (satU 8 (s.fld Reg.TWIN_MISS F.TWIN_MISS_PAIR_RUN + 1)) ∧
        (¬ (s.failN ≤ s.fld Reg.TWIN_MISS F.TWIN_MISS_T0_RUN ∧ s.failN ≤ s.fld Reg.TWIN_MISS F.TWIN_MISS_PAIR_RUN)) ∧ 1 ≤ s.role) ∧
    (∃ (z : Nat) (t0 : W64) (s : State), z < 16 ∧ tabGet (fun _ => none) s.twin.differ z = some t0 ∧ bit s.twin.noted z = false ∧
        timePast (t0 + 1600000000) s.cell = true) ∧
    (∃ (s : State), s.role = 2 ∧ s.failN ≤ s.twin.without) :=
  ⟨⟨5, wTwinFrame 1 0 0 (leBytes 16 (1 * 2 ^ 64)), 0, wTwin 1 [(Reg.TWIN_CTRL, F.TWIN_CTRL_HOME, 1)] id, by decide +kernel, by decide +kernel,
      by decide +kernel, by decide +kernel⟩,
    ⟨5, wTwinFrame 1 0 0 (leBytes 16 (0 * 2 ^ 64)), 0, wTwin 1 [] id, by decide +kernel, by decide +kernel, by decide +kernel, by decide +kernel,
        by decide +kernel⟩,
    ⟨5, wTwinFrame 1 0 0 (leBytes 16 (1 * 2 ^ 64)), 0, wTwin 2 [] id, by decide +kernel, by decide +kernel, by decide +kernel, by decide +kernel,
        by decide +kernel⟩,
    ⟨wLate (wTwin 1 [(Reg.ACT_STATUS 0, F.ACT_STATUS_ARMED, 1), (Reg.TWIN_CTRL, F.TWIN_CTRL_FAIL_N, 1)] (fun z => { z with heard := 3 })),
        by decide +kernel, by decide +kernel, by decide +kernel, by decide +kernel, by decide +kernel, by decide +kernel, by decide +kernel⟩,
    ⟨wLate (wTwin 1 [(Reg.ACT_STATUS 0, F.ACT_STATUS_ARMED, 1), (Reg.TWIN_CTRL, F.TWIN_CTRL_FAIL_N, 1)] (fun z => { z with heard := 2 })),
        by decide +kernel, by decide +kernel, by decide +kernel, by decide +kernel, by decide +kernel, by decide +kernel, by decide +kernel,
        by decide +kernel, by decide +kernel, by decide +kernel⟩,
    ⟨wLate (wTwin 2 [(Reg.ACT_STATUS 0, F.ACT_STATUS_ARMED, 1), (Reg.TWIN_CTRL, F.TWIN_CTRL_FAIL_N, 1), (Reg.TWIN_STATUS, F.TWIN_STATUS_SYNCED,
        1)] id), by decide +kernel, by decide +kernel, by decide +kernel, by decide +kernel, by decide +kernel, by decide +kernel,
        by decide +kernel, by decide +kernel, by decide +kernel, by decide +kernel, by decide +kernel⟩,
    ⟨15, 0, wLate (wTwin 1 [] (fun z => { z with differ := [(15, some 0)] })), by decide +kernel, by decide +kernel, by decide +kernel,
        by decide +kernel⟩,
    ⟨wTwin 2 [(Reg.TWIN_CTRL, F.TWIN_CTRL_FAIL_N, 1)] (fun z => { z with without := 1 }), by decide +kernel, by decide +kernel⟩⟩

theorem test_meets_TwinPathsAreWatched_2 :
    (∃ (lane : Nat) (delay : Nat) (s : State), lane < 2) ∧
    (∃ (lane : Nat) (delay : Nat) (s : State), lane < 2) :=
  ⟨⟨1, 70000, State.reset, by decide +kernel⟩,
    ⟨1, 70000, State.reset, by decide +kernel⟩⟩

theorem test_meets_TwinFramesAreTaken_1 :
    (∃ (i : Instr) (k : Nat) (lane : Nat) (f : RawFrame) (back : Int) (a : W64) (p : TickPart) (es : List JEntry) (n : Nat) (m : TwinMsg) (s : State),
        s.twinOn = true ∧ ((i = .beatReceive a f back ∧ f.valid = false ∧ k = f.kind ∧ lane = 0) ∨ (2 ≤ s.role ∧ ((i = .txFrameReceive f ∧
        f.valid = false ∧ k = f.kind ∧ lane = 0) ∨ (i = .cycFrameReceive lane f ∧ f.valid = false ∧
        k = f.kind) ∨ (i = .tickFrameReceive lane false p ∧ k = 7) ∨ (i = .jrnlFrameReceive lane false es ∧ k = 8))) ∨ (s.role = 1 ∧
        ((i = .fbFrameReceive lane f ∧ f.valid = false ∧ k = f.kind) ∨ (i = .rxFrameReceive lane false f ∧
        k = 4) ∨ (i = .portFrameReceive false [] [] [] ∧ k = 5 ∧ lane = 0) ∨ (i = .ackFrameReceive false n ∧ k = 9 ∧
        lane = 0))) ∨ (i = .controlFrameReceive false m ∧ k = 10 ∧ lane = 0))) ∧
    (∃ (f : RawFrame) (e : Nat) (x : Ent) (s : State), s.twinOn = true ∧ 2 ≤ s.role ∧ f.valid = true ∧ f.kind = 2 ∧ keyOf f = s.cycleKey ∧
        ((s.ents (oct f.header 1 / 64 % 2)).find? fun e => e.2.slot == f.slot && e.2.fromDevice) = some (e, x)) ∧
    (∃ (lane : Nat) (s : State), s.twinOn = true ∧ 2 ≤ s.role ∧ lane < 2 ∧
        s.flag Reg.TWIN_STATUS (if lane = 0 then F.TWIN_STATUS_T0_UP else F.TWIN_STATUS_T1_UP) = true) ∧
    (∃ (lane : Nat) (f : RawFrame) (s : State), s.twinOn = true ∧ s.role = 1 ∧ f.valid = true ∧ f.kind = 3 ∧ s.link.cut = false ∧
        keyOf f = s.cycleKey) ∧
    (∃ (lane : Nat) (f : RawFrame) (e : Nat) (x : Ent) (i : Instr) (s : State), s.twinOn = true ∧ s.role = 1 ∧ f.valid = true ∧
        ((s.ents s.bankUsed).find? fun e => e.2.slot == f.slot && !e.2.fromDevice && e.2.onCh s.farCh) = some (e, x) ∧ ((f.kind = 4 ∧
        i = .dataReceive s.farCh (s.nodePort s.bankUsed f.src) f) ∨ (f.kind = 5 ∧
        i = .arbReceive s.farCh (s.nodePort s.bankUsed f.src) f) ∨ (f.kind = 6 ∧
        i = .streamFrameReceive s.farCh (s.nodePort s.bankUsed f.src) f) ∨ (f.kind = 7 ∧
        i = .mgmtReceive s.farCh (s.nodePort s.bankUsed f.src) f) ∨ (f.kind = 8 ∧ i = .joinReqReceive s.farCh (s.nodePort s.bankUsed f.src) f))) ∧
    (∃ (x : PortRep) (s : State), s.twinOn = true ∧ s.role = 1 ∧ x.port < s.nPorts) ∧
    (∃ (lane : Nat) (f : RawFrame) (s : State), s.twinOn = true ∧ 2 ≤ s.role ∧ f.valid = true ∧ f.kind = 6 ∧ f.aux = 1 ∧ f.slot = 0 ∧
        s.twin.frags = [] ∧ s.twin.joinCmd = none) ∧
    (∃ (lane : Nat) (f : RawFrame) (s : State), s.twinOn = true ∧ 2 ≤ s.role ∧ f.valid = true ∧ f.kind = 6 ∧ f.slot = 0 ∧ 1 < f.aux ∧
        s.twin.frags = []) :=
  ⟨⟨.jrnlFrameReceive 1 false [], 8, 1, wTwinFrame 1 0 0 (leBytes 16 (0 * 2 ^ 64)), 0, 0, ⟨0, [], [], [], [], []⟩, [], 0, .handover true,
      wTwin 2 [] id, by decide +kernel, .inr (.inl ⟨by decide +kernel, .inr (.inr (.inr ⟨rfl, rfl⟩))⟩)⟩,
    ⟨wTwinFrame 2 5 0 (List.replicate 16 1), 0, wEnt (wLink lRunning 0 kData 0 (2 ^ 20) 2 (2 ^ 19) [(Reg.TWIN_CTRL, F.TWIN_CTRL_ENABLE, 1),
        (Reg.DEV_MODE, F.DEV_MODE_TWIN_ROLE, 2)]), wLink lRunning 0 kData 0 (2 ^ 20) 2 (2 ^ 19) [(Reg.TWIN_CTRL, F.TWIN_CTRL_ENABLE, 1),
        (Reg.DEV_MODE, F.DEV_MODE_TWIN_ROLE, 2)], by decide +kernel, by decide +kernel, by decide +kernel, by decide +kernel, by decide +kernel,
        by decide +kernel⟩,
    ⟨1, wTwin 2 [(Reg.TWIN_STATUS, F.TWIN_STATUS_T0_UP, 1), (Reg.TWIN_STATUS, F.TWIN_STATUS_T1_UP, 1)] id, by decide +kernel, by decide +kernel,
        by decide +kernel, by decide +kernel⟩,
    ⟨1, wTwinFrame 3 0 0 (List.replicate 256 1), wTwin 1 [] id, by decide +kernel, by decide +kernel, by decide +kernel, by decide +kernel,
        by decide +kernel, by decide +kernel⟩,
    ⟨1, (wit [(Reg.LINK_STATION, F.LINK_STATION_STATION_ID, 240)]).twinFrame 4 5 0 0 (List.replicate 16 1), 0,
        wEnt (wLink lRunning 1 kData 240 (2 ^ 19) 2 (2 ^ 20) [(Reg.TWIN_CTRL, F.TWIN_CTRL_ENABLE, 1), (Reg.DEV_MODE, F.DEV_MODE_TWIN_ROLE, 1),
        (Reg.SB_NODE0 0 240, F.SB_NODE0_PORT, 19)]), .dataReceive 1 19 ((wit [(Reg.LINK_STATION, F.LINK_STATION_STATION_ID,
        240)]).twinFrame 4 5 0 0 (List.replicate 16 1)), wLink lRunning 1 kData 240 (2 ^ 19) 2 (2 ^ 20) [(Reg.TWIN_CTRL, F.TWIN_CTRL_ENABLE, 1),
        (Reg.DEV_MODE, F.DEV_MODE_TWIN_ROLE, 1), (Reg.SB_NODE0 0 240, F.SB_NODE0_PORT, 19)], by decide +kernel, by decide +kernel,
        by decide +kernel, by decide +kernel, .inl ⟨by decide +kernel, by decide +kernel⟩⟩,
    ⟨⟨19, 0, 5⟩, wTwin 1 [] id, by decide +kernel, by decide +kernel, by decide +kernel⟩,
    ⟨1, wTwinFrame 6 0 1 (List.replicate 64 0), wTwin 2 [] id, by decide +kernel, by decide +kernel, by decide +kernel, by decide +kernel,
        by decide +kernel, by decide +kernel, by decide +kernel, by decide +kernel⟩,
    ⟨1, wTwinFrame 6 0 2 (List.replicate 64 0), wTwin 2 [] id, by decide +kernel, by decide +kernel, by decide +kernel, by decide +kernel,
        by decide +kernel, by decide +kernel, by decide +kernel⟩⟩

theorem test_meets_TwinFramesAreTaken_2 :
    (∃ (lane : Nat) (p : TickPart) (s : State), s.twinOn = true ∧ 2 ≤ s.role) ∧
    (∃ (lane : Nat) (o : Nat) (g : Nat) (v : Word) (md : Option PlModel) (s : State), s.twinOn = true ∧ 2 ≤ s.role ∧ s.twin.joinCmd = none ∧
        mirrored (blockOf o) = true ∧ ownReg o = false) ∧
    (∃ (n : Nat) (s : State), s.twinOn = true ∧ s.role = 1) :=
  ⟨⟨1, ⟨0, [], [], [], [], []⟩, wTwin 2 [] id, by decide +kernel, by decide +kernel⟩,
    ⟨1, Reg.ACT_TIME 5, 15, 7, some wModel, wTwin 2 [] id, by decide +kernel, by decide +kernel, by decide +kernel, by decide +kernel,
        by decide +kernel⟩,
    ⟨2, wTwin 1 [] (fun z => { z with journal := [1, 2, 3] }), by decide +kernel, by decide +kernel⟩⟩

theorem test_meets_UnitsJoinAndHandOver_1 :
    (∃ (c : Cmd) (s : State), s.may c 0x0E01 .pf [] [] (s.mode = mConfig ∧ s.role = 0 ∧ s.twinOn = true ∧ s.twin.joinCmd = none ∧
        s.linkState = lStopped ∧ s.armedEntries = []) ∧ (s.wakeDom (domainOf 14)).joinCheck = 0) ∧
    (∃ (c : Cmd) (s : State) (n : _), s.may c 0x0E01 .pf [] [] (s.mode = mConfig ∧ s.role = 0 ∧ s.twinOn = true ∧ s.twin.joinCmd = none ∧
        s.linkState = lStopped ∧ s.armedEntries = []) ∧ (s.wakeDom (domainOf 14)).joinCheck = n ∧ n ≠ 0) ∧
    (∃ (c : Cmd) (s : State), s.may c 0x0E02 .pf [] [] (s.twin.pending = false ∧ s.mode = mOperate ∧ s.role = 1 ∧
        s.fld Reg.TWIN_STATUS F.TWIN_STATUS_PARTNER_ROLE = 2 ∧ s.twin.psync = true)) ∧
    (∃ (part : Nat) (step : Nat) (station : Nat) (side : Bool) (home : Bool) (s : State), s.twinOn = true ∧ s.role ≤ 1 ∧
        s.admitCheck part step station side home = 0) ∧
    (∃ (part : Nat) (step : Nat) (station : Nat) (side : Bool) (home : Bool) (s : State) (n : _), s.twinOn = true ∧ s.role ≤ 1 ∧
        s.admitCheck part step station side home = n ∧ n ≠ 0) ∧
    (∃ (station : Nat) (orbit : Nat) (cycle : Nat) (bank : Nat) (ports : Nat) (ofs : Int) (rate : Int) (e0 : W64 × W64) (e1 : W64 × W64) (s : State),
        s.twinOn = true ∧ s.role = 0 ∧ s.twin.joinCmd ≠ none) ∧
    (∃ (c : Cmd) (n : Nat) (s : State), s.twinOn = true ∧ s.twin.joinCmd = some c) ∧
    (∃ (auto : Bool) (s : State), s.twinOn = true ∧ (s.role = 1 ∨ s.role = 2) ∧ s.twin.pending = false) :=
  ⟨⟨wCmd [], wTwin 0 [(Reg.DEV_MODE, F.DEV_MODE_MODE, 1), (Reg.TWIN_STATUS, F.TWIN_STATUS_PARTNER_MODE, mOperate), (Reg.TWIN_STATUS,
      F.TWIN_STATUS_PARTNER_ROLE, 1), (Reg.TWIN_STATUS, F.TWIN_STATUS_T0_UP, 1), (Reg.TWIN_STATUS, F.TWIN_STATUS_T1_UP,
      1)] (fun z => { z with partner := true, side := 1, station := 1 }), .inr ⟨by decide +kernel, by decide +kernel⟩, by decide +kernel⟩,
    ⟨wCmd [], wTwin 0 [(Reg.DEV_MODE, F.DEV_MODE_MODE, 1), (Reg.TWIN_STATUS, F.TWIN_STATUS_PARTNER_MODE, mOperate), (Reg.TWIN_STATUS,
        F.TWIN_STATUS_T0_UP, 1), (Reg.TWIN_STATUS, F.TWIN_STATUS_T1_UP, 1)] id, 1, .inr ⟨by decide +kernel, by decide +kernel⟩, by decide +kernel,
        by decide +kernel⟩,
    ⟨wCmd [], wTwin 1 [(Reg.DEV_MODE, F.DEV_MODE_MODE, mOperate), (Reg.TWIN_STATUS, F.TWIN_STATUS_PARTNER_ROLE,
        2)] (fun z => { z with psync := true }), .inr ⟨by decide +kernel, by decide +kernel⟩⟩,
    ⟨State.reset.mem.fuse.part, State.reset.mem.fuse.step, 1, true, false, wTwin 0 [(Reg.DEV_MODE, F.DEV_MODE_MODE, mOperate), (Reg.LINK_STATUS,
        F.LINK_STATUS_STATE, lRunning), (Reg.TWIN_STATUS, F.TWIN_STATUS_T0_UP, 1), (Reg.TWIN_STATUS, F.TWIN_STATUS_T1_UP, 1), (Reg.SB_CYCLE 0,
        F.SB_CYCLE_PERIOD_US, 250), (Reg.SB_CUTOFF 0, F.SB_CUTOFF_FB_CUTOFF, 3000)] id, by decide +kernel, by decide +kernel, by decide +kernel⟩,
    ⟨State.reset.mem.fuse.part, State.reset.mem.fuse.step, 1, true, false, wTwin 0 [] id, 1, by decide +kernel, by decide +kernel,
        by decide +kernel, by decide +kernel⟩,
    ⟨1, 2, 3, 1, 0xFFFFF, 5, 6, (1, 2), (3, 4), wTwin 0 [] (fun z => { z with joinCmd := some (wCmd []) }), by decide +kernel, by decide +kernel,
        by decide +kernel⟩,
    ⟨wCmd [], 5, wTwin 0 [] (fun z => { z with joinCmd := some (wCmd []) }), by decide +kernel, by decide +kernel⟩,
    ⟨true, wTwin 2 [] id, by decide +kernel, by decide +kernel, by decide +kernel⟩⟩

theorem test_meets_UnitsJoinAndHandOver_2 :
    (∃ (c : Cmd) (n : Nat) (s : State), s.twinOn = true ∧ s.twin.pending = true ∧ s.twin.handCmd = some c) ∧
    (∃ (t0 : W64) (s : State), s.twin.since = some t0 ∧ s.role = 2 ∧
        timePast (t0 + BitVec.ofNat 64 (s.fld Reg.TWIN_TIMING F.TWIN_TIMING_HOLDOFF * 16000000)) s.cell = true) :=
  ⟨⟨wCmd [], 3, wTwin 1 [] (fun z => { z with pending := true, handCmd := some (wCmd []) }), by decide +kernel, by decide +kernel, by decide +kernel⟩,
    ⟨0, wLate (wTwin 2 [] (fun z => { z with since := some 0 })), by decide +kernel, by decide +kernel, by decide +kernel⟩⟩

end
end

section
/-!
SUPPORT. Accesses that do nothing but record a foul (R9, R14, R15, R747): what recording a foul and waking a domain leave unchanged as
the frame `State.keeps`, what a read or a write comes to at space without a register and in a closed domain, and the statement about them.
-/
open Sys2Proof

namespace Sys2Proof.Machine

variable (s : State)

/-! ### Recording a foul and waking a domain, register by register -/

theorem State.reg_post_of_ne {r : Nat} (h : r ≠ Reg.FOUL_DROPPED) (code src : Nat) (x : BitVec 128) : (s.post code src x).reg r = s.reg r := by
  simp only [State.post]
  split
  · rfl
  · exact State.reg_setReg_of_ne _ h _

theorem PWR_DOMAIN_ne_FOUL_DROPPED (d : Nat) : Reg.PWR_DOMAIN d ≠ Reg.FOUL_DROPPED := by
  unfold Reg.PWR_DOMAIN Reg.FOUL_DROPPED; omega

@[simp] theorem State.domState_post (code src : Nat) (x : BitVec 128) (d : Nat) : (s.post code src x).domState d = s.domState d := by
  unfold State.domState State.fld
  rw [State.reg_post_of_ne s (PWR_DOMAIN_ne_FOUL_DROPPED d)]

theorem State.domState_setDom_self (d : Nat) {st : Nat} (h : st < 8) : (s.setDom d st).domState d = st := by
  simp only [State.setDom]
  split
  case isTrue e => exact e
  case isFalse =>
    rw [State.postB, State.domState_post, State.domState, State.fld_put_self _ _ _ _ (by decide)]
    exact Nat.mod_eq_of_lt h

theorem State.reg_setDom_of_ne {r d : Nat} (hf : r ≠ Reg.FOUL_DROPPED) (hd : r ≠ Reg.PWR_DOMAIN d) (st : Nat) :
    (s.setDom d st).reg r = s.reg r := by
  simp only [State.setDom]
  split
  · rfl
  · rw [State.postB, State.reg_post_of_ne _ hf, State.reg_put_of_ne _ hd]

theorem State.wakeDom_of_ne_stopped {d : Nat} (h : s.domState d ≠ 1) : s.wakeDom d = s := if_neg h

/-- A wake request leaves a domain that is ON or STOPPED in ON (R750). -/
theorem State.domState_wakeDom_self {d : Nat} (h : s.domState d < 2) : (s.wakeDom d).domState d = 0 := by
  by_cases stopped : s.domState d = 1
  · rw [State.wakeDom, if_pos stopped, State.domState_setDom_self _ _ (by decide)]
  · rw [State.wakeDom_of_ne_stopped s stopped]; omega

theorem State.reg_wakeDom_of_ne {r d : Nat} (hf : r ≠ Reg.FOUL_DROPPED) (hd : r ≠ Reg.PWR_DOMAIN d) : (s.wakeDom d).reg r = s.reg r := by
  unfold State.wakeDom
  split
  · rw [State.reg_setDom_of_ne _ hf hd, State.addSat, State.reg_put_of_ne _ hd]
  · rfl

/-! ### The frame of those operations -/

theorem ne_FOUL_DROPPED_of_doorReg {o : Nat} (h : doorReg o = false) : o ≠ Reg.FOUL_DROPPED := by
  rintro rfl; simp [doorReg] at h

theorem ne_PWR_DOMAIN_of_doorReg {o d : Nat} (h : doorReg o = false) (hd : d < 8) : o ≠ Reg.PWR_DOMAIN d := by
  rintro rfl
  have out := of_decide_eq_false (Bool.or_eq_false_iff.mp h).2
  unfold Reg.PWR_DOMAIN at out
  omega

theorem doorReg_of_among {l : List Nat} {o : Nat} (h : among l o = false) : doorReg o = false := (Bool.or_eq_false_iff.mp h).1

theorem domainOf_lt (b : Nat) : domainOf b < 8 := by
  unfold domainOf; split <;> decide

theorem Part.same_trans {s t u : State} (p : Part) (h : p.same s t) (k : p.same t u) : p.same s u := by
  cases p
  case host => show { u.host with fetched := s.host.fetched } = s.host; rw [← h, ← k]
  case twin => show { u.twin with journal := s.twin.journal } = s.twin; rw [← h, ← k]
  case modeCmd => exact ⟨k.1.trans h.1, k.2.trans h.2⟩
  all_goals exact Eq.trans k h

theorem State.keeps_trans {s t u : State} {own : Nat → Bool} {parts : List Part} (h : s.keeps t own parts) (k : t.keeps u own parts) :
    s.keeps u own parts := by
  obtain ⟨hreg, hsram, hpoison, hpend, hpart⟩ := h
  obtain ⟨kreg, ksram, kpoison, kpend, kpart⟩ := k
  exact ⟨fun o ho => (kreg o ho).trans (hreg o ho), ksram.trans hsram, kpoison.trans hpoison, kpend.trans hpend,
    fun p hp => p.same_trans (hpart p hp) (kpart p hp)⟩

theorem State.keeps_post (l : List Nat) (parts : List Part) (code src : Nat) (x : BitVec 128) :
    s.keeps (s.post code src x) (among l) parts :=
  ⟨fun _ ho => s.reg_post_of_ne (ne_FOUL_DROPPED_of_doorReg (doorReg_of_among ho)) _ _ _, by simp, by simp, by simp,
    fun p _ => by cases p <;> simp [Part.same]⟩

theorem State.keeps_wakeDom (l : List Nat) (parts : List Part) {d : Nat} (hd : d < 8) : s.keeps (s.wakeDom d) (among l) parts :=
  ⟨fun _ ho => s.reg_wakeDom_of_ne (ne_FOUL_DROPPED_of_doorReg (doorReg_of_among ho)) (ne_PWR_DOMAIN_of_doorReg (doorReg_of_among ho) hd),
    by simp, by simp, by simp, fun p _ => by cases p <;> simp [Part.same]⟩

theorem State.keeps_emit (own : Nat → Bool) (parts : List Part) (e : Emit) : s.keeps (s.emit e) own parts :=
  ⟨fun _ _ => rfl, rfl, rfl, rfl, fun p _ => by cases p <;> simp [Part.same]⟩

/-! ### Where an access leads decides what it does -/

theorem exec_unmappedRead (who : Init) (off : Nat) : exec (.unmappedRead who off) s = .next (s.answerRead who off) := rfl

theorem exec_domainRegisterRead (who : Init) (off : Nat) : exec (.domainRegisterRead who off) s = .next (s.answerRead who off) := rfl

theorem exec_registerWrite (who : Init) (off size : Nat) (v : Word) : exec (.registerWrite who off size v) s = .next (s.store who off size v) := rfl

theorem State.blockAway_wakeDom {b : Nat} (h : s.domState (domainOf b) < 2) : (s.wakeDom (domainOf b)).blockAway b = false := by
  simp [State.blockAway, s.domState_wakeDom_self h]

section
variable {s} {who : Init} {off : Nat}

/-- R747: a read in a domain that is OFF or in RESET. -/
theorem State.answerRead_of_away {p : Place} (hp : s.place who off = some p) (h : 2 ≤ s.domState (domainOf (placeBlock p))) :
    s.answerRead who off = (s.domainFoul who (placeBlock p) off).emit (.readData who off [0, 0, 0, 0] false) := by
  have awake : s.wakeDom (domainOf (placeBlock p)) = s := s.wakeDom_of_ne_stopped (by omega)
  have away : s.blockAway (placeBlock p) = true := decide_eq_true h
  have value : s.readReg who off = some (0, s.domainFoul who (placeBlock p) off) := by simp [State.readReg, hp, awake, away]
  simp [State.answerRead, value, leBytes]

/-- R14: a read of space without a register. -/
theorem State.answerRead_of_hole {o : Nat} (hp : s.place who off = some (.hole o)) (h : s.domState (domainOf (blockOf o)) < 2) :
    s.answerRead who off =
      ((s.wakeDom (domainOf (blockOf o))).post 0x0110 (srcInit 1 who) (det [(20, 4, o)])).emit (.readData who off [0, 0, 0, 0] false) := by
  have value : s.readReg who off = some (0, (s.wakeDom (domainOf (blockOf o))).post 0x0110 (srcInit 1 who) (det [(20, 4, o)])) := by
    simp [State.readReg, hp, placeBlock, s.blockAway_wakeDom h]
  simp [State.answerRead, value, leBytes]

/-- R9: an access that is not an aligned 32-bit one. -/
theorem State.store_of_not_word {size : Nat} (h : size ≠ 4 ∨ off % 4 ≠ 0) (v : Word) : s.store who off size v = s := by
  have other : ¬ (size = 4 ∧ off % 4 = 0 ∧ s.place who off = some (.reg Reg.BOOT_CTRL false)) := fun ⟨hs, ho, _⟩ =>
    h.elim (fun n => n hs) (fun n => n ho)
  rw [State.store, if_neg other, State.busWrite, if_pos h]

theorem State.store_of_word (ha : off % 4 = 0) (hb : s.place who off ≠ some (.reg Reg.BOOT_CTRL false)) (v : Word) :
    s.store who off 4 v = s.writeReg false who off v := by
  have other : ¬ ((4 : Nat) = 4 ∧ off % 4 = 0 ∧ s.place who off = some (.reg Reg.BOOT_CTRL false)) := fun ⟨_, _, hp⟩ => hb hp
  have word : ¬ ((4 : Nat) ≠ 4 ∨ off % 4 ≠ 0) := fun h => h.elim (fun n => n rfl) (fun n => n ha)
  rw [State.store, if_neg other, State.busWrite, if_neg word]

/-- R14: a write to space without a register. -/
theorem State.writeReg_of_hole {o : Nat} (hp : s.place who off = some (.hole o)) (h : s.domState (domainOf (blockOf o)) < 2) (v : Word) :
    s.writeReg false who off v = (s.wakeDom (domainOf (blockOf o))).post 0x0111 (srcInit 1 who) (det [(20, 4, o)]) := by
  simp [State.writeReg, hp, placeBlock, s.blockAway_wakeDom h]

theorem State.writeReg_of_on {k : Nat} {vf : Bool} (hp : s.place who off = some (.reg k vf)) (h : s.domState (domainOf (blockOf k)) = 0)
    (v : Word) : s.writeReg false who off v = s.writeAt false who k (pfOffset who off) vf v := by
  have awake : s.wakeDom (domainOf (blockOf k)) = s := s.wakeDom_of_ne_stopped (by omega)
  simp [State.writeReg, hp, placeBlock, awake, State.blockAway, h]

end

/-! ### Writes of a 32-bit register -/

/-- From block 8 on, a block's registers are those of its block range (R19). -/
theorem blockOf_eq_div {k : Nat} (h : 8 ≤ blockOf k) : blockOf k = k / 0x100000 := by
  by_cases low : k < 0x1000000
  · exact if_pos low
  · rw [blockOf, if_neg low] at h
    dsimp only at h
    split at h
    · split at h <;> omega
    · omega

section
variable {s} {who : Init} {k o : Nat} {vf : Bool} {r : RegRow} {v : Word}

theorem State.writeAt_of_single (hr : findRow k = some r) (hw : writable r = true) (hpair : r.pair = 0)
    (hdom : ¬ (Reg.PWR_DOMAIN 0 ≤ k ∧ k < Reg.PWR_DOMAIN 8)) (hm : s.mirrorBar false k = false) :
    s.writeAt false who k o vf v = s.write32 false who r k o vf v := by
  simp [State.writeAt, hr, hw, hpair, hdom, hm]

theorem State.zoneHold_of_not_zone (h : ¬ (Reg.ZONE_CTRL 0 ≤ k ∧ k < Reg.ZONE_CTRL 64)) : s.zoneHold k v = (v, false) :=
  if_neg fun ⟨lo, hi, _⟩ => h ⟨lo, hi⟩

/-- R15: a value out of range. -/
theorem State.write32_of_out_of_range (hbar : s.writeBar k v = none) (hz : s.zoneHold k v = (v, false)) (hu : unranged k = false)
    (hv : rangesOk r vf (s.lockSet k) v = false) : s.write32 false who r k o vf v = s.writeFoul who k o 2 v := by
  simp [State.write32, hbar, hz, hu, hv]

end

end Sys2Proof.Machine

open Sys2Proof.Machine

/-- Settles O8, clause by clause: the place of the access and its domain's state decide the branch that is taken, and what that branch
records leaves the frame. -/
theorem accessesThatDoNothing : Obligations.AccessesThatDoNothing := by
  refine ⟨?hole_read, ?away_read, ?not_word, ?hole_write, ?out_of_range⟩
  case hole_read =>
    intro who off o s hp hd
    have answer := State.answerRead_of_hole hp hd
    exact ⟨_, exec_unmappedRead s who off, answer, answer ▸
      State.keeps_trans (State.keeps_trans (s.keeps_wakeDom _ _ (domainOf_lt _)) (State.keeps_post _ _ _ _ _ _)) (State.keeps_emit _ _ _ _)⟩
  case away_read =>
    intro who off k vf s hp hd
    have answer := State.answerRead_of_away hp hd
    exact ⟨_, exec_domainRegisterRead s who off, answer, answer ▸ State.keeps_trans (s.keeps_post _ _ _ _ _) (State.keeps_emit _ _ _ _)⟩
  case not_word =>
    intro who off size v s h
    rw [exec_registerWrite, State.store_of_not_word h]
  case hole_write =>
    intro who off o v s ha hp hd
    rw [exec_registerWrite, State.store_of_word ha (by simp [hp]), State.writeReg_of_hole hp hd]
  case out_of_range =>
    intro who off k vf r v s ha hp hr hw hpair hd hb hbar hu hv
    have hblock : blockOf k = 8 ∨ blockOf k = 10 ∨ blockOf k = 12 ∨ blockOf k = 13 := by simpa using hb
    have hrange : 0x800000 ≤ k ∧ k < 0xE00000 := by
      have range := blockOf_eq_div (k := k)
      omega
    have hboot : s.place who off ≠ some (.reg Reg.BOOT_CTRL false) := by
      simp only [hp, Reg.BOOT_CTRL, ne_eq, Option.some.injEq, Place.reg.injEq]; omega
    have hm : s.mirrorBar false k = false := by
      rcases hblock with h | h | h | h <;> simp [State.mirrorBar, mirrored, h]
    rw [exec_registerWrite, State.store_of_word ha hboot, State.writeReg_of_on hp hd,
      State.writeAt_of_single hr hw hpair (by simp only [Reg.PWR_DOMAIN]; omega) hm,
      State.write32_of_out_of_range hbar (State.zoneHold_of_not_zone (by simp only [Reg.ZONE_CTRL]; omega)) hu hv, State.writeFoul]
end

section
/-!
SUPPORT. Resets (R744, R745, R764): what the output balls, the loss of PD1–PD6, the disarming of the actions and the hold of the domains
leave of each register and part, and the statement about what a reset names, clears and keeps.
-/
open Sys2Proof

namespace Sys2Proof.Machine

/-! ### Folds over the state -/

/-- What every step of a fold leaves as it was, the fold leaves as it was. -/
theorem forEach_preserves {α σ β : Type} (g : σ → β) (l : List α) (s : σ) (f : α → σ → σ) (h : ∀ a t, a ∈ l → g (f a t) = g t) :
    g (forEach l s f) = g s := by
  induction l generalizing s with
  | nil => rfl
  | cons a l ih =>
    have rest := ih (f a s) fun b t hb => h b t (List.mem_cons_of_mem _ hb)
    exact rest.trans (h a s List.mem_cons_self)

/-- Reading a table from which every key outside `p` has been dropped. -/
theorem tabGet_filter_key {α : Type} (d : Nat → α) (p : Nat → Bool) (t : Tab α) (k : Nat) :
    tabGet d (t.filter fun e => p e.1) k = if p k then tabGet d t k else d k := by
  induction t with
  | nil => simp [tabGet]
  | cons e t ih =>
    obtain ⟨i, v⟩ := e
    by_cases keep : p i = true <;> by_cases found : i = k <;> simp_all [tabGet]

variable (s : State)

/-! ### The output balls -/

theorem State.laEmit_same (e : Emit) :
    (s.laEmit e).regs = s.regs ∧ (s.laEmit e).time = s.time ∧ (s.laEmit e).mem = s.mem ∧ (s.laEmit e).pending = s.pending := by
  unfold State.laEmit; split <;> simp

/-- The analogue die's gates are no register, and their levels go to the outside only. -/
theorem State.gatesOff_same :
    s.gatesOff.regs = s.regs ∧ s.gatesOff.time = s.time ∧ s.gatesOff.mem = s.mem ∧ s.gatesOff.pending = s.pending := by
  have h := forEach_preserves (fun t : State => (t.regs, t.time, t.mem, t.pending)) (List.range 16) s
    (fun c s => if (s.laCh c).gates = 0 then s else (s.modLa c fun z => { z with gates := 0 }).laEmit (.gates c 0)) fun c t _ => by
      obtain ⟨hr, ht, hm, hp⟩ := (t.modLa c fun z => { z with gates := 0 }).laEmit_same (.gates c 0)
      split
      · rfl
      · simp [hr, ht, hm, hp]
  simpa [State.gatesOff] using h

theorem State.ballsOff_same :
    s.ballsOff.regs = s.regs ∧ s.ballsOff.time = s.time ∧ s.ballsOff.mem = s.mem ∧ s.ballsOff.pending = s.pending := by
  obtain ⟨hr, ht, hm, hp⟩ := s.gatesOff_same
  let g (t : State) := (t.regs, t.time, t.mem, t.pending)
  have balls {α : Type} (l : List α) (t : State) (e : α → Emit) : g (forEach l t fun o t => t.emit (e o)) = g t :=
    forEach_preserves g l t _ fun _ _ _ => rfl
  have act : g (if s.gatesOff.twinAct then s.gatesOff.emit (.ball "TWIN_ACT" 0 0) else s.gatesOff) = g s := by
    split <;> simp [g, hr, ht, hm, hp]
  have all : g s.ballsOff = g s := by
    unfold State.ballsOff
    exact (balls _ _ _).trans ((balls _ _ _).trans act)
  simpa [g] using all

/-! ### The hold and the release of the domains -/

/-- PD1–PD6 take a value of `PWR_DOMAIN.STATE`. -/
def State.setDomains (x : Nat) : State := forEach [1, 2, 3, 4, 5, 6] s fun d s => s.put (Reg.PWR_DOMAIN d) F.PWR_DOMAIN_STATE x

theorem State.holdDomains_eq : s.holdDomains = s.setDomains 3 := rfl

theorem State.setDomains_same (x : Nat) : let t := s.setDomains x
    t.time = s.time ∧ t.mem = s.mem ∧ t.log = s.log ∧ t.pending = s.pending ∧ t.clk = s.clk ∧ t.egress = s.egress := by
  have h := forEach_preserves (fun t : State => (t.time, t.mem, t.log, t.pending, t.clk, t.egress)) [1, 2, 3, 4, 5, 6] s
    (fun d s => s.put (Reg.PWR_DOMAIN d) F.PWR_DOMAIN_STATE x) fun _ _ _ => rfl
  simpa [State.setDomains] using h

theorem State.reg_setDomains_of_ne {o : Nat} (x : Nat) (h : ¬ (Reg.PWR_DOMAIN 0 ≤ o ∧ o < Reg.PWR_DOMAIN 8)) :
    (s.setDomains x).reg o = s.reg o :=
  forEach_preserves (fun t : State => t.reg o) _ s _ fun d t hd =>
    t.reg_put_of_ne (by simp only [Reg.PWR_DOMAIN] at *; simp at hd; omega) _ _

/-- A domain of the list takes the value, another keeps its own. -/
theorem domState_forEach_put (l : List Nat) (x d : Nat) (h : x < 8) (t : State) :
    (forEach l t fun d s => s.put (Reg.PWR_DOMAIN d) F.PWR_DOMAIN_STATE x).domState d = if d ∈ l then x else t.domState d := by
  induction l generalizing t with
  | nil => simp [forEach]
  | cons a l ih =>
    have head : (t.put (Reg.PWR_DOMAIN a) F.PWR_DOMAIN_STATE x).domState d = if d = a then x else t.domState d := by
      by_cases e : d = a
      · subst e
        rw [if_pos rfl, State.domState, State.fld_put_self _ _ _ _ (by decide)]
        exact Nat.mod_eq_of_lt h
      · rw [if_neg e]
        exact t.fld_put_of_ne (by simp only [Reg.PWR_DOMAIN]; omega) _ _ _
    have rest := ih (t.put (Reg.PWR_DOMAIN a) F.PWR_DOMAIN_STATE x)
    rw [head] at rest
    refine Eq.trans rest ?_
    by_cases tail : d ∈ l <;> by_cases e : d = a <;> simp [tail, e]

theorem State.domState_setDomains {x d : Nat} (h : x < 8) (lo : 1 ≤ d) (hi : d ≤ 6) : (s.setDomains x).domState d = x := by
  rw [State.setDomains, domState_forEach_put _ _ _ h, if_pos (by simp; omega)]

/-! ### Disarming -/

theorem State.lt_of_mem_armedEntries {n : Nat} (h : n ∈ s.armedEntries) : n < 256 := by
  simp only [State.armedEntries, List.mem_map, List.mem_filter, Bool.and_eq_true, decide_eq_true_eq] at h
  obtain ⟨e, ⟨_, he⟩, rfl⟩ := h
  simp only [Reg.ACT_STATUS] at he ⊢
  omega

/-- Disarming every action changes no register but those of the actions. -/
theorem State.reg_disarmAll_of_ne {o : Nat} (h : ∀ n, n < 256 → o ≠ Reg.ACT_STATUS n) : s.disarmAll.reg o = s.reg o :=
  forEach_preserves (fun t : State => t.reg o) s.armedEntries s (fun n s => s.setArmed n false) fun n t hn =>
    t.reg_put_of_ne (h n (s.lt_of_mem_armedEntries hn)) _ _

theorem State.disarmAll_same : s.disarmAll.time = { s.time with fireNext := [] } ∧ s.disarmAll.mem = s.mem ∧ s.disarmAll.log = s.log ∧
    s.disarmAll.pending = s.pending := by
  have h := forEach_preserves (fun t : State => (t.time, t.mem, t.log, t.pending)) s.armedEntries s (fun n s => s.setArmed n false)
    fun _ _ _ => rfl
  simp only [Prod.mk.injEq] at h
  obtain ⟨ht, hm, hl, hp⟩ := h
  exact ⟨congrArg (fun t : TimeSt => { t with fireNext := [] }) ht, hm, hl, hp⟩

/-! ### The loss of PD1–PD6 -/

/-- A register of PD0 keeps its value, another is reset. -/
theorem State.reg_clearDomains (o : Nat) : s.clearDomains.reg o = if keptReg o then s.reg o else regReset o :=
  tabGet_filter_key regReset keptReg s.regs o

theorem State.clearDomains_same :
    s.clearDomains.time = s.time ∧ s.clearDomains.mem = s.memReset ∧ s.clearDomains.log = {} ∧ s.clearDomains.pending = s.pending :=
  ⟨rfl, rfl, rfl, rfl⟩

theorem keptReg_eq_false {o : Nat} (h2 : blockOf o ≠ 2) (h15 : blockOf o ≠ 15) : keptReg o = false := by
  simp only [keptReg, decide_eq_false_iff_not]
  rintro (h | h)
  · exact h2 (by rw [blockOf, if_pos (by omega), h])
  · exact h15 (by rw [blockOf, if_pos (by omega), h])

theorem blockOf_ACT_STATUS {n : Nat} (h : n < 256) : blockOf (Reg.ACT_STATUS n) = 2 := by
  unfold blockOf Reg.ACT_STATUS
  rw [if_pos (by omega)]
  omega

theorem State.memReset_fuse : s.memReset.fuse = s.mem.fuse := by
  have cleared : (forEach (idxs 16 fun g => s.groupState g != gOn) s fun g s => s.clearGroup g).mem.fuse = s.mem.fuse :=
    forEach_preserves (fun t : State => t.mem.fuse) _ s _ fun _ _ _ => rfl
  unfold State.memReset
  dsimp only
  split
  · exact cleared
  · exact cleared

/-! ### The device reset -/

/-- `RST_CAUSE` after a device reset: cause, detail and count (R745). -/
def State.nameCause (cause detail : Nat) : State :=
  ((s.put Reg.RST_CAUSE F.RST_CAUSE_CAUSE cause).put Reg.RST_CAUSE F.RST_CAUSE_DETAIL detail).addWrap Reg.RST_CAUSE F.RST_CAUSE_COUNT

theorem State.reg_nameCause_of_ne {o : Nat} (h : o ≠ Reg.RST_CAUSE) (cause detail : Nat) : (s.nameCause cause detail).reg o = s.reg o := by
  rw [State.nameCause, State.addWrap, State.reg_put_of_ne _ h, State.reg_put_of_ne _ h, State.reg_put_of_ne _ h]

theorem State.nameCause_same (cause detail : Nat) : let t := s.nameCause cause detail
    t.time = s.time ∧ t.mem = s.mem ∧ t.log = s.log ∧ t.pending = s.pending :=
  ⟨rfl, rfl, rfl, rfl⟩

theorem State.cause_nameCause (cause detail : Nat) (h : cause < 256) :
    (s.nameCause cause detail).fld Reg.RST_CAUSE F.RST_CAUSE_CAUSE = cause := by
  rw [State.nameCause, State.addWrap, State.fld_put_of_disjoint _ _ _ _ _ (by decide) (by decide),
    State.fld_put_of_disjoint _ _ _ _ _ (by decide) (by decide), State.fld_put_self _ _ _ _ (by decide)]
  exact Nat.mod_eq_of_lt h

theorem State.count_nameCause (cause detail : Nat) :
    (s.nameCause cause detail).fld Reg.RST_CAUSE F.RST_CAUSE_COUNT =
      (s.fld Reg.RST_CAUSE F.RST_CAUSE_COUNT + 1) % 2 ^ F.RST_CAUSE_COUNT.w := by
  rw [State.nameCause, State.addWrap, State.fld_put_self _ _ _ _ (by decide),
    State.fld_put_of_disjoint _ _ _ _ _ (by decide) (by decide), State.fld_put_of_disjoint _ _ _ _ _ (by decide) (by decide)]

/-- The steps of a device reset. -/
theorem State.deviceReset_of_not_held (h : s.inReset = false) (cause detail : Nat) :
    s.deviceReset cause detail =
      ((s.ballsOff.clearDomains.disarmAll.nameCause cause detail).modCk fun k => { k with eventDue := true }).setDomains 3 := by
  simp [State.deviceReset, h, State.nameCause, State.holdDomains_eq]

theorem State.deviceReset_of_held (h : s.inReset = true) (cause detail : Nat) : s.deviceReset cause detail = s := if_pos h

/-- Beside the registers and block 0x0F, a device reset loses what the loss of PD1–PD6 loses, and the late actions. -/
theorem State.deviceReset_same (h : s.inReset = false) (cause detail : Nat) : let t := s.deviceReset cause detail
    t.time = { s.time with fireNext := [] } ∧ t.mem = s.ballsOff.memReset ∧ t.log = {} ∧ t.pending = s.pending ∧ t.clk.eventDue = true := by
  obtain ⟨_, bt, _, bp⟩ := s.ballsOff_same
  obtain ⟨ct, cm, cl, cp⟩ := s.ballsOff.clearDomains_same
  obtain ⟨dt, dm, dl, dp⟩ := s.ballsOff.clearDomains.disarmAll_same
  obtain ⟨nt, nm, nl, np⟩ := s.ballsOff.clearDomains.disarmAll.nameCause_same cause detail
  obtain ⟨ht, hm, hl, hp, hc, _⟩ :=
    (State.modCk (s.ballsOff.clearDomains.disarmAll.nameCause cause detail) fun k => { k with eventDue := true }).setDomains_same 3
  rw [← s.deviceReset_of_not_held h] at ht hm hl hp hc
  rw [State.modCk_time, nt, dt, ct, bt] at ht
  rw [State.modCk_mem, nm, dm, cm] at hm
  rw [State.modCk_log, nl, dl, cl] at hl
  rw [State.modCk_pending, np, dp, cp, bp] at hp
  exact ⟨ht, hm, hl, hp, congrArg CkSt.eventDue hc⟩

/-- A register that a device reset neither holds nor names is kept in PD0 and reset elsewhere. -/
theorem State.reg_deviceReset {o : Nat} (h : s.inReset = false) (hd : ¬ (Reg.PWR_DOMAIN 0 ≤ o ∧ o < Reg.PWR_DOMAIN 8))
    (hc : o ≠ Reg.RST_CAUSE) (ha : ∀ n, n < 256 → o ≠ Reg.ACT_STATUS n) (cause detail : Nat) :
    (s.deviceReset cause detail).reg o = if keptReg o then s.reg o else regReset o := by
  obtain ⟨regs, _⟩ := s.ballsOff_same
  have balls : s.ballsOff.reg o = s.reg o := congrArg (tabGet regReset · o) regs
  rw [s.deviceReset_of_not_held h, State.reg_setDomains_of_ne _ _ hd, State.modCk_reg, State.reg_nameCause_of_ne _ hc, State.reg_disarmAll_of_ne _ ha, State.reg_clearDomains, balls]

/-- Outside PD0 every register is reset. -/
theorem State.reg_deviceReset_of_block {o : Nat} (h : s.inReset = false) (h2 : blockOf o ≠ 2) (h15 : blockOf o ≠ 15) (cause detail : Nat) :
    (s.deviceReset cause detail).reg o = regReset o := by
  have away (a : Nat) (ha : 0xF00000 ≤ a ∧ a < 0x1000000) : o ≠ a := by
    rintro rfl
    exact h15 (by rw [blockOf, if_pos (by omega)]; omega)
  rw [s.reg_deviceReset h, keptReg_eq_false h2 h15]
  · rfl
  · intro hd
    exact away o (by simp only [Reg.PWR_DOMAIN] at hd; omega) rfl
  · exact away _ (by decide)
  · rintro n hn rfl
    exact h2 (blockOf_ACT_STATUS hn)

/-- `RST_CAUSE` at the instant at which the cause is named. -/
theorem State.fld_cause_deviceReset (h : s.inReset = false) (cause detail : Nat) (f : Fld) :
    (s.deviceReset cause detail).fld Reg.RST_CAUSE f = (s.ballsOff.clearDomains.disarmAll.nameCause cause detail).fld Reg.RST_CAUSE f := by
  rw [s.deviceReset_of_not_held h, State.fld, State.reg_setDomains_of_ne _ _ (by decide), State.modCk_reg, State.fld]

theorem State.fld_cause_clearDomains (f : Fld) : s.ballsOff.clearDomains.disarmAll.fld Reg.RST_CAUSE f = s.fld Reg.RST_CAUSE f := by
  have other (n : Nat) (hn : n < 256) : Reg.RST_CAUSE ≠ Reg.ACT_STATUS n := by simp only [Reg.RST_CAUSE, Reg.ACT_STATUS]; omega
  have kept : keptReg Reg.RST_CAUSE = true := by decide
  obtain ⟨regs, _⟩ := s.ballsOff_same
  rw [State.fld, State.reg_disarmAll_of_ne _ other, State.reg_clearDomains, if_pos kept]
  exact congrArg (fun t => fldOf (tabGet regReset t Reg.RST_CAUSE) f) regs

theorem State.view_deviceReset (cause detail w : Nat) : (s.deviceReset cause detail).view w = s.view w := by
  cases h : s.inReset
  · obtain ⟨time, _⟩ := s.deviceReset_same h cause detail
    rw [State.view, time, State.view]
  · rw [s.deviceReset_of_held h]

/-! ### Which events reset the device -/

/-- The rows that are a device reset when they come, with the cause of each (R626, R684, R744, R755, R758, R764). -/
def resetsBy (i : Instr) (cause : Nat) (s : State) : Prop :=
  (i = .resetNAssert ∧ cause = 2) ∨ (i = .pwrFailAssert ∧ cause = 10) ∨ (i = .pcieReset false ∧ cause = 3) ∨
    (i = .pcieReset true ∧ cause = 4) ∨ (i = .deviceResetDelay ∧ s.clk.resetDue = true ∧ cause = 6) ∨
    (i = .lcResetDelay ∧ s.mem.lcResetDue = true ∧ cause = 5) ∨ (∃ k, i = .supplyTrip k ∧ 2 ≤ k ∧ k ≤ 7 ∧ cause = 9)

theorem resetsBy.cause_lt {i : Instr} {cause : Nat} {s : State} (h : resetsBy i cause s) : cause < 256 := by
  unfold resetsBy at h; omega

/-- Rails 2 to 7 are those of PD1–PD6 (R764). -/
theorem exec_supplyTrip_of_domain {k : Nat} (lo : 2 ≤ k) (hi : k ≤ 7) :
    ∃ detail, exec (.supplyTrip k) s = .next (s.deviceReset 9 detail) := by
  obtain rfl | rfl | rfl | rfl | rfl | rfl : k = 2 ∨ k = 3 ∨ k = 4 ∨ k = 5 ∨ k = 6 ∨ k = 7 := by omega
  · exact ⟨1, rfl⟩
  · exact ⟨1, rfl⟩
  · exact ⟨5, rfl⟩
  · exact ⟨5, rfl⟩
  · exact ⟨1, rfl⟩
  · exact ⟨1, rfl⟩

theorem exec_supplyTrip_of_pd0 {k : Nat} (h : k ≤ 1) : exec (.supplyTrip k) s = .next s.powerOn := by
  obtain rfl | rfl : k = 0 ∨ k = 1 := by omega
  · rfl
  · rfl

theorem exec_deviceResetDelay (h : s.clk.resetDue = true) : exec .deviceResetDelay s = .next (s.deviceReset 6 0) :=
  congrArg _ (if_pos h)

theorem exec_lcResetDelay (h : s.mem.lcResetDue = true) : exec .lcResetDelay s = .next (s.deviceReset 5 0) :=
  congrArg _ (if_pos h)

theorem resetsBy.exec {i : Instr} {cause : Nat} {s : State} (h : resetsBy i cause s) :
    ∃ detail, exec i s = .next (s.deviceReset cause detail) := by
  rcases h with ⟨rfl, rfl⟩ | ⟨rfl, rfl⟩ | ⟨rfl, rfl⟩ | ⟨rfl, rfl⟩ | ⟨rfl, due, rfl⟩ | ⟨rfl, due, rfl⟩ | ⟨k, rfl, lo, hi, rfl⟩
  · exact ⟨0, rfl⟩
  · exact ⟨0, rfl⟩
  · exact ⟨0, rfl⟩
  · exact ⟨0, rfl⟩
  · exact ⟨0, exec_deviceResetDelay s due⟩
  · exact ⟨0, exec_lcResetDelay s due⟩
  · exact exec_supplyTrip_of_domain s lo hi

/-! ### What a device reset leaves -/

theorem State.domState_deviceReset (h : s.inReset = false) (cause detail : Nat) {d : Nat} (lo : 1 ≤ d) (hi : d ≤ 6) :
    (s.deviceReset cause detail).domState d = 3 := by
  rw [s.deviceReset_of_not_held h, State.domState_setDomains _ (by decide) lo hi]

theorem State.inReset_of_domState (h : s.domState 1 = 3) : s.inReset = true := by
  rw [State.inReset, h]; rfl

theorem State.mode_of_reg_reset (h : s.reg Reg.DEV_MODE = regReset Reg.DEV_MODE) : s.mode = mBoot := by
  rw [State.mode, State.fld, h]
  rfl

/-! ### The power-on reset and the release -/

/-- The device without all that the power-on reset of PD0 loses. -/
def State.lostAll : State :=
  { State.reset with
    mem := { fuse := s.mem.fuse, lcFrom := s.mem.lcFrom }, sf := { s.sfReset with lastFrame := 0, tpHold := [] }
    host := { nextId := s.host.nextId, nextSeq := s.host.nextSeq }
    egress := s.egress, free := s.free, pending := s.pending }

theorem State.powerOn_eq : s.powerOn = s.ballsOff.lostAll.setDomains 3 := rfl

theorem State.lostAll_same : s.lostAll.time = {} ∧ s.lostAll.mem.fuse = s.mem.fuse ∧ s.lostAll.pending = s.pending := ⟨rfl, rfl, rfl⟩

theorem State.lostAll_reg (o : Nat) : s.lostAll.reg o = regReset o := rfl

theorem State.powerOn_same : s.powerOn.time = {} ∧ s.powerOn.mem.fuse = s.mem.fuse := by
  obtain ⟨_, _, bm, _⟩ := s.ballsOff_same
  obtain ⟨lt, lm, _⟩ := s.ballsOff.lostAll_same
  obtain ⟨ht, hm, _⟩ := s.ballsOff.lostAll.setDomains_same 3
  rw [s.powerOn_eq, ht, hm, lt, lm, bm]
  exact ⟨rfl, rfl⟩

theorem State.reg_powerOn {o : Nat} (h : ¬ (Reg.PWR_DOMAIN 0 ≤ o ∧ o < Reg.PWR_DOMAIN 8)) : s.powerOn.reg o = regReset o := by
  rw [s.powerOn_eq, State.reg_setDomains_of_ne _ _ h, State.lostAll_reg]

theorem State.domState_powerOn {d : Nat} (lo : 1 ≤ d) (hi : d ≤ 6) : s.powerOn.domState d = 3 := by
  rw [s.powerOn_eq, State.domState_setDomains _ (by decide) lo hi]

/-- The domains are ON, BOOT_SEL is sampled, and the safety window counts from now. -/
def State.released (sel : Bool) : State :=
  { s.setDomains 0 with
    host := { (s.setDomains 0).host with bootSel := sel, selfTestDone := false }, sf := { (s.setDomains 0).sf with lastFrame := (s.setDomains 0).u } }

theorem exec_resetRelease (sel : Bool) (held : s.inReset = true) (locked : s.mayRelease = true) :
    exec (.resetRelease sel) s = .next ((s.released sel).bootFrom (if sel then 2 else 0)) := by
  show execResetRelease sel s = _
  rw [execResetRelease, held, locked]
  rfl

theorem State.mayRelease_of_locked (locked : s.fld Reg.CK_STATUS F.CK_STATUS_LOCK = 0x7F)
    (cool : s.fld Reg.RST_CAUSE F.RST_CAUSE_CAUSE ≠ 8) : s.mayRelease = true := by
  simp [State.mayRelease, locked, cool]

theorem State.reg_bootFrom_of_ne {o : Nat} (h : o ≠ Reg.BOOT_STATUS) (n : Nat) : (s.bootFrom n).reg o = s.reg o := by
  unfold State.bootFrom
  split <;> simp [State.reg_put_of_ne _ h]

theorem State.bootFrom_host (n : Nat) : (s.bootFrom n).host = s.host := by
  unfold State.bootFrom
  split <;> rfl

theorem State.source_bootFrom {n : Nat} (h : n < 4) : (s.bootFrom n).fld Reg.BOOT_STATUS F.BOOT_STATUS_SOURCE = n := by
  have source (x : Nat) : ((s.put Reg.BOOT_STATUS F.BOOT_STATUS_SOURCE n).put Reg.BOOT_STATUS F.BOOT_STATUS_STATE x).fld Reg.BOOT_STATUS
      F.BOOT_STATUS_SOURCE = n := by
    rw [State.fld_put_of_disjoint _ _ _ _ _ (by decide) (by decide), State.fld_put_self _ _ _ _ (by decide)]
    exact Nat.mod_eq_of_lt h
  unfold State.bootFrom
  split <;> simp [source]

theorem State.state_bootFrom (n : Nat) : (s.bootFrom n).fld Reg.BOOT_STATUS F.BOOT_STATUS_STATE = if n = 2 then 1 else 0 := by
  unfold State.bootFrom
  split <;> simp [State.fld_put_self, F.BOOT_STATUS_STATE]

theorem State.egress_bootFrom {n : Nat} (h : n ≠ 2) : (s.bootFrom n).egress = .flashRead n :: s.egress := by
  simp [State.bootFrom, h]

end Sys2Proof.Machine

open Sys2Proof.Machine

/-- Settles O26, clause by clause: each row is a device reset with its cause, whose registers and parts are those above; a rail of PD0 is its
power-on reset; and a release puts the domains ON and starts the boot. -/
theorem resetsTakeEffect : Obligations.ResetsTakeEffect := by
  refine ⟨?device_reset, ?power_on, ?views, ?release⟩
  case device_reset =>
    intro i cause s running row
    have row : resetsBy i cause s := row
    obtain ⟨detail, answer⟩ := row.exec
    obtain ⟨time, mem, log, pending, event⟩ := s.deviceReset_same running cause detail
    obtain ⟨_, _, ballsMem, _⟩ := s.ballsOff_same
    have fuse : s.ballsOff.memReset.fuse = s.mem.fuse := s.ballsOff.memReset_fuse.trans (congrArg MemSt.fuse ballsMem)
    have held {d : Nat} (lo : 1 ≤ d) (hi : d ≤ 6) := s.domState_deviceReset running cause detail lo hi
    have reset (o : Nat) (h2 : blockOf o ≠ 2) (h15 : blockOf o ≠ 15) := s.reg_deviceReset_of_block running h2 h15 cause detail
    refine ⟨_, answer, State.inReset_of_domState _ (held (by decide) (by decide)), fun d => held, ?named, ?counted, event, by rw [time],
      s.view_deviceReset .., s.view_deviceReset .., by rw [mem, fuse],
      State.mode_of_reg_reset _ (reset _ (by decide) (by decide)), log, reset, pending⟩
    case named =>
      rw [s.fld_cause_deviceReset running, State.cause_nameCause _ _ _ row.cause_lt]
    case counted =>
      rw [s.fld_cause_deviceReset running, State.count_nameCause, s.fld_cause_clearDomains]
  case power_on =>
    intro i s row
    have answer : exec i s = .next s.powerOn := by
      rcases row with rfl | rfl | rfl
      · rfl
      · exact exec_supplyTrip_of_pd0 s (by decide)
      · exact exec_supplyTrip_of_pd0 s (by decide)
    obtain ⟨time, fuse⟩ := s.powerOn_same
    have holdover : s.powerOn.flag Reg.TB_STATUS F.TB_STATUS_PLANT_HOLDOVER = true := by
      rw [State.flag, State.fld, s.reg_powerOn (by decide)]
      rfl
    exact ⟨_, answer, time, holdover, State.inReset_of_domState _ (s.domState_powerOn (by decide) (by decide)), fuse,
      State.mode_of_reg_reset _ (s.reg_powerOn (by decide)), fun o => s.reg_powerOn⟩
  case views => exact fun cause detail w s => s.view_deviceReset cause detail w
  case release =>
    intro sel s held locked cool
    have answer := exec_resetRelease s sel held (s.mayRelease_of_locked locked cool)
    have other {o : Nat} (h : o ≠ Reg.BOOT_STATUS) : ((s.released sel).bootFrom (if sel then 2 else 0)).reg o = (s.setDomains 0).reg o :=
      State.reg_bootFrom_of_ne _ h _
    have on {d : Nat} (lo : 1 ≤ d) (hi : d ≤ 6) : ((s.released sel).bootFrom (if sel then 2 else 0)).domState d = 0 := by
      rw [State.domState, State.fld, other (by simp only [Reg.PWR_DOMAIN, Reg.BOOT_STATUS]; omega)]
      exact s.domState_setDomains (by decide) lo hi
    refine ⟨_, answer, ?running, fun d => on, ?mode, ?self_test, ?source, ?state, ?flash⟩
    case running => rw [State.inReset, on (by decide) (by decide)]; rfl
    case mode => rw [State.mode, State.fld, other (by decide), s.reg_setDomains_of_ne _ (by decide)]; rfl
    case self_test => rw [State.bootFrom_host]; rfl
    case source => exact State.source_bootFrom _ (by cases sel <;> decide)
    case state => rw [State.state_bootFrom]; cases sel <;> rfl
    case flash =>
      rintro rfl
      obtain ⟨_, _, _, _, _, egress⟩ := s.setDomains_same 0
      exact (State.egress_bootFrom _ (by decide)).trans (congrArg _ egress)
end

section
/-!
SUPPORT. The raw counter (R66): no function of the state but the power-on of PD0 changes it. There is one rule per function that answers a
state, in the model's order, so that each proof stops at the rules of the functions that its own function calls; a rule per instruction
(`KeepsRaw`) ends them, and the statement about what changes the raw counter follows.
-/
open Sys2Proof

namespace Sys2Proof.Machine

/-! ### The raw count -/

/-- The raw counter. -/
def State.raw (s : State) : W64 := s.time.raw

-- Not `rfl` for their proofs: `simp` would then use them by unfolding, and fail to find them in the side conditions of a fold.
@[simp] theorem State.time_raw (s : State) : s.time.raw = s.raw := by unfold State.raw; exact congrArg _ rfl

@[simp] theorem State.mk_raw (regs : Tab Word) (log : LogSt) (host : HostSt) (time : TimeSt) (wc : WcSt) (mem : MemSt) (sc : Tab ScSt) (la : Tab LaSt)
    (laPulse : Nat) (acq : AcqSt) (link : LinkSt) (srv : SrvSt) (pl : PlSt) (opt : OptSt) (sep : SepSt) (sf : SfSt) (twin : TwinSt) (clk : CkSt)
    (modeCmd : Option Cmd) (modeOver : Bool) (egress : List Emit) (free : Nat) (pending : List Instr) :
    (State.mk regs log host time wc mem sc la laPulse acq link srv pl opt sep sf twin clk modeCmd modeOver egress free pending).raw = time.raw := by
  unfold State.raw; exact congrArg _ rfl

/-- Every state that an outcome goes on with has the raw count of `s`. -/
def KeepsRaw (s : State) : Out → Prop
  | .next t => t.raw = s.raw
  | _ => True

@[simp] theorem keepsRaw_next (s t : State) : KeepsRaw s (.next t) ↔ t.raw = s.raw := Iff.rfl

@[simp] theorem ite_raw (p : Prop) [Decidable p] (a b : State) : (if p then a else b).raw = if p then a.raw else b.raw :=
  apply_ite State.raw p a b

theorem raw_ite {p : Prop} [Decidable p] {a b : State} {r : W64} (ha : a.raw = r) (hb : b.raw = r) : (if p then a else b).raw = r := by
  split
  · exact ha
  · exact hb

/-- The state of a pair that a function answers, by that function's own lemma. -/
theorem raw_of_fst {α : Type} {x : State × α} {t : State} {a : α} (h : x = (t, a)) : t.raw = x.1.raw := by rw [h]

@[simp] theorem forEach_raw {α : Type} (l : List α) (s : State) (f : α → State → State) (h : ∀ a t, (f a t).raw = t.raw) :
    (forEach l s f).raw = s.raw :=
  forEach_preserves State.raw l s f fun a t _ => h a t

variable (s : State)

/-! ### The functions of Ops -/

@[simp] theorem State.setReg_raw (o : Nat) (v : Word) : (s.setReg o v).raw = s.raw := congrArg TimeSt.raw (s.setReg_time _ _)

@[simp] theorem State.put_raw (o : Nat) (f : Fld) (x : Nat) : (s.put o f x).raw = s.raw := congrArg TimeSt.raw (s.put_time _ _ _)

@[simp] theorem State.addSat_raw (o : Nat) (f : Fld) (n : Nat) : (s.addSat o f n).raw = s.raw := congrArg TimeSt.raw (s.addSat_time _ _ _)

@[simp] theorem State.addWrap_raw (o : Nat) (f : Fld) : (s.addWrap o f).raw = s.raw := congrArg TimeSt.raw (s.addWrap_time _ _)

@[simp] theorem State.setReg64_raw (o : Nat) (v : W64) : (s.setReg64 o v).raw = s.raw := congrArg TimeSt.raw (s.setReg64_time _ _)

@[simp] theorem State.clearRegs_raw (lo hi : Nat) : (s.clearRegs lo hi).raw = s.raw := congrArg TimeSt.raw (s.clearRegs_time _ _)

@[simp] theorem State.takeFree_raw : s.takeFree.2.raw = s.raw := by simp [State.takeFree]

@[simp] theorem State.post_raw (code src : Nat) (d : BitVec 128) : (s.post code src d).raw = s.raw :=
  congrArg TimeSt.raw (s.post_time _ _ _)

@[simp] theorem State.postB_raw (code : Nat) (d : List (Nat × Nat × Nat)) : (s.postB code d).raw = s.raw :=
  congrArg TimeSt.raw (s.postB_time _ _)

@[simp] theorem State.setDom_raw (d st : Nat) : (s.setDom d st).raw = s.raw := congrArg TimeSt.raw (s.setDom_time _ _)

@[simp] theorem State.wakeDom_raw (d : Nat) : (s.wakeDom d).raw = s.raw := congrArg TimeSt.raw (s.wakeDom_time _)

@[simp] theorem State.emit_raw (e : Emit) : (s.emit e).raw = s.raw := congrArg TimeSt.raw (s.emit_time _)

@[simp] theorem State.msix_raw (fn v : Nat) : (s.msix fn v).raw = s.raw := congrArg TimeSt.raw (s.msix_time _ _)

@[simp] theorem State.setMod_raw (fn ty r : Nat) (m : ModSt) : (s.setMod fn ty r m).raw = s.raw :=
  congrArg TimeSt.raw (s.setMod_time _ _ _ _)

@[simp] theorem State.signal_raw (fn ty r : Nat) : (s.signal fn ty r).raw = s.raw := congrArg TimeSt.raw (s.signal_time _ _ _)

@[simp] theorem State.ringAdvance_raw (fn ty r : Nat) (now : Bool) : (s.ringAdvance fn ty r now).raw = s.raw :=
  congrArg TimeSt.raw (s.ringAdvance_time _ _ _ _)

@[simp] theorem State.ringPush_raw (fn ty r : Nat) (data : List Byte) (now : Bool) : (s.ringPush fn ty r data now).raw = s.raw :=
  congrArg TimeSt.raw (s.ringPush_time _ _ _ _ _)

@[simp] theorem State.ringPost_raw (fn ty r : Nat) (data : List Byte) (now : Bool) : (s.ringPost fn ty r data now).raw = s.raw :=
  congrArg TimeSt.raw (s.ringPost_time _ _ _ _ _)

/-! ### The functions of Sched -/

@[simp] theorem State.modItem_raw (i : Nat) (f : ItemSt → ItemSt) : (s.modItem i f).raw = s.raw := congrArg TimeSt.raw (s.modItem_time _ _)

@[simp] theorem State.modCore_raw (c : Nat) (f : CoreSt → CoreSt) : (s.modCore c f).raw = s.raw := congrArg TimeSt.raw (s.modCore_time _ _)

@[simp] theorem State.setItemState_raw (i st : Nat) : (s.setItemState i st).raw = s.raw := congrArg TimeSt.raw (s.setItemState_time _ _)

@[simp] theorem State.enqueue_raw (i : Nat) : (s.enqueue i).raw = s.raw := congrArg TimeSt.raw (s.enqueue_time _)

@[simp] theorem State.makeReady_raw (i : Nat) : (s.makeReady i).raw = s.raw := congrArg TimeSt.raw (s.makeReady_time _)

@[simp] theorem State.makeSuspended_raw (i res : Nat) : (s.makeSuspended i res).raw = s.raw :=
  congrArg TimeSt.raw (s.makeSuspended_time _ _)

theorem State.raw_of_ready {i n : Nat} {t : State} (h : s.ready i = some (n, t)) : t.raw = s.raw := by
  simp only [State.ready] at h
  split at h
  · cases h
  · split at h
    · cases h; simp
    · split at h
      · cases h; simp
      · split at h <;> cases h <;> simp

@[simp] theorem State.readyFrom_raw (i why b : Nat) : (s.readyFrom i why b).raw = s.raw := by
  simp only [State.readyFrom]
  split
  case h_1 h => exact s.raw_of_ready h
  case h_2 => simp

@[simp] theorem State.fireBindings_raw (kind : Nat) (p : Nat → Bool) : (s.fireBindings kind p).raw = s.raw := by simp [State.fireBindings]

@[simp] theorem State.endWait_raw (i res : Nat) : (s.endWait i res).raw = s.raw := congrArg TimeSt.raw (s.endWait_time _ _)

@[simp] theorem State.signalObj_raw (w : Nat) : (s.signalObj w).raw = s.raw := congrArg TimeSt.raw (s.signalObj_time _)

@[simp] theorem State.noteStranded_raw (c : Nat) : (s.noteStranded c).raw = s.raw := by simp [State.noteStranded]

@[simp] theorem State.setCoreState_raw (c st : Nat) : (s.setCoreState c st).raw = s.raw := by simp [State.setCoreState]

@[simp] theorem State.setSlot_raw (c k : Nat) (x : SlotSt) : (s.setSlot c k x).raw = s.raw := congrArg TimeSt.raw (s.setSlot_time _ _ _)

@[simp] theorem State.complete_raw (c : Cmd) (status blk : Nat) : (s.complete c status blk).raw = s.raw :=
  congrArg TimeSt.raw (s.complete_time _ _ _)

/-! ### The functions of Operands -/

@[simp] theorem State.refuse_raw (c : Cmd) (v : Verdict) : (s.refuse c v).raw = s.raw := congrArg TimeSt.raw (s.refuse_time _ _)

@[simp] theorem State.showJournal_raw : s.showJournal.raw = s.raw := congrArg TimeSt.raw s.showJournal_time

@[simp] theorem State.journal_raw (e : JEntry) : (s.journal e).raw = s.raw := congrArg TimeSt.raw (s.journal_time _)

@[simp] theorem State.journalCmd_raw (c : Cmd) (d : List Byte) : (s.journalCmd c d).raw = s.raw :=
  congrArg TimeSt.raw (s.journalCmd_time _ _)

@[simp] theorem State.judge_raw (c : Cmd) (checks : List (Bool × Verdict)) (run : State → State) (h : ∀ t, (run t).raw = t.raw) :
    (s.judge c checks run).raw = s.raw := by
  simp only [State.judge]
  split
  · simp [h]
  · split
    · simp
    · split <;> simp [h]

/-! ### The functions of Mode -/

@[simp] theorem State.laEmit_raw (e : Emit) : (s.laEmit e).raw = s.raw := by simp [State.laEmit]

@[simp] theorem State.showOuts_raw : s.showOuts.raw = s.raw := by simp [State.showOuts]

@[simp] theorem State.showAct_raw (was : Bool) : (s.showAct was).raw = s.raw := by simp [State.showAct]

@[simp] theorem State.setMode_raw (m : Nat) : (s.setMode m).raw = s.raw := by simp [State.setMode]

@[simp] theorem State.setDefect_raw (b : Nat) : (s.setDefect b).raw = s.raw := by simp [State.setDefect]

@[simp] theorem State.setRole_raw (r : Nat) : (s.setRole r).raw = s.raw := by simp [State.setRole]

/-! ### The functions of Data -/

@[simp] theorem State.breakResv_raw (o n : Nat) : (s.breakResv o n).raw = s.raw := by
  simp only [State.breakResv]
  refine forEach_raw _ _ _ fun _ _ => ?_
  split <;> simp

@[simp] theorem State.sramWrite_raw (o : Nat) (data : List Byte) : (s.sramWrite o data).raw = s.raw := by simp [State.sramWrite]

@[simp] theorem State.setGroup_raw (g st : Nat) : (s.setGroup g st).raw = s.raw := by simp [State.setGroup]

@[simp] theorem State.clearGroup_raw (g : Nat) : (s.clearGroup g).raw = s.raw := by simp [State.clearGroup]

@[simp] theorem State.wakeGroup_raw (g : Nat) : (s.wakeGroup g).raw = s.raw := by simp [State.wakeGroup]

@[simp] theorem State.sramWait_raw (o n : Nat) (a : MemAccess) : (s.sramWait o n a).raw = s.raw := by simp [State.sramWait]

@[simp] theorem State.devWrite_raw (o : Nat) (data : List Byte) : (s.devWrite o data).raw = s.raw := by simp [State.devWrite]

@[simp] theorem State.uncorrectable_raw (src w : Nat) : (s.uncorrectable src w).raw = s.raw := by
  simp only [State.uncorrectable]
  rw [State.setDefect_raw, State.post_raw, State.mk_raw]
  split <;> simp

@[simp] theorem State.notePoison_raw (src o n : Nat) : (s.notePoison src o n).raw = s.raw := by
  simp only [State.notePoison]
  split <;> simp

@[simp] theorem State.foundErrors_raw (src : Nat) (errs : List (Nat × Bool)) : (s.foundErrors src errs).raw = s.raw := by
  simp [State.foundErrors]

@[simp] theorem State.pumpReads_raw : s.pumpReads.raw = s.raw := by simp [State.pumpReads]

@[simp] theorem State.startReads_raw (fn : Nat) (addr : W64) (len : Nat) (job : ReadJob) : (s.startReads fn addr len job).raw = s.raw := by
  simp [State.startReads]

@[simp] theorem State.hostWrite_raw (fn : Nat) (addr : W64) (data : List Byte) : (s.hostWrite fn addr data).raw = s.raw := by
  simp [State.hostWrite]

@[simp] theorem State.withData_raw (c : Cmd) (addr n : Nat) (dma : Dma) (k : List Byte → State → State)
    (h : ∀ d t, (k d t).raw = t.raw) :
    (s.withData c addr n dma k).raw = s.raw := by
  simp only [State.withData]
  split
  · exact h _ _
  · split
    · simp [h]
    · split
      · split
        · split <;> simp [h]
        · simp
      · split <;> simp [h]

@[simp] theorem State.withRoom_raw (c : Cmd) (addr : Nat) (data : List Byte) (k : State → State) (h : ∀ t, (k t).raw = t.raw) :
    (s.withRoom c addr data k).raw = s.raw := by
  simp [State.withRoom, h]

/-! ### The functions of SelfTest -/

@[simp] theorem State.modRegion_raw (r : Nat) (f : RegionSt → RegionSt) : (s.modRegion r f).raw = s.raw :=
  congrArg TimeSt.raw (s.modRegion_time _ _)

@[simp] theorem State.countLent_raw (up : Bool) : (s.countLent up).raw = s.raw := by simp [State.countLent]

@[simp] theorem State.setScState_raw (c st : Nat) : (s.setScState c st).raw = s.raw := by simp [State.setScState]

@[simp] theorem State.ownerReturn_raw (r : Nat) : (s.ownerReturn r).raw = s.raw := by
  simp only [State.ownerReturn]
  split <;> simp

@[simp] theorem State.retireRegion_raw (r : Nat) : (s.retireRegion r).raw = s.raw := by
  unfold State.retireRegion
  extract_lets s1 s2 s3 s4 s5
  have h3 : s3.raw = s.raw := by simp [s3, s2, s1]
  have h4 : s4.raw = s.raw := by
    simp only [s4]
    clear_value s3
    split <;> simp [h3]
  simp [s5, h4]

@[simp] theorem State.freeSlot_raw (r : Nat) : (s.freeSlot r).raw = s.raw := by simp [State.freeSlot]

@[simp] theorem State.returnRegion_raw (r st : Nat) : (s.returnRegion r st).raw = s.raw := by
  simp only [State.returnRegion]
  split
  · simp
  · split <;> simp

@[simp] theorem State.lendRegion_raw (r : Nat) : (s.lendRegion r).raw = s.raw := by
  simp only [State.lendRegion]
  split <;> simp

@[simp] theorem State.endRun_raw (r result cause : Nat) (sig : W64) : (s.endRun r result cause sig).raw = s.raw := by
  simp only [State.endRun]
  split
  · split
    · rw [State.complete_raw]
      split <;> simp
    · rw [State.complete_raw]
      split <;> simp
  · split <;> simp

@[simp] theorem State.abortRun_raw (r cause : Nat) : (s.abortRun r cause).raw = s.raw := by simp [State.abortRun]

@[simp] theorem State.mstDemand_raw (r : Nat) : (s.mstDemand r).raw = s.raw := by simp [State.mstDemand]

@[simp] theorem State.abortAll_raw (cause : Nat) : (s.abortAll cause).raw = s.raw := by simp [State.abortAll]

@[simp] theorem State.coreDemands_raw : s.coreDemands.raw = s.raw := by simp [State.coreDemands]

@[simp] theorem State.finishRun_raw (r : Nat) (sig : W64) : (s.finishRun r sig).raw = s.raw := by simp [State.finishRun]

@[simp] theorem State.sliceEnd_raw (r : Nat) (sig : W64) : (s.sliceEnd r sig).raw = s.raw := by simp [State.sliceEnd]

@[simp] theorem execMstSliceEnd_keepsRaw (r : Nat) (sig : W64) : KeepsRaw s (execMstSliceEnd r sig s) := by simp [execMstSliceEnd]

@[simp] theorem execMstRetryExpire_keepsRaw (r : Nat) : KeepsRaw s (execMstRetryExpire r s) := by simp [execMstRetryExpire]

@[simp] theorem execMstGapExpire_keepsRaw (r : Nat) : KeepsRaw s (execMstGapExpire r s) := by simp [execMstGapExpire]

@[simp] theorem State.startOutOfUse_raw (r : Nat) : (s.startOutOfUse r).raw = s.raw := by simp [State.startOutOfUse]

@[simp] theorem execOutOfUseTestDone_keepsRaw (r : Nat) (sig : W64) : KeepsRaw s (execOutOfUseTestDone r sig s) := by
  simp [execOutOfUseTestDone]

@[simp] theorem State.bootRun_raw (r : Nat) (sig : W64) : (s.bootRun r sig).raw = s.raw := by simp [State.bootRun]

@[simp] theorem State.bootTests_raw (sigs : List (Nat × W64 × W64)) : (s.bootTests sigs).raw = s.raw := by
  simp only [State.bootTests]
  refine forEach_raw _ _ _ fun _ _ => ?_
  split
  · split
    · split <;> simp
    · simp
  · split
    · split <;> simp
    · simp

@[simp] theorem State.startRun_raw (r n : Nat) (c : Option Cmd) : (s.startRun r n c).raw = s.raw := by simp [State.startRun]

@[simp] theorem execMstRun_keepsRaw (c : Cmd) : KeepsRaw s (execMstRun c s) := by simp [execMstRun]

@[simp] theorem execMstCancel_keepsRaw (c : Cmd) : KeepsRaw s (execMstCancel c s) := by simp [execMstCancel]

/-! ### The functions of SignalCores -/

@[simp] theorem State.modSc_raw (c : Nat) (f : ScSt → ScSt) : (s.modSc c f).raw = s.raw := congrArg TimeSt.raw (s.modSc_time _ _)

@[simp] theorem State.setScSr_raw (c v : Nat) : (s.setScSr c v).raw = s.raw := by simp [State.setScSr]

@[simp] theorem State.setScPc_raw (c v : Nat) : (s.setScPc c v).raw = s.raw := by simp [State.setScPc]

@[simp] theorem State.scPend_raw (c line : Nat) : (s.scPend c line).raw = s.raw := by simp [State.scPend]

@[simp] theorem State.scCycle_raw : s.scCycle.raw = s.raw := by simp [State.scCycle]

@[simp] theorem execScTimerIrq_keepsRaw (core : Nat) : KeepsRaw s (execScTimerIrq core s) := by simp [execScTimerIrq]

@[simp] theorem State.setScFifo_raw (c f : Nat) (l : List (BitVec 16 × W64)) : (s.setScFifo c f l).raw = s.raw := by simp [State.setScFifo]

@[simp] theorem State.scPush_raw (c f : Nat) (x : BitVec 16) (t : W64) : (s.scPush c f x t).raw = s.raw := by simp [State.scPush]

@[simp] theorem State.scFeed_raw (kind chan : Nat) (x : BitVec 16) (t : W64) : (s.scFeed kind chan x t).raw = s.raw := by
  simp [State.scFeed]

/-- The state of a result has the raw count `r`. -/
def SndRaw {α : Type} (r : W64) (x : α × State) : Prop := x.2.raw = r

theorem sndRaw_mk {α : Type} {r : W64} {a : α} {t : State} (h : t.raw = r) : SndRaw r (a, t) := h

theorem State.scLoad_sndRaw (c a : Nat) : SndRaw s.raw (s.scLoad c a) := by
  unfold State.scLoad
  split
  · exact sndRaw_mk rfl
  · exact sndRaw_mk rfl
  · obtain ⟨o, ho⟩ : ∃ o, a - 0x8000 = o := ⟨_, rfl⟩
    -- the kernel would unfold this subtraction of a large numeral one step at a time
    rw [ho]
    extract_lets _ f l t s1 s2 k
    clear_value l t
    split
    · split
      · split <;> exact sndRaw_mk (by simp [s2, s1])
      · exact sndRaw_mk rfl
      · exact sndRaw_mk (by simp)
      · exact sndRaw_mk rfl
    · split
      · exact sndRaw_mk (by simp)
      · exact sndRaw_mk rfl

@[simp] theorem State.scLoad_raw (c a : Nat) : (s.scLoad c a).2.raw = s.raw := s.scLoad_sndRaw c a

@[simp] theorem State.scStore_raw (c a v : Nat) : (s.scStore c a v).raw = s.raw := by
  simp only [State.scStore]
  split <;> simp

@[simp] theorem State.scLand1_raw (c : Nat) (p : ScPend) : (s.scLand1 c p).raw = s.raw := by
  simp only [State.scLand1]
  split <;> simp

@[simp] theorem State.scLand_raw (c : Nat) : (s.scLand c).raw = s.raw := by simp [State.scLand]

@[simp] theorem State.scFlush_raw (c : Nat) : (s.scFlush c).raw = s.raw := by simp [State.scFlush]

@[simp] theorem State.scBusy_raw (c n : Nat) : (s.scBusy c n).raw = s.raw := by simp [State.scBusy]

@[simp] theorem State.scEndCommit_raw (c status reason : Nat) : (s.scEndCommit c status reason).raw = s.raw := by
  simp only [State.scEndCommit]
  split <;> simp

@[simp] theorem State.scExc_raw (c cause : Nat) : (s.scExc c cause).raw = s.raw := by simp [State.scExc]

@[simp] theorem State.scSwap_raw (c : Nat) : (s.scSwap c).raw = s.raw := by simp [State.scSwap]

@[simp] theorem State.scLoop_raw (c n : Nat) : (s.scLoop c n).2.raw = s.raw := by
  simp only [State.scLoop]
  split <;> split <;> simp

theorem State.raw_of_scLoop {s t : State} {c n : Nat} {a : Option Nat} (h : s.scLoop c n = (a, t)) : t.raw = s.raw := by
  rw [← s.scLoop_raw c n, h]

@[simp] theorem State.scSequence_raw (c : Nat) (at0 at1 : Bool) (dflt : Nat) : (s.scSequence c at0 at1 dflt).raw = s.raw := by
  unfold State.scSequence
  extract_lets go
  have go_raw (t : State) : (go t).raw = t.raw := by
    simp only [go]
    split
    · split
      case h_1 h => simp [State.raw_of_scLoop h]
      case h_2 h => simp [State.raw_of_scLoop h]
    · simp
  split
  · split
    case h_1 h => simp [State.raw_of_scLoop h]
    case h_2 h => simp [go_raw, State.raw_of_scLoop h]
  · exact go_raw s

@[simp] theorem State.scFinish_raw (c : Nat) (e : ScEff) : (s.scFinish c e).raw = s.raw := by
  simp only [State.scFinish]
  split
  · split
    · simp
    · split <;> simp
  · split
    · simp
    · split <;> simp

/-- An instruction's effect goes on with the raw count `r`. -/
def EffRaw (r : W64) : Except Nat (State × ScEff) → Prop
  | .ok x => x.1.raw = r
  | .error _ => True

@[simp] theorem effRaw_ok (r : W64) (x : State × ScEff) : EffRaw r (.ok x) ↔ x.1.raw = r := Iff.rfl

@[simp] theorem effRaw_error (r : W64) (n : Nat) : EffRaw r (.error n) := trivial

@[simp] theorem State.scIssue_raw (c ecc op : Nat) (legal : Nat → Bool) (body : Nat → State → Except Nat (State × ScEff))
    (h : ∀ w t, EffRaw t.raw (body w t)) :
    (s.scIssue c ecc op legal body).raw = s.raw := by
  unfold State.scIssue
  split
  · rfl
  · extract_lets t w
    have ht : t.raw = s.raw := by simp [t]
    have effect := h w t
    split
    · simp [ht]
    · split
      · simp [ht]
      · split
        · exact ht
        · split
          · simp [ht]
          · split
            · simp [ht]
            · split
              case h_1 => simp [ht]
              case h_2 u e run =>
                rw [run, effRaw_ok] at effect
                simp [effect, ht]

@[simp] theorem scAdd_effRaw (sat : Bool) (c w : Nat) (s : State) : EffRaw s.raw (scAdd sat c w s) := by simp [scAdd]

@[simp] theorem scSub_effRaw (sat : Bool) (c w : Nat) (s : State) : EffRaw s.raw (scSub sat c w s) := by simp [scSub]

@[simp] theorem scLogic_effRaw (op : Nat → Nat → Nat) (c w : Nat) (s : State) : EffRaw s.raw (scLogic op c w s) := by simp [scLogic]

@[simp] theorem scShift_effRaw (op : Int → Nat → Int) (c w : Nat) (signed : Bool) (s : State) : EffRaw s.raw (scShift op c w signed s) := by
  simp [scShift]

@[simp] theorem scUnary_effRaw (op : Int → Int) (c w : Nat) (s : State) : EffRaw s.raw (scUnary op c w s) := by simp [scUnary]

@[simp] theorem scSetAcc_effRaw (r : W64) (c n : Nat) (x : Int) (more : List ScPend) (s : State) :
    EffRaw r (scSetAcc c n x more s) ↔ s.raw = r := by
  simp [scSetAcc]

@[simp] theorem scMul_effRaw (k m : Int) (c w : Nat) (s : State) : EffRaw s.raw (scMul k m c w s) := by simp [scMul]

theorem effRaw_scEcc (ecc a : Nat) (k : State → Except Nat (State × ScEff)) (h : ∀ t, t.raw = s.raw → EffRaw s.raw (k t)) :
    EffRaw s.raw (s.scEcc ecc a >>= k) := by
  simp only [State.scEcc]
  split
  · trivial
  · exact h _ (by simp)

@[simp] theorem scLd_effRaw (ecc c w : Nat) (s : State) : EffRaw s.raw (scLd ecc c w s) := by
  simp only [scLd]
  split
  · trivial
  · exact effRaw_scEcc _ _ _ _ fun t ht => by simp [ht]

@[simp] theorem scSt_effRaw (c w : Nat) (s : State) : EffRaw s.raw (scSt c w s) := by
  simp only [scSt]
  split <;> simp

@[simp] theorem scLdP_effRaw (ecc c w : Nat) (s : State) : EffRaw s.raw (scLdP ecc c w s) := by
  simp only [scLdP]
  split
  · trivial
  · exact effRaw_scEcc _ _ _ _ fun t ht => by simp [ht]

@[simp] theorem scStP_effRaw (c w : Nat) (s : State) : EffRaw s.raw (scStP c w s) := by
  simp only [scStP]
  split <;> simp

@[simp] theorem scMacm_effRaw (ecc c w : Nat) (s : State) : EffRaw s.raw (scMacm ecc c w s) := by
  simp only [scMacm]
  split
  · trivial
  · exact effRaw_scEcc _ _ _ _ fun t ht => by simp [ht]

@[simp] theorem scFtap_effRaw (ecc c w : Nat) (s : State) : EffRaw s.raw (scFtap ecc c w s) := by
  simp only [scFtap]
  split
  · trivial
  · exact effRaw_scEcc _ _ _ _ fun t ht => by simp [ht]

@[simp] theorem scSat_effRaw (c w : Nat) (s : State) : EffRaw s.raw (scSat c w s) := by simp [scSat]

@[simp] theorem scLoopStart_effRaw (n k c w : Nat) (s : State) : EffRaw s.raw (scLoopStart n k c w s) := by
  simp only [scLoopStart]
  split
  · trivial
  · split
    · trivial
    · split <;> simp

@[simp] theorem scCall_effRaw (c w : Nat) (s : State) : EffRaw s.raw (scCall c w s) := by
  simp only [scCall]
  split <;> simp

@[simp] theorem scRet_effRaw (c w : Nat) (s : State) : EffRaw s.raw (scRet c w s) := by
  simp only [scRet]
  split <;> simp

@[simp] theorem execIsaNop_keepsRaw (core ecc : Nat) : KeepsRaw s (execIsaNop core ecc s) := by simp [execIsaNop]

@[simp] theorem execIsaMov_keepsRaw (core ecc : Nat) : KeepsRaw s (execIsaMov core ecc s) := by simp [execIsaMov]

@[simp] theorem execIsaMovi_keepsRaw (core ecc : Nat) : KeepsRaw s (execIsaMovi core ecc s) := by simp [execIsaMovi]

@[simp] theorem execIsaMovsLoad_keepsRaw (core ecc : Nat) : KeepsRaw s (execIsaMovsLoad core ecc s) := by simp [execIsaMovsLoad]

@[simp] theorem execIsaMovsStore_keepsRaw (core ecc : Nat) : KeepsRaw s (execIsaMovsStore core ecc s) := by simp [execIsaMovsStore]

@[simp] theorem execIsaMovsi_keepsRaw (core ecc : Nat) : KeepsRaw s (execIsaMovsi core ecc s) := by simp [execIsaMovsi]

@[simp] theorem execIsaAdd_keepsRaw (core ecc : Nat) : KeepsRaw s (execIsaAdd core ecc s) := by simp [execIsaAdd]

@[simp] theorem execIsaSub_keepsRaw (core ecc : Nat) : KeepsRaw s (execIsaSub core ecc s) := by simp [execIsaSub]

@[simp] theorem execIsaAdds_keepsRaw (core ecc : Nat) : KeepsRaw s (execIsaAdds core ecc s) := by simp [execIsaAdds]

@[simp] theorem execIsaSubs_keepsRaw (core ecc : Nat) : KeepsRaw s (execIsaSubs core ecc s) := by simp [execIsaSubs]

@[simp] theorem execIsaAnd_keepsRaw (core ecc : Nat) : KeepsRaw s (execIsaAnd core ecc s) := by simp [execIsaAnd]

@[simp] theorem execIsaOr_keepsRaw (core ecc : Nat) : KeepsRaw s (execIsaOr core ecc s) := by simp [execIsaOr]

@[simp] theorem execIsaXor_keepsRaw (core ecc : Nat) : KeepsRaw s (execIsaXor core ecc s) := by simp [execIsaXor]

@[simp] theorem execIsaShl_keepsRaw (core ecc : Nat) : KeepsRaw s (execIsaShl core ecc s) := by simp [execIsaShl]

@[simp] theorem execIsaAsr_keepsRaw (core ecc : Nat) : KeepsRaw s (execIsaAsr core ecc s) := by simp [execIsaAsr]

@[simp] theorem execIsaLsr_keepsRaw (core ecc : Nat) : KeepsRaw s (execIsaLsr core ecc s) := by simp [execIsaLsr]

theorem effRaw_map (r : W64) (x : Except Nat (State × ScEff)) (f : ScEff → ScEff) (h : EffRaw r x) :
    EffRaw r (x.map fun y => (y.1, f y.2)) := by
  cases x <;> exact h

@[simp] theorem execIsaCmp_keepsRaw (core ecc : Nat) : KeepsRaw s (execIsaCmp core ecc s) := by
  simp only [execIsaCmp, keepsRaw_next]
  exact State.scIssue_raw _ _ _ _ _ _ fun w t => effRaw_map _ _ (fun e => { pend := e.pend.filter fun p => p.tgt == .flags }) (by simp)

@[simp] theorem execIsaAbs_keepsRaw (core ecc : Nat) : KeepsRaw s (execIsaAbs core ecc s) := by simp [execIsaAbs]

@[simp] theorem execIsaNeg_keepsRaw (core ecc : Nat) : KeepsRaw s (execIsaNeg core ecc s) := by simp [execIsaNeg]

@[simp] theorem execIsaLd_keepsRaw (core ecc : Nat) : KeepsRaw s (execIsaLd core ecc s) := by simp [execIsaLd]

@[simp] theorem execIsaSt_keepsRaw (core ecc : Nat) : KeepsRaw s (execIsaSt core ecc s) := by simp [execIsaSt]

@[simp] theorem execIsaLdP_keepsRaw (core ecc : Nat) : KeepsRaw s (execIsaLdP core ecc s) := by simp [execIsaLdP]

@[simp] theorem execIsaStP_keepsRaw (core ecc : Nat) : KeepsRaw s (execIsaStP core ecc s) := by simp [execIsaStP]

@[simp] theorem execIsaMpy_keepsRaw (core ecc : Nat) : KeepsRaw s (execIsaMpy core ecc s) := by simp [execIsaMpy]

@[simp] theorem execIsaMac_keepsRaw (core ecc : Nat) : KeepsRaw s (execIsaMac core ecc s) := by simp [execIsaMac]

@[simp] theorem execIsaMsu_keepsRaw (core ecc : Nat) : KeepsRaw s (execIsaMsu core ecc s) := by simp [execIsaMsu]

@[simp] theorem execIsaMacm_keepsRaw (core ecc : Nat) : KeepsRaw s (execIsaMacm core ecc s) := by simp [execIsaMacm]

@[simp] theorem execIsaFtap_keepsRaw (core ecc : Nat) : KeepsRaw s (execIsaFtap core ecc s) := by simp [execIsaFtap]

@[simp] theorem execIsaClr_keepsRaw (core ecc : Nat) : KeepsRaw s (execIsaClr core ecc s) := by simp [execIsaClr]

@[simp] theorem execIsaSat_keepsRaw (core ecc : Nat) : KeepsRaw s (execIsaSat core ecc s) := by simp [execIsaSat]

@[simp] theorem execIsaLdacc_keepsRaw (core ecc : Nat) : KeepsRaw s (execIsaLdacc core ecc s) := by simp [execIsaLdacc]

@[simp] theorem execIsaJmp_keepsRaw (core ecc : Nat) : KeepsRaw s (execIsaJmp core ecc s) := by simp [execIsaJmp]

@[simp] theorem execIsaJcc_keepsRaw (core ecc : Nat) : KeepsRaw s (execIsaJcc core ecc s) := by simp [execIsaJcc]

@[simp] theorem execIsaCall_keepsRaw (core ecc : Nat) : KeepsRaw s (execIsaCall core ecc s) := by simp [execIsaCall]

@[simp] theorem execIsaRet_keepsRaw (core ecc : Nat) : KeepsRaw s (execIsaRet core ecc s) := by simp [execIsaRet]

@[simp] theorem execIsaReti_keepsRaw (core ecc : Nat) : KeepsRaw s (execIsaReti core ecc s) := by simp [execIsaReti]

@[simp] theorem execIsaLoop0_keepsRaw (core ecc : Nat) : KeepsRaw s (execIsaLoop0 core ecc s) := by simp [execIsaLoop0]

@[simp] theorem execIsaLoop1_keepsRaw (core ecc : Nat) : KeepsRaw s (execIsaLoop1 core ecc s) := by simp [execIsaLoop1]

@[simp] theorem execIsaLoop0r_keepsRaw (core ecc : Nat) : KeepsRaw s (execIsaLoop0r core ecc s) := by simp [execIsaLoop0r]

@[simp] theorem execIsaLoop1r_keepsRaw (core ecc : Nat) : KeepsRaw s (execIsaLoop1r core ecc s) := by simp [execIsaLoop1r]

@[simp] theorem execIsaWait_keepsRaw (core ecc : Nat) : KeepsRaw s (execIsaWait core ecc s) := by simp [execIsaWait]

@[simp] theorem execIsaHalt_keepsRaw (core ecc : Nat) : KeepsRaw s (execIsaHalt core ecc s) := by simp [execIsaHalt]

@[simp] theorem State.scEnter_raw (c line : Nat) : (s.scEnter c line).raw = s.raw := by simp [State.scEnter]

@[simp] theorem execScInterruptEntry_keepsRaw (core : Nat) : KeepsRaw s (execScInterruptEntry core s) := by
  simp only [execScInterruptEntry, keepsRaw_next]
  split <;> simp

@[simp] theorem execScSwapTimeout_keepsRaw (core : Nat) : KeepsRaw s (execScSwapTimeout core s) := by simp [execScSwapTimeout]

@[simp] theorem execScLoad_keepsRaw (c : Cmd) (dma : Dma) : KeepsRaw s (execScLoad c dma s) := by simp [execScLoad]

@[simp] theorem execScCommit_keepsRaw (c : Cmd) : KeepsRaw s (execScCommit c s) := by simp [execScCommit]

@[simp] theorem execScStart_keepsRaw (c : Cmd) : KeepsRaw s (execScStart c s) := by simp [execScStart]

@[simp] theorem execScHalt_keepsRaw (c : Cmd) : KeepsRaw s (execScHalt c s) := by simp [execScHalt]

@[simp] theorem execScKick_keepsRaw (c : Cmd) : KeepsRaw s (execScKick c s) := by simp [execScKick]

/-! ### The functions of Acquisition -/

@[simp] theorem State.modASet_raw (k : Nat) (f : AcqSet → AcqSet) : (s.modASet k f).raw = s.raw := congrArg TimeSt.raw (s.modASet_time _ _)

@[simp] theorem State.modAStr_raw (c : Nat) (f : AcqStr → AcqStr) : (s.modAStr c f).raw = s.raw := congrArg TimeSt.raw (s.modAStr_time _ _)

@[simp] theorem State.modAU_raw (u : Nat) (f : AcqU → AcqU) : (s.modAU u f).raw = s.raw := congrArg TimeSt.raw (s.modAU_time _ _)

@[simp] theorem State.setU_raw (u st : Nat) : (s.setU u st).raw = s.raw := by simp [State.setU]

@[simp] theorem State.closeRecord_raw (u flags j : Nat) : (s.closeRecord u flags j).raw = s.raw := by simp [State.closeRecord]

@[simp] theorem State.sealChunk_raw (u flags : Nat) (last : Bool) : (s.sealChunk u flags last).raw = s.raw := by
  unfold State.sealChunk
  extract_lets
  split
  · rfl
  · extract_lets hdr written closed
    have closed_raw : closed.raw = s.raw := by simp [closed, written]
    clear_value closed
    simpa using closed_raw

@[simp] theorem State.setDec_raw (u d : Nat) : (s.setDec u d).raw = s.raw := by simp [State.setDec]

@[simp] theorem State.closeChunk_raw (u flags : Nat) (last : Bool) : (s.closeChunk u flags last).raw = s.raw := by simp [State.closeChunk]

@[simp] theorem State.openChunk_raw (u : Nat) (t : W64) : (s.openChunk u t).raw = s.raw := by simp [State.openChunk]

@[simp] theorem State.chunkFrame_raw (u : Nat) (t : W64) (data : List Byte) (f0 : Bool) : (s.chunkFrame u t data f0).raw = s.raw := by
  simp only [State.chunkFrame]
  split <;> simp

@[simp] theorem State.maskViolation_raw (u j : Nat) : (s.maskViolation u j).raw = s.raw := by simp [State.maskViolation]

@[simp] theorem State.maskRecord_raw (u : Nat) : (s.maskRecord u).raw = s.raw := by
  simp only [State.maskRecord]
  split
  · simp
  · split
    · simp
    · split <;> simp

@[simp] theorem State.streamFrame_raw (u : Nat) (f : AcqFrame) (data : List Byte) : (s.streamFrame u f data).raw = s.raw := by
  simp [State.streamFrame]

@[simp] theorem State.tbPulse_raw (l : Nat) (t : W64) : (s.tbPulse l t).raw = s.raw := by simp [State.tbPulse]

@[simp] theorem State.tbToggle_raw (l : Nat) : (s.tbToggle l).raw = s.raw := by simp [State.tbToggle]

@[simp] theorem State.showLost_raw (u : Nat) : (s.showLost u).raw = s.raw := by simp [State.showLost]

@[simp] theorem State.lostTrigger_raw (u : Nat) (t : W64) : (s.lostTrigger u t).raw = s.raw := by simp [State.lostTrigger]

@[simp] theorem State.startStream_raw (u : Nat) (t : W64) : (s.startStream u t).raw = s.raw := by simp [State.startStream]

@[simp] theorem State.acceptTrigger_raw (u : Nat) (t : W64) (short : Bool) : (s.acceptTrigger u t short).raw = s.raw := by
  simp [State.acceptTrigger]

@[simp] theorem State.trigger_raw (u : Nat) (t : W64) : (s.trigger u t).raw = s.raw := by simp [State.trigger]

@[simp] theorem State.storeFrame_raw (u : Nat) : (s.storeFrame u).raw = s.raw := by simp [State.storeFrame]

@[simp] theorem State.unitInput_raw (u : Nat) (t : W64) (xs : List (Option Int)) : (s.unitInput u t xs).raw = s.raw := by
  simp only [State.unitInput]
  split
  · simp
  · split <;> simp

@[simp] theorem State.setRefused_raw (k : Nat) : (s.setRefused k).raw = s.raw := by simp [State.setRefused]

@[simp] theorem State.setStart_raw (k : Nat) (c : Option Cmd) : (s.setStart k c).raw = s.raw := by simp [State.setStart]

@[simp] theorem State.adcSetAction_raw (k : Nat) : (s.adcSetAction k).raw = s.raw := by simp [State.adcSetAction]

@[simp] theorem State.setEnds_raw (k : Nat) : (s.setEnds k).raw = s.raw := by
  simp only [State.setEnds]
  split <;> simp

@[simp] theorem execConversionSample_keepsRaw (set : Nat) (xs : List (Nat × Int × Bool)) : KeepsRaw s (execConversionSample set xs s) := by
  simp only [execConversionSample, keepsRaw_next]
  split
  · simp
  · split
    · rw [State.setEnds_raw]
      split <;> simp
    · split <;> simp

@[simp] theorem execConversionReady_keepsRaw (set : Nat) : KeepsRaw s (execConversionReady set s) := by
  simp only [execConversionReady, keepsRaw_next]
  split
  · simp
  · split
    · simp
    · split
      · rw [State.setEnds_raw, forEach_raw]
        · rw [forEach_raw]
          · simp
          · intro a t
            split <;> simp
        · intro a t
          simp
      · rw [forEach_raw]
        · rw [forEach_raw]
          · simp
          · intro a t
            split <;> simp
        · intro a t
          simp

@[simp] theorem execAcqPathGap_keepsRaw (ns : Nat) : KeepsRaw s (execAcqPathGap ns s) := by
  simp only [execAcqPathGap, keepsRaw_next]
  split
  · simp
  · split <;> simp

@[simp] theorem State.strSample_raw (c spacing : Nat) (t : W64) (x : Option Int) : (s.strSample c spacing t x).raw = s.raw := by
  simp only [State.strSample]
  split <;> simp

@[simp] theorem State.strFragment_raw (c node fseq : Nat) (ts : W64) (spacing : Nat) (xs : List Int) :
    (s.strFragment c node fseq ts spacing xs).raw = s.raw := by
  simp only [State.strFragment]
  split
  · simp
  · split
    · simp
    · split <;> simp

@[simp] theorem State.acqProbes_raw (tk : W64) (value : Nat → Nat → Option Int) : (s.acqProbes tk value).raw = s.raw := by
  simp [State.acqProbes]

@[simp] theorem State.armUnit_raw (u : Nat) : (s.armUnit u).raw = s.raw := by simp [State.armUnit]

@[simp] theorem State.captureArm_raw (u : Nat) : (s.captureArm u).raw = s.raw := by
  simp only [State.captureArm]
  split
  · simp
  · split <;> simp

@[simp] theorem execAcqTimeTrigger_keepsRaw (u : Nat) : KeepsRaw s (execAcqTimeTrigger u s) := by simp [execAcqTimeTrigger]

@[simp] theorem State.eventTrigger_raw (r : Rec) : (s.eventTrigger r).raw = s.raw := by simp [State.eventTrigger]

@[simp] theorem execAcqPreFilled_keepsRaw (u : Nat) : KeepsRaw s (execAcqPreFilled u s) := by simp [execAcqPreFilled]

@[simp] theorem execAcqPostComplete_keepsRaw (u : Nat) : KeepsRaw s (execAcqPostComplete u s) := by simp [execAcqPostComplete]

@[simp] theorem execAcqRearmEnd_keepsRaw (u : Nat) : KeepsRaw s (execAcqRearmEnd u s) := by simp [execAcqRearmEnd]

@[simp] theorem execStreamChunkPost_keepsRaw (ring : Nat) (addr : W64) (len : Nat) : KeepsRaw s (execStreamChunkPost ring addr len s) := by
  unfold execStreamChunkPost
  rw [keepsRaw_next]
  split
  · rfl
  · split
    · rfl
    · extract_lets size o entry tail noted data written posted closed i src ordered
      have written_raw : written.raw = s.raw := by
        simp only [written]
        split <;> simp [noted]
      have ordered_raw : ordered.raw = s.raw := by
        simp [ordered, closed, posted, written_raw]
      clear_value ordered
      split
      · rfl
      · split
        · simp
        · split
          · simp
          · split
            · split
              · simpa using ordered_raw
              · exact ordered_raw
            · exact ordered_raw

@[simp] theorem execDecRestore_keepsRaw (u : Nat) : KeepsRaw s (execDecRestore u s) := by simp [execDecRestore]

@[simp] theorem State.popLost_raw (u : Nat) : (s.popLost u).raw = s.raw := by simp [State.popLost]

@[simp] theorem State.setTbLine_raw (l : Nat) (x : TbLine) : (s.setTbLine l x).raw = s.raw := by simp [State.setTbLine]

@[simp] theorem State.badPulse_raw (l cause : Nat) : (s.badPulse l cause).raw = s.raw := by simp [State.badPulse]

@[simp] theorem State.calCheck_raw : s.calCheck.raw = s.raw := by
  simp only [State.calCheck]
  split <;> simp

@[simp] theorem State.calFail_raw (l : Nat) : (s.calFail l).raw = s.raw := by simp [State.calFail]

@[simp] theorem State.calDone_raw (l d : Nat) : (s.calDone l d).raw = s.raw := by simp [State.calDone]

@[simp] theorem State.calValue_raw (l : Nat) (x : Int) : (s.calValue l x).raw = s.raw := by
  simp only [State.calValue]
  split <;> simp

@[simp] theorem execTriggerBusPulse_keepsRaw (line width : Nat) (t : W64) (window : Bool) :
    KeepsRaw s (execTriggerBusPulse line width t window s) := by
  simp only [execTriggerBusPulse, keepsRaw_next]
  split
  · simp
  · split
    · simp
    · split
      · split
        · simp
        · split <;> simp
      · simp

@[simp] theorem execTbCalProbe_keepsRaw (line : Nat) (t : W64) : KeepsRaw s (execTbCalProbe line t s) := by
  simp only [execTbCalProbe, keepsRaw_next]
  split <;> simp

@[simp] theorem State.syncSets_raw (sn : W64) : (s.syncSets sn).raw = s.raw := by simp [State.syncSets]

@[simp] theorem execSyncPulseDrive_keepsRaw : KeepsRaw s (execSyncPulseDrive s) := by simp [execSyncPulseDrive]

@[simp] theorem execSyncPulseReceive_keepsRaw (width : Nat) (t : W64) : KeepsRaw s (execSyncPulseReceive width t s) := by
  simp [execSyncPulseReceive]

@[simp] theorem execSyncSetStart_keepsRaw (set : Nat) : KeepsRaw s (execSyncSetStart set s) := by
  simp only [execSyncSetStart, keepsRaw_next]
  split <;> simp

@[simp] theorem execAcqSetStart_keepsRaw (c : Cmd) : KeepsRaw s (execAcqSetStart c s) := by simp [execAcqSetStart]

@[simp] theorem execAcqSetStop_keepsRaw (c : Cmd) : KeepsRaw s (execAcqSetStop c s) := by simp [execAcqSetStop]

@[simp] theorem execAcqArm_keepsRaw (c : Cmd) : KeepsRaw s (execAcqArm c s) := by
  simp only [execAcqArm, keepsRaw_next]
  refine State.judge_raw _ _ _ _ fun _ => ?_
  split <;> simp

@[simp] theorem execAcqStop_keepsRaw (c : Cmd) : KeepsRaw s (execAcqStop c s) := by simp [execAcqStop]

@[simp] theorem execAcqForce_keepsRaw (c : Cmd) : KeepsRaw s (execAcqForce c s) := by simp [execAcqForce]

@[simp] theorem execAcqCopy_keepsRaw (c : Cmd) : KeepsRaw s (execAcqCopy c s) := by
  simp only [execAcqCopy, keepsRaw_next]
  refine State.judge_raw _ _ _ _ fun _ => ?_
  split
  · simp
  · split
    · simp
    · refine State.withData_raw _ _ _ _ _ _ fun _ _ => ?_
      refine State.withData_raw _ _ _ _ _ _ fun _ _ => ?_
      simp

@[simp] theorem execAcqTbCal_keepsRaw (c : Cmd) : KeepsRaw s (execAcqTbCal c s) := by simp [execAcqTbCal]

/-! ### The functions of Memory -/

@[simp] theorem State.bar4Refuse_raw (o : Nat) : (s.bar4Refuse o).raw = s.raw := by simp [State.bar4Refuse]

@[simp] theorem State.sramHostRead_raw (o n : Nat) (errs : List (Nat × Bool)) : (s.sramHostRead o n errs).raw = s.raw := by
  simp only [State.sramHostRead]
  rw [State.emit_raw]
  split <;> simp

@[simp] theorem State.sramHostWrite_raw (o : Nat) (data : List Byte) : (s.sramHostWrite o data).raw = s.raw := by simp [State.sramHostWrite]

@[simp] theorem execBar4Read_keepsRaw (off len : Nat) (errs : List (Nat × Bool)) : KeepsRaw s (execBar4Read off len errs s) := by
  simp only [execBar4Read, keepsRaw_next]
  split <;> simp

@[simp] theorem execBar4Write_keepsRaw (off : Nat) (data : List Byte) : KeepsRaw s (execBar4Write off data s) := by
  simp only [execBar4Write, keepsRaw_next]
  split <;> simp

@[simp] theorem execScrubRead_keepsRaw (errs : List (Nat × Bool)) : KeepsRaw s (execScrubRead errs s) := by simp [execScrubRead]

@[simp] theorem execMemGroupSet_keepsRaw (c : Cmd) : KeepsRaw s (execMemGroupSet c s) := by simp [execMemGroupSet]

@[simp] theorem State.groupOn_raw (g : Nat) : (s.groupOn g).raw = s.raw := by simp [State.groupOn]

@[simp] theorem execRetentionLost_keepsRaw (g : Nat) : KeepsRaw s (execRetentionLost g s) := by simp [execRetentionLost]

@[simp] theorem State.startWipe_raw (why : Nat) : (s.startWipe why).raw = s.raw := by simp [State.startWipe]

@[simp] theorem State.clearSecure_raw : s.clearSecure.raw = s.raw := by simp [State.clearSecure]

@[simp] theorem State.tamper_raw (cause : Nat) : (s.tamper cause).raw = s.raw := by simp [State.tamper]

@[simp] theorem execTamperInput_keepsRaw (cause : Nat) : KeepsRaw s (execTamperInput cause s) := by simp [execTamperInput]

@[simp] theorem State.wipeDone_raw : s.wipeDone.raw = s.raw := by
  simp only [State.wipeDone]
  split
  · simp
  · split
    · rw [State.mk_raw]
      split <;> simp
    · simp

@[simp] theorem execWipeComplete_keepsRaw : KeepsRaw s (execWipeComplete s) := by simp [execWipeComplete]

/-! ### The functions of Time -/

@[simp] theorem State.setView_raw (w : Nat) (v : View) : (s.setView w v).raw = s.raw := by simp [State.setView]

@[simp] theorem State.writeEntry_raw (n kind idx view : Nat) (periodic drop : Bool) (t : W64) (period : Nat) :
    (s.writeEntry n kind idx view periodic drop t period).raw = s.raw := by
  simp [State.writeEntry]

@[simp] theorem State.setArmed_raw (n : Nat) (b : Bool) : (s.setArmed n b).raw = s.raw := by simp [State.setArmed]

@[simp] theorem State.fireLate_raw (n : Nat) : (s.fireLate n).raw = s.raw := by simp [State.fireLate]

@[simp] theorem State.actArm_raw (c : Cmd) : (s.actArm c).raw = s.raw := by simp [State.actArm]

@[simp] theorem State.passOccurrence_raw (n : Nat) : (s.passOccurrence n).raw = s.raw := by simp [State.passOccurrence]

@[simp] theorem State.countFired_raw (n : Nat) : (s.countFired n).raw = s.raw := by simp [State.countFired]

@[simp] theorem State.countCollision_raw (a n : Nat) : (s.countCollision a n).raw = s.raw := by simp [State.countCollision]

@[simp] theorem State.disarmAll_raw : s.disarmAll.raw = s.raw := by simp [State.disarmAll]

@[simp] theorem State.plantAccepted_raw : s.plantAccepted.raw = s.raw := by simp [State.plantAccepted]

@[simp] theorem State.slewTo_raw (w : Nat) (x : Int) : (s.slewTo w x).raw = s.raw := by simp [State.slewTo]

@[simp] theorem State.rateTo_raw (w : Nat) (r : Int) : (s.rateTo w r).raw = s.raw := by simp [State.rateTo]

@[simp] theorem State.stepBy_raw (w : Nat) (x : Int) : (s.stepBy w x).raw = s.raw := by simp [State.stepBy]

@[simp] theorem execTimeSlew_keepsRaw (c : Cmd) : KeepsRaw s (execTimeSlew c s) := by simp [execTimeSlew]

@[simp] theorem execTimeSetRate_keepsRaw (c : Cmd) : KeepsRaw s (execTimeSetRate c s) := by simp [execTimeSetRate]

@[simp] theorem execTimeStep_keepsRaw (c : Cmd) : KeepsRaw s (execTimeStep c s) := by simp [execTimeStep]

@[simp] theorem execSlewComplete_keepsRaw (view : Nat) : KeepsRaw s (execSlewComplete view s) := by simp [execSlewComplete]

@[simp] theorem State.commitSample_raw (t : W64) : (s.commitSample t).raw = s.raw := by simp [State.commitSample]

@[simp] theorem State.sampleAccepted_raw (td : W64) : (s.sampleAccepted td).raw = s.raw := by simp [State.sampleAccepted]

@[simp] theorem State.disciplineRun_raw : s.disciplineRun.raw = s.raw := by
  simp only [State.disciplineRun]
  split
  · simp
  · split
    · simp
    · split <;> simp

@[simp] theorem execPlantHoldoverEnter_keepsRaw : KeepsRaw s (execPlantHoldoverEnter s) := by simp [execPlantHoldoverEnter]

@[simp] theorem State.snap_raw : s.snap.raw = s.raw := by simp [State.snap]

@[simp] theorem State.discCtrlWritten_raw (was : Bool) : (s.discCtrlWritten was).raw = s.raw := by simp [State.discCtrlWritten]

/-! ### The functions of LinkFrame -/

@[simp] theorem State.checkBank_raw (k : Nat) : (s.checkBank k).1.raw = s.raw := by simp [State.checkBank]

@[simp] theorem State.clearBank_raw (k : Nat) : (s.clearBank k).raw = s.raw := by simp [State.clearBank]

@[simp] theorem State.fillBank_raw (k : Nat) (l : List Byte) : (s.fillBank k l).raw = s.raw := by simp [State.fillBank]

/-! ### The functions of Link -/

@[simp] theorem State.modLp_raw (c p : Nat) (f : LkPort → LkPort) : (s.modLp c p f).raw = s.raw := congrArg TimeSt.raw (s.modLp_time _ _ _)

@[simp] theorem State.modLn_raw (c n : Nat) (f : LkNode → LkNode) : (s.modLn c n f).raw = s.raw := congrArg TimeSt.raw (s.modLn_time _ _ _)

@[simp] theorem State.modLink_raw (f : LinkSt → LinkSt) : (s.modLink f).raw = s.raw := congrArg TimeSt.raw (s.modLink_time _)

@[simp] theorem State.setLinkState_raw (x : Nat) : (s.setLinkState x).raw = s.raw := by simp [State.setLinkState]

@[simp] theorem State.setPort_raw (c p st : Nat) : (s.setPort c p st).raw = s.raw := by simp [State.setPort]

@[simp] theorem State.refreshPort_raw (c p : Nat) : (s.refreshPort c p).raw = s.raw := by simp [State.refreshPort]

@[simp] theorem State.setDelay_raw (c n : Nat) (d : Option Nat) : (s.setDelay c n d).raw = s.raw := by simp [State.setDelay]

@[simp] theorem State.showProb_raw (n : Nat) : (s.showProb n).raw = s.raw := by simp [State.showProb]

@[simp] theorem State.countMember_raw (c n : Nat) (up : Bool) : (s.countMember c n up).raw = s.raw := by simp [State.countMember]

@[simp] theorem State.setMemb_raw (c n st cause : Nat) (keepDelay : Bool) : (s.setMemb c n st cause keepDelay).raw = s.raw := by
  simp [State.setMemb]

@[simp] theorem State.notice_raw (c p n code : Nat) : (s.notice c p n code).raw = s.raw := by simp [State.notice]

@[simp] theorem State.endMemb_raw (c n cause : Nat) : (s.endMemb c n cause).raw = s.raw := by simp [State.endMemb]

@[simp] theorem State.foul031A_raw (c n : Nat) : (s.foul031A c n).raw = s.raw := by simp [State.foul031A]

@[simp] theorem State.starOut_raw (c p start : Nat) (f : RawFrame) : (s.starOut c p start f).raw = s.raw := by simp [State.starOut]

@[simp] theorem State.sendServe_raw (rank start : Nat) : (s.sendServe rank start).raw = s.raw := by simp [State.sendServe]

@[simp] theorem State.sendClaim_raw : s.sendClaim.raw = s.raw := by simp [State.sendClaim]

@[simp] theorem State.queueMsg_raw (c p : Nat) (m : LkMsg) : (s.queueMsg c p m).raw = s.raw := by simp [State.queueMsg]

@[simp] theorem State.sendSlotList_raw (c n k : Nat) : (s.sendSlotList c n k).raw = s.raw := by simp [State.sendSlotList]

@[simp] theorem State.endAll_raw : s.endAll.raw = s.raw := by simp [State.endAll]

@[simp] theorem State.linkHalt_raw : s.linkHalt.raw = s.raw := by
  -- the ended state as a variable: the kernel would otherwise evaluate it in every branch
  obtain ⟨t, ht⟩ : ∃ t, (s.setLinkState lStopped).endAll = t := ⟨_, rfl⟩
  have raw_t : t.raw = s.raw := by simp [← ht]
  unfold State.linkHalt
  rw [ht]
  clear ht
  extract_lets _ u v
  have raw_u : u.raw = s.raw := by
    simp only [u]
    split
    · simpa using raw_t
    · exact raw_t
  have raw_v : v.raw = s.raw := by
    simp only [v]
    clear_value u
    split
    · simpa using raw_u
    · exact raw_u
  simpa using raw_v

@[simp] theorem State.abortStart_raw (reason : Nat) : (s.abortStart reason).raw = s.raw := by
  simp only [State.abortStart]
  split <;> simp

@[simp] theorem State.portNodesNone_raw (c p cause : Nat) : (s.portNodesNone c p cause).raw = s.raw := by simp [State.portNodesNone]

@[simp] theorem State.closePort_raw (c p : Nat) : (s.closePort c p).raw = s.raw := by simp [State.closePort]

@[simp] theorem State.violation_raw (c p : Nat) : (s.violation c p).raw = s.raw := by
  unfold State.violation
  exact raw_ite rfl (raw_ite (by simp) (raw_ite (by simp) (by simp)))

@[simp] theorem execContainDecay_keepsRaw (ch port : Nat) : KeepsRaw s (execContainDecay ch port s) := by simp [execContainDecay]

@[simp] theorem execLaneLost_keepsRaw (ch port : Nat) (lock hiBer : Bool) : KeepsRaw s (execLaneLost ch port lock hiBer s) := by
  simp [execLaneLost]

@[simp] theorem execLaneLossExpire_keepsRaw (ch port : Nat) : KeepsRaw s (execLaneLossExpire ch port s) := by simp [execLaneLossExpire]

@[simp] theorem State.cutFrame_raw (c p code nt slot src : Nat) (l : List (Nat × Nat × Nat)) :
    (s.cutFrame c p code nt slot src l).raw = s.raw := by
  simp [State.cutFrame]

@[simp] theorem State.edge_raw (c p n : Nat) : (s.edge c p n).raw = s.raw := by simp [State.edge]

@[simp] theorem execStartBlockReceive_keepsRaw (ch port pos : Nat) (start : List Byte) :
    KeepsRaw s (execStartBlockReceive ch port pos start s) := by
  unfold execStartBlockReceive
  rw [keepsRaw_next]
  extract_lets kind src k dg t
  have raw_t : t.raw = s.raw := State.modLp_raw _ _ _ _
  have cut_raw (code nt slot n : Nat) (l : List (Nat × Nat × Nat)) : (t.cutFrame ch port code nt slot n l).raw = s.raw := by
    rw [State.cutFrame_raw, raw_t]
  clear_value t kind src k dg
  refine raw_ite rfl (raw_ite (raw_ite raw_t ?_) (raw_ite raw_t (raw_ite raw_t (raw_ite ?_ ?_))))
  · simpa using raw_t
  · simpa using raw_t
  split
  · exact cut_raw _ _ _ _ _
  next e x _ =>
  refine raw_ite (cut_raw _ _ _ _ _) ?_
  split
  next nom i _ =>
  extract_lets g ofs u v w
  have raw_w : w.raw = s.raw := raw_ite (by simpa [v, u] using raw_t) (by simpa [v, u] using raw_t)
  clear_value w g ofs
  refine raw_ite (cut_raw _ _ _ _ _) (raw_ite (cut_raw _ _ _ _ _) (raw_ite (cut_raw _ _ _ _ _) (raw_ite (cut_raw _ _ _ _ _) ?_)))
  exact raw_ite (raw_ite raw_w (by simpa using raw_w)) (by simpa using raw_w)

@[simp] theorem execFrameOverrun_keepsRaw (ch port : Nat) : KeepsRaw s (execFrameOverrun ch port s) := by
  simp only [execFrameOverrun, keepsRaw_next]
  split
  · split
    · split <;> simp
    · simp
  · simp

@[simp] theorem execArbGrant_keepsRaw (ch e round : Nat) : KeepsRaw s (execArbGrant ch e round s) := by
  simp only [execArbGrant, keepsRaw_next]
  split <;> simp

@[simp] theorem State.twinQueue_raw (e c : Nat) (f : RawFrame) : (s.twinQueue e c f).raw = s.raw := by simp [State.twinQueue]

@[simp] theorem State.takeFrame_raw (c p : Nat) (f : RawFrame) (kind : Nat) : (s.takeFrame c p f kind).1.raw = s.raw := by
  unfold State.takeFrame
  split
  · rfl
  · split
    · rfl
    · split
      · rfl
      · extract_lets t u late v w
        have raw_t : t.raw = s.raw := State.modLp_raw _ _ _ _
        have raw_u : u.raw = s.raw := by
          rw [← raw_t]
          refine forEach_raw _ _ _ fun d t => ?_
          split <;> simp
        have raw_w : w.raw = s.raw := by simp only [w, v, State.modLn_raw, State.modLink_raw, raw_u]
        clear_value u w
        split
        · exact raw_u
        · split
          · exact raw_w
          · split
            · simpa using raw_w
            · split
              · simpa using raw_w
              · split
                · simpa using raw_w
                · exact raw_w

@[simp] theorem execDataReceive_keepsRaw (ch port : Nat) (f : RawFrame) : KeepsRaw s (execDataReceive ch port f s) := by
  simp [execDataReceive]

@[simp] theorem execArbReceive_keepsRaw (ch port : Nat) (f : RawFrame) : KeepsRaw s (execArbReceive ch port f s) := by simp [execArbReceive]

@[simp] theorem execEntryMissing_keepsRaw (ch e : Nat) : KeepsRaw s (execEntryMissing ch e s) := by
  simp only [execEntryMissing, keepsRaw_next]
  split
  · simp
  · split
    · split
      · split <;> split <;> simp
      · simp
    · simp

@[simp] theorem State.forwardAll_raw (c p : Nat) (f : RawFrame) : (s.forwardAll c p f).raw = s.raw := by simp [State.forwardAll]

@[simp] theorem State.foreignServe_raw (c p : Nat) (f : RawFrame) : (s.foreignServe c p f).raw = s.raw := by simp [State.foreignServe]

@[simp] theorem execServeReceive_keepsRaw (ch port : Nat) (pos : Int) (f : RawFrame) : KeepsRaw s (execServeReceive ch port pos f s) := by
  simp [execServeReceive]

@[simp] theorem execLetPhaseOpen_keepsRaw (ch : Nat) : KeepsRaw s (execLetPhaseOpen ch s) := by simp [execLetPhaseOpen]

@[simp] theorem execLetPhaseClose_keepsRaw (ch : Nat) : KeepsRaw s (execLetPhaseClose ch s) := by simp [execLetPhaseClose]

@[simp] theorem execLetReceive_keepsRaw (ch port pos : Nat) (f : RawFrame) : KeepsRaw s (execLetReceive ch port pos f s) := by
  simp [execLetReceive]

@[simp] theorem execLetSend_keepsRaw : KeepsRaw s (execLetSend s) := by simp [execLetSend]

@[simp] theorem State.succession_raw : s.succession.raw = s.raw := by
  simp only [State.succession]
  split <;> simp

@[simp] theorem execMasterLossExpire_keepsRaw : KeepsRaw s (execMasterLossExpire s) := by simp [execMasterLossExpire]

@[simp] theorem execClaimReceive_keepsRaw (ch port : Nat) (f : RawFrame) : KeepsRaw s (execClaimReceive ch port f s) := by
  simp [execClaimReceive]

@[simp] theorem execListenCountExpire_keepsRaw : KeepsRaw s (execListenCountExpire s) := by simp [execListenCountExpire]

@[simp] theorem execClaimCountExpire_keepsRaw : KeepsRaw s (execClaimCountExpire s) := by
  simp only [execClaimCountExpire, keepsRaw_next]
  split
  · split <;> simp
  · simp

@[simp] theorem State.sendProbe_raw (c p e : Nat) (x : Ent) : (s.sendProbe c p e x).raw = s.raw := by
  simp only [State.sendProbe]
  split
  · simp
  · split
    · simp
    · split
      · simp
      · split
        · simp
        · split
          · simp
          · split <;> simp

@[simp] theorem State.mgmtOn_raw (c e : Nat) (x : Ent) : (s.mgmtOn c e x).raw = s.raw := by
  simp only [State.mgmtOn]
  refine forEach_raw _ _ _ fun _ _ => ?_
  split
  · simp
  · split <;> simp

@[simp] theorem State.mgmtHeld_raw (c : Nat) (x : Ent) : (s.mgmtHeld c x).raw = s.raw := by simp [State.mgmtHeld]

@[simp] theorem execDeviceMgmtSend_keepsRaw (e : Nat) : KeepsRaw s (execDeviceMgmtSend e s) := by
  simp only [execDeviceMgmtSend, keepsRaw_next]
  split <;> simp

@[simp] theorem State.measFail_raw (c p n cause : Nat) : (s.measFail c p n cause).raw = s.raw := by simp [State.measFail]

@[simp] theorem State.delayAccept_raw (c p : Nat) (m : LkMeas) : (s.delayAccept c p m).raw = s.raw := by
  simp only [State.delayAccept]
  split
  · simp
  · split
    · simp
    · split <;> simp

@[simp] theorem execSyncAnswerReceive_keepsRaw (ch port : Nat) (t2 : W64) (f : RawFrame) :
    KeepsRaw s (execSyncAnswerReceive ch port t2 f s) := by
  simp only [execSyncAnswerReceive, keepsRaw_next]
  split
  · simp
  · split <;> simp

@[simp] theorem execProbeUnanswered_keepsRaw (ch port : Nat) : KeepsRaw s (execProbeUnanswered ch port s) := by
  simp only [execProbeUnanswered, keepsRaw_next]
  split <;> simp

@[simp] theorem execReprobeExpire_keepsRaw : KeepsRaw s (execReprobeExpire s) := by simp [execReprobeExpire]

@[simp] theorem State.sendGrant_raw (c p n result : Nat) (serial : W64) (orbit : Nat) :
    (s.sendGrant c p n result serial orbit).raw = s.raw := by
  simp [State.sendGrant]

@[simp] theorem State.joinReq_raw (c p : Nat) (f : RawFrame) : (s.joinReq c p f).raw = s.raw := by simp [State.joinReq]

@[simp] theorem execJoinReqReceive_keepsRaw (ch port : Nat) (f : RawFrame) : KeepsRaw s (execJoinReqReceive ch port f s) := by
  simp [execJoinReqReceive]

@[simp] theorem execProbationEnd_keepsRaw (ch n : Nat) : KeepsRaw s (execProbationEnd ch n s) := by simp [execProbationEnd]

@[simp] theorem execMemberSilent_keepsRaw (ch n : Nat) : KeepsRaw s (execMemberSilent ch n s) := by simp [execMemberSilent]

@[simp] theorem State.slotAck_raw (n tag : Nat) : (s.slotAck n tag).raw = s.raw := by
  simp only [State.slotAck]
  split <;> simp

@[simp] theorem State.mgmtReply_raw (n : Nat) (p : List Byte) : (s.mgmtReply n p).raw = s.raw := by
  simp only [State.mgmtReply]
  split <;> simp

@[simp] theorem execMgmtReceive_keepsRaw (ch port : Nat) (f : RawFrame) : KeepsRaw s (execMgmtReceive ch port f s) := by
  simp only [execMgmtReceive, keepsRaw_next]
  split
  · simp
  · split
    · simp
    · split <;> simp

@[simp] theorem execLinkMgmtTimeout_keepsRaw (tag : Nat) : KeepsRaw s (execLinkMgmtTimeout tag s) := by
  simp only [execLinkMgmtTimeout, keepsRaw_next]
  split <;> simp

@[simp] theorem State.rebase_raw (t : W64) (us : Nat) : (s.rebase t us).raw = s.raw := by simp [State.rebase]

@[simp] theorem State.withhold_raw (reason : Nat) : (s.withhold reason).raw = s.raw := by
  simp only [State.withhold]
  split <;> simp

@[simp] theorem State.endDisallowed_raw : s.endDisallowed.raw = s.raw := by simp [State.endDisallowed]

@[simp] theorem State.bankSwap_raw (b : Nat) (c : Cmd) (tk : W64) : (s.bankSwap b c tk).raw = s.raw := by simp [State.bankSwap]

@[simp] theorem State.commitStep_raw (tk : W64) : (s.commitStep tk).raw = s.raw := by
  simp only [State.commitStep]
  split <;> simp

@[simp] theorem execAckWaitExpire_keepsRaw : KeepsRaw s (execAckWaitExpire s) := by
  simp only [execAckWaitExpire, keepsRaw_next]
  split <;> simp

@[simp] theorem State.grantBoundary_raw : s.grantBoundary.raw = s.raw := by simp [State.grantBoundary]

@[simp] theorem State.portBoundary_raw : s.portBoundary.raw = s.raw := by simp [State.portBoundary]

@[simp] theorem State.orbitBoundary_raw (tk : W64) : (s.orbitBoundary tk).raw = s.raw := by
  simp only [State.orbitBoundary]
  split
  · simp
  · rw [State.grantBoundary_raw]
    split <;> simp

@[simp] theorem State.linkBoundary_raw (tk : W64) : (s.linkBoundary tk).raw = s.raw := by
  unfold State.linkBoundary
  extract_lets t u v st counted quiet w next x y z
  have raw_u : u.raw = s.raw := by simp [u, t]
  have raw_v : v.raw = s.raw := by
    simp only [v]
    split <;> simpa using raw_u
  have raw_y : y.raw = s.raw := by simp [y, x, w, raw_v]
  clear_value v y
  split
  · simpa using raw_v
  split
  · split <;> simpa [counted] using raw_v
  split
  · exact raw_v
  split
  · split
    · simpa using raw_y
    · exact raw_y
  split
  next b bad h =>
    have raw_b : b.raw = s.raw := by
      rw [raw_of_fst h]
      split <;> simpa [z] using raw_y
    split
    · simpa using raw_b
    · dsimp only
      split <;> simpa using raw_b

@[simp] theorem State.bankWritten_raw (k : Nat) : (s.bankWritten k).raw = s.raw := by
  simp only [State.bankWritten]
  split
  · split
    · split <;> simp
    · simp
  · split
    · split <;> simp
    · simp

@[simp] theorem State.linkTick_raw : s.linkTick.raw = s.raw := by simp [State.linkTick]

@[simp] theorem State.stageChecked_raw (c : Cmd) (k : Nat) : (s.stageChecked c k).raw = s.raw := by
  simp only [State.stageChecked]
  split <;> simp

@[simp] theorem execLinkStage_keepsRaw (c : Cmd) : KeepsRaw s (execLinkStage c s) := by simp [execLinkStage]

@[simp] theorem execLinkStart_keepsRaw (c : Cmd) : KeepsRaw s (execLinkStart c s) := by
  simp only [execLinkStart, keepsRaw_next]
  refine State.judge_raw _ _ _ _ fun _ => ?_
  rw [State.modLink_raw, State.setLinkState_raw, State.rebase_raw]
  split <;> simp

@[simp] theorem execLinkStop_keepsRaw (c : Cmd) : KeepsRaw s (execLinkStop c s) := by simp [execLinkStop]

@[simp] theorem execLinkCommit_keepsRaw (c : Cmd) : KeepsRaw s (execLinkCommit c s) := by simp [execLinkCommit]

@[simp] theorem execLinkPortOpen_keepsRaw (c : Cmd) : KeepsRaw s (execLinkPortOpen c s) := by simp [execLinkPortOpen]

@[simp] theorem execLinkPortClose_keepsRaw (c : Cmd) : KeepsRaw s (execLinkPortClose c s) := by simp [execLinkPortClose]

@[simp] theorem execLinkNodeCtrl_keepsRaw (c : Cmd) : KeepsRaw s (execLinkNodeCtrl c s) := by
  simp only [execLinkNodeCtrl, keepsRaw_next]
  refine State.judge_raw _ _ _ _ fun _ => ?_
  rw [State.complete_raw]
  refine forEach_raw _ _ _ fun _ _ => ?_
  split <;> simp

@[simp] theorem execLinkMgmt_keepsRaw (c : Cmd) : KeepsRaw s (execLinkMgmt c s) := by simp [execLinkMgmt]

/-! ### The functions of LocalAxes -/

@[simp] theorem State.modLa_raw (c : Nat) (f : LaSt → LaSt) : (s.modLa c f).raw = s.raw := congrArg TimeSt.raw (s.modLa_time _ _)

@[simp] theorem State.laErr_raw (c : Nat) (f : Fld) : (s.laErr c f).raw = s.raw := by simp [State.laErr]

@[simp] theorem State.setLaD_raw (c d : Nat) : (s.setLaD c d).raw = s.raw := by simp [State.setLaD]

@[simp] theorem State.laGates_raw (c : Nat) : (s.laGates c).raw = s.raw := by simp [State.laGates]

@[simp] theorem State.laTargets_raw (c i m : Nat) : (s.laTargets c i m).raw = s.raw := by simp [State.laTargets]

@[simp] theorem State.laZero_raw (c : Nat) : (s.laZero c).raw = s.raw := by simp [State.laZero]

@[simp] theorem State.laDrive_raw (c : Nat) : (s.laDrive c).raw = s.raw := by simp [State.laDrive]

@[simp] theorem State.outBall_raw (o : Nat) : (s.outBall o).raw = s.raw := by simp [State.outBall]

@[simp] theorem State.outAct_raw (o act : Nat) : (s.outAct o act).raw = s.raw := by simp [State.outAct]

@[simp] theorem execComparePulseEnd_keepsRaw (out : Nat) : KeepsRaw s (execComparePulseEnd out s) := by simp [execComparePulseEnd]

@[simp] theorem State.setMask_raw (r e : Nat) (v : Bool) : (s.setMask r e v).raw = s.raw := by simp [State.setMask]

@[simp] theorem State.armCmp_raw (c e : Nat) : (s.armCmp c e).raw = s.raw := by simp [State.armCmp]

@[simp] theorem State.armAllCmp_raw (c : Nat) : (s.armAllCmp c).raw = s.raw := by simp [State.armAllCmp]

@[simp] theorem State.cmpDisable_raw (c : Nat) : (s.cmpDisable c).raw = s.raw := by simp [State.cmpDisable]

@[simp] theorem State.cmpEnable_raw (c : Nat) : (s.cmpEnable c).raw = s.raw := by simp [State.cmpEnable]

@[simp] theorem State.cmpAction_raw (c : Nat) (t : W64) : (s.cmpAction c t).raw = s.raw := by simp [State.cmpAction]

@[simp] theorem State.fireCmp_raw (c : Nat) (rev : Bool) : (s.fireCmp c rev).raw = s.raw := by
  refine List.foldlRecOn (motive := fun x : State × List Nat => x.1.raw = s.raw) _ _ rfl fun x hx e _ => ?_
  simp only [State.setMask_raw, State.armCmp_raw, State.setReg_raw, State.outAct_raw, State.addWrap_raw, ite_raw, ite_self, hx]

@[simp] theorem State.laStep_raw (c : Nat) (neg : Bool) : (s.laStep c neg).raw = s.raw := by simp [State.laStep]

@[simp] theorem State.laIllegal_raw (c old new : Nat) : (s.laIllegal c old new).raw = s.raw := by simp [State.laIllegal]

@[simp] theorem execQuadTransition_keepsRaw (ch ab : Nat) : KeepsRaw s (execQuadTransition ch ab s) := by
  simp only [execQuadTransition, keepsRaw_next]
  split
  · simp
  · split <;> simp

@[simp] theorem execStepDirEdge_keepsRaw (ch : Nat) (dir : Bool) : KeepsRaw s (execStepDirEdge ch dir s) := by simp [execStepDirEdge]

@[simp] theorem execUpDownEdge_keepsRaw (ch : Nat) (up down : Bool) : KeepsRaw s (execUpDownEdge ch up down s) := by simp [execUpDownEdge]

@[simp] theorem execHallCodeChange_keepsRaw (ch code : Nat) : KeepsRaw s (execHallCodeChange ch code s) := by
  simp only [execHallCodeChange, keepsRaw_next]
  split
  · simp
  · split
    · simp
    · split <;> simp

@[simp] theorem execLaRxFault_keepsRaw (ch input : Nat) : KeepsRaw s (execLaRxFault ch input s) := by simp [execLaRxFault]

@[simp] theorem execLaIndex_keepsRaw (ch : Nat) : KeepsRaw s (execLaIndex ch s) := by
  simp only [execLaIndex, keepsRaw_next]
  split
  · simp
  · split <;> simp

@[simp] theorem State.laSample_raw : s.laSample.raw = s.raw := by simp [State.laSample]

@[simp] theorem State.showLatch_raw (c : Nat) : (s.showLatch c).raw = s.raw := by
  simp only [State.showLatch]
  split <;> simp

@[simp] theorem execLatchCapture_keepsRaw (ch pin : Nat) (rising : Bool) (age : Nat) (time : W64) :
    KeepsRaw s (execLatchCapture ch pin rising age time s) := by
  simp only [execLatchCapture, keepsRaw_next]
  split
  · split
    · simp
    · split
      · simp
      · split
        · split <;> simp
        · simp
  · split
    · simp
    · split
      · simp
      · split
        · split <;> simp
        · simp

@[simp] theorem State.popLatch_raw (c : Nat) : (s.popLatch c).raw = s.raw := by simp [State.popLatch]

@[simp] theorem State.laLoad_raw (c : Nat) (v tau : Int) (enable : Bool) : (s.laLoad c v tau enable).raw = s.raw := by simp [State.laLoad]

@[simp] theorem execStepEmit_keepsRaw (ch : Nat) : KeepsRaw s (execStepEmit ch s) := by simp [execStepEmit]

@[simp] theorem execChopComparator_keepsRaw (ch ph i : Nat) : KeepsRaw s (execChopComparator ch ph i s) := by simp [execChopComparator]

@[simp] theorem execChopFastEnd_keepsRaw (ch ph : Nat) : KeepsRaw s (execChopFastEnd ch ph s) := by simp [execChopFastEnd]

@[simp] theorem State.newOfs_raw (c p mt ms : Nat) (skip : Bool) : (s.newOfs c p mt ms skip).raw = s.raw := by simp [State.newOfs]

@[simp] theorem execAdaptInterval_keepsRaw (ch : Nat) (iv : Interval) : KeepsRaw s (execAdaptInterval ch iv s) := by
  simp [execAdaptInterval]

@[simp] theorem execChopOvercurrent_keepsRaw (ch ph i : Nat) : KeepsRaw s (execChopOvercurrent ch ph i s) := by simp [execChopOvercurrent]

@[simp] theorem State.chopRestart_raw (c : Nat) : (s.chopRestart c).raw = s.raw := by simp [State.chopRestart]

@[simp] theorem State.runChanged_raw (c : Nat) (was : Bool) : (s.runChanged c was).raw = s.raw := by simp [State.runChanged]

@[simp] theorem State.holdCmp_raw (who : Init) (c e : Nat) (inc : Bool) (v : Word) : (s.holdCmp who c e inc v).raw = s.raw := by
  simp [State.holdCmp]

@[simp] theorem State.cmpCtrlWritten_raw (who : Init) (c e : Nat) : (s.cmpCtrlWritten who c e).raw = s.raw := by
  simp only [State.cmpCtrlWritten]
  rw [State.armCmp_raw, State.modLa_raw]
  split
  · rw [State.setReg_raw]
    split <;> simp
  · split <;> simp

@[simp] theorem execAnaloguePathGap_keepsRaw (gap : Nat) : KeepsRaw s (execAnaloguePathGap gap s) := by simp [execAnaloguePathGap]

@[simp] theorem State.gatesOff_raw : s.gatesOff.raw = s.raw := by simp [State.gatesOff]

@[simp] theorem execAnalogueGateTimeout_keepsRaw : KeepsRaw s (execAnalogueGateTimeout s) := by simp [execAnalogueGateTimeout]

@[simp] theorem State.setCount_raw (c v : Nat) : (s.setCount c v).raw = s.raw := by simp [State.setCount]

@[simp] theorem execLaCmpEnable_keepsRaw (c : Cmd) : KeepsRaw s (execLaCmpEnable c s) := by simp [execLaCmpEnable]

/-! ### The functions of ServoLoop -/

@[simp] theorem State.modSrv_raw (f : SrvSt → SrvSt) : (s.modSrv f).raw = s.raw := congrArg TimeSt.raw (s.modSrv_time _)

@[simp] theorem State.modOut_raw (a : Nat) (f : SrvOut → SrvOut) : (s.modOut a f).raw = s.raw := by simp [State.modOut]

@[simp] theorem State.modGrp_raw (g : Nat) (f : SrvGrp → SrvGrp) : (s.modGrp g f).raw = s.raw := by simp [State.modGrp]

/-! ### The functions of Servo -/

@[simp] theorem State.setPipe_raw (f : Fld) (i : Nat) (v : Bool) : (s.setPipe f i v).raw = s.raw := by simp [State.setPipe]

@[simp] theorem State.pipeEvent_raw (i what : Nat) : (s.pipeEvent i what).raw = s.raw := by simp [State.pipeEvent]

@[simp] theorem State.pipeFailed_raw (i : Nat) : (s.pipeFailed i).raw = s.raw := by simp [State.pipeFailed]

@[simp] theorem State.pipeReturned_raw (i : Nat) : (s.pipeReturned i).raw = s.raw := by
  simp only [State.pipeReturned]
  split
  · split
    · simp
    · split <;> simp
  · split
    · simp
    · split <;> simp

@[simp] theorem State.pipeBoundary_raw : s.pipeBoundary.raw = s.raw := by simp [State.pipeBoundary]

@[simp] theorem State.discardFoul_raw (a cause pipe : Nat) : (s.discardFoul a cause pipe).raw = s.raw := by simp [State.discardFoul]

@[simp] theorem State.srvCompute_raw (failed : List Nat) : (s.srvCompute failed).raw = s.raw := by simp [State.srvCompute]

@[simp] theorem State.showAxis_raw (a : Nat) (x : SrvAx) : (s.showAxis a x).raw = s.raw := by simp [State.showAxis]

@[simp] theorem State.axisDone_raw (a : Nat) (x : SrvAx) : (s.axisDone a x).raw = s.raw := by
  simp only [State.axisDone]
  rw [State.modOut_raw]
  split <;> simp

@[simp] theorem State.axisDiscard_raw (a : Nat) : (s.axisDiscard a).raw = s.raw := by
  simp only [State.axisDiscard]
  split
  · simp
  · split <;> simp

@[simp] theorem State.srvFinish_raw : s.srvFinish.raw = s.raw := by simp [State.srvFinish]

@[simp] theorem execServoOverrunCheck_keepsRaw (late : List Nat) : KeepsRaw s (execServoOverrunCheck late s) := by
  simp [execServoOverrunCheck]

@[simp] theorem State.setPhase_raw (g ph : Nat) (tk : W64) : (s.setPhase g ph tk).raw = s.raw := by simp [State.setPhase]

@[simp] theorem State.takeHeld_raw (g : Nat) : (s.takeHeld g).raw = s.raw := by simp [State.takeHeld]

@[simp] theorem State.enterOn_raw (g : Nat) (tk : W64) : (s.enterOn g tk).raw = s.raw := by simp [State.enterOn]

@[simp] theorem State.enterOff_raw (g : Nat) (tk : W64) : (s.enterOff g tk).raw = s.raw := by simp [State.enterOff]

@[simp] theorem State.enterBraking_raw (g : Nat) (fault : Bool) (tk : W64) : (s.enterBraking g fault tk).raw = s.raw := by
  simp [State.enterBraking]

@[simp] theorem State.enterReleasing_raw (g : Nat) (tk : W64) : (s.enterReleasing g tk).raw = s.raw := by simp [State.enterReleasing]

@[simp] theorem State.enterEnabling_raw (g : Nat) (tk : W64) : (s.enterEnabling g tk).raw = s.raw := by simp [State.enterEnabling]

@[simp] theorem State.servoFault_raw (tk : W64) (e : Nat × Nat × Nat × Nat × Nat) : (s.servoFault tk e).raw = s.raw := by
  simp [State.servoFault]

@[simp] theorem State.phaseRequest_raw (g : Nat) (tk : W64) : (s.phaseRequest g tk).raw = s.raw := by simp [State.phaseRequest]

@[simp] theorem State.phaseTimes_raw (g : Nat) (tk : W64) : (s.phaseTimes g tk).raw = s.raw := by simp [State.phaseTimes]

@[simp] theorem State.showReq_raw : s.showReq.raw = s.raw := by simp [State.showReq]

@[simp] theorem State.swapNow_raw (q : Nat) (c : Cmd) : (s.swapNow q c).raw = s.raw := by simp [State.swapNow]

@[simp] theorem State.dropCommit_raw (q : Nat) : (s.dropCommit q).raw = s.raw := by simp [State.dropCommit]

@[simp] theorem State.swapBoundary_raw : s.swapBoundary.raw = s.raw := by simp [State.swapBoundary]

@[simp] theorem State.withholdSwaps_raw (reason : Nat) : (s.withholdSwaps reason).raw = s.raw := by simp [State.withholdSwaps]

@[simp] theorem execSrvCommit_keepsRaw (c : Cmd) : KeepsRaw s (execSrvCommit c s) := by
  simp only [execSrvCommit, keepsRaw_next]
  refine State.judge_raw _ _ _ _ fun _ => ?_
  split <;> simp

@[simp] theorem execSrvCopy_keepsRaw (c : Cmd) : KeepsRaw s (execSrvCopy c s) := by
  simp only [execSrvCopy, keepsRaw_next]
  refine State.judge_raw _ _ _ _ fun _ => ?_
  simp

@[simp] theorem State.issueOutputs_raw : s.issueOutputs.raw = s.raw := by simp [State.issueOutputs]

@[simp] theorem State.axisBoundary_raw : s.axisBoundary.raw = s.raw := by simp [State.axisBoundary]

@[simp] theorem State.readyRuns_raw : s.readyRuns.raw = s.raw := by simp [State.readyRuns]

@[simp] theorem State.servoBoundary_raw (tk : W64) : (s.servoBoundary tk).raw = s.raw := by simp [State.servoBoundary]

@[simp] theorem execEnableTimeout_keepsRaw (g : Nat) : KeepsRaw s (execEnableTimeout g s) := by simp [execEnableTimeout]

@[simp] theorem execBrakeTimeExpire_keepsRaw (g : Nat) : KeepsRaw s (execBrakeTimeExpire g s) := by simp [execBrakeTimeExpire]

@[simp] theorem execDeviceDataSend_keepsRaw (e : Nat) : KeepsRaw s (execDeviceDataSend e s) := by
  simp only [execDeviceDataSend, keepsRaw_next]
  split
  · simp
  · split
    · refine forEach_raw _ _ _ fun _ _ => ?_
      split <;> simp
    · simp

/-! ### The functions of Kin -/

@[simp] theorem State.modPl_raw (f : PlSt → PlSt) : (s.modPl f).raw = s.raw := congrArg TimeSt.raw (s.modPl_time _)

@[simp] theorem State.modPg_raw (g : Nat) (f : PlGrp → PlGrp) : (s.modPg g f).raw = s.raw := congrArg TimeSt.raw (s.modPg_time _ _)

@[simp] theorem State.modPz_raw (z : Nat) (f : PlZone → PlZone) : (s.modPz z f).raw = s.raw := by simp [State.modPz]

@[simp] theorem State.modOpt_raw (f : OptSt → OptSt) : (s.modOpt f).raw = s.raw := congrArg TimeSt.raw (s.modOpt_time _)

@[simp] theorem State.modOg_raw (g : Nat) (f : OptGrp → OptGrp) : (s.modOg g f).raw = s.raw := congrArg TimeSt.raw (s.modOg_time _ _)

/-! ### The functions of Planner -/

@[simp] theorem State.setGrp_raw (g st hold fin : Nat) : (s.setGrp g st hold fin).raw = s.raw := by simp [State.setGrp]

@[simp] theorem State.showQueue_raw (g : Nat) : (s.showQueue g).raw = s.raw := by
  simp only [State.showQueue]
  split <;> simp

@[simp] theorem State.flushQueue_raw (g fin : Nat) : (s.flushQueue g fin).raw = s.raw := by simp [State.flushQueue]

@[simp] theorem State.dropEnable_raw (g : Nat) : (s.dropEnable g).raw = s.raw := by
  simp only [State.dropEnable]
  split <;> simp

@[simp] theorem State.dropHolds_raw (g : Nat) : (s.dropHolds g).raw = s.raw := by simp [State.dropHolds]

@[simp] theorem State.dropAcquires_raw (g : Nat) : (s.dropAcquires g).raw = s.raw := by
  simp only [State.dropAcquires]
  refine forEach_raw _ _ _ fun _ _ => ?_
  split
  · simp
  · refine forEach_raw _ _ _ fun _ _ => ?_
    split <;> simp

@[simp] theorem State.doneStops_raw (g : Nat) : (s.doneStops g).raw = s.raw := by simp [State.doneStops]

@[simp] theorem State.atRest_raw (g : Nat) : (s.atRest g).raw = s.raw := by simp [State.atRest]

@[simp] theorem State.toDisabled_raw (g fin req : Nat) : (s.toDisabled g fin req).raw = s.raw := by simp [State.toDisabled]

@[simp] theorem State.beginStop_raw (g fin : Nat) : (s.beginStop g fin).raw = s.raw := by simp [State.beginStop]

@[simp] theorem State.beginHold_raw (g : Nat) : (s.beginHold g).raw = s.raw := by simp [State.beginHold]

@[simp] theorem State.hold_raw (g cause : Nat) : (s.hold g cause).raw = s.raw := by simp [State.hold]

@[simp] theorem State.unhold_raw (g cause : Nat) : (s.unhold g cause).raw = s.raw := by simp [State.unhold]

@[simp] theorem State.planFault_raw (g : Nat) (f : Fld) (code : Nat) (d : List (Nat × Nat × Nat)) :
    (s.planFault g f code d).raw = s.raw := by
  simp [State.planFault]

@[simp] theorem execRampEnd_keepsRaw (g : Nat) : KeepsRaw s (execRampEnd g s) := by simp [execRampEnd]

@[simp] theorem State.setPlan_raw (g : Nat) (p : PlPlan) : (s.setPlan g p).raw = s.raw := by simp [State.setPlan]

@[simp] theorem State.noteKept_raw (g : Nat) (m : PlMove) (kept : Bool) : (s.noteKept g m kept).raw = s.raw := by simp [State.noteKept]

@[simp] theorem State.endMove_raw (g fin : Nat) : (s.endMove g fin).raw = s.raw := by
  simp only [State.endMove]
  split <;> simp

@[simp] theorem State.startMove_raw (g : Nat) (tk : W64) : (s.startMove g tk).raw = s.raw := by
  simp only [State.startMove]
  split
  · simp
  · split
    · simp
    · split
      · simp
      · split
        · simp
        · split <;> simp

@[simp] theorem State.reprofile_raw (g : Nat) : (s.reprofile g).raw = s.raw := by
  simp only [State.reprofile]
  split
  · split
    · split <;> simp
    · simp
    · simp
  · simp

@[simp] theorem State.rampStep_raw (g : Nat) : (s.rampStep g).1.raw = s.raw := by
  simp only [State.rampStep]
  split <;> simp

@[simp] theorem State.trackCycle_raw (g : Nat) (m : PlMove) (hist : List Int) : (s.trackCycle g m hist).raw = s.raw := by
  simp only [State.trackCycle]
  split
  · simp
  · split
    · simp
    · split <;> simp

@[simp] theorem State.putSp_raw (g j field reg w f x : Nat) : (s.putSp g j field reg w f x).raw = s.raw := by simp [State.putSp]

@[simp] theorem State.writeSp_raw (g : Nat) (md : PlModel) (v a : List Nat) (trq : Option (List Nat)) :
    (s.writeSp g md v a trq).raw = s.raw := by
  simp only [State.writeSp]
  refine forEach_raw _ _ _ fun _ _ => ?_
  split <;> simp

@[simp] theorem State.checkSp_raw (g : Nat) (md : PlModel) (was : List Nat) : (s.checkSp g md was).raw = s.raw := by
  simp only [State.checkSp]
  split
  · rw [State.planFault_raw]
    split <;> simp
  · split <;> simp
  · split <;> simp

@[simp] theorem State.interpolate_raw (g : Nat) : (s.interpolate g).raw = s.raw := by
  simp only [State.interpolate]
  split
  · simp
  · split
    · simp
    · split
      · simp
      · split <;> simp

@[simp] theorem State.servoTold_raw (g : Nat) : (s.servoTold g).raw = s.raw := by
  simp only [State.servoTold]
  split
  · split
    · split
      · simp
      · split <;> simp
    · simp
  · split
    · split
      · simp
      · split <;> simp
    · simp

@[simp] theorem State.zoneTrip_raw (g cat : Nat) : (s.zoneTrip g cat).raw = s.raw := by simp [State.zoneTrip]

@[simp] theorem State.planBoundary_raw (tk : W64) : (s.planBoundary tk).raw = s.raw := by
  simp only [State.planBoundary]
  split
  · simp
  · refine forEach_raw _ _ _ fun _ _ => ?_
    rw [State.interpolate_raw]
    split <;> simp

/-! ### The functions of OptProg -/

@[simp] theorem State.setClu_raw (f : Fld) (c : Nat) (v : Bool) : (s.setClu f c v).raw = s.raw := by simp [State.setClu]

@[simp] theorem execOptStage_keepsRaw (c : Cmd) (dma : Dma) : KeepsRaw s (execOptStage c dma s) := by simp [execOptStage]

/-! ### The functions of PlanCmd -/

@[simp] theorem State.setZoneBit_raw (r z : Nat) (v : Bool) : (s.setZoneBit r z v).raw = s.raw := by simp [State.setZoneBit]

@[simp] theorem State.requestZone_raw (g z : Nat) (c : Option Cmd) : (s.requestZone g z c).raw = s.raw := by simp [State.requestZone]

@[simp] theorem State.grantZone_raw (g z : Nat) : (s.grantZone g z).raw = s.raw := by
  simp only [State.grantZone]
  rw [forEach_raw]
  · simp
  · intro a t
    split <;> simp

@[simp] theorem State.releaseZone_raw (z : Nat) : (s.releaseZone z).raw = s.raw := by simp [State.releaseZone]

@[simp] theorem State.grantZones_raw : s.grantZones.raw = s.raw := by
  simp only [State.grantZones]
  refine forEach_raw _ _ _ fun _ _ => ?_
  split
  · simp
  · split <;> simp

@[simp] theorem State.showLims_raw (g : Nat) : (s.showLims g).raw = s.raw := by simp [State.showLims]

@[simp] theorem State.loadModel_raw (g : Nat) (m : PlModel) : (s.loadModel g m).raw = s.raw := by simp [State.loadModel]

@[simp] theorem execGrpLoadModel_keepsRaw (c : Cmd) (dma : Dma) : KeepsRaw s (execGrpLoadModel c dma s) := by simp [execGrpLoadModel]

@[simp] theorem execGrpSetLimits_keepsRaw (c : Cmd) : KeepsRaw s (execGrpSetLimits c s) := by simp [execGrpSetLimits]

@[simp] theorem execGrpEnable_keepsRaw (c : Cmd) : KeepsRaw s (execGrpEnable c s) := by simp [execGrpEnable]

@[simp] theorem execGrpDisable_keepsRaw (c : Cmd) : KeepsRaw s (execGrpDisable c s) := by simp [execGrpDisable]

@[simp] theorem execGrpStop_keepsRaw (c : Cmd) : KeepsRaw s (execGrpStop c s) := by simp [execGrpStop]

@[simp] theorem execGrpHold_keepsRaw (c : Cmd) : KeepsRaw s (execGrpHold c s) := by simp [execGrpHold]

@[simp] theorem execGrpResume_keepsRaw (c : Cmd) : KeepsRaw s (execGrpResume c s) := by simp [execGrpResume]

@[simp] theorem execGrpClearFault_keepsRaw (c : Cmd) : KeepsRaw s (execGrpClearFault c s) := by simp [execGrpClearFault]

@[simp] theorem State.moveCmd_raw (c : Cmd) (dma : Dma) (kind : Nat) : (s.moveCmd c dma kind).raw = s.raw := by
  simp only [State.moveCmd]
  refine State.judge_raw _ _ _ _ fun _ => ?_
  refine State.withData_raw _ _ _ _ _ _ fun _ _ => ?_
  split <;> simp

@[simp] theorem execMoveJoint_keepsRaw (c : Cmd) (dma : Dma) : KeepsRaw s (execMoveJoint c dma s) := by simp [execMoveJoint]

@[simp] theorem execMovePath_keepsRaw (c : Cmd) (dma : Dma) : KeepsRaw s (execMovePath c dma s) := by simp [execMovePath]

@[simp] theorem execMoveTrack_keepsRaw (c : Cmd) (dma : Dma) : KeepsRaw s (execMoveTrack c dma s) := by simp [execMoveTrack]

@[simp] theorem execMoveModify_keepsRaw (c : Cmd) (dma : Dma) : KeepsRaw s (execMoveModify c dma s) := by
  simp only [execMoveModify, keepsRaw_next]
  refine State.judge_raw _ _ _ _ fun _ => ?_
  split <;> simp

@[simp] theorem execZoneAcquire_keepsRaw (c : Cmd) : KeepsRaw s (execZoneAcquire c s) := by simp [execZoneAcquire]

@[simp] theorem execZoneRelease_keepsRaw (c : Cmd) : KeepsRaw s (execZoneRelease c s) := by simp [execZoneRelease]

@[simp] theorem execZoneSet_keepsRaw (c : Cmd) : KeepsRaw s (execZoneSet c s) := by simp [execZoneSet]

/-! ### The functions of SafetyDie -/

@[simp] theorem State.modSf_raw (f : SfSt → SfSt) : (s.modSf f).raw = s.raw := congrArg TimeSt.raw (s.modSf_time _)

@[simp] theorem State.setPair_raw (p : Nat) (x : SfPair) : (s.setPair p x).raw = s.raw := by simp [State.setPair]

@[simp] theorem State.setCouple_raw (m : Nat) (x : SfCouple) : (s.setCouple m x).raw = s.raw := by simp [State.setCouple]

@[simp] theorem State.setZone_raw (n : Nat) (x : SfZone) : (s.setZone n x).raw = s.raw := by simp [State.setZone]

@[simp] theorem State.setOutput_raw (i : Nat) (o : SfOutput) : (s.setOutput i o).raw = s.raw := by simp [State.setOutput]

@[simp] theorem State.setReadback_raw (i : Nat) (x y : Bool) : (s.setReadback i x y).raw = s.raw := by simp [State.setReadback]

@[simp] theorem State.setCoil_raw (c ma : Nat) : (s.setCoil c ma).raw = s.raw := by simp [State.setCoil]

@[simp] theorem State.scanPairs_raw : s.scanPairs.raw = s.raw := by simp [State.scanPairs]

@[simp] theorem State.scanCouples_raw : s.scanCouples.raw = s.raw := by simp [State.scanCouples]

@[simp] theorem State.tripZone_raw (z cause : Nat) : (s.tripZone z cause).raw = s.raw := by simp [State.tripZone]

@[simp] theorem State.armZone_raw (z : Nat) : (s.armZone z).raw = s.raw := by simp [State.armZone]

@[simp] theorem State.lockZone_raw (z cause : Nat) (keep : Bool) : (s.lockZone z cause keep).raw = s.raw := by simp [State.lockZone]

@[simp] theorem State.scanZones_raw : s.scanZones.raw = s.raw := by simp [State.scanZones]

@[simp] theorem State.scanOutputs_raw : s.scanOutputs.raw = s.raw := by simp [State.scanOutputs]

@[simp] theorem State.sfScan_raw : s.sfScan.raw = s.raw := by simp [State.sfScan]

@[simp] theorem State.sfSettle_raw : s.sfSettle.raw = s.raw := by simp [State.sfSettle]

@[simp] theorem State.outFault_raw (i kind : Nat) : (s.outFault i kind).raw = s.raw := by
  simp only [State.outFault]
  split
  · simp
  · rw [State.sfSettle_raw]
    split <;> simp

@[simp] theorem execSfInputEdge_keepsRaw (pair ch : Nat) (high : Bool) : KeepsRaw s (execSfInputEdge pair ch high s) := by
  simp [execSfInputEdge]

@[simp] theorem execDiscrepancyTimeout_keepsRaw (pair : Nat) : KeepsRaw s (execDiscrepancyTimeout pair s) := by
  simp [execDiscrepancyTimeout]

@[simp] theorem execTwoHandTimeout_keepsRaw (couple : Nat) : KeepsRaw s (execTwoHandTimeout couple s) := by simp [execTwoHandTimeout]

@[simp] theorem execTestPulseStart_keepsRaw (src : Nat) : KeepsRaw s (execTestPulseStart src s) := by simp [execTestPulseStart]

@[simp] theorem execTestPulseCheck_keepsRaw (pair ch : Nat) (high : Bool) : KeepsRaw s (execTestPulseCheck pair ch high s) := by
  simp [execTestPulseCheck]

@[simp] theorem execTestPulseEnd_keepsRaw (src : Nat) : KeepsRaw s (execTestPulseEnd src s) := by simp [execTestPulseEnd]

@[simp] theorem execStopDelayExpire_keepsRaw (zone : Nat) : KeepsRaw s (execStopDelayExpire zone s) := by simp [execStopDelayExpire]

@[simp] theorem State.unlockDone_raw (z : Nat) (ok failed : Bool) : (s.unlockDone z ok failed).raw = s.raw := by simp [State.unlockDone]

@[simp] theorem State.stepPassed_raw (i : Nat) : (s.stepPassed i).raw = s.raw := by simp [State.stepPassed]

@[simp] theorem State.sfLog_raw (stamp : W64) (zone action : Nat) : (s.sfLog stamp zone action).raw = s.raw := by simp [State.sfLog]

@[simp] theorem State.dieAuth_raw (c : Cmd) (stamp : W64) : (s.dieAuth c stamp).1.raw = s.raw := by
  simp only [State.dieAuth]
  split
  · simp
  · split
    · simp
    · split
      · simp
      · split <;> simp

@[simp] theorem State.dieSetPassword_raw (c : Cmd) (stamp : W64) : (s.dieSetPassword c stamp).1.raw = s.raw := by
  simp [State.dieSetPassword]

@[simp] theorem State.dieBegin_raw (z : Nat) : (s.dieBegin z).1.raw = s.raw := by
  simp only [State.dieBegin]
  split <;> simp

@[simp] theorem State.stage_raw (kind i : Nat) (r : List Byte) : (s.stage kind i r).1.raw = s.raw := by simp [State.stage]

@[simp] theorem State.dieZoneWrite_raw (z : Nat) (r : List Byte) : (s.dieZoneWrite z r).1.raw = s.raw := by
  simp only [State.dieZoneWrite]
  split
  · simp
  · split <;> simp

@[simp] theorem State.dieWrite_raw (z kind i : Nat) (l : List Nat) (r : List Byte) : (s.dieWrite z kind i l r).1.raw = s.raw := by
  simp only [State.dieWrite]
  split
  · simp
  · split <;> simp

@[simp] theorem State.unstage_raw (z : Nat) : (s.unstage z).raw = s.raw := by simp [State.unstage]

@[simp] theorem State.dieCommitted_raw (z : Nat) (stamp : W64) : (s.dieCommitted z stamp).1.raw = s.raw := by simp [State.dieCommitted]

@[simp] theorem State.dieAbort_raw (z : Nat) : (s.dieAbort z).1.raw = s.raw := by
  simp only [State.dieAbort]
  split <;> simp

@[simp] theorem State.dieReset_raw (mask : Nat) : (s.dieReset mask).1.raw = s.raw := by
  simp only [State.dieReset]
  split <;> simp

@[simp] theorem State.dieUnlock_raw (z : Nat) : (s.dieUnlock z).1.raw = s.raw := by
  simp only [State.dieUnlock]
  split <;> simp

@[simp] theorem State.dieLogRead_raw (n : Nat) : (s.dieLogRead n).1.raw = s.raw := by
  simp only [State.dieLogRead]
  split <;> simp

@[simp] theorem State.dieLockReturned_raw (stamp : W64) : (s.dieLockReturned stamp).1.raw = s.raw := by simp [State.dieLockReturned]

@[simp] theorem State.dieTake_raw (c : Cmd) (stamp : W64) : (s.dieTake c stamp).1.raw = s.raw := by
  simp only [State.dieTake]
  split
  · simp
  · split <;> simp

@[simp] theorem State.modFront_raw (f : SfMsg → SfMsg) : (s.modFront f).raw = s.raw := by simp [State.modFront]

@[simp] theorem State.takeFront_raw : s.takeFront.raw = s.raw := by
  simp only [State.takeFront]
  split
  · simp
  · split
    · simp
    · split <;> simp

@[simp] theorem State.portSend_raw (c : Option Cmd) : (s.portSend c).raw = s.raw := by simp [State.portSend]

@[simp] theorem State.portNext_raw : s.portNext.raw = s.raw := by simp [State.portNext]

@[simp] theorem State.unlockEnd_raw (z : Nat) (ok : Bool) (reason : Nat) : (s.unlockEnd z ok reason).raw = s.raw := by
  simp only [State.unlockEnd]
  split
  · split <;> simp
  · simp

@[simp] theorem execClosingTestStep_keepsRaw (out : Nat) (x y : Bool) : KeepsRaw s (execClosingTestStep out x y s) := by
  simp only [execClosingTestStep, keepsRaw_next]
  split
  · simp
  · split <;> split <;> simp

@[simp] theorem execOnTestStart_keepsRaw (group : Nat) : KeepsRaw s (execOnTestStart group s) := by
  simp only [execOnTestStart, keepsRaw_next]
  split <;> simp

@[simp] theorem execOnTestEnd_keepsRaw (group : Nat) (x y : Bool) : KeepsRaw s (execOnTestEnd group x y s) := by simp [execOnTestEnd]

@[simp] theorem execReadbackFault_keepsRaw (out : Nat) (x y : Bool) : KeepsRaw s (execReadbackFault out x y s) := by
  simp [execReadbackFault]

@[simp] theorem execBrakeCurrentFault_keepsRaw (brake ma : Nat) : KeepsRaw s (execBrakeCurrentFault brake ma s) := by
  simp [execBrakeCurrentFault]

@[simp] theorem execRequestLineChange_keepsRaw (line : Nat) (asserted : Bool) : KeepsRaw s (execRequestLineChange line asserted s) := by
  simp [execRequestLineChange]

@[simp] theorem State.dieFails_raw (cause : Nat) : (s.dieFails cause).raw = s.raw := by
  simp only [State.dieFails]
  split
  · simp
  · split <;> simp

@[simp] theorem execDieFault_keepsRaw (cause : Nat) : KeepsRaw s (execDieFault cause s) := by simp [execDieFault]

@[simp] theorem execSfPowerUp_keepsRaw (selfTestOk : Bool) : KeepsRaw s (execSfPowerUp selfTestOk s) := by simp [execSfPowerUp]

@[simp] theorem execSfSessionTimeout_keepsRaw : KeepsRaw s (execSfSessionTimeout s) := by simp [execSfSessionTimeout]

@[simp] theorem execSfAuthBlockEnd_keepsRaw : KeepsRaw s (execSfAuthBlockEnd s) := by simp [execSfAuthBlockEnd]

/-! ### The functions of SafetyWin -/

@[simp] theorem State.reportZone_raw (z new cause : Nat) : (s.reportZone z new cause).raw = s.raw := by simp [State.reportZone]

@[simp] theorem State.showZone_raw (z : Nat) : (s.showZone z).raw = s.raw := by simp [State.showZone]

@[simp] theorem State.showPairFault_raw (p : Nat) : (s.showPairFault p).raw = s.raw := by simp [State.showPairFault]

@[simp] theorem State.showOutputs_raw : s.showOutputs.raw = s.raw := by simp [State.showOutputs]

@[simp] theorem State.showStatus_raw : s.showStatus.raw = s.raw := by simp [State.showStatus]

@[simp] theorem execSfStatusFrame_keepsRaw (crcOk : Bool) (rb : Readback) : KeepsRaw s (execSfStatusFrame crcOk rb s) := by
  simp [execSfStatusFrame]

@[simp] theorem execSfPathLoss_keepsRaw : KeepsRaw s (execSfPathLoss s) := by simp [execSfPathLoss]

@[simp] theorem State.sfCommand_raw (c : Cmd) (checks : List (Bool × Verdict)) : (s.sfCommand c checks).raw = s.raw := by
  simp [State.sfCommand]

@[simp] theorem execSfAuth_keepsRaw (c : Cmd) : KeepsRaw s (execSfAuth c s) := by simp [execSfAuth]

@[simp] theorem execSfLogout_keepsRaw (c : Cmd) : KeepsRaw s (execSfLogout c s) := by simp [execSfLogout]

@[simp] theorem execSfSetPassword_keepsRaw (c : Cmd) : KeepsRaw s (execSfSetPassword c s) := by simp [execSfSetPassword]

@[simp] theorem execSfZoneBegin_keepsRaw (c : Cmd) : KeepsRaw s (execSfZoneBegin c s) := by simp [execSfZoneBegin]

@[simp] theorem execSfZoneWrite_keepsRaw (c : Cmd) : KeepsRaw s (execSfZoneWrite c s) := by simp [execSfZoneWrite]

@[simp] theorem execSfPairWrite_keepsRaw (c : Cmd) : KeepsRaw s (execSfPairWrite c s) := by simp [execSfPairWrite]

@[simp] theorem execSfBrkWrite_keepsRaw (c : Cmd) : KeepsRaw s (execSfBrkWrite c s) := by simp [execSfBrkWrite]

@[simp] theorem execSfTpWrite_keepsRaw (c : Cmd) : KeepsRaw s (execSfTpWrite c s) := by simp [execSfTpWrite]

@[simp] theorem execSfZoneCommit_keepsRaw (c : Cmd) : KeepsRaw s (execSfZoneCommit c s) := by simp [execSfZoneCommit]

@[simp] theorem execSfZoneAbort_keepsRaw (c : Cmd) : KeepsRaw s (execSfZoneAbort c s) := by simp [execSfZoneAbort]

@[simp] theorem execSfZoneReset_keepsRaw (c : Cmd) : KeepsRaw s (execSfZoneReset c s) := by simp [execSfZoneReset]

@[simp] theorem execSfZoneUnlock_keepsRaw (c : Cmd) : KeepsRaw s (execSfZoneUnlock c s) := by simp [execSfZoneUnlock]

@[simp] theorem execSfLogRead_keepsRaw (c : Cmd) : KeepsRaw s (execSfLogRead c s) := by simp [execSfLogRead]

@[simp] theorem execSfReadCfg_keepsRaw (c : Cmd) : KeepsRaw s (execSfReadCfg c s) := by simp [execSfReadCfg]

@[simp] theorem State.answerData_raw (c : Cmd) (data : List Byte) : (s.answerData c data).raw = s.raw := by simp [State.answerData]

@[simp] theorem State.sfAnswered_raw (c : Cmd) (a : SfAns) : (s.sfAnswered c a).raw = s.raw := by simp [State.sfAnswered]

@[simp] theorem State.frontAnswer_raw (nvmFailed : Bool) : (s.frontAnswer nvmFailed).1.raw = s.raw := by
  simp only [State.frontAnswer]
  split
  · simp
  · split
    · split
      · simp
      · split <;> simp
    · simp

/-! ### The functions of LifeCycle -/

@[simp] theorem State.lcBurn_raw (target : Nat) (r : List Byte) : (s.lcBurn target r).raw = s.raw := by simp [State.lcBurn]

@[simp] theorem State.lcRecord_raw (c : Cmd) (r : List Byte) : (s.lcRecord c r).raw = s.raw := by simp [State.lcRecord]

@[simp] theorem execLcAdvance_keepsRaw (c : Cmd) : KeepsRaw s (execLcAdvance c s) := by simp [execLcAdvance]

@[simp] theorem State.lockAnswered_raw (ok : Bool) : (s.lockAnswered ok).raw = s.raw := by
  simp only [State.lockAnswered]
  split <;> simp

@[simp] theorem execSfConfigAnswer_keepsRaw (nvmFailed : Bool) : KeepsRaw s (execSfConfigAnswer nvmFailed s) := by
  simp only [execSfConfigAnswer, keepsRaw_next]
  split
  case h_1 h => simpa using raw_of_fst h
  case h_2 h =>
    have ht := raw_of_fst h
    rw [State.portNext_raw]
    split <;> simpa using ht

@[simp] theorem execSfConfigTimeout_keepsRaw : KeepsRaw s (execSfConfigTimeout s) := by
  simp only [execSfConfigTimeout, keepsRaw_next]
  split
  · simp
  · rw [State.portNext_raw]
    split <;> simp

/-! ### The functions of Optimiser -/

@[simp] theorem State.payloadFreeze_raw (g : Nat) : (s.payloadFreeze g).raw = s.raw := by simp [State.payloadFreeze]

@[simp] theorem State.pathBlend_raw (g : Nat) (r n : RefPath) (u : Nat) : (s.pathBlend g r n u).raw = s.raw := by
  simp only [State.pathBlend]
  split <;> simp

@[simp] theorem State.beginSolve_raw (g : Nat) : (s.beginSolve g).raw = s.raw := by
  unfold State.beginSolve
  split
  · extract_lets mask z o₀ first start ov r₀ after₀ rho lim u₀ begun switch blended o mv t prog K h r after us sol at0 fail
    have begun_raw : begun.raw = s.raw := State.modOg_raw _ _ _
    have blended_raw : blended.raw = s.raw := by
      simp only [blended]
      clear_value begun switch after₀
      split
      · simpa using begun_raw
      · exact begun_raw
    have fail_raw (k : Nat) : (fail k).raw = s.raw := by
      simpa [fail] using blended_raw
    clear_value blended fail
    refine raw_ite (by simp) ?_
    split
    refine raw_ite (fail_raw 0) ?_
    split
    · exact fail_raw _
    · simpa using blended_raw
  · rfl

@[simp] theorem State.optFreeze_raw : s.optFreeze.raw = s.raw := by simp [State.optFreeze]

@[simp] theorem execGravityJobDone_keepsRaw (g : Nat) : KeepsRaw s (execGravityJobDone g s) := by
  simp only [execGravityJobDone, keepsRaw_next]
  split
  · split
    · split <;> simp
    · simp
  · simp

@[simp] theorem execSolveIterationDone_keepsRaw (g corr : Nat) : KeepsRaw s (execSolveIterationDone g corr s) := by
  simp only [execSolveIterationDone, keepsRaw_next]
  split
  · simp
  · split
    · simp
    · split <;> simp

@[simp] theorem execClusterFault_keepsRaw (clu cause : Nat) : KeepsRaw s (execClusterFault clu cause s) := by simp [execClusterFault]

@[simp] theorem State.endSolve_raw (g phase : Nat) (times : List (Nat × List Nat × Nat × Nat)) :
    (s.endSolve g phase times).raw = s.raw := by
  simp only [State.endSolve]
  split <;> simp

@[simp] theorem State.optDeadline_raw (stands : List (Nat × Nat)) : (s.optDeadline stands).raw = s.raw := by simp [State.optDeadline]

@[simp] theorem State.optIdle_raw : s.optIdle.raw = s.raw := by simp [State.optIdle]

@[simp] theorem State.optSwap_raw (c : Cmd) : (s.optSwap c).raw = s.raw := by simp [State.optSwap]

@[simp] theorem State.optWithhold_raw (reason : Nat) : (s.optWithhold reason).raw = s.raw := by
  simp only [State.optWithhold]
  split <;> simp

@[simp] theorem State.cluReturned_raw (c : Nat) : (s.cluReturned c).raw = s.raw := by simp [State.cluReturned]

@[simp] theorem State.cluBoundary_raw : s.cluBoundary.raw = s.raw := by simp [State.cluBoundary]

@[simp] theorem State.optTick_raw : s.optTick.raw = s.raw := by
  simp only [State.optTick]
  split <;> simp

@[simp] theorem State.optTickLen_raw : s.optTickLen.raw = s.raw := by simp [State.optTickLen]

@[simp] theorem State.pctWrite_raw (v : Word) : (s.pctWrite v).raw = s.raw := by
  simp only [State.pctWrite]
  split
  · simp
  · split <;> simp

@[simp] theorem execOptCommit_keepsRaw (c : Cmd) : KeepsRaw s (execOptCommit c s) := by simp [execOptCommit]

@[simp] theorem execOptLoadDyn_keepsRaw (c : Cmd) (dma : Dma) : KeepsRaw s (execOptLoadDyn c dma s) := by simp [execOptLoadDyn]

@[simp] theorem execOptSetPayload_keepsRaw (c : Cmd) : KeepsRaw s (execOptSetPayload c s) := by simp [execOptSetPayload]

@[simp] theorem execOptCopySolution_keepsRaw (c : Cmd) : KeepsRaw s (execOptCopySolution c s) := by
  simp only [execOptCopySolution, keepsRaw_next]
  refine State.judge_raw _ _ _ _ fun _ => ?_
  split <;> simp

/-! ### The functions of PlanTick -/

@[simp] theorem State.freezeGroup_raw (g : Nat) : (s.freezeGroup g).raw = s.raw := by
  simp only [State.freezeGroup]
  split
  · simp
  · rw [State.modPg_raw]
    split <;> simp

@[simp] theorem State.freezeZones_raw : s.freezeZones.raw = s.raw := by simp [State.freezeZones]

@[simp] theorem State.planFreeze_raw : s.planFreeze.raw = s.raw := by simp [State.planFreeze]

@[simp] theorem State.applyChange_raw (g : Nat) (c : PlChange) : (s.applyChange g c).raw = s.raw := by
  simp only [State.applyChange]
  split <;> split <;> simp

@[simp] theorem State.takePath_raw (g : Nat) : (s.takePath g).raw = s.raw := by
  simp only [State.takePath]
  split <;> simp

@[simp] theorem State.tickGroup_raw (g : Nat) (tk : W64) : (s.tickGroup g tk).raw = s.raw := by simp [State.tickGroup]

@[simp] theorem State.planTick_raw (tk : W64) : (s.planTick tk).raw = s.raw := by simp [State.planTick]

@[simp] theorem State.missPlan_raw (g : Nat) : (s.missPlan g).raw = s.raw := by simp [State.missPlan]

@[simp] theorem State.buildPath_raw (g : Nat) : (s.buildPath g).raw = s.raw := by
  simp only [State.buildPath]
  split
  · simp
  · split
    · split <;> simp
    · simp

@[simp] theorem State.buildRequest_raw (g : Nat) : (s.buildRequest g).raw = s.raw := by
  simp only [State.buildRequest]
  split <;> simp

@[simp] theorem State.buildHold_raw (g : Nat) : (s.buildHold g).raw = s.raw := by
  simp only [State.buildHold]
  split <;> simp

@[simp] theorem State.autoRelease_raw : s.autoRelease.raw = s.raw := by simp [State.autoRelease]

@[simp] theorem State.deadlocks_raw : s.deadlocks.raw = s.raw := by simp [State.deadlocks]

@[simp] theorem State.planBuild_raw : s.planBuild.raw = s.raw := by simp [State.planBuild]

/-! ### The functions of Separation -/

@[simp] theorem State.modSep_raw (f : SepSt → SepSt) : (s.modSep f).raw = s.raw := congrArg TimeSt.raw (s.modSep_time _)

@[simp] theorem State.modSens_raw (n : Nat) (f : SepSens → SepSens) : (s.modSens n f).raw = s.raw := by simp [State.modSens]

@[simp] theorem State.sepRecheck_raw : s.sepRecheck.raw = s.raw := by simp [State.sepRecheck]

@[simp] theorem State.sepDiscard_raw (n node cause fseq : Nat) (drop : Bool) : (s.sepDiscard n node cause fseq drop).raw = s.raw := by
  simp [State.sepDiscard]

@[simp] theorem State.sepAppend_raw (n : Nat) (u : SepUnit) (last : Bool) : (s.sepAppend n u last).raw = s.raw := by simp [State.sepAppend]

@[simp] theorem State.occFragment_raw (n node : Nat) (p : List Byte) : (s.occFragment n node p).raw = s.raw := by
  simp only [State.occFragment]
  split
  · simp
  · split
    · simp
    · split
      · simp
      · split
        · simp
        · split <;> simp

@[simp] theorem execStreamFrameReceive_keepsRaw (ch port : Nat) (f : RawFrame) : KeepsRaw s (execStreamFrameReceive ch port f s) := by
  simp only [execStreamFrameReceive, keepsRaw_next]
  split
  · simp
  · split
    · simp
    · split <;> simp

@[simp] theorem State.sepRequest_raw (g : Nat) : (s.sepRequest g).raw = s.raw := by simp [State.sepRequest]

@[simp] theorem State.setSep_raw (st : Nat) : (s.setSep st).raw = s.raw := by
  simp only [State.setSep]
  split
  · simp
  · split
    · split <;> simp
    · simp

@[simp] theorem State.notRunning_raw : s.notRunning.raw = s.raw := by simp [State.notRunning]

@[simp] theorem State.sepTick_raw : s.sepTick.raw = s.raw := by
  simp only [State.sepTick]
  split
  · simp
  · rw [State.notRunning_raw]
    split <;> simp

@[simp] theorem State.sepLent_raw : s.sepLent.raw = s.raw := by simp [State.sepLent]

@[simp] theorem State.capFreeze_raw : s.capFreeze.raw = s.raw := by simp [State.capFreeze]

@[simp] theorem State.sensFreeze_raw (n : Nat) : (s.sensFreeze n).raw = s.raw := by simp [State.sensFreeze]

@[simp] theorem State.sepCompute_raw : s.sepCompute.raw = s.raw := by simp [State.sepCompute]

@[simp] theorem State.sepFreeze_raw : s.sepFreeze.raw = s.raw := by simp [State.sepFreeze]

@[simp] theorem State.heldCause_raw (key : Nat) (was raised clear : Bool) : (s.heldCause key was raised clear).1.raw = s.raw := by
  simp [State.heldCause]

@[simp] theorem State.showCaps_raw (g : Nat) (r : SepRes) : (s.showCaps g r).raw = s.raw := by simp [State.showCaps]

@[simp] theorem State.publishGroup_raw (g : Nat) (res : SepRes) : (s.publishGroup g res).raw = s.raw := by
  simp only [State.publishGroup]
  rw [State.put_raw, State.sepRequest_raw, State.put_raw, State.put_raw, State.put_raw]
  split <;> split <;> simp

@[simp] theorem State.copyBox_raw (c : Cmd) : (s.copyBox c).raw = s.raw := by simp [State.copyBox]

@[simp] theorem State.sepPublish_raw (cycles : Nat) (done : Bool) : (s.sepPublish cycles done).raw = s.raw := by
  simp only [State.sepPublish]
  split
  · simp
  · split
    · simp
    · split
      · split <;> simp
      · simp

@[simp] theorem execSepMemoryFault_keepsRaw (mem : Nat) : KeepsRaw s (execSepMemoryFault mem s) := by simp [execSepMemoryFault]

@[simp] theorem execSepEnable_keepsRaw (c : Cmd) : KeepsRaw s (execSepEnable c s) := by simp [execSepEnable]

@[simp] theorem execSepDisable_keepsRaw (c : Cmd) : KeepsRaw s (execSepDisable c s) := by simp [execSepDisable]

@[simp] theorem execSepCapEnable_keepsRaw (c : Cmd) : KeepsRaw s (execSepCapEnable c s) := by simp [execSepCapEnable]

@[simp] theorem execSepCopyField_keepsRaw (c : Cmd) : KeepsRaw s (execSepCopyField c s) := by simp [execSepCopyField]

/-! ### The functions of Tick -/

@[simp] theorem State.tickFreeze_raw : s.tickFreeze.raw = s.raw := by simp [State.tickFreeze]

@[simp] theorem State.clearSync_raw (cause : Nat) : (s.clearSync cause).raw = s.raw := by simp [State.clearSync]

@[simp] theorem State.partCheck_raw : s.partCheck.raw = s.raw := by simp [State.partCheck]

@[simp] theorem execFeedbackCutoff_keepsRaw (failed : List Nat) : KeepsRaw s (execFeedbackCutoff failed s) := by simp [execFeedbackCutoff]

@[simp] theorem State.sendTick_raw : s.sendTick.raw = s.raw := by simp [State.sendTick]

@[simp] theorem execOptimiserDeadline_keepsRaw (stands : List (Nat × Nat)) (sepCycles : Nat) (sepDone : Bool) :
    KeepsRaw s (execOptimiserDeadline stands sepCycles sepDone s) := by
  simp [execOptimiserDeadline]

@[simp] theorem State.tickBoundary_raw (tk : W64) : (s.tickBoundary tk).raw = s.raw := by simp [State.tickBoundary]

/-! ### The functions of WorkCores -/

@[simp] theorem State.dramWrite_raw (c o : Nat) (d : List Byte) : (s.dramWrite c o d).raw = s.raw := by simp [State.dramWrite]

@[simp] theorem State.modRv_raw (c : Nat) (f : RvSt → RvSt) : (s.modRv c f).raw = s.raw := by simp [State.modRv]

@[simp] theorem State.freeFp_raw (c : Nat) : (s.freeFp c).raw = s.raw := by simp [State.freeFp]

@[simp] theorem State.setFrames_raw (c : Nat) (l : List (Nat × Nat)) : (s.setFrames c l).raw = s.raw := by simp [State.setFrames]

@[simp] theorem State.saveContext_raw (c i n : Nat) : (s.saveContext c i n).raw = s.raw := by simp [State.saveContext]

@[simp] theorem State.restoreContext_raw (c i : Nat) : (s.restoreContext c i).raw = s.raw := by simp [State.restoreContext]

@[simp] theorem State.freshStart_raw (c i : Nat) : (s.freshStart c i).raw = s.raw := by simp [State.freshStart]

@[simp] theorem State.clearNotice_raw (c : Nat) : (s.clearNotice c).raw = s.raw := by simp [State.clearNotice]

@[simp] theorem State.refreshNotice_raw (c : Nat) : (s.refreshNotice c).raw = s.raw := by simp [State.refreshNotice]

@[simp] theorem State.leaveCore_raw (c : Nat) : (s.leaveCore c).raw = s.raw := by simp [State.leaveCore]

@[simp] theorem State.runOn_raw (c i : Nat) : (s.runOn c i).raw = s.raw := by simp [State.runOn]

@[simp] theorem State.suspendTo_raw (c n : Nat) (wait : Option Nat) : (s.suspendTo c n wait).raw = s.raw := by
  simp only [State.suspendTo]
  rw [State.leaveCore_raw]
  split <;> simp

@[simp] theorem State.noteLatency_raw : s.noteLatency.raw = s.raw := by simp [State.noteLatency]

@[simp] theorem State.dispatch_raw : s.dispatch.raw = s.raw := by
  simp only [State.dispatch]
  split
  · split <;> simp
  · split
    · simp
    · split
      · simp
      · split <;> simp

@[simp] theorem execWiDispatch_keepsRaw : KeepsRaw s (execWiDispatch s) := by simp [execWiDispatch]

@[simp] theorem State.storeRefused_raw (c o : Nat) : (s.storeRefused c o).raw = s.raw := by simp [State.storeRefused]

@[simp] theorem State.endOfRun_raw (i : Nat) : (s.endOfRun i).raw = s.raw := by simp [State.endOfRun]

@[simp] theorem State.schDone_raw (c : Nat) : (s.schDone c).raw = s.raw := by simp [State.schDone]

@[simp] theorem State.schYield_raw (c : Nat) : (s.schYield c).raw = s.raw := by
  simp only [State.schYield]
  split
  · simp
  · split <;> simp

@[simp] theorem State.schReady_raw (i : Nat) : (s.schReady i).raw = s.raw := by simp [State.schReady]

@[simp] theorem State.schWait_raw (c w : Nat) : (s.schWait c w).raw = s.raw := by
  simp only [State.schWait]
  split
  · simp
  · rw [State.modCore_raw]
    split
    · simp
    · split
      · simp
      · split <;> simp

@[simp] theorem State.schWaitTmo_raw (c : Nat) (v : W64) : (s.schWaitTmo c v).raw = s.raw := by simp [State.schWaitTmo]

@[simp] theorem execSchDoneStore_keepsRaw (core : Nat) : KeepsRaw s (execSchDoneStore core s) := by simp [execSchDoneStore]

@[simp] theorem execSchYieldStore_keepsRaw (core : Nat) : KeepsRaw s (execSchYieldStore core s) := by simp [execSchYieldStore]

@[simp] theorem execSchReadyStore_keepsRaw (c v : Nat) : KeepsRaw s (execSchReadyStore c v s) := by simp [execSchReadyStore]

@[simp] theorem execSchWaitStore_keepsRaw (core v : Nat) : KeepsRaw s (execSchWaitStore core v s) := by simp [execSchWaitStore]

@[simp] theorem execSchSignalStore_keepsRaw (c v : Nat) : KeepsRaw s (execSchSignalStore c v s) := by simp [execSchSignalStore]

@[simp] theorem execWaitDeadline_keepsRaw (i : Nat) : KeepsRaw s (execWaitDeadline i s) := by simp [execWaitDeadline]

@[simp] theorem execRunWarnExpire_keepsRaw (core : Nat) : KeepsRaw s (execRunWarnExpire core s) := by simp [execRunWarnExpire]

@[simp] theorem State.startInit_raw (c why : Nat) : (s.startInit c why).raw = s.raw := by simp [State.startInit]

@[simp] theorem State.releaseCores_raw : s.releaseCores.raw = s.raw := by simp [State.releaseCores]

@[simp] theorem State.endDrain_raw (c status reason : Nat) : (s.endDrain c status reason).raw = s.raw := by
  simp only [State.endDrain]
  split <;> simp

@[simp] theorem State.withholdReload_raw (c reason crc : Nat) : (s.withholdReload c reason crc).raw = s.raw := by
  simp only [State.withholdReload]
  split <;> simp

@[simp] theorem State.coreFault_raw (c cause : Nat) : (s.coreFault c cause).raw = s.raw := by simp [State.coreFault]

@[simp] theorem execWcCoreFault_keepsRaw (core cause : Nat) : KeepsRaw s (execWcCoreFault core cause s) := by simp [execWcCoreFault]

@[simp] theorem execSchFaultStore_keepsRaw (core : Nat) : KeepsRaw s (execSchFaultStore core s) := by simp [execSchFaultStore]

@[simp] theorem execInitTimeout_keepsRaw (core : Nat) : KeepsRaw s (execInitTimeout core s) := by simp [execInitTimeout]

@[simp] theorem State.schOnline_raw (c : Nat) : (s.schOnline c).raw = s.raw := by
  simp only [State.schOnline]
  split
  · simp
  · split <;> simp

@[simp] theorem execSchOnlineStore_keepsRaw (core : Nat) : KeepsRaw s (execSchOnlineStore core s) := by simp [execSchOnlineStore]

@[simp] theorem State.reloadSteps_raw (c : Nat) (d : Cmd) (was : Nat) : (s.reloadSteps c d was).raw = s.raw := by simp [State.reloadSteps]

@[simp] theorem State.drainComplete_raw (c : Nat) : (s.drainComplete c).raw = s.raw := by
  simp only [State.drainComplete]
  split
  · simp
  · split
    · simp
    · split <;> simp
    · simp

@[simp] theorem execDrainComplete_keepsRaw (core : Nat) : KeepsRaw s (execDrainComplete core s) := by simp [execDrainComplete]

@[simp] theorem execDrainTimeout_keepsRaw (core : Nat) : KeepsRaw s (execDrainTimeout core s) := by simp [execDrainTimeout]

@[simp] theorem State.startDrain_raw (c why : Nat) (d : Option Cmd) : (s.startDrain c why d).raw = s.raw := by simp [State.startDrain]

@[simp] theorem execWiCreate_keepsRaw (c : Cmd) : KeepsRaw s (execWiCreate c s) := by simp [execWiCreate]

@[simp] theorem execWiDelete_keepsRaw (c : Cmd) : KeepsRaw s (execWiDelete c s) := by simp [execWiDelete]

@[simp] theorem execWiReady_keepsRaw (c : Cmd) : KeepsRaw s (execWiReady c s) := by
  simp only [execWiReady, keepsRaw_next]
  refine State.judge_raw _ _ _ _ fun t => ?_
  split
  case h_1 h => simpa using t.raw_of_ready h
  case h_2 => simp

@[simp] theorem execWoSignal_keepsRaw (c : Cmd) : KeepsRaw s (execWoSignal c s) := by simp [execWoSignal]

@[simp] theorem execWcDrain_keepsRaw (c : Cmd) : KeepsRaw s (execWcDrain c s) := by simp [execWcDrain]

@[simp] theorem execWcResume_keepsRaw (c : Cmd) : KeepsRaw s (execWcResume c s) := by simp [execWcResume]

@[simp] theorem execWcReload_keepsRaw (c : Cmd) : KeepsRaw s (execWcReload c s) := by
  simp only [execWcReload, keepsRaw_next]
  refine State.judge_raw _ _ _ _ fun _ => ?_
  split
  · simp
  · split
    · simp
    · split <;> simp

/-! ### The functions of TwinPart -/

@[simp] theorem State.modTwin_raw (f : TwinSt → TwinSt) : (s.modTwin f).raw = s.raw := congrArg TimeSt.raw (s.modTwin_time _)

@[simp] theorem State.sendCycle_raw : s.sendCycle.raw = s.raw := by simp [State.sendCycle]

@[simp] theorem State.takeSp_raw (g : Nat) : (s.takeSp g).raw = s.raw := by
  simp only [State.takeSp]
  split
  · simp
  · split
    · simp
    · split <;> simp

@[simp] theorem State.takeGroup_raw (g : Nat) (d : List Byte) : (s.takeGroup g d).raw = s.raw := by simp [State.takeGroup]

@[simp] theorem State.takeAxis_raw (a : Nat) (d : List Byte) : (s.takeAxis a d).raw = s.raw := by simp [State.takeAxis]

@[simp] theorem State.takeAxes_raw (d : List Byte) (axes : List Nat) (o : Nat) : (s.takeAxes d axes o).1.raw = s.raw := by
  induction axes generalizing s o with
  | nil => rfl
  | cons a t ih => simp [State.takeAxes, ih]

@[simp] theorem State.followSwaps_raw (bank : Nat) : (s.followSwaps bank).raw = s.raw := by
  simp only [State.followSwaps]
  refine forEach_raw _ _ _ fun _ _ => ?_
  split <;> simp

@[simp] theorem State.takeCycle_raw (d : List Byte) : (s.takeCycle d).raw = s.raw := by simp [State.takeCycle]

@[simp] theorem State.syncCheck_raw : s.syncCheck.raw = s.raw := by
  simp only [State.syncCheck]
  split
  · simp
  · split
    · split <;> simp
    · simp

@[simp] theorem State.takeFragment_raw (f : RawFrame) : (s.takeFragment f).raw = s.raw := by simp [State.takeFragment]

@[simp] theorem State.takeTick_raw (p : TickPart) : (s.takeTick p).raw = s.raw := by simp [State.takeTick]

@[simp] theorem State.budgetCheck_raw : s.budgetCheck.raw = s.raw := by simp [State.budgetCheck]

/-! ### The functions of Twin -/

@[simp] theorem State.sendBeat_raw : s.sendBeat.raw = s.raw := by simp [State.sendBeat]

@[simp] theorem State.carryOver_raw (n : Nat) : (s.carryOver n).raw = s.raw := by
  simp only [State.carryOver]
  rw [forEach_raw]
  · rw [forEach_raw]
    · simp
    · intro a t
      split
      · split <;> simp
      · simp
  · intro a t
    simp

@[simp] theorem State.loadOutputs_raw : s.loadOutputs.raw = s.raw := by simp [State.loadOutputs]

@[simp] theorem State.withholdMirrored_raw : s.withholdMirrored.raw = s.raw := by simp [State.withholdMirrored]

@[simp] theorem State.withholdOwn_raw : s.withholdOwn.raw = s.raw := by simp [State.withholdOwn]

@[simp] theorem State.zonesAct_raw : s.zonesAct.raw = s.raw := by simp [State.zonesAct]

@[simp] theorem State.takeLink_raw : s.takeLink.raw = s.raw := by simp [State.takeLink]

@[simp] theorem State.takeSep_raw : s.takeSep.raw = s.raw := by simp [State.takeSep]

@[simp] theorem State.takeOpt_raw : s.takeOpt.raw = s.raw := by simp [State.takeOpt]

@[simp] theorem State.plansLacking_raw : s.plansLacking.raw = s.raw := by
  simp only [State.plansLacking]
  refine forEach_raw _ _ _ fun _ _ => ?_
  split <;> simp

@[simp] theorem State.switchOver_raw : s.switchOver.raw = s.raw := by simp [State.switchOver]

@[simp] theorem State.aloneUnsynced_raw : s.aloneUnsynced.raw = s.raw := by simp [State.aloneUnsynced]

@[simp] theorem State.handoverOff_raw (reason : Nat) (tell : Bool) : (s.handoverOff reason tell).raw = s.raw := by
  simp only [State.handoverOff]
  split
  · simp
  · split <;> simp

@[simp] theorem State.aloneActive_raw : s.aloneActive.raw = s.raw := by simp [State.aloneActive]

@[simp] theorem State.joinEnds_raw : s.joinEnds.raw = s.raw := by
  simp only [State.joinEnds]
  split <;> simp

@[simp] theorem State.leavePair_raw : s.leavePair.raw = s.raw := by simp [State.leavePair]

@[simp] theorem State.twoActive_raw : s.twoActive.raw = s.raw := by simp [State.twoActive]

@[simp] theorem State.partnerFailed_raw : s.partnerFailed.raw = s.raw := by
  simp only [State.partnerFailed]
  split <;> simp

@[simp] theorem State.pathHeard_raw (p : Nat) (got : Bool) : (s.pathHeard p got).raw = s.raw := by simp [State.pathHeard]

@[simp] theorem State.pathLost_raw (p : Nat) : (s.pathLost p).raw = s.raw := by simp [State.pathLost]

@[simp] theorem execBeatWindowClose_keepsRaw : KeepsRaw s (execBeatWindowClose s) := by simp [execBeatWindowClose]

@[simp] theorem execHbPulseReceive_keepsRaw (arrival : W64) (ns : Nat) : KeepsRaw s (execHbPulseReceive arrival ns s) := by
  simp [execHbPulseReceive]

@[simp] theorem State.badTwinFrame_raw (kind lane : Nat) : (s.badTwinFrame kind lane).raw = s.raw := by simp [State.badTwinFrame]

@[simp] theorem State.followBank_raw (b : Nat) : (s.followBank b).raw = s.raw := by simp [State.followBank]

@[simp] theorem State.takeTheta_raw (th : Int) : (s.takeTheta th).raw = s.raw := by simp [State.takeTheta]

@[simp] theorem State.zonesCompare_raw (zones : Nat) : (s.zonesCompare zones).raw = s.raw := by simp [State.zonesCompare]

@[simp] theorem execBeatReceive_keepsRaw (arrival : W64) (f : RawFrame) (back : Int) : KeepsRaw s (execBeatReceive arrival f back s) := by
  simp [execBeatReceive]

@[simp] theorem State.giveUpCommands_raw : s.giveUpCommands.raw = s.raw := by simp [State.giveUpCommands]

@[simp] theorem State.handoverDone_raw : s.handoverDone.raw = s.raw := by
  simp only [State.handoverDone]
  split <;> simp

@[simp] theorem State.comeIn_raw : s.comeIn.raw = s.raw := by simp [State.comeIn]

@[simp] theorem State.goOut_raw : s.goOut.raw = s.raw := by simp [State.goOut]

@[simp] theorem State.twinBefore_raw : s.twinBefore.raw = s.raw := by simp [State.twinBefore]

@[simp] theorem State.twinAfter_raw : s.twinAfter.raw = s.raw := by simp [State.twinAfter]

@[simp] theorem execRevertHoldoffExpire_keepsRaw : KeepsRaw s (execRevertHoldoffExpire s) := by
  simp only [execRevertHoldoffExpire, keepsRaw_next]
  split <;> simp

@[simp] theorem execZoneMismatchExpire_keepsRaw (zone : Nat) : KeepsRaw s (execZoneMismatchExpire zone s) := by
  simp only [execZoneMismatchExpire, keepsRaw_next]
  split <;> simp

@[simp] theorem execSnapshotLoss_keepsRaw : KeepsRaw s (execSnapshotLoss s) := by simp [execSnapshotLoss]

@[simp] theorem execTwinLaneLockChange_keepsRaw (lane : Nat) (lock : Bool) (delay : Nat) :
    KeepsRaw s (execTwinLaneLockChange lane lock delay s) := by
  simp [execTwinLaneLockChange]

@[simp] theorem State.ahead_raw (f : State → State) (h : ∀ t, (f t).raw = t.raw) : (s.ahead f).raw = s.raw := by
  simp only [State.ahead, State.setReg_raw, State.modLink_raw, h]
  split <;> simp

@[simp] theorem State.sendTx_raw : s.sendTx.raw = s.raw := by simp [State.sendTx]

@[simp] theorem execServoComputeDone_keepsRaw : KeepsRaw s (execServoComputeDone s) := by simp [execServoComputeDone]

@[simp] theorem execCycFrameReceive_keepsRaw (lane : Nat) (f : RawFrame) : KeepsRaw s (execCycFrameReceive lane f s) := by
  simp [execCycFrameReceive]

@[simp] theorem execTickFrameReceive_keepsRaw (lane : Nat) (ok : Bool) (part : TickPart) :
    KeepsRaw s (execTickFrameReceive lane ok part s) := by
  simp [execTickFrameReceive]

@[simp] theorem execAckFrameReceive_keepsRaw (ok : Bool) (n : Nat) : KeepsRaw s (execAckFrameReceive ok n s) := by
  simp [execAckFrameReceive]

@[simp] theorem execTxFrameReceive_keepsRaw (f : RawFrame) : KeepsRaw s (execTxFrameReceive f s) := by
  simp only [execTxFrameReceive, keepsRaw_next]
  split
  · simp
  · split
    · simp
    · split <;> simp

@[simp] theorem execFbFrameSend_keepsRaw (lane : Nat) : KeepsRaw s (execFbFrameSend lane s) := by
  simp only [execFbFrameSend, keepsRaw_next]
  split
  · split
    · simp
    · split <;> simp
  · split
    · simp
    · split <;> simp

@[simp] theorem execFbFrameReceive_keepsRaw (lane : Nat) (f : RawFrame) : KeepsRaw s (execFbFrameReceive lane f s) := by
  simp only [execFbFrameReceive, keepsRaw_next]
  split
  · simp
  · split
    · simp
    · split
      · simp
      · refine forEach_raw _ _ _ fun _ _ => ?_
        split
        · simp
        · split <;> simp

@[simp] theorem nextOf_raw (o : Out) (s : State) (h : KeepsRaw s o) : (nextOf o s).raw = s.raw := by
  cases o with
  | next t => exact h
  | fault _ => rfl
  | refused _ => rfl

@[simp] theorem execRxFrameReceive_keepsRaw (lane : Nat) (ok : Bool) (f : RawFrame) : KeepsRaw s (execRxFrameReceive lane ok f s) := by
  simp only [execRxFrameReceive, keepsRaw_next]
  split
  · simp
  · split
    · simp
    · split
      · simp
      · split <;> simp

@[simp] theorem State.takePort_raw (x : PortRep) : (s.takePort x).raw = s.raw := by simp [State.takePort]

@[simp] theorem State.takeProbe_raw (x : ProbeRep) : (s.takeProbe x).raw = s.raw := by
  simp only [State.takeProbe]
  split
  · simp
  · split <;> simp

@[simp] theorem execPortFrameReceive_keepsRaw (ok : Bool) (ports : List PortRep) (misses : List Nat) (probes : List ProbeRep) :
    KeepsRaw s (execPortFrameReceive ok ports misses probes s) := by
  simp [execPortFrameReceive]

@[simp] theorem State.joinFoul_raw (n : Nat) : (s.joinFoul n).raw = s.raw := by simp [State.joinFoul]

@[simp] theorem execTwinJoin_keepsRaw (c : Cmd) : KeepsRaw s (execTwinJoin c s) := by simp [execTwinJoin]

@[simp] theorem execTwinHandover_keepsRaw (c : Cmd) : KeepsRaw s (execTwinHandover c s) := by simp [execTwinHandover]

@[simp] theorem State.journalAll_raw : s.journalAll.raw = s.raw := by simp [State.journalAll]

@[simp] theorem State.takeJoinRequest_raw (part step station : Nat) (side home : Bool) :
    (s.takeJoinRequest part step station side home).raw = s.raw := by
  simp [State.takeJoinRequest]

@[simp] theorem State.takeJoinAccept_raw (station : Nat) (ofs rate : Int) (e0 e1 : W64 × W64) (orbit cycle bank ports : Nat) :
    (s.takeJoinAccept station ofs rate e0 e1 orbit cycle bank ports).raw = s.raw := by
  simp [State.takeJoinAccept]

@[simp] theorem execControlFrameReceive_keepsRaw (ok : Bool) (m : TwinMsg) : KeepsRaw s (execControlFrameReceive ok m s) := by
  simp only [execControlFrameReceive, keepsRaw_next]
  split
  · simp
  · split
    · simp
    · split
      · simp
      · simp
      · split <;> simp
      · simp
      · simp

/-! ### The functions of Clocks -/

@[simp] theorem State.modCk_raw (f : CkSt → CkSt) : (s.modCk f).raw = s.raw := congrArg TimeSt.raw (s.modCk_time _)

@[simp] theorem State.ballsOff_raw : s.ballsOff.raw = s.raw := by simp [State.ballsOff]

@[simp] theorem State.clearDomains_raw : s.clearDomains.raw = s.raw := by simp [State.clearDomains]

@[simp] theorem State.holdDomains_raw : s.holdDomains.raw = s.raw := by simp [State.holdDomains]

@[simp] theorem State.deviceReset_raw (cause detail : Nat) : (s.deviceReset cause detail).raw = s.raw := by simp [State.deviceReset]

@[simp] theorem State.bootFrom_raw (n : Nat) : (s.bootFrom n).raw = s.raw := by simp [State.bootFrom]

@[simp] theorem execResetRelease_keepsRaw (bootSel : Bool) : KeepsRaw s (execResetRelease bootSel s) := by simp [execResetRelease]

@[simp] theorem execResetNAssert_keepsRaw : KeepsRaw s (execResetNAssert s) := by simp [execResetNAssert]

@[simp] theorem execPwrFailAssert_keepsRaw : KeepsRaw s (execPwrFailAssert s) := by simp [execPwrFailAssert]

@[simp] theorem execPcieReset_keepsRaw (flr : Bool) : KeepsRaw s (execPcieReset flr s) := by simp [execPcieReset]

@[simp] theorem execLcResetDelay_keepsRaw : KeepsRaw s (execLcResetDelay s) := by simp [execLcResetDelay]

@[simp] theorem execDeviceResetDelay_keepsRaw : KeepsRaw s (execDeviceResetDelay s) := by simp [execDeviceResetDelay]

@[simp] theorem State.analogueReset_raw : s.analogueReset.raw = s.raw := by simp [State.analogueReset]

@[simp] theorem execAnalogueDieReset_keepsRaw : KeepsRaw s (execAnalogueDieReset s) := by simp [execAnalogueDieReset]

@[simp] theorem execAnalogueCalibrationDone_keepsRaw : KeepsRaw s (execAnalogueCalibrationDone s) := by simp [execAnalogueCalibrationDone]

@[simp] theorem execRefClkLoss_keepsRaw : KeepsRaw s (execRefClkLoss s) := by simp [execRefClkLoss]

@[simp] theorem execRefClkReturn_keepsRaw : KeepsRaw s (execRefClkReturn s) := by simp [execRefClkReturn]

@[simp] theorem State.ckWarn_raw (d : Nat) (e : Int) : (s.ckWarn d e).raw = s.raw := by simp [State.ckWarn]

@[simp] theorem execClockMonitorWindow_keepsRaw (lock : Nat) (errs : List Int) : KeepsRaw s (execClockMonitorWindow lock errs s) := by
  simp only [execClockMonitorWindow, keepsRaw_next]
  split <;> simp

@[simp] theorem State.readTemp_raw (i : Nat) (t : Int) : (s.readTemp i t).raw = s.raw := by simp [State.readTemp]

@[simp] theorem execThermalSample_keepsRaw (temps : List Int) : KeepsRaw s (execThermalSample temps s) := by
  simp only [execThermalSample, keepsRaw_next]
  split <;> simp

@[simp] theorem State.powerUp_raw : s.powerUp.raw = s.raw := by simp [State.powerUp]

@[simp] theorem State.losePd4_raw : s.losePd4.raw = s.raw := by simp [State.losePd4]

@[simp] theorem State.domainsCheck_raw : s.domainsCheck.raw = s.raw := by simp [State.domainsCheck]

@[simp] theorem execCkDomainSet_keepsRaw (c : Cmd) : KeepsRaw s (execCkDomainSet c s) := by
  simp only [execCkDomainSet, keepsRaw_next]
  refine State.judge_raw _ _ _ _ fun _ => ?_
  split
  · simp
  · split <;> simp

@[simp] theorem execDomainPowerUpDone_keepsRaw : KeepsRaw s (execDomainPowerUpDone s) := by simp [execDomainPowerUpDone]

@[simp] theorem execDomainAutoStop_keepsRaw (d : Nat) : KeepsRaw s (execDomainAutoStop d s) := by simp [execDomainAutoStop]

@[simp] theorem execCkDeviceReset_keepsRaw (c : Cmd) : KeepsRaw s (execCkDeviceReset c s) := by simp [execCkDeviceReset]

@[simp] theorem execBlockLockGained_keepsRaw (ch port : Nat) : KeepsRaw s (execBlockLockGained ch port s) := by simp [execBlockLockGained]

/-! ### The functions of Lend -/

@[simp] theorem State.ownerGives_raw (r : Nat) : (s.ownerGives r).raw = s.raw := by
  simp only [State.ownerGives]
  split <;> simp

@[simp] theorem execMstSliceLend_keepsRaw (r : Nat) : KeepsRaw s (execMstSliceLend r s) := by simp [execMstSliceLend]

/-! ### The functions of Views -/

@[simp] theorem State.domainFoul_raw (who : Init) (b off : Nat) : (s.domainFoul who b off).raw = s.raw := by simp [State.domainFoul]

@[simp] theorem State.hiRead_raw (k : Nat) : (s.hiRead k).raw = s.raw := by simp [State.hiRead]

@[simp] theorem State.readAt_raw (who : Init) (k : Nat) (vf : Bool) : (s.readAt who k vf).2.raw = s.raw := by
  simp only [State.readAt]
  split
  · simp
  · split
    · simp
    · split <;> simp

theorem State.raw_of_readReg {s t : State} {who : Init} {off : Nat} {v : Word} (h : s.readReg who off = some (v, t)) : t.raw = s.raw := by
  simp only [State.readReg, Option.map_eq_some_iff] at h
  obtain ⟨p, -, h⟩ := h
  rw [show t.raw = _ from (congrArg (fun x => x.2.raw) h).symm]
  split
  · simp
  · split <;> simp

@[simp] theorem State.answerRead_raw (who : Init) (off : Nat) : (s.answerRead who off).raw = s.raw := by
  simp only [State.answerRead]
  split
  case h_1 h => simpa using s.raw_of_readReg h
  case h_2 => rfl

@[simp] theorem execUnmappedRead_keepsRaw (who : Init) (off : Nat) : KeepsRaw s (execUnmappedRead who off s) := by simp [execUnmappedRead]

@[simp] theorem execPairLoRead_keepsRaw (who : Init) (off : Nat) : KeepsRaw s (execPairLoRead who off s) := by simp [execPairLoRead]

@[simp] theorem execPairHiRead_keepsRaw (who : Init) (off : Nat) : KeepsRaw s (execPairHiRead who off s) := by simp [execPairHiRead]

@[simp] theorem execRcRegisterRead_keepsRaw (who : Init) (off : Nat) : KeepsRaw s (execRcRegisterRead who off s) := by
  simp [execRcRegisterRead]

@[simp] theorem execDomainRegisterRead_keepsRaw (who : Init) (off : Nat) : KeepsRaw s (execDomainRegisterRead who off s) := by
  simp [execDomainRegisterRead]

@[simp] theorem execMemErrAddrRead_keepsRaw (who : Init) : KeepsRaw s (execMemErrAddrRead who s) := by simp [execMemErrAddrRead]

@[simp] theorem execLatchTimeHiRead_keepsRaw (who : Init) (ch : Nat) : KeepsRaw s (execLatchTimeHiRead who ch s) := by
  simp [execLatchTimeHiRead]

@[simp] theorem execAcqLostHiRead_keepsRaw (who : Init) (u : Nat) : KeepsRaw s (execAcqLostHiRead who u s) := by simp [execAcqLostHiRead]

/-! ### The functions of Bus -/

@[simp] theorem State.writeFoul_raw (who : Init) (k o low : Nat) (v : Word) : (s.writeFoul who k o low v).raw = s.raw := by
  simp [State.writeFoul]

@[simp] theorem State.barFoul_raw (who : Init) (k o : Nat) (v : Word) (b : WriteBar) : (s.barFoul who k o v b).raw = s.raw := by
  simp only [State.barFoul]
  split <;> simp

@[simp] theorem State.ringFoul_raw (who : Init) (o ty r : Nat) : (s.ringFoul who o ty r).raw = s.raw := by simp [State.ringFoul]

@[simp] theorem State.ringClear_raw (fn ty r : Nat) : (s.ringClear fn ty r).raw = s.raw := by simp [State.ringClear]

@[simp] theorem State.ringCtrlWrite_raw (who : Init) (k o : Nat) (v : Word) : (s.ringCtrlWrite who k o v).raw = s.raw := by
  simp [State.ringCtrlWrite]

theorem State.raw_of_ringPairBar {s t : State} {who : Init} {lo o : Nat} {v : W64} (h : s.ringPairBar who lo o v = some t) :
    t.raw = s.raw := by
  simp only [State.ringPairBar] at h
  split at h
  · split at h
    · cases h
      split <;> simp
    · cases h
  · cases h

@[simp] theorem State.msixUnmask_raw (k : Nat) (old : Word) : (s.msixUnmask k old).raw = s.raw := by simp [State.msixUnmask]

@[simp] theorem State.defectWritten_raw (old : Word) : (s.defectWritten old).raw = s.raw := by simp [State.defectWritten]

@[simp] theorem State.hostWritten_raw (k : Nat) (old : Word) : (s.hostWritten k old).raw = s.raw := by simp [State.hostWritten]

@[simp] theorem State.laWritten_raw (who : Init) (k : Nat) (old v : Word) : (s.laWritten who k old v).raw = s.raw := by
  simp [State.laWritten]

@[simp] theorem State.written_raw (who : Init) (k : Nat) (old v : Word) : (s.written who k old v).raw = s.raw := by
  simp only [State.written]
  split <;> simp

theorem State.raw_of_scMemWrite {s t : State} {k : Nat} {v : Word} (h : s.scMemWrite k v = some t) : t.raw = s.raw := by
  simp only [State.scMemWrite] at h
  split at h
  · cases h; simp
  · split at h
    · cases h; simp
    · cases h

@[simp] theorem State.journalWrite_raw (who : Init) (k o : Nat) (v : Word) : (s.journalWrite who k o v).raw = s.raw := by
  simp [State.journalWrite]

@[simp] theorem State.makeWrite_raw (jr : Bool) (who : Init) (r : RegRow) (k o : Nat) (vf : Bool) (v : Word) :
    (s.makeWrite jr who r k o vf v).raw = s.raw := by
  simp only [State.makeWrite]
  split
  case h_1 h => exact State.raw_of_scMemWrite h
  case h_2 =>
    split
    · simp
    · split
      · split <;> simp
      · split <;> simp

@[simp] theorem State.write32_raw (jr : Bool) (who : Init) (r : RegRow) (k o : Nat) (vf : Bool) (v : Word) :
    (s.write32 jr who r k o vf v).raw = s.raw := by
  simp only [State.write32]
  split
  · simp
  · split <;> simp

@[simp] theorem State.write64_raw (jr : Bool) (who : Init) (r : RegRow) (lo o : Nat) (v : W64) :
    (s.write64 jr who r lo o v).raw = s.raw := by
  simp only [State.write64]
  split
  · simp
  · split
    · simp
    · split
      case h_1 h => exact State.raw_of_ringPairBar h
      case h_2 => split <;> simp

@[simp] theorem State.writeAt_raw (jr : Bool) (who : Init) (k o : Nat) (vf : Bool) (v : Word) :
    (s.writeAt jr who k o vf v).raw = s.raw := by
  simp only [State.writeAt]
  split
  · simp
  · split
    · simp
    · split
      · simp
      · split
        · simp
        · split
          · split <;> simp
          · simp

@[simp] theorem State.writeReg_raw (jr : Bool) (who : Init) (off : Nat) (v : Word) : (s.writeReg jr who off v).raw = s.raw := by
  simp only [State.writeReg]
  split
  · simp
  · split
    · simp
    · split <;> simp

@[simp] theorem State.busWrite_raw (who : Init) (off size : Nat) (v : Word) : (s.busWrite who off size v).raw = s.raw := by
  simp [State.busWrite]

/-! ### The functions of HostEngine -/

@[simp] theorem State.doorbell_raw (who : Init) (off : Nat) (v : Word) : (s.doorbell who off v).raw = s.raw := by
  simp only [State.doorbell]
  split
  · simp
  · split <;> simp

@[simp] theorem execDoorbellWrite_keepsRaw (who : Init) (off size : Nat) (v : Word) : KeepsRaw s (execDoorbellWrite who off size v s) := by
  simp [execDoorbellWrite]

@[simp] theorem execDescriptorFetch_keepsRaw (fn r : Nat) : KeepsRaw s (execDescriptorFetch fn r s) := by simp [execDescriptorFetch]

@[simp] theorem execMsixModerationTimeout_keepsRaw (fn ty r : Nat) : KeepsRaw s (execMsixModerationTimeout fn ty r s) := by
  simp only [execMsixModerationTimeout, keepsRaw_next]
  split <;> simp

@[simp] theorem State.issueStop_raw (g cat : Nat) : (s.issueStop g cat).raw = s.raw := by simp [State.issueStop]

@[simp] theorem State.vfReset_raw (n : Nat) : (s.vfReset n).raw = s.raw := by simp [State.vfReset]

@[simp] theorem execVfFlr_keepsRaw (n : Nat) : KeepsRaw s (execVfFlr n s) := by simp [execVfFlr]

@[simp] theorem execVfEnableChange_keepsRaw (n : Nat) : KeepsRaw s (execVfEnableChange n s) := by simp [execVfEnableChange]

@[simp] theorem State.hostResume_raw : s.hostResume.raw = s.raw := by simp [State.hostResume]

@[simp] theorem execPcieLinkChange_keepsRaw (width speed : Nat) (d3hot : Bool) : KeepsRaw s (execPcieLinkChange width speed d3hot s) := by
  simp [execPcieLinkChange]

@[simp] theorem execHostWatchdogExpire_keepsRaw : KeepsRaw s (execHostWatchdogExpire s) := by simp [execHostWatchdogExpire]

@[simp] theorem State.loadMem_raw (dest : Nat) (data : List Byte) : (s.loadMem dest data).raw = s.raw := by
  simp only [State.loadMem]
  split
  · simp
  · exact List.foldlRecOn (motive := fun t => t.raw = s.raw) _ _ rfl fun t ht _ _ => (State.modCore_raw t _ _).trans ht

@[simp] theorem State.loadImage_raw (base : Nat) (flash : Bool) : (s.loadImage base flash).raw = s.raw := by simp [State.loadImage]

@[simp] theorem State.bootGo_raw : s.bootGo.raw = s.raw := by simp [State.bootGo]

@[simp] theorem execFlashReadDone_keepsRaw (image : List Byte) : KeepsRaw s (execFlashReadDone image s) := by simp [execFlashReadDone]

@[simp] theorem execBootSelfTestDone_keepsRaw (sigs : List (Nat × W64 × W64)) : KeepsRaw s (execBootSelfTestDone sigs s) := by
  simp [execBootSelfTestDone]

@[simp] theorem State.bootCtrl_raw (who : Init) (v : Word) : (s.bootCtrl who v).raw = s.raw := by simp [State.bootCtrl]

@[simp] theorem State.store_raw (who : Init) (off size : Nat) (v : Word) : (s.store who off size v).raw = s.raw := by simp [State.store]

@[simp] theorem execRegisterWrite_keepsRaw (who : Init) (off size : Nat) (v : Word) : KeepsRaw s (execRegisterWrite who off size v s) := by
  simp [execRegisterWrite]

@[simp] theorem execPairLoWrite_keepsRaw (who : Init) (off : Nat) (v : Word) : KeepsRaw s (execPairLoWrite who off v s) := by
  simp [execPairLoWrite]

@[simp] theorem execPairHiWrite_keepsRaw (who : Init) (off : Nat) (v : Word) : KeepsRaw s (execPairHiWrite who off v s) := by
  simp [execPairHiWrite]

@[simp] theorem execLockBitSet_keepsRaw (who : Init) (off : Nat) (v : Word) : KeepsRaw s (execLockBitSet who off v s) := by
  simp [execLockBitSet]

@[simp] theorem execDefectClear_keepsRaw (who : Init) (v : Word) : KeepsRaw s (execDefectClear who v s) := by simp [execDefectClear]

@[simp] theorem execTimeSnap_keepsRaw (who : Init) (v : Word) : KeepsRaw s (execTimeSnap who v s) := by simp [execTimeSnap]

@[simp] theorem execDiscSampleCommit_keepsRaw (who : Init) (v : Word) : KeepsRaw s (execDiscSampleCommit who v s) := by
  simp [execDiscSampleCommit]

@[simp] theorem execDeadlinePctWrite_keepsRaw (who : Init) (v : Word) : KeepsRaw s (execDeadlinePctWrite who v s) := by
  simp [execDeadlinePctWrite]

@[simp] theorem execSrvAxCfgWrite_keepsRaw (who : Init) (a : Nat) (v : Word) : KeepsRaw s (execSrvAxCfgWrite who a v s) := by
  simp [execSrvAxCfgWrite]

@[simp] theorem execLaRunWrite_keepsRaw (who : Init) (ch : Nat) (v : Word) : KeepsRaw s (execLaRunWrite who ch v s) := by
  simp [execLaRunWrite]

@[simp] theorem execLaCmpCtrlWrite_keepsRaw (who : Init) (ch e : Nat) (v : Word) : KeepsRaw s (execLaCmpCtrlWrite who ch e v s) := by
  simp [execLaCmpCtrlWrite]

@[simp] theorem execLaErrClear_keepsRaw (who : Init) (ch : Nat) (v : Word) : KeepsRaw s (execLaErrClear who ch v s) := by
  simp [execLaErrClear]

@[simp] theorem execScInCfgWrite_keepsRaw (who : Init) (core f : Nat) (v : Word) : KeepsRaw s (execScInCfgWrite who core f v s) := by
  simp [execScInCfgWrite]

@[simp] theorem execHeWdKick_keepsRaw (who : Init) (v : Word) : KeepsRaw s (execHeWdKick who v s) := by simp [execHeWdKick]

@[simp] theorem execBootLoad_keepsRaw (who : Init) (v : Word) : KeepsRaw s (execBootLoad who v s) := by simp [execBootLoad]

@[simp] theorem execCommitSvn_keepsRaw (who : Init) (v : Word) : KeepsRaw s (execCommitSvn who v s) := by simp [execCommitSvn]

@[simp] theorem execRingCtrlWrite_keepsRaw (who : Init) (ty r : Nat) (v : Word) : KeepsRaw s (execRingCtrlWrite who ty r v s) := by
  simp [execRingCtrlWrite]

@[simp] theorem execHeNop_keepsRaw (c : Cmd) : KeepsRaw s (execHeNop c s) := by simp [execHeNop]

@[simp] theorem execHeCopy_keepsRaw (c : Cmd) (dma : Dma) : KeepsRaw s (execHeCopy c dma s) := by
  simp only [execHeCopy, keepsRaw_next]
  refine State.judge_raw _ _ _ _ fun _ => ?_
  split
  · simp
  · split
    · simp
    · split
      · simp
      · split
        · simp
        · split <;> simp

/-! ### The functions of System -/

@[simp] theorem execSetDeviceMode_keepsRaw (c : Cmd) : KeepsRaw s (execSetDeviceMode c s) := by simp [execSetDeviceMode]

@[simp] theorem State.enterMode_raw (m : Nat) : (s.enterMode m).raw = s.raw := by simp [State.enterMode]

@[simp] theorem State.modeTick_raw : s.modeTick.raw = s.raw := by
  simp only [State.modeTick]
  split
  · simp
  · split <;> simp

@[simp] theorem State.postCopy_raw (r : Rec) : (s.postCopy r).raw = s.raw := by simp [State.postCopy]

@[simp] theorem postAll_raw (q : Nat) (l : List Rec) (s : State) : (postAll q l s).1.raw = s.raw := by
  induction l generalizing s with
  | nil => rfl
  | cons r t ih =>
    simp only [postAll]
    split
    · rfl
    · simp [ih]

@[simp] theorem State.postLog_raw : s.postLog.1.raw = s.raw := by
  simp only [State.postLog]
  split <;> simp

@[simp] theorem execFoulFlush_keepsRaw (c : Cmd) : KeepsRaw s (execFoulFlush c s) := by simp [execFoulFlush]

@[simp] theorem State.queued_raw (r : Rec) : (s.queued r).raw = s.raw := by simp [State.queued]

@[simp] theorem execFoulQueueMove_keepsRaw (block : Nat) : KeepsRaw s (execFoulQueueMove block s) := by
  simp only [execFoulQueueMove, keepsRaw_next]
  split
  · simp
  · split <;> simp

@[simp] theorem State.defectTick_raw : s.defectTick.raw = s.raw := by simp [State.defectTick]

@[simp] theorem State.resetEvents_raw : s.resetEvents.raw = s.raw := by
  simp only [State.resetEvents]
  split
  · simp
  · split <;> simp

@[simp] theorem execSupervisionTick_keepsRaw : KeepsRaw s (execSupervisionTick s) := by simp [execSupervisionTick]

@[simp] theorem State.tickLenChanged_raw : s.tickLenChanged.raw = s.raw := by simp [State.tickLenChanged]

@[simp] theorem execActArm_keepsRaw (c : Cmd) : KeepsRaw s (execActArm c s) := by simp [execActArm]

@[simp] theorem State.cycleBoundary_raw : s.cycleBoundary.raw = s.raw := by simp [State.cycleBoundary]

@[simp] theorem State.actTarget_raw (kind idx : Nat) (t : W64) : (s.actTarget kind idx t).raw = s.raw := by
  simp only [State.actTarget]
  split <;> simp

@[simp] theorem State.fireEntry_raw (n : Nat) : (s.fireEntry n).raw = s.raw := by simp [State.fireEntry]

@[simp] theorem State.fireDue_raw (entry : Nat) : (s.fireDue entry).raw = s.raw := by
  simp only [State.fireDue]
  split <;> simp

@[simp] theorem execActionFire_keepsRaw (entry : Nat) : KeepsRaw s (execActionFire entry s) := by simp [execActionFire]

@[simp] theorem execActDisarm_keepsRaw (c : Cmd) : KeepsRaw s (execActDisarm c s) := by simp [execActDisarm]

@[simp] theorem execLaSetCount_keepsRaw (c : Cmd) : KeepsRaw s (execLaSetCount c s) := by simp [execLaSetCount]

/-! ### The functions of Command -/

@[simp] theorem runBlock0_keepsRaw (n : Nat) (c : Cmd) (d : Dma) : KeepsRaw s (runBlock0 n c d s) := by
  simp only [runBlock0]
  split <;> simp

@[simp] theorem runBlock1_keepsRaw (n : Nat) (c : Cmd) (dma : Dma) : KeepsRaw s (runBlock1 n c dma s) := by
  simp only [runBlock1]
  split <;> simp

@[simp] theorem runBlock2_keepsRaw (n : Nat) (c : Cmd) (d : Dma) : KeepsRaw s (runBlock2 n c d s) := by
  simp only [runBlock2]
  split <;> simp

@[simp] theorem runBlock3_keepsRaw (n : Nat) (c : Cmd) (d : Dma) : KeepsRaw s (runBlock3 n c d s) := by
  simp only [runBlock3]
  split <;> simp

@[simp] theorem runBlock4_keepsRaw (n : Nat) (c : Cmd) (dma : Dma) : KeepsRaw s (runBlock4 n c dma s) := by
  simp only [runBlock4]
  split <;> simp

@[simp] theorem runBlock5_keepsRaw (n : Nat) (c : Cmd) (dma : Dma) : KeepsRaw s (runBlock5 n c dma s) := by
  simp only [runBlock5]
  split <;> simp

@[simp] theorem runBlock6_keepsRaw (n : Nat) (c : Cmd) (d : Dma) : KeepsRaw s (runBlock6 n c d s) := by
  simp only [runBlock6]
  split <;> simp

@[simp] theorem runBlock7_keepsRaw (n : Nat) (c : Cmd) (d : Dma) : KeepsRaw s (runBlock7 n c d s) := by
  simp only [runBlock7]
  split <;> simp

@[simp] theorem runBlock8_keepsRaw (n : Nat) (c : Cmd) (d : Dma) : KeepsRaw s (runBlock8 n c d s) := by
  simp only [runBlock8]
  split <;> simp

@[simp] theorem runBlock9_keepsRaw (n : Nat) (c : Cmd) (d : Dma) : KeepsRaw s (runBlock9 n c d s) := by
  simp only [runBlock9]
  split <;> simp

@[simp] theorem runBlock10_keepsRaw (n : Nat) (c : Cmd) (d : Dma) : KeepsRaw s (runBlock10 n c d s) := by
  simp only [runBlock10]
  split <;> simp

@[simp] theorem runBlock11_keepsRaw (n : Nat) (c : Cmd) (dma : Dma) : KeepsRaw s (runBlock11 n c dma s) := by
  simp only [runBlock11]
  split <;> simp

@[simp] theorem runBlock12_keepsRaw (n : Nat) (c : Cmd) (d : Dma) : KeepsRaw s (runBlock12 n c d s) := by
  simp only [runBlock12]
  split <;> simp

@[simp] theorem runBlock13_keepsRaw (n : Nat) (c : Cmd) (d : Dma) : KeepsRaw s (runBlock13 n c d s) := by
  simp only [runBlock13]
  split <;> simp

@[simp] theorem runBlock14_keepsRaw (n : Nat) (c : Cmd) (d : Dma) : KeepsRaw s (runBlock14 n c d s) := by
  simp only [runBlock14]
  split <;> simp

@[simp] theorem runBlock15_keepsRaw (n : Nat) (c : Cmd) (d : Dma) : KeepsRaw s (runBlock15 n c d s) := by
  simp only [runBlock15]
  split <;> simp

@[simp] theorem State.runCommand_raw (c : Cmd) (dma : Dma) : (s.runCommand c dma).raw = s.raw := by
  simp only [State.runCommand]
  refine nextOf_raw _ _ ?_
  split <;> simp

@[simp] theorem State.passOn_raw (c : Cmd) : (s.passOn c).raw = s.raw := by simp [State.passOn]

@[simp] theorem State.dispatchCmd_raw (c : Cmd) : (s.dispatchCmd c).raw = s.raw := by simp [State.dispatchCmd]

@[simp] theorem State.takeCmds_raw (cs : List Cmd) : (s.takeCmds cs).raw = s.raw := by simp [State.takeCmds]

@[simp] theorem State.releaseFence_raw (k : Nat) (like : Cmd) (s : State) : (State.releaseFence k like s).raw = s.raw := by
  induction k generalizing s with
  | zero => rfl
  | succ k ih =>
    simp only [State.releaseFence]
    split
    · rfl
    · split
      · rfl
      · simp [ih]

@[simp] theorem execFenceRelease_keepsRaw (fn r : Nat) : KeepsRaw s (execFenceRelease fn r s) := by simp [execFenceRelease]

@[simp] theorem execTimedCommandExecute_keepsRaw : KeepsRaw s (execTimedCommandExecute s) := by simp [execTimedCommandExecute]

@[simp] theorem State.endJob_raw (j : Nat) : (s.endJob j).raw = s.raw := by simp [State.endJob]

@[simp] theorem State.fetchedDescriptors_raw (fn r : Nat) (d : List Byte) : (s.fetchedDescriptors fn r d).raw = s.raw := by
  simp [State.fetchedDescriptors]

@[simp] theorem execReadCompletion_keepsRaw (id : Nat) (data : List Byte) (err : Option ReadError) :
    KeepsRaw s (execReadCompletion id data err s) := by
  simp only [execReadCompletion, keepsRaw_next]
  split
  · simp
  · rw [State.pumpReads_raw]
    split
    · simp
    · split
      · split <;> simp
      · split
        · split
          · simp
          · split <;> simp
        · split
          · simp
          · split <;> simp

@[simp] theorem State.slotGo_raw (c k go : Nat) : (s.slotGo c k go).raw = s.raw := by simp [State.slotGo]

@[simp] theorem execSlotGo_keepsRaw (core slot go : Nat) : KeepsRaw s (execSlotGo core slot go s) := by simp [execSlotGo]

@[simp] theorem State.serveWaiting_raw : s.serveWaiting.raw = s.raw := by
  simp only [State.serveWaiting]
  refine forEach_raw _ _ _ fun _ _ => ?_
  split <;> simp

@[simp] theorem execGroupWakeDone_keepsRaw (g : Nat) : KeepsRaw s (execGroupWakeDone g s) := by simp [execGroupWakeDone]

@[simp] theorem execGroupClearDone_keepsRaw (g : Nat) : KeepsRaw s (execGroupClearDone g s) := by simp [execGroupClearDone]

@[simp] theorem State.takeEntry_raw (e : JEntry) : (s.takeEntry e).raw = s.raw := by
  simp only [State.takeEntry]
  split <;> simp

@[simp] theorem execJrnlFrameReceive_keepsRaw (lane : Nat) (ok : Bool) (es : List JEntry) :
    KeepsRaw s (execJrnlFrameReceive lane ok es s) := by
  simp [execJrnlFrameReceive]

/-! ### The functions of RiscV -/

@[simp] theorem State.sramStore_raw (c o : Nat) (d : List Byte) : (s.sramStore c o d).raw = s.raw := by
  simp only [State.sramStore]
  split <;> simp

@[simp] theorem State.schStore_raw (c o n v : Nat) : (s.schStore c o n v).raw = s.raw := by
  simp only [State.schStore]
  split
  · simp
  · split <;> simp

/-- A part of an instruction leaves the raw count `r`, whatever it comes to. -/
def RvRaw {α : Type} (r : W64) : Rv α → Prop
  | .ok _ t => t.raw = r
  | .trap _ _ t => t.raw = r
  | .wait t => t.raw = r
  | .gone t => t.raw = r

theorem rvRaw_ok {α : Type} {r : W64} {t : State} (a : α) (h : t.raw = r) : RvRaw r (.ok a t) := h

theorem rvRaw_trap {α : Type} {r : W64} {t : State} (k v : Nat) (h : t.raw = r) : RvRaw r (.trap k v t : Rv α) := h

theorem rvRaw_wait {α : Type} {r : W64} {t : State} (h : t.raw = r) : RvRaw r (.wait t : Rv α) := h

theorem rvRaw_gone {α : Type} {r : W64} {t : State} (h : t.raw = r) : RvRaw r (.gone t : Rv α) := h

theorem rvRaw_bind {α β : Type} {r : W64} {x : Rv α} {f : α → State → Rv β} (hx : RvRaw r x) (hf : ∀ a t, t.raw = r → RvRaw r (f a t)) :
    RvRaw r (x.bind f) := by
  cases x with
  | ok a t => exact hf a t hx
  | trap k v t => exact hx
  | wait t => exact hx
  | gone t => exact hx

theorem rvRaw_ite {α : Type} {p : Prop} [Decidable p] {r : W64} {x y : Rv α} (hx : RvRaw r x) (hy : RvRaw r y) :
    RvRaw r (if p then x else y) := by
  split
  · exact hx
  · exact hy

section
variable {s} {r : W64}

theorem State.localRead_rvRaw (h : s.raw = r) (c : Nat) (errs : List (Nat × Bool)) (a n : Nat) : RvRaw r (s.localRead c errs a n) := by
  unfold State.localRead
  refine rvRaw_ite (rvRaw_gone ?_) (rvRaw_ok _ ?_) <;> simpa using h

theorem State.sramGate_rvRaw (h : s.raw = r) (c o n acc : Nat) : RvRaw r (s.sramGate c o n acc) := by
  unfold State.sramGate
  refine rvRaw_ite (rvRaw_trap _ _ ?_) (rvRaw_ite (rvRaw_ok _ h) (rvRaw_wait ?_)) <;> simpa using h

theorem State.sramLoad_rvRaw (h : s.raw = r) (c : Nat) (errs : List (Nat × Bool)) (o n acc : Nat) :
    RvRaw r (s.sramLoad c errs o n acc) := by
  refine rvRaw_bind (State.sramGate_rvRaw h c o n acc) fun _ t ht => ?_
  extract_lets hit u
  have hu : u.raw = r := by simpa [u] using ht
  split
  · exact rvRaw_trap _ _ (raw_ite hu (by simpa using hu))
  · exact rvRaw_ok _ hu

theorem State.rvLoad_rvRaw (h : s.raw = r) (c : Nat) (errs : List (Nat × Bool)) (need : Nat) (atom : Bool) (a n : Nat) :
    RvRaw r (s.rvLoad c errs need atom a n) := by
  unfold State.rvLoad
  split
  · exact rvRaw_trap _ _ h
  · refine rvRaw_ite ?_ (rvRaw_ite (State.sramLoad_rvRaw h _ _ _ _ _) (rvRaw_ite (rvRaw_ok _ h) ?_))
    · split
      case h_1 e => exact rvRaw_ok _ ((State.raw_of_readReg e).trans h)
      case h_2 => exact rvRaw_ok _ h
    · exact rvRaw_bind (State.localRead_rvRaw h _ _ _ _) fun _ _ ht => rvRaw_ok _ ht

theorem State.rvPut_rvRaw (h : s.raw = r) (c a n v : Nat) : RvRaw r (s.rvPut c a n v) := by
  unfold State.rvPut
  refine rvRaw_ite (rvRaw_ok _ ?_) (rvRaw_ite (rvRaw_bind (State.sramGate_rvRaw h _ _ _ _) fun _ t ht => rvRaw_ok _ ?_)
    (rvRaw_ite (rvRaw_ok _ ?_) (rvRaw_ite (rvRaw_ok _ ?_) (rvRaw_ok _ ?_))))
  · simpa using h
  · simpa using ht
  · simpa using h
  · simpa using h
  · simpa using h

theorem State.rvStore_rvRaw (h : s.raw = r) (c a n v : Nat) : RvRaw r (s.rvStore c a n v) := by
  unfold State.rvStore
  split
  · exact rvRaw_trap _ _ h
  · exact State.rvPut_rvRaw h c a n v

theorem State.rvSet_rvRaw (h : s.raw = r) (c : Nat) (f : RvSt → RvSt) : RvRaw r (s.rvSet c f) := rvRaw_ok _ (by simpa using h)

theorem State.rvIllegal_rvRaw (h : s.raw = r) (i : Nat) : RvRaw r (s.rvIllegal i) := rvRaw_trap _ _ h

theorem State.rvCsr_rvRaw (h : s.raw = r) (c i : Nat) : RvRaw r (s.rvCsr c i) := by
  unfold State.rvCsr
  extract_lets
  split
  · exact State.rvIllegal_rvRaw h _
  · exact rvRaw_ite (State.rvIllegal_rvRaw h _) (State.rvSet_rvRaw h _ _)

theorem State.rvSystem_rvRaw (h : s.raw = r) (c i : Nat) : RvRaw r (s.rvSystem c i) := by
  unfold State.rvSystem
  refine rvRaw_ite (State.rvIllegal_rvRaw h _) (rvRaw_ite (State.rvCsr_rvRaw h _ _) ?_)
  split
  · exact rvRaw_trap _ _ h
  · exact rvRaw_trap _ _ h
  · exact rvRaw_ite (State.rvSet_rvRaw h _ _) (State.rvIllegal_rvRaw h _)
  · exact rvRaw_ok _ h
  · exact State.rvIllegal_rvRaw h _

theorem State.rvAtomic_rvRaw (h : s.raw = r) (c i : Nat) (errs : List (Nat × Bool)) : RvRaw r (s.rvAtomic c i errs) := by
  unfold State.rvAtomic
  extract_lets z f3 f5 rd rs2 n a x ext look
  have look_raw : RvRaw r look := rvRaw_ite (State.sramLoad_rvRaw h _ _ _ _ _) (rvRaw_ok _ h)
  clear_value look
  have ill : RvRaw r (s.rvIllegal i) := State.rvIllegal_rvRaw h i
  refine rvRaw_ite ill (rvRaw_ite (rvRaw_ite ill ?_) (rvRaw_ite ?_ (rvRaw_ite ?_ ill)))
  · exact rvRaw_bind (State.rvLoad_rvRaw h _ _ _ _ _ _) fun _ _ ht => State.rvSet_rvRaw ht _ _
  · split
    · exact rvRaw_trap _ _ h
    · refine rvRaw_ite (State.rvSet_rvRaw h _ _) (rvRaw_bind look_raw fun _ _ ht => ?_)
      exact rvRaw_bind (State.rvPut_rvRaw ht _ _ _ _) fun _ _ hu => State.rvSet_rvRaw hu _ _
  · refine rvRaw_bind (State.rvLoad_rvRaw h _ _ _ _ _ _) fun _ _ ht => ?_
    exact rvRaw_bind (State.rvPut_rvRaw ht _ _ _ _) fun _ _ hu => State.rvSet_rvRaw hu _ _

theorem State.rvExec_rvRaw (h : s.raw = r) (c i len : Nat) (errs : List (Nat × Bool)) : RvRaw r (s.rvExec c i len errs) := by
  unfold State.rvExec
  extract_lets z pc next rd f3 a b immS go fp
  have ill : RvRaw r (s.rvIllegal i) := State.rvIllegal_rvRaw h i
  have go_raw {t : State} (ht : t.raw = r) : (go t).raw = r := by simpa [go] using ht
  have fp_raw (x : Option RvSt) : RvRaw r (fp x) := by
    simp only [fp]
    split
    · exact rvRaw_ite ill (rvRaw_ok _ (go_raw (by simpa using h)))
    · exact ill
  clear_value go fp
  split
  · refine rvRaw_ite ill (rvRaw_bind (State.rvLoad_rvRaw h _ _ _ _ _ _) fun _ _ ht => rvRaw_ok _ (go_raw ?_))
    simpa using ht
  · refine rvRaw_ite ill (rvRaw_bind (State.rvLoad_rvRaw h _ _ _ _ _ _) fun _ _ ht => rvRaw_ok _ (go_raw ?_))
    simpa using ht
  · exact rvRaw_ite ill (State.rvStore_rvRaw (go_raw h) _ _ _ _)
  · exact rvRaw_ite ill (State.rvStore_rvRaw (go_raw h) _ _ _ _)
  · exact rvRaw_ite ill (rvRaw_ok _ (go_raw h))
  · exact rvRaw_bind (State.rvAtomic_rvRaw h _ _ _) fun _ _ ht => rvRaw_ok _ (go_raw ht)
  · exact fp_raw _
  · exact fp_raw _
  · exact fp_raw _
  · exact fp_raw _
  · exact fp_raw _
  · exact rvRaw_ite ill (State.rvSet_rvRaw h _ _)
  · exact rvRaw_ite ill (State.rvSet_rvRaw h _ _)
  · exact State.rvSet_rvRaw h _ _
  · exact rvRaw_ite (State.rvSystem_rvRaw h _ _) (rvRaw_bind (State.rvSystem_rvRaw h _ _) fun _ _ ht => rvRaw_ok _ (go_raw ht))
  · split
    · exact rvRaw_ok _ (go_raw (by simpa using h))
    · exact ill

theorem State.rvInstr_rvRaw (h : s.raw = r) (c : Nat) (errs : List (Nat × Bool)) : RvRaw r (s.rvInstr c errs) := by
  unfold State.rvInstr
  extract_lets z p half
  refine rvRaw_ite (rvRaw_trap _ _ h) (rvRaw_ite ?_ (rvRaw_ite (rvRaw_trap _ _ h) ?_))
  · refine rvRaw_bind (State.localRead_rvRaw h c errs p 2) fun _ t ht => ?_
    split
    · next i _ =>
      have hx : RvRaw r (t.rvExec c i 2 errs) := State.rvExec_rvRaw ht c i 2 errs
      split
      case h_1 e => rw [e] at hx; exact rvRaw_trap _ _ hx
      case h_2 => exact hx
    · exact State.rvIllegal_rvRaw ht _
  · refine rvRaw_bind (State.localRead_rvRaw h c errs p 4) fun _ t ht => ?_
    generalize leAt (memRead z.iram p 4) 0 4 = word
    exact State.rvExec_rvRaw ht c word 4 errs

end

@[simp] theorem execRiscvInstruction_keepsRaw (core : Nat) (errs : List (Nat × Bool)) : KeepsRaw s (execRiscvInstruction core errs s) := by
  unfold execRiscvInstruction
  rw [keepsRaw_next]
  refine raw_ite rfl (raw_ite (by simp) ?_)
  have hx : RvRaw s.raw (s.rvInstr core errs) := State.rvInstr_rvRaw rfl core errs
  dsimp only
  split
  · next e => rw [e] at hx; exact (State.modRv_raw _ _ _).trans hx
  · next e => rw [e] at hx; exact (State.modRv_raw _ _ _).trans hx
  · next e => rw [e] at hx; exact (State.modRv_raw _ _ _).trans hx
  · next e => rw [e] at hx; exact hx

/-! ### The instructions -/

theorem execSupplyTrip_keepsRaw {rail : Nat} (h : 2 ≤ rail) : KeepsRaw s (execSupplyTrip rail s) := by
  simp only [execSupplyTrip, keepsRaw_next]
  split
  case h_1 => omega
  case h_2 => omega
  all_goals simp

theorem exec_keepsRaw (i : Instr) (reset : i ≠ .powerOnResetPd0) (rail0 : i ≠ .supplyTrip 0) (rail1 : i ≠ .supplyTrip 1) :
    KeepsRaw s (exec i s) := by
  cases i
  case powerOnResetPd0 => exact absurd rfl reset
  case supplyTrip rail =>
    have not_pd0 : rail ≠ 0 ∧ rail ≠ 1 := ⟨fun h => rail0 (congrArg _ h), fun h => rail1 (congrArg _ h)⟩
    exact execSupplyTrip_keepsRaw s (by omega)
  all_goals simp [exec]

theorem State.tclkTick_raw : s.tclkTick.raw = s.raw + 1 := by
  simp only [State.tclkTick]
  split <;> split <;> simp

end Sys2Proof.Machine

open Sys2Proof.Machine

/-- Settles O7: one frame lemma for each instruction, from one for each function of the state that the instructions use. -/
theorem onlyPowerOnClearsRaw : Obligations.OnlyPowerOnClearsRaw := by
  refine ⟨fun s => s.tclkTick_raw, fun s => ⟨_, rfl, ?_⟩, fun c s t reset rail0 rail1 run => ?_⟩
  · exact congrArg TimeSt.raw s.powerOn_same.1
  · have keeps := exec_keepsRaw s c reset rail0 rail1
    rwa [run, keepsRaw_next] at keeps
end

section
/-!
SUPPORT. BAR4 (R601, R602, R648): the row of the table that an offset lies in, what an access of each row does, and the octets of shared SRAM
after the loop that writes a host's data word by word; the statement about what BAR4 reads and writes follows.
-/
open Sys2Proof

namespace Sys2Proof.Machine

/-! ### Which row of R601 an offset lies in -/

theorem bar4_of_lt_secureBase {off : Nat} (h : off < secureBase) : bar4 off = .sram off := if_pos h

theorem bar4_local {c x : Nat} (hc : c < 16) (hx : x < 0x40000) :
    bar4 (0x4000000 + c * 0x40000 + x) = if x < 0x20000 then .iram c x else .dram c (x - 0x20000) := by
  have core : (0x4000000 + c * 0x40000 + x - 0x4000000) / 0x40000 = c := by omega
  have place : (0x4000000 + c * 0x40000 + x - 0x4000000) % 0x40000 = x := by omega
  unfold bar4 secureBase sramSize
  rw [if_neg (by omega), if_neg (by omega), if_pos (by omega), core, place]

variable (s : State)

/-! ### When local memory may be written (R648) -/

theorem State.coreWritable_iff (c : Nat) : s.coreWritable c = true ↔ s.coreState c ∈ [kOff, kOffline, kFaulted] := by
  simp [State.coreWritable, or_assoc]

theorem State.mode_le_mConfig_iff : s.mode ≤ mConfig ↔ s.mode = mBoot ∨ s.mode = mConfig := Nat.le_one_iff_eq_zero_or_eq_one

/-! ### What an access of a row does -/

section
variable {s} {off c o : Nat}

theorem exec_bar4Read_of_sram {len : Nat} (row : bar4 off = .sram off) (ready : s.sramReady off len = true) (clean : s.poisoned off len = none) :
    exec (.bar4Read off len []) s = .next (s.emit (.readData .pf off (memRead s.mem.sram off len) false)) := by
  have noErrors : s.foundErrors (srcOf 3 0) [] = s := rfl
  simp [exec, execBar4Read, row, ready, State.sramHostRead, noErrors, clean, State.sramRead]

theorem exec_bar4Read_of_iram (len : Nat) (errs : List (Nat × Bool)) (row : bar4 off = .iram c o) :
    exec (.bar4Read off len errs) s = .next (s.emit (.readData .pf off (memRead (s.core c).iram o len) false)) := by
  simp [exec, execBar4Read, row]

theorem exec_bar4Read_of_dram (len : Nat) (errs : List (Nat × Bool)) (row : bar4 off = .dram c o) :
    exec (.bar4Read off len errs) s = .next (s.emit (.readData .pf off (memRead (s.core c).dram o len) false)) := by
  simp [exec, execBar4Read, row]

theorem exec_bar4Write_of_sram {d : List Byte} (row : bar4 off = .sram off) (ready : s.sramReady off d.length = true) :
    exec (.bar4Write off d) s = .next (s.sramHostWrite off d) := by
  simp [exec, execBar4Write, row, ready]

theorem exec_bar4Write_of_iram (d : List Byte) (row : bar4 off = .iram c o) :
    exec (.bar4Write off d) s = .next (
      if s.coreState c ∈ [kOff, kOffline, kFaulted] ∧ (s.mode = mBoot ∨ s.mode = mConfig) then
        s.modCore c fun z => { z with iram := memWrite z.iram o d }
      else s.bar4Refuse off) := by
  simp only [exec, execBar4Write, row, Bool.and_eq_true, decide_eq_true_eq, s.coreWritable_iff, s.mode_le_mConfig_iff]

theorem exec_bar4Write_of_dram (d : List Byte) (row : bar4 off = .dram c o) :
    exec (.bar4Write off d) s = .next (
      if s.coreState c ∈ [kOff, kOffline, kFaulted] then s.modCore c fun z => { z with dram := memWrite z.dram o d } else s.bar4Refuse off) := by
  simp only [exec, execBar4Write, row, s.coreWritable_iff]

theorem exec_bar4Write_of_refused (d : List Byte) (row : bar4 off = .refused) : exec (.bar4Write off d) s = .next (s.bar4Refuse off) := by
  simp only [exec, execBar4Write, row]

end

/-! ### A write of shared SRAM -/

theorem State.breakResv_same (o n : Nat) : (s.breakResv o n).regs = s.regs ∧ (s.breakResv o n).log = s.log := by
  refine forEach_keeps (fun t : State => t.regs = s.regs ∧ t.log = s.log) _ _ s ⟨rfl, rfl⟩ fun c t h => ?_
  dsimp only
  split
  · split <;> exact h
  · exact h

theorem State.sramWrite_same (o : Nat) (d : List Byte) : (s.sramWrite o d).regs = s.regs ∧ (s.sramWrite o d).log = s.log := by
  simpa only [State.sramWrite] using s.breakResv_same o d.length

/-- A write makes no word poisoned (R676). -/
theorem State.sramWrite_poison_eq_nil {s : State} (clean : s.mem.poison = []) (o : Nat) (d : List Byte) : (s.sramWrite o d).mem.poison = [] := by
  simp [State.sramWrite, State.breakResv_mem, clean]

/-! ### The octets of one word -/

theorem slice_length (l : List Byte) (o n : Nat) : (slice l o n).length = n := by
  simp only [slice, List.length_append, List.length_take, List.length_drop, List.length_replicate]
  omega

theorem slice_getD (l : List Byte) {o n i : Nat} (h : i < n) : (slice l o n).getD i 0 = l.getD (o + i) 0 := by
  simp only [slice, List.getD_eq_getElem?_getD, List.getElem?_append, List.length_take, List.length_drop]
  split
  · rw [List.getElem?_take_of_lt h, List.getElem?_drop]
  · rw [List.getElem?_replicate, List.getElem?_eq_none (i := o + i) (by omega)]
    split <;> rfl

/-- The octets that a word's part of the data names are those of the data that lie in the word. -/
theorem wordPart_octet {w : Nat} (aligned : w % 8 = 0) (off j : Nat) (d : List Byte) (old : Byte) :
    (if (wordPart off d w).1 ≤ j ∧ j < (wordPart off d w).1 + (wordPart off d w).2.length then
        (wordPart off d w).2.getD (j - (wordPart off d w).1) 0 else old) =
      if (off ≤ j ∧ j < off + d.length) ∧ wordOf j = w then d.getD (j - off) 0 else old := by
  simp only [wordPart, slice_length]
  by_cases inside : (off ≤ j ∧ j < off + d.length) ∧ wordOf j = w
  · obtain ⟨⟨from_off, to_end⟩, word⟩ := inside
    unfold wordOf at word
    rw [if_pos (by omega), if_pos ⟨⟨from_off, to_end⟩, word⟩, slice_getD _ (by omega)]
    congr 1
    omega
  · rw [if_neg (fun part => inside (by unfold wordOf; omega)), if_neg inside]

/-! ### The loop over the words -/

/-- `t` is `s`, in which no word is poisoned, after the words `ws` of the data `d` at `off` have been written: the octets of `d` that lie in
them have come, and no register, log entry or poison changed. -/
structure State.WroteWords (off : Nat) (d : List Byte) (ws : List Nat) (s t : State) : Prop where
  octet : ∀ j, tabGet (fun _ => (0 : Byte)) t.mem.sram j =
    if (off ≤ j ∧ j < off + d.length) ∧ wordOf j ∈ ws then d.getD (j - off) 0 else tabGet (fun _ => 0) s.mem.sram j
  poison : t.mem.poison = []
  regs : t.regs = s.regs
  log : t.log = s.log

theorem State.wroteWords_nil {s : State} (off : Nat) (d : List Byte) (clean : s.mem.poison = []) : State.WroteWords off d [] s s :=
  ⟨fun j => by simp, clean, rfl, rfl⟩

theorem State.WroteWords.trans {off : Nat} {d : List Byte} {w : Nat} {ws : List Nat} {s t u : State}
    (head : State.WroteWords off d [w] s t) (tail : State.WroteWords off d ws t u) : State.WroteWords off d (w :: ws) s u where
  octet j := by
    rw [tail.octet, head.octet]
    by_cases inData : off ≤ j ∧ j < off + d.length <;> by_cases inTail : wordOf j ∈ ws <;> simp [inData, inTail]
  poison := tail.poison
  regs := tail.regs.trans head.regs
  log := tail.log.trans head.log

/-- One pass of the loop. -/
theorem State.wroteWords_sramWrite {s : State} (off : Nat) (d : List Byte) {w : Nat} (aligned : w % 8 = 0) (clean : s.mem.poison = []) :
    State.WroteWords off d [w] s (s.sramWrite (wordPart off d w).1 (wordPart off d w).2) where
  octet j := by
    rw [State.sramWrite_sram, memGet_memWrite, wordPart_octet aligned]
    simp only [List.mem_singleton]
  poison := State.sramWrite_poison_eq_nil clean _ _
  regs := (s.sramWrite_same _ _).1
  log := (s.sramWrite_same _ _).2

/-- A loop each pass of which writes its word's part of the data, as long as no word is poisoned. -/
theorem State.wroteWords_forEach {s : State} {off : Nat} {d : List Byte} {f : Nat → State → State}
    (pass : ∀ w t, t.mem.poison = [] → f w t = t.sramWrite (wordPart off d w).1 (wordPart off d w).2)
    {ws : List Nat} (aligned : ∀ w ∈ ws, w % 8 = 0) (clean : s.mem.poison = []) : State.WroteWords off d ws s (forEach ws s f) := by
  induction ws generalizing s with
  | nil => exact State.wroteWords_nil off d clean
  | cons w ws ih =>
    have head := State.wroteWords_sramWrite off d (aligned w List.mem_cons_self) clean
    rw [← pass w s clean] at head
    exact head.trans (ih (fun v hv => aligned v (List.mem_cons_of_mem _ hv)) head.poison)

theorem wordsOf_aligned {o n w : Nat} (h : w ∈ wordsOf o n) : w % 8 = 0 := by
  unfold wordsOf at h
  split at h
  · simp at h
  · obtain ⟨k, _, rfl⟩ := List.mem_map.mp h
    unfold wordOf
    omega

/-- The words of a range hold its octets. -/
theorem wordOf_mem_wordsOf {o n j : Nat} (lo : o ≤ j) (hi : j < o + n) : wordOf j ∈ wordsOf o n := by
  rw [wordsOf, if_neg (by omega), List.mem_map]
  exact ⟨j / 8 - o / 8, List.mem_range.mpr (by omega), by unfold wordOf; omega⟩

theorem State.wroteWords_sramHostWrite {s : State} (off : Nat) (d : List Byte) (clean : s.mem.poison = []) :
    State.WroteWords off d (wordsOf off d.length) s (s.sramHostWrite off d) :=
  State.wroteWords_forEach (fun w t h => by simp [h]) (fun _ => wordsOf_aligned) clean

/-- A host's write of shared SRAM without poison: exactly the octets of the data change. -/
theorem State.sramHostWrite_octet {s : State} (off : Nat) (d : List Byte) (clean : s.mem.poison = []) (j : Nat) :
    tabGet (fun _ => (0 : Byte)) (s.sramHostWrite off d).mem.sram j =
      if off ≤ j ∧ j < off + d.length then d.getD (j - off) 0 else tabGet (fun _ => 0) s.mem.sram j := by
  rw [(State.wroteWords_sramHostWrite off d clean).octet]
  have covered : (off ≤ j ∧ j < off + d.length) ∧ wordOf j ∈ wordsOf off d.length ↔ off ≤ j ∧ j < off + d.length :=
    and_iff_left_of_imp fun inData => wordOf_mem_wordsOf inData.1 inData.2
  simp only [covered]

end Sys2Proof.Machine

open Sys2Proof.Machine

/-- Settles O22: the row of R601 that the offset lies in decides the access; a host's data reach shared SRAM word by word (`State.WroteWords`). -/
theorem bar4ReachesSharedAndLocalMemory : Obligations.Bar4ReachesSharedAndLocalMemory := by
  refine ⟨?sram_read, ?sram_write, ?local_read, ?local_write, ?refused⟩
  case sram_read =>
    intro off len s inSram _ ready clean
    exact ⟨_, exec_bar4Read_of_sram (bar4_of_lt_secureBase (by omega)) ready clean, rfl⟩
  case sram_write =>
    intro off d s inSram _ ready clean
    have wrote := State.wroteWords_sramHostWrite off d clean
    exact ⟨_, exec_bar4Write_of_sram (bar4_of_lt_secureBase (by omega)) ready, State.sramHostWrite_octet off d clean, wrote.regs, wrote.log⟩
  case local_read =>
    intro c x len s hc hx
    have row := bar4_local hc hx
    by_cases inIram : x < 0x20000
    · rw [if_pos inIram] at row ⊢
      exact exec_bar4Read_of_iram len [] row
    · rw [if_neg inIram] at row ⊢
      exact exec_bar4Read_of_dram len [] row
  case local_write =>
    intro c x d s hc hx
    have row := bar4_local hc hx
    by_cases inIram : x < 0x20000
    · rw [if_pos inIram] at row
      rw [exec_bar4Write_of_iram d row]
      simp only [inIram, forall_const, if_true]
      rfl
    · rw [if_neg inIram] at row
      rw [exec_bar4Write_of_dram d row]
      simp only [inIram, false_implies, and_true, if_false]
      rfl
  case refused =>
    intro off d s row
    exact exec_bar4Write_of_refused d row
end
